-- ==== Sys2Proof/Word.lean ====
section
/-! DEFINITION. The word types of the SP9430 model (spec file 00, R8 to R10). -/

namespace Sys2Proof

/-- A 32-bit parameter, window or packet word (R9, R13). -/
abbrev Word := BitVec 32

/-- A byte. -/
abbrev Byte := BitVec 8

/-- A binary32 value as its IEEE 754 bit pattern (R10). -/
abbrev F32 := BitVec 32

end Sys2Proof
end

