-- ==== Sys2Proof/Syntax/Operands.lean ====
section
/-! DEFINITION. The operand types of the commands: who a command concerns, when it happens, and the words,
frames and samples that arrive from outside the module. -/

namespace Sys2Proof

/-- A channel island's channel (R20). -/
inductive Ch | a | b | c
deriving DecidableEq, Repr, Inhabited

/-- The strap code of a channel: 1 A, 2 B, 3 C (R571, R543). -/
def Ch.code : Ch → BitVec 2
  | .a => 1
  | .b => 2
  | .c => 3

/-- The next channel of A is B, that of B is C and that of C is A (R460). -/
def Ch.next : Ch → Ch
  | .a => .b
  | .b => .c
  | .c => .a

/-- The previous channel (R460). -/
def Ch.prev : Ch → Ch
  | .a => .c
  | .b => .a
  | .c => .b

/-- A channel's place in A, B, C. -/
def Ch.idx : Ch → Fin 3
  | .a => 0
  | .b => 1
  | .c => 2

/-- A Welt die (R20). -/
inductive Wid | w1 | w2
deriving DecidableEq, Repr, Inhabited

/-- A host port of a channel (R430). -/
inductive Port | hp0 | hp1
deriving DecidableEq, Repr, Inhabited

/-- A gate-drive group: HB0–HB2 with PIS and BCH, or HB3–HB5 (file 07). -/
inductive Grp | steer | aux
deriving DecidableEq, Repr, Inhabited

/-- An Ollia network (R371). -/
inductive Net | x | y
deriving DecidableEq, Repr, Inhabited

/-- An Ollia port of a channel (R371, R398). -/
inductive OPort | xUp | xDn | yUp | yDn
deriving DecidableEq, Repr, Inhabited

/-- Which challenge expires (R452, R483). -/
inductive ChallengeOf | session (p : Port) (k : Fin 8) | debug
deriving DecidableEq, Repr

/-- What the end of boot verification finds: whether the comparator self-test has passed (R104), and whether VSUP stands
below the rising VWARN level (R66). -/
structure BootEnd where
  selfTestOk : Bool
  vsupLow    : Bool
deriving DecidableEq, Repr

/-- Where and when a channel event happens: its channel, and the channel's count of ROOT periods since cycle 0 of
R65. By R67 a TCLK is 5 of them, a CCLK 2, an ECLK 4, an LCLK 8 and a PCLK 10. DESIGN CHOICE (safe), log entry 1. -/
structure At where
  ch : Ch
  t  : Nat
deriving DecidableEq, Repr

/-- Where and when a Welt event happens: its Welt and that Welt's WCLK count since power-up.
DESIGN CHOICE (safe), log entry 1. -/
structure WAt where
  w : Wid
  t : Nat
deriving DecidableEq, Repr

/-- The header of a command packet that a frame processes (R442). -/
structure Hdr where
  loc     : At
  port    : Port
  tag     : BitVec 8
  session : BitVec 4
deriving DecidableEq, Repr

/-- A command packet that a frame processes: header, ARG, LENGTH in bytes and payload words (R442). -/
structure Req where
  hdr     : Hdr
  arg     : Word
  len     : Nat
  payload : List Word
deriving DecidableEq, Repr

/-- A claim word as a Welt receives it (R294). symOk: every symbol is valid Manchester and MARK is as R294. -/
structure ClaimWord where
  sync  : BitVec 4
  claim : BitVec 8
  check : BitVec 8
  seq   : BitVec 8
  sp0   : BitVec 12
  sp1   : BitVec 12
  req   : BitVec 4
  saddr : BitVec 6
  sdata : BitVec 16
  symOk : Bool
deriving DecidableEq, Repr

/-- A status word as a channel receives it (R318). -/
structure StatusWord where
  sync     : BitVec 4
  state    : BitVec 3
  accClaim : BitVec 8
  accSeq   : BitVec 8
  i0       : BitVec 12
  i1       : BitVec 12
  si       : BitVec 4
  pair     : BitVec 4
  out      : BitVec 3
  cause    : BitVec 4
  solf     : BitVec 2
  start    : BitVec 2
  flags    : BitVec 4
  rstr     : BitVec 4
  check    : BitVec 8
  symOk    : Bool
deriving DecidableEq, Repr

/-- An announcement in the ANN field of a voting block (R330). -/
structure Ann where
  kind  : BitVec 3
  ch    : BitVec 2
  level : BitVec 3
  cyc   : Word
deriving DecidableEq, Repr

/-- The voting block of a CCL frame (R330). -/
structure Vote where
  angle      : F32
  angleValid : Bool
  role       : BitVec 3
  level      : BitVec 3
  supLow     : Bool
  active     : BitVec 3
  held       : BitVec 2
  ann        : Ann
  faults     : Word
  cyc        : Word
  direct     : BitVec 3
  anyPath    : BitVec 3
  req1       : BitVec 3
  req2       : BitVec 3
  st1        : Bool
  st2        : Bool
deriving DecidableEq, Repr

/-- The ten state words of a loop slot in the order of R335. -/
structure LoopState where
  r1 : F32
  e1 : F32
  y1 : F32
  i1 : F32
  w1 : F32
  w2 : F32
  q1 : F32
  q2 : F32
  u1 : F32
  v1 : F32
deriving DecidableEq, Repr

/-- A tracking record (R335). -/
structure TrackRec where
  slot    : Fin 32
  samples : BitVec 16
  st      : LoopState
deriving DecidableEq, Repr

/-- A resync chunk of four learning bins (R339). -/
structure ResyncChunk where
  inst : Fin 8
  bin  : BitVec 10
  v0   : F32
  v1   : F32
  v2   : F32
  v3   : F32
deriving DecidableEq, Repr

/-- A mailbox segment (R463). kind: 0b00 DATA, 0b01 ACK, 0b10 NACK. -/
structure MbSeg where
  kind : BitVec 2
  mbu  : Bool
  box  : Fin 4
  tag  : BitVec 4
  part : Fin 4
  d0   : Word
  d1   : Word
  d2   : Word
  d3   : Word
deriving DecidableEq, Repr

/-- What a CCL frame holds of one source for one destination (R329). -/
structure CclBlock where
  src     : Ch
  dst     : Ch
  relayed : Bool
  idx     : BitVec 8
  seq     : BitVec 16
  vote    : Vote
  recs    : List TrackRec
  chunk   : Option ResyncChunk
  segs    : List MbSeg
deriving DecidableEq, Repr

/-- A CCL frame as received (R31, R32, R329): its own block, and the blocks carried with it for or from a third channel.
crc: its closing CRC-32C; good: its symbols came whole, from the start symbol to the end symbol. -/
structure CclFrame extends CclBlock where
  carried : List CclBlock
  crc     : Word
  good    : Bool
deriving DecidableEq, Repr

/-- A bus write of a pass as the core issues it, with the 40-bit register content (R92, R96).
DESIGN CHOICE (safe), log entry 30. -/
structure BusWrite where
  addr : Word
  be   : BitVec 4
  data : BitVec 40
deriving DecidableEq, Repr

/-- A TCM word store of a pass: plain word address and 40-bit register content (R92, R93, R97). -/
structure TcmStore where
  addr : BitVec 19
  data : BitVec 40
deriving DecidableEq, Repr

/-- An access of a pass that the comparator sees: a bus write, an asynchronous read, a TCM store (R93, R95, R96). -/
inductive Acc
  | write | read | store
deriving DecidableEq, Repr

/-- What the firmware does in one pass: its bus writes, asynchronous reads (address and value), TCM stores, how they
follow one another in time, and the CCLK it uses (R86, R87, R94, R96, R97). loads, stall and fixes are TCM reads, bus
stall CCLK and corrections below the transform, which only the counters of R538 see; beat: the snapshot of pass P
holds a management heartbeat (R523). DESIGN CHOICE (safe), log entry 30. DEDUCED (unsafe), log entry 131. -/
structure PassRun where
  writes : List BusWrite
  reads  : List (Word × Word)
  tcm    : List TcmStore
  order  : List Acc
  used   : Nat
  loads  : Nat
  stall  : Nat
  fixes  : Nat
  beat   : Bool := true
deriving DecidableEq, Repr

/-- A write of the firmware to an engine that commits with the frame (R86, R117, R395, R343).
DESIGN CHOICE (safe), log entry 30. -/
inductive CoreWrite
  | demand (r : Fin 64) (v : F32) (valid : Bool)
  | flow (f : Fin 256) (words : List Word)
  | reqDemand (w : Wid) (bits : BitVec 3)
deriving DecidableEq, Repr

/-- The currents, DC link and analog voltages (in µV) present at a PWM period start (R162, R199, R279). -/
structure PwmSample where
  ia   : F32
  ib   : F32
  ic   : F32
  xa   : F32
  xb   : F32
  xc   : F32
  vdc  : F32
  ain0 : Nat
  ain1 : Nat
  ain2 : Nat
  ain3 : Nat
  ain4 : Nat
  ain5 : Nat
  ain6 : Nat
  ain7 : Nat
deriving DecidableEq, Repr

/-- The bits of an SPI transaction, and its SCK period in ROOT (R432). -/
structure SpiLen where
  bits : Nat
  sck  : Nat
deriving DecidableEq, Repr

/-- A write-back of TCM: the blocks whose first attempt failed its read-back, those whose retry failed too, and its
duration in ROOT periods (R509, R522). -/
structure WriteBack where
  fail1 : BitVec 128 := 0
  fail2 : BitVec 128 := 0
  span  : Nat := 0
deriving DecidableEq, Repr

/-- How the activity of a received network frame ends (R383, R392). -/
inductive NetEnd | eof | abort | silence
deriving DecidableEq, Repr

/-- A word of MRAM outside the protected store, of trace SRAM or of a control-engine memory: of a firmware bank's
header (no block) or block, of a configuration chunk, a byte of the TCM image, of a log entry by age or of the freeze
region, of the stored Comb, curve or loop program, of any other place of MRAM; a signal of the k-th oldest record of a
trace unit; a state word of a loop slot or a learning bin (R34, R36, R145, R335). -/
inductive EyeletMem
  | bank (b : Bool) (block : Option (Fin 1024)) (k : Fin 1024)
  | config (slot : Bool) (chunk : Fin 512) (k : Fin 512)
  | image (addr : Fin 0x80000)
  | log (freeze : Bool) (entry : Fin 1984) (k : Fin 8)
  | comb (k : Nat)
  | curve (k : Fin 64)
  | program (slot : Fin 32) (k : Fin 64)
  | mram (addr : Nat)
  | trace (unit : Fin 4) (record : Fin 2048) (signal : Fin 8)
  | loop (slot : Fin 32) (k : Fin 10)
  | bin (unit : Fin 8) (k : Fin 1024)
deriving DecidableEq, Repr

/-- An access over the Eyelet (R482). step: the word stores to TCM of the instruction that the halted core carries out
(R92). -/
inductive EyeletAcc
  | ident (word : Fin 3)
  | readTcm (addr : Nat)
  | readParam (id : Nat)
  | readMem (m : EyeletMem)
  | readStore (addr : Nat)
  | halt
  | step (stores : List TcmStore)
  | writeTcm (addr : Nat) (v : Byte)
  | writeParam (id : Nat) (v : Word)
  | writeMem (m : EyeletMem) (v : Word)
  | resetReq
  | setLevel (lvl : BitVec 2)
  | fuseRoot
deriving DecidableEq, Repr

/-- A record of the instruction sampler (R542). -/
structure SampleRec where
  instr : Word
  iaddr : Word
  daddr : Word
  info  : Word
deriving DecidableEq, Repr

/-- Which line of an encoder changed (R263, R265). -/
inductive EncEdge | aEdge | bEdge | both
deriving DecidableEq, Repr

/-- A switch-node transition's direction (R232, R254). -/
inductive TswDir | rise | fall
deriving DecidableEq, Repr

/-- The gate and direction to which a transition belongs (R231, R232). -/
inductive GateCode | hsOn | hsOff | lsOn | lsOff
deriving DecidableEq, Repr

/-- A direction of the gate-driver link: frames to the gate-driver die, and from it (R251). -/
inductive GdlDir | toDie | fromDie
deriving DecidableEq, Repr

/-- A frame of the gate-driver link as it comes: its direction, and whether its check is good (R251). -/
structure GdlFrame where
  dir     : GdlDir
  checkOk : Bool
deriving DecidableEq, Repr

/-- An instant at which two evaluations are compared; upset: they disagree (R102, R159, R196). -/
structure Judged extends At where
  upset : Bool
deriving DecidableEq, Repr

/-- How a sample ends: upset: its two evaluations disagree; sharing: those of the torque that it routes do (R127,
R159). -/
structure LoopJudge where
  upset   : Bool
  sharing : Bool
deriving DecidableEq, Repr

/-- What the short-circuit sensing of a leg measures: the magnitudes at DIDT and at VDS, in mV (R238). -/
structure LegSense where
  leg    : Fin 6
  didtMv : Nat
  vdsMv  : Nat
deriving DecidableEq, Repr

/-- What the diagnosis of a safety output sees: whether its fault stands (R312, R315). -/
structure SoSense where
  out    : Fin 2
  stands : Bool
deriving DecidableEq, Repr

/-- A sample by the 12-bit converter in a catch window: the three phase voltages and, at the same instant, x_VLINK
(R197, R210). -/
structure CatchSmp where
  u    : BitVec 12
  v    : BitVec 12
  w    : BitVec 12
  link : BitVec 12
deriving DecidableEq, Repr

/-- The samples of a window from what the converter gives for each of AUXV0 to AUXV2, the last with x_VLINK (R197). -/
def catchSamples (us vs : List (BitVec 12)) (ws : List (BitVec 12 × BitVec 12)) : List CatchSmp :=
  (us.zip (vs.zip ws)).map fun x => ⟨x.1, x.2.1, x.2.2.1, x.2.2.2⟩

/-- A condition of a wheel-speed input's current that has lasted 1 ms (R276). -/
inductive WssCond | open | short | good
deriving DecidableEq, Repr

/-- What a failed built-in test found: the parts, as BI_UNUSABLE marks them, and the feedback inputs, ENC, HALL, SENT,
WSS and AIN from bit 0 (R537, R545). -/
structure TestFails where
  parts  : BitVec 15 := 0
  inputs : BitVec 18 := 0
deriving DecidableEq, Repr

end Sys2Proof
end

