-- ==== Sys2Proof/Syntax.lean ====
section
/-! DEFINITION. The commands of the SP9430 model: one constructor per row of spec/opcode_table.json, in the
table's order. Each docstring names the row and the rule that decides it. -/

namespace Sys2Proof

/-- A command: a host command, a host-port access, or an event of a channel, a Welt or a link. -/
inductive Instr
  /-- NOP (R455). -/
  | nop (q : Req)
  /-- IDENTIFY (R456). -/
  | identify (q : Req)
  /-- RESET (R457). -/
  | reset (q : Req)
  /-- SESSION_OPEN (R452). -/
  | sessionOpen (q : Req)
  /-- SESSION_CLOSE (R451). -/
  | sessionClose (q : Req)
  /-- PARAM_READ (R455). -/
  | paramRead (q : Req)
  /-- PARAM_WRITE (R453). -/
  | paramWrite (q : Req)
  /-- PARAM_READ_BLOCK (R455). -/
  | paramReadBlock (q : Req)
  /-- PARAM_WRITE_SET (R43). -/
  | paramWriteSet (q : Req)
  /-- CONFIG_LOAD (R459). -/
  | configLoad (q : Req)
  /-- CONFIG_ACTIVATE (R491). -/
  | configActivate (q : Req)
  /-- MODE_REQUEST (R347). -/
  | modeRequest (q : Req)
  /-- ROLE_REQUEST (R337). -/
  | roleRequest (q : Req)
  /-- POWER_REQUEST (R506). -/
  | powerRequest (q : Req)
  /-- DRIVE_ENABLE (R178). -/
  | driveEnable (q : Req)
  /-- DRIVE_DISABLE (R178). -/
  | driveDisable (q : Req)
  /-- CURVE_LOAD (R216). -/
  | curveLoad (q : Req)
  /-- LOOP_LOAD (R458). -/
  | loopLoad (q : Req)
  /-- LOOP_START (R128). -/
  | loopStart (q : Req)
  /-- LOOP_STOP (R111). -/
  | loopStop (q : Req)
  /-- TRACE_ARM (R146). -/
  | traceArm (q : Req)
  /-- TRACE_READ (R146). -/
  | traceRead (q : Req)
  /-- COMB_LOAD (R459). -/
  | combLoad (q : Req)
  /-- NET_START (R415). -/
  | netStart (q : Req)
  /-- NET_STOP (R415). -/
  | netStop (q : Req)
  /-- LOCKOUT_RESET_REQ (R317). -/
  | lockoutResetReq (q : Req)
  /-- CLAIM_STATUS (R456). -/
  | claimStatus (q : Req)
  /-- LOG_READ (R533). -/
  | logRead (q : Req)
  /-- LOG_FREEZE_CLEAR (R532). -/
  | logFreezeClear (q : Req)
  /-- SENSOR_READ (R525). -/
  | sensorRead (q : Req)
  /-- IMAGE_BEGIN (R493). -/
  | imageBegin (q : Req)
  /-- IMAGE_BLOCK (R493). -/
  | imageBlock (q : Req)
  /-- IMAGE_COMMIT (R493). -/
  | imageCommit (q : Req)
  /-- IMAGE_ACTIVATE (R493). -/
  | imageActivate (q : Req)
  /-- IMAGE_RESUME (R493). -/
  | imageResume (q : Req)
  /-- ATTEST (R479). -/
  | attest (q : Req)
  /-- DEBUG_CHALLENGE (R483). -/
  | debugChallenge (q : Req)
  /-- DEBUG_RESPONSE (R483). -/
  | debugResponse (q : Req)
  /-- LIFECYCLE_ADVANCE (R476). -/
  | lifecycleAdvance (q : Req)
  /-- BIST_RUN (R535). -/
  | bistRun (q : Req)
  /-- BIST_RESULT (R536). -/
  | bistResult (q : Req)
  /-- PCT_CONFIG (R539). -/
  | pctConfig (q : Req)
  /-- PCT_READ (R541). -/
  | pctRead (q : Req)
  /-- PCT_SAMPLE_READ (R541). -/
  | pctSampleRead (q : Req)
  /-- CE_RETURN (R138). -/
  | ceReturn (h : Hdr) (slot : Fin 32)
  /-- RC_CLEAR (R143). -/
  | rcClear (h : Hdr) (inst : Fin 8) (freeze : Bool)
  /-- GD_TEST_START (R249). -/
  | gdTestStart (h : Hdr) (g : Grp)
  /-- MIN_VSUP_RESTART (R81). -/
  | minVsupRestart (h : Hdr)
  /-- EXE_PEAK_RESTART (R108). -/
  | exePeakRestart (h : Hdr)
  /-- FCL_LATCH_CLEAR (R369). -/
  | fclLatchClear (h : Hdr)
  /-- KEY_PROGRAM (R473). -/
  | keyProgram (h : Hdr) (slot : BitVec 3)
  /-- KEY_REVOKE (R474). -/
  | keyRevoke (h : Hdr) (slot : BitVec 3)
  /-- DEBUG_RELOCK (R484). -/
  | debugRelock (h : Hdr)
  /-- CLR_CNT (R397). -/
  | clrCnt (h : Hdr)
  /-- BI_ARM (R535). -/
  | biArm (h : Hdr) (v : Word)
  /-- SAMPLER_ENABLE (R542). -/
  | samplerEnable (h : Hdr) (interval : BitVec 20)
  /-- COMPARE_WRITE (R283). -/
  | compareWrite (h : Hdr) (k : Fin 8) (isValue : Bool) (v : Word)
  /-- SPI_TRANSACTION_END (R434). -/
  | spiTransactionEnd (l : At) (p : Port) (len : SpiLen) (instr : Byte) (words : List Word) (crc : Byte)
  /-- SIDE_EFFECT_FINAL (R435). -/
  | sideEffectFinal (l : At) (p : Port)
  /-- CMD_FIFO_WRITE (R443). -/
  | cmdFifoWrite (l : At) (p : Port) (words : List Word)
  /-- REPLY_FIFO_READ (R445). -/
  | replyFifoRead (l : At) (p : Port) (n : Nat)
  /-- REWIND (R435). -/
  | rewind (l : At) (p : Port)
  /-- HOST_RESET (R463). -/
  | hostReset (l : At) (p : Port)
  /-- RELEASE_SEM (R440). -/
  | releaseSem (l : At) (p : Port)
  /-- SEM_WRITE (R440). -/
  | semWrite (l : At) (p : Port) (k : Fin 16) (v : Word) (contended : Bool)
  /-- DOORBELL_RING (R461). -/
  | doorbellRing (l : At) (p : Port) (v : Word)
  /-- MB_DATA_WRITE (R460). -/
  | mbDataWrite (l : At) (p : Port) (v : Word)
  /-- MB_DATA_READ (R460). -/
  | mbDataRead (l : At) (p : Port)
  /-- LOCK_U_READ (R462). -/
  | lockURead (l : At) (p : Port) (contended : Bool)
  /-- LOCK_U_WRITE (R462). -/
  | lockUWrite (l : At) (p : Port) (v : Word)
  /-- WINDOW_REGISTER_WRITE (R437). -/
  | windowRegisterWrite (l : At) (p : Port) (addr : BitVec 7) (v : Word)
  /-- SESSION_IDLE_TIMEOUT (R451). -/
  | sessionIdleTimeout (l : At) (p : Port) (k : Fin 8)
  /-- CHALLENGE_EXPIRY (R452). -/
  | challengeExpiry (l : At) (of : ChallengeOf)
  /-- SIGNATURE_CHECK_DONE (R449). -/
  | signatureCheckDone (l : At)
  /-- MRAM_WRITE_ATTEMPT_END (R464). -/
  | mramWriteAttemptEnd (l : At) (ok : Bool)
  /-- COMMAND_RESET_EFFECT (R457). -/
  | commandResetEffect (l : At)
  /-- FRAME_START (R86). -/
  | frameStart (l : At) (passP : PassRun)
  /-- REPLY_PUBLISH (R89). -/
  | replyPublish (l : At)
  /-- PASS_T (R92). -/
  | passT (l : At) (run : PassRun)
  /-- PASS_T_END (R97). -/
  | passTEnd (l : At)
  /-- FRAME_COMMIT (R98). -/
  | frameCommit (l : At) (ws : List CoreWrite)
  /-- WATCHDOG_EXPIRY (R524). -/
  | watchdogExpiry (l : At)
  /-- MG_CORE_MISMATCH (R523). -/
  | mgCoreMismatch (l : At)
  /-- SAMPLE_BOUNDARY (R127). -/
  | sampleBoundary (l : At) (slot : Fin 32)
  /-- LOOP_RESULT (R127). -/
  | loopResult (l : At) (slot : Fin 32) (j : LoopJudge)
  /-- OSC_WINDOW_END (R136). -/
  | oscWindowEnd (l : At) (slot : Fin 32)
  /-- TRACE_RECORD (R145). -/
  | traceRecord (l : At) (unit : Fin 4) (parityError : Bool)
  /-- TRACE_PRE_FILLED (R146). -/
  | tracePreFilled (l : At) (unit : Fin 4)
  /-- TRACE_POST_DONE (R146). -/
  | tracePostDone (l : At) (unit : Fin 4)
  /-- CYCLE_START (R394). -/
  | cycleStart (l : At)
  /-- MARK (R333). -/
  | mark (l : At)
  /-- CLASS_4KHZ_PERIOD (R217). -/
  | class4khzPeriod (l : Judged)
  /-- PWM_PERIOD_START (R162). -/
  | pwmPeriodStart (l : At) (smp : PwmSample)
  /-- CURRENT_SAMPLE_READY (R162). -/
  | currentSampleReady (l : Judged)
  /-- AIN_UPDATE (R279). -/
  | ainUpdate (l : At)
  /-- VOLTAGE_LATCH (R163). -/
  | voltageLatch (l : At) (upset : Bool)
  /-- MISSED_CMD_LIMIT (R164). -/
  | missedCmdLimit (l : At)
  /-- ISUM_FAULT (R181). -/
  | isumFault (l : At)
  /-- SETTLE_ELAPSED (R177). -/
  | settleElapsed (l : At)
  /-- SPEED_BELOW_NMAX (R177). -/
  | speedBelowNmax (l : At)
  /-- OPEN_TMAX_EXPIRY (R179). -/
  | openTmaxExpiry (l : At)
  /-- ENCODER_EDGE (R263). -/
  | encoderEdge (l : At) (n : Fin 2) (e : EncEdge)
  /-- Z_INDEX (R265). -/
  | zIndex (l : At) (n : Fin 2)
  /-- HALL_EDGE (R267). -/
  | hallEdge (l : At) (n : Fin 2) (code : BitVec 3)
  /-- SENT_PULSE (R272). -/
  | sentPulse (l : At) (n : Fin 2)
  /-- SENT_TIMEOUT (R274). -/
  | sentTimeout (l : At) (n : Fin 2)
  /-- WSS_EDGE (R277). -/
  | wssEdge (l : At) (n : Fin 4)
  /-- WSS_WINDOW_END (R278). -/
  | wssWindowEnd (l : At) (n : Fin 4)
  /-- WSS_CURRENT_TIMER (R276). -/
  | wssCurrentTimer (l : At) (n : Fin 4) (cond : WssCond)
  /-- LANE_EDGE (R230). -/
  | laneEdge (l : At) (leg : Fin 6) (hsReq lsReq : Bool)
  /-- SWITCH_TRANSITION (R233). -/
  | switchTransition (l : At) (leg : Fin 6) (dir : TswDir) (gate : GateCode) (steps : Nat)
  /-- SHORT_TRIP (R236). -/
  | shortTrip (l : At) (x : LegSense)
  /-- STO_HOLD_END (R236). -/
  | stoHoldEnd (l : At) (gate : Fin 7)
  /-- DOUBLE_SHORT_STEP (R239). -/
  | doubleShortStep (l : At)
  /-- SHORT_REPORT (R237). -/
  | shortReport (l : At) (g : Grp)
  /-- GATE_FAULT (R234). -/
  | gateFault (l : At) (leg : Fin 6)
  /-- BOOTSTRAP_UV (R242). -/
  | bootstrapUv (l : At) (leg : Fin 6) (falling : Bool)
  /-- VGD_UNDERVOLTAGE (R234). -/
  | vgdUndervoltage (l : At)
  /-- PIS_FAULT (R234). -/
  | pisFault (l : At) (n : Fin 3)
  /-- CHOPPER_SAMPLE (R245). -/
  | chopperSample (l : At) (vlink10mV : Nat) (iSeen : Bool)
  /-- ASC_TMAX_EXPIRY (R247). -/
  | ascTmaxExpiry (l : At)
  /-- VLINK_ABS (R248). -/
  | vlinkAbs (l : At)
  /-- GCLK_LOSS (R30). -/
  | gclkLoss (l : At)
  /-- GDL_FRAME (R251). -/
  | gdlFrame (l : At) (f : GdlFrame)
  /-- GD_SELFTEST_END (R250). -/
  | gdSelftestEnd (l : At) (g : Grp) (failed : BitVec 8)
  /-- CATCH_DECISION (R211). -/
  | catchDecision (l : At) (us vs : List (BitVec 12)) (ws : List (BitVec 12 × BitVec 12))
  /-- ZERO_CROSSING (R202). -/
  | zeroCrossing (l : At)
  /-- COMMUTATION (R203). -/
  | commutation (l : Judged)
  /-- SOFT_RAMP_STEP (R201). -/
  | softRampStep (l : At)
  /-- LOSS_OF_SYNCHRONISM (R204). -/
  | lossOfSynchronism (l : At)
  /-- BRAKE_T_ELAPSED (R215). -/
  | brakeTElapsed (l : At)
  /-- ALIGN_T_ELAPSED (R214). -/
  | alignTElapsed (l : At)
  /-- START_TMAX_ELAPSED (R207). -/
  | startTmaxElapsed (l : At)
  /-- COAST_ELAPSED (R206). -/
  | coastElapsed (l : At)
  /-- CLAIM_PERIOD_START (R294). -/
  | claimPeriodStart (l : At)
  /-- CCL_PERIOD_START (R329). -/
  | cclPeriodStart (l : At)
  /-- CCL_FRAME_RECEIVED (R329). -/
  | cclFrameReceived (l : At) (f : CclFrame)
  /-- XMB_ATTEMPT_TIMEOUT (R463). -/
  | xmbAttemptTimeout (l : At) (toNext : Bool)
  /-- XMB_DELIVERY_TIMEOUT (R463). -/
  | xmbDeliveryTimeout (l : At) (toNext : Bool)
  /-- STATUS_WORD_RECEIVED (R319). -/
  | statusWordReceived (l : At) (w : Wid) (sw : StatusWord)
  /-- STATUS_LANE_SILENCE (R319). -/
  | statusLaneSilence (l : At) (w : Wid)
  /-- ROTATION_TIMER_EXPIRY (R337). -/
  | rotationTimerExpiry (l : At)
  /-- HANDOVER_CLAIM_TIMEOUT (R338). -/
  | handoverClaimTimeout (l : At)
  /-- HEALTH_WINDOW_END (R339). -/
  | healthWindowEnd (l : At)
  /-- FAULT_ABSENCE_EXPIRY (R342). -/
  | faultAbsenceExpiry (l : At) (bit : Fin 24)
  /-- STANDSTILL_HELD (R346). -/
  | standstillHeld (l : At)
  /-- HELD_PRESSURE_RELEASE (R346). -/
  | heldPressureRelease (l : At)
  /-- ERROR_LINE_REGISTER (R355). -/
  | errorLineRegister (l : At) (lines : List (Fin 62 × BitVec 16))
  /-- LINE_SOURCE_END (R360). -/
  | lineSourceEnd (l : At) (line : Fin 62) (detail : BitVec 16)
  /-- QUIET_TIMER_EXPIRY (R360). -/
  | quietTimerExpiry (l : At) (line : Fin 62) (detail : BitVec 16)
  /-- VSUP_WARN_ENTER (R51). -/
  | vsupWarnEnter (l : At)
  /-- VSUP_WARN_EXIT (R54). -/
  | vsupWarnExit (l : At)
  /-- RIDE_LIMIT (R55). -/
  | rideLimit (l : At)
  /-- RIDE_CLEAR (R53). -/
  | rideClear (l : At)
  /-- LIMIT_RAMP_END (R54). -/
  | limitRampEnd (l : At)
  /-- OV_CUT_ENTER (R57). -/
  | ovCutEnter (l : At)
  /-- OV_CUT_EXIT (R58). -/
  | ovCutExit (l : At)
  /-- OV_CUT_TIMEOUT (R58). -/
  | ovCutTimeout (l : At)
  /-- VSUP_RESET (R47). -/
  | vsupReset (l : At)
  /-- VSUP_POR_RELEASE (R603). -/
  | vsupPorRelease (l : At) (strap : BitVec 2) (tm : Bool)
  /-- VSUP_OFF (R603). -/
  | vsupOff (l : At)
  /-- RAIL_FAULT (R60). -/
  | railFault (l : At)
  /-- PIN_RESET (R60). -/
  | pinReset (l : At)
  /-- RSTN_RELEASE (R60). -/
  | rstnRelease (l : At) (tm : Bool)
  /-- CLOCK_FAILURE (R70). -/
  | clockFailure (l : At) (xtalLost : Bool)
  /-- XTAL_OK (R64). -/
  | xtalOk (l : At)
  /-- PLL_LOCK (R65). -/
  | pllLock (l : At)
  /-- INTERCONNECT_TEST_END (R65). -/
  | interconnectTestEnd (l : At) (failed : BitVec 15) (detail : BitVec 16)
  /-- BOOT_VERIFICATION_DONE (R496). -/
  | bootVerificationDone (l : At) (x : BootEnd)
  /-- TRIAL_TIMEOUT (R497). -/
  | trialTimeout (l : At)
  /-- KEY_PROGRAM_DONE (R473). -/
  | keyProgramDone (l : At)
  /-- TRNG_HEALTH_FAIL (R472). -/
  | trngHealthFail (l : At)
  /-- EYELET_ACCESS (R482). -/
  | eyeletAccess (l : At) (acc : EyeletAcc)
  /-- SENSOR_UPDATE (R525). -/
  | sensorUpdate (l : At) (vals : Vector F32 22) (vsupMv : BitVec 16)
  /-- BIST_TEST_END (R536). -/
  | bistTestEnd (l : At) (passed : Bool) (failed : TestFails) (detail : BitVec 16)
  /-- SAMPLER_RECORD (R542). -/
  | samplerRecord (l : At) (r : SampleRec)
  /-- POWER_ENTRY_COMPLETE (R510). -/
  | powerEntryComplete (l : At) (wb : WriteBack)
  /-- POWER_ENTRY_TIMEOUT (R510). -/
  | powerEntryTimeout (l : At)
  /-- SHELF_CLOCK_STOP (R510). -/
  | shelfClockStop (l : At)
  /-- WAKE_PIN (R513). -/
  | wakePin (l : At)
  /-- WAKE_ADDRESS_MATCH (R514). -/
  | wakeAddressMatch (l : At) (b0 b1 : Byte)
  /-- WAKE_RESTORE_DONE (R515). -/
  | wakeRestoreDone (l : At) (readOk : Bool)
  /-- PORT_ACTIVITY_START (R376). -/
  | portActivityStart (l : At) (p : OPort)
  /-- PORT_ACTIVITY_END (R373). -/
  | portActivityEnd (l : At) (p : OPort)
  /-- NETWORK_HEADER_COMPLETE (R381). -/
  | networkHeaderComplete (l : At) (p : OPort) (hdr : Vector Byte 8) (codeError : Bool)
  /-- NETWORK_FRAME_END (R392). -/
  | networkFrameEnd (l : At) (p : OPort) (body : List Byte) (codeError stalled : Bool) (wrote : List Nat) (e : NetEnd)
  /-- TRANSMISSION_START (R395). -/
  | transmissionStart (l : At) (cell : Fin 128)
  /-- TX_COLLISION (R377). -/
  | txCollision (l : At) (p : OPort)
  /-- GUARDIAN_GATE_CLOSE (R423). -/
  | guardianGateClose (l : At)
  /-- FORWARDER_GUARD_CUT (R423). -/
  | forwarderGuardCut (l : At) (p : OPort)
  /-- WAGGLE_RECEIVED (R411). -/
  | waggleReceived (l : At) (n : Net) (src : BitVec 6) (hops : BitVec 6) (payload : Vector Word 4) (stamp : Int)
  /-- DELAY_PING_RECEIVED (R409). -/
  | delayPingReceived (l : At) (n : Net) (target : BitVec 6)
  /-- ECHO_RECEIVED (R410). -/
  | echoReceived (l : At) (n : Net) (addr : BitVec 6) (rx : Nat)
  /-- COLDSTART_RECEIVED (R417). -/
  | coldstartReceived (l : At) (payload : Word)
  /-- LISTEN_TIMEOUT (R415). -/
  | listenTimeout (l : At)
  /-- COLDSTART_CYCLE0 (R417). -/
  | coldstartCycle0 (l : At)
  /-- COLDSTART_BACKOFF_END (R418). -/
  | coldstartBackoffEnd (l : At)
  /-- HOLDOVER_TAKEOVER (R419). -/
  | holdoverTakeover (l : At)
  /-- CLAIM_WORD_DECODE (R299). -/
  | claimWordDecode (l : WAt) (lanes : List (Ch × ClaimWord))
  /-- CLAIM_STALE (R298). -/
  | claimStale (l : WAt) (lane : Ch)
  /-- CLAIM_APPLY (R300). -/
  | claimApply (l : WAt)
  /-- ORPH_HOLD_EXPIRY (R304). -/
  | orphHoldExpiry (l : WAt)
  /-- PKR_DELAY_EXPIRY (R304). -/
  | pkrDelayExpiry (l : WAt)
  /-- WELT_SETTING_APPLY (R320). -/
  | weltSettingApply (l : WAt)
  /-- SOL_PWM_PERIOD_START (R305). -/
  | solPwmPeriodStart (l : WAt) (k : Fin 2)
  /-- SOL_LOOP_INTERVAL (R305). -/
  | solLoopInterval (l : WAt) (k : Fin 2) (meanMa : BitVec 12)
  /-- DITHER_TOGGLE (R305). -/
  | ditherToggle (l : WAt)
  /-- SOL_SHORT (R306). -/
  | solShort (l : WAt) (k : Fin 2)
  /-- SOL_OPEN (R306). -/
  | solOpen (l : WAt) (k : Fin 2)
  /-- PKR_FAULT (R307). -/
  | pkrFault (l : WAt)
  /-- SI_LEVEL_ACCEPTED (R310). -/
  | siLevelAccepted (l : WAt) (n : Fin 4) (high : Bool)
  /-- SI_DISCREPANCY (R310). -/
  | siDiscrepancy (l : WAt) (pair : Fin 2)
  /-- TP_PULSE_START (R311). -/
  | tpPulseStart (l : WAt) (n : Fin 2) (raw : BitVec 4)
  /-- TP_PULSE_END (R311). -/
  | tpPulseEnd (l : WAt) (n : Fin 2) (raw : BitVec 4) (readbackOk : Bool)
  /-- SO_FAULT (R312). -/
  | soFault (l : WAt) (x : SoSense)
  /-- VLOAD_LOW (R293). -/
  | vloadLow (l : WAt)
  /-- VLOAD_RECOVERED (R293). -/
  | vloadRecovered (l : WAt)
  /-- WELT_POWER_UP (R314). -/
  | weltPowerUp (l : WAt)
  /-- WELT_POWER_LOSS (R24). -/
  | weltPowerLoss (l : WAt)
  /-- WELT_SELFCHECK_DONE (R314). -/
  | weltSelfcheckDone (l : WAt) (passed : Bool)
  /-- WELT_CLOCK_STOP (R315). -/
  | weltClockStop (l : WAt)
  /-- WELT_INTERNAL_FAULT (R315). -/
  | weltInternalFault (l : WAt)
  /-- WELT_DELIBERATE_RESET (R316). -/
  | weltDeliberateReset (l : WAt)
  /-- WELT_STATUS_SEND (R318). -/
  | weltStatusSend (l : WAt)
  /-- WRST_HIGH (R316). -/
  | wrstHigh (l : WAt)
  /-- WSTAT_ALTERNATE (R313). -/
  | wstatAlternate (l : WAt)
  /-- TRNG_HEALTH_PASS (R472). -/
  | trngHealthPass (l : At)
  /-- TRANSMISSION_END (R395). -/
  | transmissionEnd (l : At)
  /-- WO_REGISTER_READ (R437). -/
  | woRegisterRead (l : At) (p : Port) (addr : BitVec 7)
deriving DecidableEq, Repr

end Sys2Proof
end

