-- ==== Sys2Proof/Decode.lean ====
section
/-! DEFINITION. Decoding of a command from a word. No row of spec/opcode_table.json gives bits: commands reach the
block as packets, register accesses and events, and their operands are the rows' own. -/

namespace Sys2Proof

/-- The command that a word spells by the table's bits: none, since no row gives bits.
DESIGN CHOICE (safe), log entry 5. -/
def decodeTableWord (_nbits _w : Nat) : Option Instr := none

end Sys2Proof
end

