-- ==== Sys2Proof/Config.lean ====
section
/-! DEFINITION. What an implementation fixes and the free values: constants with no body, so that no proof can see
what they are. -/

namespace Sys2Proof.Config

/-- A free value, one per count of State.freeCtr: the result of a rule that leaves a value open. -/
opaque freeWord : Nat → Word

/-- The n-th 32-byte value of the TRNG of a channel, as eight words (R472). DESIGN CHOICE (safe), log entry 13. -/
opaque trng (ch : Ch) : Nat → Vector Word 8

/-- Ed448 verification: public key, context string, message and signature bytes (R469).
DESIGN CHOICE (safe), log entry 13. -/
opaque ed448Verify (key : List Byte) (context : String) (msg sig : List Byte) : Bool

/-- An Ed448 signature with the identity key of a channel (R479). DESIGN CHOICE (safe), log entry 13. -/
opaque ed448Sign (ch : Ch) (context : String) (msg : List Byte) : Vector Byte 114

/-- H(x), SHAKE256 with 64 bytes of output (R469). DESIGN CHOICE (safe), log entry 13. -/
opaque shake256 : List Byte → Vector Byte 64

/-- The fused root hash (R470). DESIGN CHOICE (safe), log entry 14. -/
opaque rootHash : Vector Byte 64

/-- The identity public key of a channel (R472, R502), as 15 words. DESIGN CHOICE (safe), log entry 14. -/
opaque idPub : Ch → Vector Word 15

/-- The serial number of a channel die (R543). DESIGN CHOICE (safe), log entry 14. -/
opaque serial : Ch → BitVec 64

/-- The firmware version shown by IDENTIFY and ID_FW for the image with this header (R456, R543).
DESIGN CHOICE (safe), log entry 14. -/
opaque fwVersion : List Word → Word

/-- Die revisions: channel die, gate-driver die, Welt die (R456, R543). DESIGN CHOICE (safe), log entry 14. -/
opaque dieRev : Fin 3 → Byte

/-- The persisted parameters in the body of a configuration image (R491): Barid's encoding is not in the spec.
DESIGN CHOICE (safe), log entry 15. -/
opaque imageParams : List Word → List (Nat × Word)

/-- The loop programs, Comb entries and Last curve in the body of a configuration image (R491).
DESIGN CHOICE (safe), log entry 15. -/
opaque imageLoops : List Word → List (Fin 32 × List Word)
/-- DESIGN CHOICE (safe), log entry 15. -/
opaque imageComb : List Word → Option (List Word)
/-- DESIGN CHOICE (safe), log entry 15. -/
opaque imageCurve : List Word → Option (List Word)

/-- Whether the sine, or the cosine, of a phase word is the binary32 neighbour beyond it or the one nearer to zero
(R158, R162, R171): the spec states no rounding of them. DESIGN CHOICE (safe), log entry 16. -/
opaque trigUp (sine : Bool) (theta : Word) : Bool

/-- Whether the angle of a vector is the phase word above it or the one below it (R210): the spec states no rounding of
it. DESIGN CHOICE (safe), log entry 139. -/
opaque angleUp (alpha beta : F32) : Bool
/-- The phase word of a vector that has no angle (R210). DESIGN CHOICE (safe), log entry 139. -/
opaque vecOpen (alpha beta : F32) : Word

/-- Nanoseconds from the turn-off of a gate to the sense of it below 1.5 V gate-to-source: by channel, leg and instant
(R230). DESIGN CHOICE (safe), log entry 140. -/
opaque gateSense (ch : Ch) (leg : Fin 6) (t : Nat) : Nat

/-- The compare value where the formula of R171 gives no number. DESIGN CHOICE (safe), log entry 17. -/
opaque cmpOpen : F32 → Nat

/-- The on-count that the fixed PI law of a solenoid loop computes from its history (R305): Welt, solenoid, target
and measured current in mA, and the WCLK of the interval. DESIGN CHOICE (safe), log entry 18. -/
opaque solOnCount (w : Wid) (k : Fin 2) (target current now : Nat) : Nat

/-- The 4-bit CRC of SAE J2716 over the data nibbles: legacy method or recommended method (R271).
DESIGN CHOICE (safe), log entry 19. -/
opaque sentCrc (legacy : Bool) (data : List (BitVec 4)) : BitVec 4

/-- The serial message that status nibbles complete, oldest first (R275): format short or enhanced, answering its
data, ID and whether it is well formed; none while it is not complete. DESIGN CHOICE (safe), log entry 19. -/
opaque sentSerial (enhanced : Bool) (status : List (BitVec 4)) : Option (BitVec 16 × BitVec 8 × Bool)

/-- RESULT of a reply for which the spec states none (R442, R455): by channel, instant and TAG.
DESIGN CHOICE (safe), log entry 20. -/
opaque noResult (ch : Ch) (t : Nat) (tag : BitVec 8) : Word

/-- A word of a reply that the spec leaves open: by channel, instant and place (R541, R542).
DESIGN CHOICE (safe), log entry 20. -/
opaque openWord (ch : Ch) (t i : Nat) : Word

/-- A read of an MRAM item meets a word that the code cannot correct (R35): by channel, instant and item, which is the
place of a log entry, or from 0x10000 on a bank, a configuration slot, a copy of R454, or the update state.
DESIGN CHOICE (safe), log entry 83. -/
opaque mramFails (ch : Ch) (t i : Nat) : Bool

/-- Which cause of R82 the reset of a failed trial records (R497 names none): by channel and instant.
DESIGN CHOICE (safe), log entry 21. -/
opaque trialCause (ch : Ch) (t : Nat) : Fin 8

/-- The receive flows that feed a demand register, by the chunks of the active configuration slot (R117, R506): the
firmware's own map is not in the spec. DESIGN CHOICE (safe), log entry 15. -/
opaque demandFlow (cfg : List (Nat × List Word)) (f : Fin 256) (r : Fin 64) : Bool

end Sys2Proof.Config
end

