-- ==== Sys2Proof/Machine/Bits.lean ====
section
/-! DEFINITION. Bit fields, saturating and wrapping counts, byte order, and CRCs (R9, R295, R380). -/

namespace Sys2Proof.Machine

/-- Bits [lo + w - 1 : lo] of a word as a number (R9). -/
def fld (v : Word) (lo w : Nat) : Nat := v.toNat / 2 ^ lo % 2 ^ w

/-- A number as a field at bit lo of a word. -/
def put (lo : Nat) (n : Nat) : Word := BitVec.ofNat 32 (n * 2 ^ lo)

def bit (v : Word) (k : Nat) : Bool := v.getLsbD k
def b2n (b : Bool) : Nat := if b then 1 else 0
def flag (k : Nat) (b : Bool) : Word := put k (b2n b)

/-- A count that saturates. -/
def satInc {w : Nat} (x : BitVec w) : BitVec w := if x == BitVec.allOnes w then x else x + 1
def satAdd {w : Nat} (x : BitVec w) (n : Nat) : BitVec w := BitVec.ofNat w (min (x.toNat + n) (2 ^ w - 1))

/-- Set or clear bit k. -/
def setBit {w : Nat} (x : BitVec w) (k : Nat) (b : Bool) : BitVec w :=
  if b then x ||| (1#w <<< k) else x &&& ~~~(1#w <<< k)

/-- A signed number clamped to eight bits. -/
def sat8 (n : Int) : BitVec 8 := BitVec.ofInt 8 (max (-128) (min 127 n))

/-- The bytes of a word, most significant first (R9). -/
def wordBytes (v : Word) : List Byte :=
  [(v >>> 24).setWidth 8, (v >>> 16).setWidth 8, (v >>> 8).setWidth 8, v.setWidth 8]

/-- The bytes of words, in order (R9). -/
def bytesOf : List Word → List Byte
  | [] => []
  | v :: vs => wordBytes v ++ bytesOf vs

/-- Bytes packed into words, first byte in [31:24]; the last word is padded with zeros (R9). -/
def packWords : List Byte → List Word
  | a :: b :: c :: d :: r =>
    ((a.setWidth 32 <<< 24) ||| (b.setWidth 32 <<< 16) ||| (c.setWidth 32 <<< 8) ||| d.setWidth 32) :: packWords r
  | [] => []
  | r => [(r.foldl (fun (acc : Word) x => (acc <<< 8) ||| x.setWidth 32) 0) <<< (8 * (4 - r.length))]

/-- A number as n bytes, most significant first. -/
def natBytes (n : Nat) (v : Nat) : List Byte := (List.range n).map fun i => BitVec.ofNat 8 (v / 256 ^ (n - 1 - i))

/-- One bit of the CRC-8 with polynomial 0x2F. -/
def crc8Bit (c : Byte) (b : Bool) : Byte :=
  if c.getLsbD 7 != b then (c <<< 1) ^^^ 0x2F else c <<< 1

def crc8Bits (c : Byte) (bs : List Bool) : Byte := bs.foldl crc8Bit c

/-- The w low bits of a number, most significant first. -/
def bitsOf (w : Nat) (n : Nat) : List Bool := (List.range w).map fun i => n.testBit (w - 1 - i)

/-- CRC-8 of R295 over bits: initial value 0xFF, final XOR 0xFF. -/
def crc8 (bs : List Bool) : Byte := crc8Bits 0xFF bs ^^^ 0xFF

/-- CRC-8 over bytes (R379, R433). -/
def crc8Bytes (bs : List Byte) : Byte := crc8 (bs.flatMap fun b => bitsOf 8 b.toNat)

/-- One shift of the reflected CRC-32C. -/
def crc32Shift (c : Word) : Word := if c.getLsbD 0 then (c >>> 1) ^^^ 0x82F63B78 else c >>> 1

def crc32Byte (c : Word) (b : Byte) : Word :=
  let s := crc32Shift
  s (s (s (s (s (s (s (s (c ^^^ b.setWidth 32))))))))

/-- CRC-32C: initial value and final XOR 0xFFFF_FFFF, reflected (R380). -/
def crc32c (bs : List Byte) : Word := bs.foldl crc32Byte 0xFFFFFFFF ^^^ 0xFFFFFFFF

/-- The value a sparse store holds at an address, given its default. -/
def lookupD (m : List (Nat × Word)) (a : Nat) (d : Word) : Word :=
  match m.find? (fun p => p.1 == a) with
  | some p => p.2
  | none => d

/-- A sparse store with one address written; an entry equal to the default is dropped, so that the form stays
canonical. -/
def storeD {α : Type} [DecidableEq α] (m : List (Nat × α)) (a : Nat) (v d : α) : List (Nat × α) :=
  match m with
  | [] => if v = d then [] else [(a, v)]
  | p :: r =>
    if a < p.1 then (if v = d then p :: r else (a, v) :: p :: r)
    else if a = p.1 then (if v = d then r else (a, v) :: r)
    else p :: storeD r a v d

/-- Write bit of a list of flags at a place. -/
def insAsc (x : Nat) : List Nat → List Nat
  | [] => [x]
  | y :: r => if x < y then x :: y :: r else if x = y then y :: r else y :: insAsc x r

end Sys2Proof.Machine
end

