-- ==== Sys2Proof/Machine/F32.lean ====
section
/-! DEFINITION. binary32 arithmetic as R10 and R113 lay down: round to nearest, ties to even; a denormal operand is a
zero of its sign; a result that is denormal after rounding is a zero of its sign. -/

namespace Sys2Proof.Machine

def F32.sign (x : F32) : Bool := x.getLsbD 31
def F32.expo (x : F32) : Nat := (x >>> 23).toNat % 256
def F32.frac (x : F32) : Nat := x.toNat % 2 ^ 23
def F32.isNan (x : F32) : Bool := F32.expo x == 255 && F32.frac x != 0
def F32.isInf (x : F32) : Bool := F32.expo x == 255 && F32.frac x == 0
def F32.finite (x : F32) : Bool := F32.expo x != 255
/-- Zero, or a denormal taken as one. -/
def F32.isZero (x : F32) : Bool := F32.expo x == 0

def F32.zero (neg : Bool) : F32 := if neg then 0x80000000 else 0
def F32.inf (neg : Bool) : F32 := if neg then 0xFF800000 else 0x7F800000
def F32.nan : F32 := 0x7FC00000

/-- A denormal is stored as a zero of the same sign (R114). -/
def F32.flush (x : F32) : F32 := if F32.expo x == 0 then F32.zero (F32.sign x) else x

/-- Mantissa of a finite value: the value is mant · 2^pow2. -/
def F32.mant (x : F32) : Nat := if F32.expo x == 0 then 0 else 2 ^ 23 + F32.frac x
def F32.pow2 (x : F32) : Int := (F32.expo x : Int) - 150

def F32.neg (x : F32) : F32 := x ^^^ 0x80000000
def F32.abs (x : F32) : F32 := x &&& 0x7FFFFFFF

/-- m · 2^sh for a shift that may be negative, rounded to nearest even; sticky says that the exact value lies a
little above m. -/
def shiftRne (m : Nat) (sh : Int) (sticky : Bool) : Nat :=
  if 0 ≤ sh then m * 2 ^ sh.toNat
  else
    let k := (-sh).toNat
    let q := m / 2 ^ k
    let r := m % 2 ^ k
    let half := 2 ^ (k - 1)
    if r > half || (r == half && (sticky || q % 2 == 1)) then q + 1 else q

/-- The binary32 value nearest to ±m · 2^e (R10). -/
def F32.round (neg : Bool) (m : Nat) (e : Int) (sticky : Bool) : F32 :=
  if m == 0 then F32.zero neg
  else
    let top : Int := (Nat.log2 m : Int) + e
    let ulp : Int := if top < -126 then -149 else top - 23
    let q := shiftRne m (e - ulp) sticky
    let (q, ulp) := if q == 2 ^ 24 then (2 ^ 23, ulp + 1) else (q, ulp)
    if q < 2 ^ 23 then F32.zero neg
    else
      let b := ulp + 150
      if b ≥ 255 then F32.inf neg
      else F32.zero neg + BitVec.ofNat 32 (b.toNat * 2 ^ 23 + (q - 2 ^ 23))

/-- The signed integer mantissa of a finite value. -/
def F32.smant (x : F32) : Int := if F32.sign x then -(F32.mant x : Int) else F32.mant x

def F32.add (x y : F32) : F32 :=
  if F32.isNan x || F32.isNan y then F32.nan
  else if F32.isInf x then (if F32.isInf y && F32.sign x != F32.sign y then F32.nan else x)
  else if F32.isInf y then y
  else if F32.isZero x && F32.isZero y then F32.zero (F32.sign x && F32.sign y)
  else if F32.isZero x then y
  else if F32.isZero y then x
  else
    let e := min (F32.pow2 x) (F32.pow2 y)
    let s := F32.smant x * 2 ^ (F32.pow2 x - e).toNat + F32.smant y * 2 ^ (F32.pow2 y - e).toNat
    F32.round (decide (s < 0)) s.natAbs e false

def F32.sub (x y : F32) : F32 := if F32.isNan y then F32.nan else F32.add x (F32.neg y)

def F32.mul (x y : F32) : F32 :=
  let sg := F32.sign x != F32.sign y
  if F32.isNan x || F32.isNan y then F32.nan
  else if F32.isInf x || F32.isInf y then
    (if F32.isZero x || F32.isZero y then F32.nan else F32.inf sg)
  else F32.round sg (F32.mant x * F32.mant y) (F32.pow2 x + F32.pow2 y) false

def F32.div (x y : F32) : F32 :=
  let sg := F32.sign x != F32.sign y
  if F32.isNan x || F32.isNan y then F32.nan
  else if F32.isInf x then (if F32.isInf y then F32.nan else F32.inf sg)
  else if F32.isInf y then F32.zero sg
  else if F32.isZero y then (if F32.isZero x then F32.nan else F32.inf sg)
  else
    let n := F32.mant x * 2 ^ 40
    F32.round sg (n / F32.mant y) (F32.pow2 x - F32.pow2 y - 40) (n % F32.mant y != 0)

/-- The integer square root, by its bits from bit k - 1 down. -/
def isqrtGo (n : Nat) : Nat → Nat → Nat
  | 0, r => r
  | k + 1, r => isqrtGo n k (if (r + 2 ^ k) * (r + 2 ^ k) ≤ n then r + 2 ^ k else r)

def F32.sqrt (x : F32) : F32 :=
  if F32.isNan x then F32.nan
  else if F32.isZero x then F32.flush x
  else if F32.sign x then F32.nan
  else if F32.isInf x then x
  else
    let (m, e) := if F32.pow2 x % 2 == 0 then (F32.mant x, F32.pow2 x) else (2 * F32.mant x, F32.pow2 x - 1)
    let n := m * 2 ^ 40
    let r := isqrtGo n 34 0
    F32.round false r ((e - 40) / 2) (r * r != n)

/-- A key that orders finite and infinite values; the two zeros share it. -/
def F32.key (x : F32) : Int :=
  let m : Int := if F32.isZero x then 0 else ((F32.abs x).toNat : Int)
  if F32.sign x then -m else m

def F32.lt (x y : F32) : Bool := !F32.isNan x && !F32.isNan y && decide (F32.key x < F32.key y)
def F32.le (x y : F32) : Bool := !F32.isNan x && !F32.isNan y && decide (F32.key x ≤ F32.key y)
def F32.feq (x y : F32) : Bool := !F32.isNan x && !F32.isNan y && F32.key x == F32.key y

def F32.min (x y : F32) : F32 := if F32.lt y x then y else x
def F32.max (x y : F32) : F32 := if F32.lt x y then y else x
/-- The value held between two bounds. -/
def F32.clamp (x lo hi : F32) : F32 := if F32.lt x lo then lo else if F32.lt hi x then hi else x

/-- The binary32 value nearest to n / d. -/
def F32.ofFrac (n : Int) (d : Nat) : F32 :=
  let k := n.natAbs * 2 ^ 64
  F32.round (decide (n < 0)) (k / d) (-64) (k % d != 0)

def F32.ofInt (n : Int) : F32 := F32.round (decide (n < 0)) n.natAbs 0 false

/-- The nearest integer to a finite value, ties to even. -/
def F32.toIntRne (x : F32) : Int :=
  let m := shiftRne (F32.mant x) (F32.pow2 x) false
  if F32.sign x then -(m : Int) else m

/-- The largest integer not above a finite value. -/
def F32.floor (x : F32) : Int :=
  if 0 ≤ F32.pow2 x then F32.smant x * 2 ^ (F32.pow2 x).toNat
  else Int.fdiv (F32.smant x) (2 ^ (-F32.pow2 x).toNat)

/-- The largest integer not above x · n / d, for a finite x. -/
def F32.mulFloor (x : F32) (n : Int) (d : Nat) : Int :=
  let k := F32.smant x * n
  if 0 ≤ F32.pow2 x then Int.fdiv (k * 2 ^ (F32.pow2 x).toNat) d
  else Int.fdiv k (d * 2 ^ (-F32.pow2 x).toNat)

end Sys2Proof.Machine
end

