-- ==== Sys2Proof/Machine/Params.lean ====
section
/-! DEFINITION. The parameter maps: which bits a write sets, clears or ignores, reset values, apply points, resource
groups, and the checks of a written value (R13 to R16, R39, R42, R600, R601 and the map rules of each chapter). -/

namespace Sys2Proof.Machine

/-- Reply status codes (R606). -/
def stOk : Byte := 0x00
def stPending : Byte := 0x01
def stBadLength : Byte := 0x10
def stBadCrc : Byte := 0x11
def stStaleTag : Byte := 0x12
def stBadOpcode : Byte := 0x13
def stBadParam : Byte := 0x14
def stRange : Byte := 0x15
def stNotOwner : Byte := 0x16
def stDenied : Byte := 0x17
def stLocked : Byte := 0x18
def stBusy : Byte := 0x19
def stMode : Byte := 0x1A
def stCredit : Byte := 0x1B
def stInternal : Byte := 0x20

/-- Apply points (R15). -/
inductive Apply | imm | mark | sample | restart
deriving DecidableEq, Repr

/-- A parameter's map. wr: bits that a write sets; w1c: bits that a written 1 clears; wo: write-only bits; ro: named
RO bits; every other bit is reserved. rws: a write needs the group's semaphore; keep: persisted; f32: a binary32
value; check: the refusal of a candidate value, given the working copy of the other parameters. -/
structure PDef where
  wr    : Word := 0
  w1c   : Word := 0
  wo    : Word := 0
  ro    : Word := 0
  reset : Word := 0
  apply : Apply := .imm
  rws   : Bool := true
  keep  : Bool := true
  f32   : Bool := false
  check : (Nat → Word) → Word → Option Byte := fun _ _ => none

def rangeIf (ok : Bool) : Option Byte := if ok then none else some stRange

/-- The field lies in a to b. -/
def inR (v : Word) (lo w a b : Nat) : Bool := decide (a ≤ fld v lo w) && decide (fld v lo w ≤ b)

def mask (w : Nat) : Word := BitVec.ofNat 32 (2 ^ w - 1)

/-- A persisted RWS parameter whose writable fields fill the low w bits. -/
def cfgP (w : Nat) (reset : Word) (a : Apply) (ok : Word → Bool := fun _ => true) : PDef :=
  { wr := mask w, reset := reset, apply := a, check := fun _ v => rangeIf (ok v) }

/-- A persisted RWS parameter whose writable bits are wr. -/
def maskP (wr reset : Word) (a : Apply) (ok : Word → Bool) : PDef :=
  { wr := wr, reset := reset, apply := a, check := fun _ v => rangeIf (ok v) }

/-- A parameter that is RO throughout. -/
def roP (reset : Word := 0) : PDef := { ro := mask 32, reset := reset, rws := false, keep := false }

/-- A persisted binary32 parameter. -/
def f32P (reset : Word) (a : Apply) (ok : Word → Bool := fun _ => true) : PDef := { cfgP 32 reset a ok with f32 := true }

def nonNeg (v : Word) : Bool := F32.finite v && decide (0 ≤ F32.key v)

/-- A signal code of R116: 0x81 to 0xFE are reserved. -/
def sigOk (n : Nat) : Bool := decide (n ≤ 0x80) || n == 0xFF
/-- A destination code of R119. -/
def dstOk (n : Nat) : Bool :=
  decide (n ≤ 4) || (decide (0x10 ≤ n) && decide (n ≤ 0x13)) || (decide (0x40 ≤ n) && decide (n ≤ 0x7F))

/-- Offsets 0x00 to 0x2E of loop n (R148 to R153). base: ID of its offset 0. -/
def loopDef (base off : Nat) : Option PDef :=
  let fin (r : Word) := some (f32P r .sample F32.finite)
  let lim (r : Word) (lo hi : Nat) (a : Apply) : Option PDef :=
    some { f32P r a with
      check := fun get v => rangeIf (F32.finite v &&
        (if off == lo then F32.le v (get (base + hi)) else F32.le (get (base + lo)) v)) }
  match off with
  | 0x00 => some (cfgP 11 0 .restart fun v => inR v 2 3 0 4)
  | 0x01 => some (cfgP 18 0 .restart fun v => inR v 0 18 0 249999)
  | 0x02 => some (cfgP 32 0xFFFFFFFF .restart fun v =>
      sigOk (fld v 0 8) && sigOk (fld v 8 8) && sigOk (fld v 16 8) && sigOk (fld v 24 8))
  | 0x03 => some (cfgP 24 0xFF .restart fun v =>
      sigOk (fld v 0 8) && dstOk (fld v 8 8) && dstOk (fld v 16 8))
  | 0x04 | 0x05 | 0x06 | 0x07 => fin 0x3F800000
  | 0x08 | 0x09 => some (f32P 0 .sample nonNeg)
  | 0x0A => some (cfgP 22 0x8000 .restart fun v =>
      (fld v 0 12 == 0 || inR v 0 12 16 4095) && inR v 12 8 2 255 && inR v 20 2 0 2)
  | 0x0B | 0x0C => some (f32P 0 .imm F32.finite)
  | 0x0D => some { w1c := 0xE0, ro := 0x00FF1F1F, rws := false, keep := false }
  | 0x0E => some { wo := 1, keep := false }
  | 0x0F | 0x1E | 0x1F | 0x2E => some (roP)
  | 0x10 => lim 0 0x11 0x10 .sample
  | 0x11 => lim 0 0x11 0x10 .sample
  | 0x12 => some (f32P 0 .sample nonNeg)
  | 0x17 => fin 0x3F800000
  | 0x13 | 0x14 | 0x15 | 0x16 | 0x18 | 0x19 | 0x1A | 0x1B | 0x1C | 0x1D => fin 0
  | 0x20 => lim 0 0x21 0x20 .imm
  | 0x21 => lim 0 0x21 0x20 .imm
  | 0x22 => some (f32P 0 .imm nonNeg)
  | 0x27 => some (f32P 0x3F800000 .imm F32.finite)
  | 0x23 | 0x24 | 0x25 | 0x26 | 0x28 | 0x29 | 0x2A | 0x2B | 0x2C | 0x2D => some (f32P 0 .imm F32.finite)
  | _ => none

/-- Trace units at offsets 0x30 to 0x36 of loop blocks 0 to 3 (R154). -/
def traceDef (off : Nat) : Option PDef :=
  match off with
  | 0x30 => some (cfgP 24 0x01 .imm)
  | 0x31 | 0x32 => some (cfgP 32 0 .imm)
  | 0x33 => some (cfgP 11 0 .imm fun v => inR v 8 3 0 6)
  | 0x34 => some (cfgP 32 0 .imm)
  | 0x35 | 0x36 => some (roP)
  | _ => none

/-- Repetitive-controller parameters at offsets 0x30 to 0x36 of loop blocks 4 to 11 (R155). -/
def rcDef (base off : Nat) : Option PDef :=
  match off with
  | 0x30 => some (cfgP 20 0x100 .restart fun v => inR v 5 3 0 3 && inR v 8 8 1 255)
  | 0x31 => some { cfgP 10 0 .sample with
      check := fun get v => rangeIf (decide (fld v 0 10 < 1024 / 2 ^ fld (get (base + 0x30)) 16 3)) }
  | 0x32 => some (f32P 0 .sample F32.finite)
  | 0x33 => some (f32P 0x3F800000 .sample fun v => nonNeg v && F32.le v 0x3F800000)
  | 0x34 => some (f32P 0 .sample nonNeg)
  | 0x35 => some (roP)
  | 0x36 => some { wr := 1, wo := 2, keep := false }
  | _ => none

def ceDef (id : Nat) : Option PDef :=
  let n := (id - 0x2000) / 0x40
  let off := (id - 0x2000) % 0x40
  let base := 0x2000 + n * 0x40
  if off < 0x30 then loopDef base off
  else if n < 4 then traceDef off
  else if n < 12 then rcDef base off
  else match id with
    | 0x27F0 | 0x27F1 | 0x27F2 | 0x27F4 => some (roP)
    | 0x27F3 => some (cfgP 32 0 .restart)
    | _ => none

/-- Steering drive (R186 to R192). -/
def sdDef (id : Nat) : Option PDef :=
  match id with
  | 0x3000 => some (maskP 0x007FFF3F 0x00320F04 .restart fun v =>
      inR v 0 4 1 15 && inR v 8 8 5 60 && inR v 16 7 0 100)
  | 0x3001 => some (cfgP 28 0x00401000 .restart fun v => inR v 0 20 256 1048575)
  | 0x3002 => some (cfgP 32 0 .restart)
  | 0x3003 => some (cfgP 32 0x1E041414 .imm fun v => inR v 0 8 1 255 && inR v 8 8 1 255)
  | 0x3004 => some (cfgP 24 0x4028F3 .restart)
  | 0x3008 => some (f32P 0 .mark nonNeg)
  | 0x3009 => some (f32P 0 .restart nonNeg)
  | 0x300A => some (f32P 0x40A00000 .imm nonNeg)
  | 0x300B | 0x300C | 0x300D | 0x300E | 0x300F => some (f32P 0 .restart)
  | 0x3010 => some (f32P 0 .mark nonNeg)
  | 0x3020 | 0x3021 => some (roP)
  | _ => none

/-- Auxiliary drive (R219 to R226). -/
def adDef (id : Nat) : Option PDef :=
  let lvl (on off : (Nat → Word) → Word → Word) : PDef :=
    { f32P 0 .mark with
      check := fun get v => rangeIf (nonNeg v && F32.lt (off get v) (on get v)) }
  match id with
  | 0x3400 => some (maskP 0x0FFF7F3F 0x00F01004 .restart fun v =>
      inR v 0 4 1 15 && inR v 8 7 4 64 && inR v 16 4 0 15 && inR v 20 8 5 25)
  | 0x3401 => some (cfgP 32 0x01900FA0 .restart fun v => inR v 0 16 500 30000)
  | 0x3402 => some (cfgP 28 0x05643232 .restart fun v =>
      inR v 0 8 1 255 && inR v 8 8 1 255 && inR v 16 8 10 255 && inR v 24 4 1 15)
  | 0x3403 => some (cfgP 10 0x190 .restart fun v => inR v 0 10 40 1000)
  | 0x3404 => some (cfgP 9 0xFF .mark fun v => sigOk (fld v 0 8))
  | 0x340A => some (f32P 0x3E19999A .imm fun v => nonNeg v && F32.le 0x3D4CCCCD v && F32.le v 0x3F000000)
  | 0x3408 | 0x340D | 0x340E | 0x3412 | 0x3413 => some (f32P 0 .mark nonNeg)
  | 0x3409 | 0x340B => some (f32P 0 .restart nonNeg)
  | 0x340C => some (f32P 0x44960000 .restart nonNeg)
  | 0x340F => some (f32P 0x45FA0000 .mark nonNeg)
  | 0x3410 => some (lvl (fun _ v => v) (fun get _ => get 0x3411))
  | 0x3411 => some (lvl (fun get _ => get 0x3410) (fun _ v => v))
  | 0x3420 | 0x3421 | 0x3422 | 0x3423 => some (roP)
  | _ => if 0x3440 ≤ id ∧ id < 0x3480 then some (roP) else none

/-- A leg's block (R252 to R254). -/
def legDef (off : Nat) : Option PDef :=
  match off with
  | 0x0 => some (cfgP 25 0x01F02296 .mark fun v =>
      inR v 0 9 40 400 && decide (fld v 15 5 ≤ fld v 10 5) && decide (fld v 10 5 ≤ fld v 20 5))
  | 0x1 => some (cfgP 20 0x00028A0A .mark fun v => inR v 0 6 2 40 && inR v 6 7 20 80 && inR v 13 7 5 100)
  | 0x2 => some (cfgP 8 0x14 .mark fun v => inR v 0 8 4 200)
  | 0x8 => some (roP 0x42108)
  | 0x9 | 0xA => some (roP)
  | _ => none

/-- A gate-drive group's block (R255, R256). -/
def grpDef (steer : Bool) (off : Nat) : Option PDef :=
  match off with
  | 0x0 =>
    let ok (v : Word) := inR v 0 6 1 64 && inR v 6 10 10 500 && inR v 16 6 24 40
    if steer then some (cfgP 30 0x042012C1 .mark fun v => ok v && inR v 22 8 1 255)
    else some (cfgP 22 0x002012C1 .mark ok)
  | 0x1 => some (cfgP 12 0x326 .mark fun v => inR v 0 4 0 8 && inR v 4 8 20 100)
  | 0x4 => some { wo := 1, rws := false, keep := false }
  | 0x8 => some (roP)
  | _ => none

/-- Gate drive (R252 to R258). -/
def gdDef (id : Nat) : Option PDef :=
  match id with
  | 0x3900 => some (cfgP 32 0x151815E0 .mark fun v =>
      decide (fld v 16 16 < fld v 0 16) && decide (fld v 0 16 ≤ 6200) && decide (1000 ≤ fld v 16 16))
  | 0x3901 => some (cfgP 32 0x28282814 .mark fun v =>
      inR v 1 8 1 255 && inR v 17 8 5 255 && inR v 25 7 1 127)
  | 0x3908 => some (roP)
  | _ =>
    if id < 0x3830 then legDef (id % 0x10)
    else if 0x3880 ≤ id ∧ id < 0x3890 then grpDef true (id % 0x10)
    else if 0x3A00 ≤ id ∧ id < 0x3A30 then legDef (id % 0x10)
    else if 0x3A80 ≤ id ∧ id < 0x3A90 then grpDef false (id % 0x10)
    else none

/-- Feedback (R286 to R291). -/
def fbDef (id : Nat) : Option PDef :=
  let o := id - 0x3C00
  if o < 0x20 then
    match o % 0x10 with
    | 0 => some (cfgP 30 0x19201000 .mark fun v => inR v 0 20 256 1048575 && inR v 22 8 1 255)
    | 1 => some { w1c := 4, ro := 0xFFFFFF0B, reset := 9, rws := false, keep := false }
    | 2 => some (roP)
    | _ => none
  else if o < 0x40 then
    match o % 0x10 with
    | 0 => some (cfgP 11 0x326 .mark fun v => inR v 0 3 1 6 && inR v 3 8 1 255)
    | 1 => some { w1c := 2, ro := 0x00FFFF05, reset := 4, rws := false, keep := false }
    | 2 => some (roP)
    | _ => none
  else if o < 0x60 then
    match o % 0x10 with
    | 0 => some { cfgP 28 0x0083C00E .mark with
        check := fun _ v =>
          if inR v 0 3 1 6 && inR v 3 2 0 1 && inR v 5 2 0 2 && inR v 9 2 0 2 && inR v 13 8 1 255 then
            (if fld v 3 2 == 1 && fld v 0 3 != 6 then some stBadParam else none)
          else some stRange }
    | 1 => some (f32P 0x3F800000 .mark)
    | 2 => some (f32P 0 .mark)
    | 3 => some (roP)
    | 4 => some { w1c := 0x02000000, ro := 0x01FFFFFF, rws := false, keep := false }
    | _ => none
  else if 0x80 ≤ o ∧ o < 0xA0 then
    match o % 0x08 with
    | 0 => some (cfgP 2 1 .mark fun v => inR v 0 2 0 2)
    | 1 => some (f32P 0x3F800000 .mark)
    | 2 | 3 | 4 => some (roP)
    | _ => none
  else if 0xC0 ≤ o ∧ o < 0xE0 then
    match o % 4 with
    | 0 => some (cfgP 32 0xFFFF0000 .mark fun v => decide (fld v 0 16 ≤ fld v 16 16))
    | 1 => some (f32P 0x38A00000 .mark)
    | 2 => some (f32P 0 .mark)
    | _ => some (roP)
  else if o = 0xE0 then some { w1c := 0xFF00, ro := 0xFF, rws := false, keep := false }
  else if 0x100 ≤ o ∧ o < 0x120 then
    match o % 4 with
    | 0 => some { cfgP 6 0 .imm with
        keep := false, check := fun _ v => rangeIf (inR v 0 3 0 5 && !(decide (2 ≤ fld v 0 3) && bit v 3)) }
    | 1 => some { cfgP 32 0 .imm with keep := false }
    | 2 => some { w1c := 4, ro := 0xFF0B, rws := false, keep := false }
    | _ => some (roP)
  else if o = 0x1F0 then some (cfgP 32 0xC828280A .mark)
  else none

/-- Welt interface (R323 to R325). WIDTH · 10 µs may not exceed half of n ms: WIDTH ≤ 50 · n. -/
def wiDef (id : Nat) : Option PDef :=
  let o := (id - 0x4000) % 0x40
  if 0x4080 ≤ id then none
  else match o with
    | 0x01 => some (cfgP 6 0x2D .mark)
    | 0x02 => some { cfgP 4 3 .mark with
        check := fun get v => rangeIf (decide (fld (get (id + 2)) 0 8 ≤ 50 * (fld v 0 4 + 1))) }
    | 0x03 => some (cfgP 9 0x64 .mark fun v => inR v 0 9 50 500)
    | 0x04 => some { cfgP 16 0x3232 .mark with
        check := fun get v => rangeIf (inR v 0 8 20 100 && inR v 8 8 20 200 &&
          decide (fld v 0 8 ≤ 50 * (fld (get (id - 2)) 0 4 + 1))) }
    | 0x05 => some (cfgP 4 0xF .mark)
    | 0x06 | 0x07 => some (cfgP 12 0 .mark fun v => inR v 0 12 0 3000)
    | 0x08 => some (cfgP 16 0x1414 .mark fun v => inR v 0 8 1 255 && inR v 8 8 5 50)
    | 0x09 => some (cfgP 10 0x264 .mark fun v => inR v 0 9 0 300)
    | 0x10 | 0x11 | 0x12 => some (roP)
    | _ => none

/-- Redundancy (R350 to R353). -/
def rdDef (id : Nat) : Option PDef :=
  match id with
  | 0x4400 => some { wr := 0x00FF01FF, reset := 0x00FF0053, apply := .restart }
  | 0x4401 => some (cfgP 11 0xF .mark fun v => inR v 0 11 1 1440)
  | 0x4402 => some (cfgP 23 0x007C2040 .mark)
  | 0x4408 => some (f32P 0x3F800000 .mark nonNeg)
  | 0x4409 => some (f32P 0x40000000 .mark nonNeg)
  | 0x440A => some (f32P 0x40000000 .mark fun v => nonNeg v && F32.le 0x40000000 v)
  | 0x440B | 0x440C | 0x440D => some (f32P 0 .mark nonNeg)
  | 0x440E => some (f32P 0x3DCCCCCD .mark nonNeg)
  | 0x4420 => some (roP 0x20)
  | 0x4421 | 0x4422 => some (roP)
  | _ => none

/-- Fault collector (R367 to R370). -/
def fclDef (id : Nat) : Option PDef :=
  match id with
  | 0x4800 | 0x4801 => some { w1c := mask 32, rws := false, keep := false }
  | 0x4804 => some (cfgP 25 0x000F0C19 .mark fun v => inR v 0 10 1 1000 && inR v 10 4 1 15 && inR v 14 11 1 1440)
  | 0x4806 => some { wo := 0x80000000, ro := 1, keep := false }
  | 0x4802 | 0x4803 | 0x4805 | 0x4807 | 0x4808 => some (roP)
  | _ => if 0x4810 ≤ id ∧ id < 0x4830 then some (roP) else none

/-- The network cycle in macroticks, by NT_CFG.CYCLE (R400). -/
def cycleMt (ntCfg : Word) : Nat := 1250 * 2 ^ fld ntCfg 0 2

/-- Network (R396 to R399, R425 to R429). DEDUCED (unsafe), log entry 95. -/
def netDef (id : Nat) : Option PDef :=
  match id with
  | 0x1000 => some (maskP 0x1FF3F 0x900 .restart fun v =>
      inR v 0 6 1 63 && inR v 8 9 9 270)
  | 0x1001 => some { wo := 1, keep := false }
  | 0x1002 => some (roP)
  | 0x1040 => some (cfgP 29 0x04000001 .restart fun v =>
      fld v 2 14 % 250 == 0 && decide (fld v 2 14 < cycleMt v) && inR v 23 6 2 63 &&
        inR v 17 6 1 63)
  | 0x1041 | 0x1042 | 0x1043 | 0x1044 | 0x1045 | 0x1046 => some (roP)
  | 0x1800 => some (cfgP 11 3 .restart fun v => inR v 0 8 3 128)
  | 0x1801 => some (cfgP 32 0 .restart)
  | 0x1802 => some (roP)
  | _ =>
    if 0x1010 ≤ id ∧ id < 0x1020 then
      (if id % 4 = 0 then some { w1c := 0x38, ro := 0xFF07, rws := false, keep := false } else some (roP))
    else if 0x1880 ≤ id ∧ id < 0x1900 then
      some { cfgP 28 0 .restart with
        check := fun get v => rangeIf (decide (0 < fld v 14 14) &&
          decide (fld v 0 14 + fld v 14 14 ≤ cycleMt (get 0x1040))) }
    else if 0x1C00 ≤ id ∧ id < 0x2000 then
      match id % 4 with
      | 0 => some (cfgP 12 0x100 .restart fun v => inR v 8 3 1 7)
      | 1 | 2 => some (roP)
      | _ => none
    else none

/-- Security (R498 to R502). -/
def secDef (id : Nat) : Option PDef :=
  match id with
  | 0x5000 | 0x5003 | 0x5005 | 0x5006 | 0x5007 | 0x5008 | 0x5009 => some (roP)
  | 0x5001 => some (cfgP 1 0 .restart)
  | 0x5002 => some { wr := 8, wo := 0x80, ro := 0x77, keep := false }
  | 0x5004 => some { wr := 7, wo := 0x18, ro := 0x20, keep := false, check := fun _ v => rangeIf (inR v 0 3 1 4) }
  | _ =>
    if 0x5010 ≤ id ∧ id < 0x501E then some { wr := mask 32, keep := false }
    else if id = 0x501E then some { wr := 0xFF000000, keep := false }
    else if 0x5020 ≤ id ∧ id < 0x502F then some (roP)
    else if 0x5030 ≤ id ∧ id < 0x5050 then some (roP)
    else none

/-- Platform, host ports, management, counters and execution (R77 to R83, R105 to R108, R466 to R468, R519 to R522,
R543 to R546). -/
def mgDef (id : Nat) : Option PDef :=
  match id with
  | 0x0000 => some (roP 0x9430)
  | 0x0001 | 0x0002 | 0x0003 | 0x0004 => some (roP)
  | 0x0100 => some { wr := 0xFF07, reset := 0x5A03, apply := .imm }
  | 0x0101 | 0x0102 | 0x0103 => some (roP)
  | 0x0200 => some { wr := 0x1F03, reset := 0xC02, apply := .restart }
  | 0x0201 | 0x0300 | 0x0301 => some (roP)
  | 0x0302 => some { wo := 0x80000000, ro := 0xFFFF, reset := 0xFFFF, rws := false, keep := false }
  | 0x0400 | 0x0401 => some (roP)
  | 0x0800 => some (maskP 0xFFFFFF01 0x0F000000 .restart fun v =>
      inR v 24 8 1 255)
  | 0x0801 => some (maskP 0x3FF03 0x1A02 .restart fun v =>
      inR v 8 10 1 1023 && decide ((fld v 0 2 + 1) * 8 + 2 ≤ fld v 8 10))
  | 0x0802 | 0x0803 => some (roP)
  | 0x5800 => some (cfgP 8 0x8C .mark fun v => inR v 0 8 100 150)
  | 0x5801 => some (cfgP 5 2 .mark fun v => inR v 0 5 1 16)
  | 0x5802 | 0x5C00 | 0x5C02 => some (roP)
  | 0x5C01 => some { wo := mask 32, keep := false }
  | 0x6000 => some { cfgP 16 0x7D0 .mark with
      check := fun get v => rangeIf (fld v 0 16 == 0 || decide (10000 ≤ fld v 0 16 * cycleMt (get 0x1040))) }
  | 0x6001 => some (cfgP 1 0 .mark)
  | 0x6002 => some (cfgP 21 0x800 .mark fun v => inR v 1 20 1024 1048575)
  | 0x6003 => some { w1c := 0x2FFF, ro := 0xFFFF1000, rws := false, keep := false }
  | 0x7000 | 0x7001 | 0x7002 | 0x7003 | 0x7004 => some (roP)
  | 0x7005 => some { wo := 0x80000000, ro := 0x1FFFFF, rws := false, keep := false }
  | _ => none

/-- The map of a parameter ID; none: the ID is not a parameter (R41, R42). -/
def pdef (id : Nat) : Option PDef :=
  if id < 0x1000 then mgDef id
  else if id < 0x2000 then netDef id
  else if id < 0x2800 then ceDef id
  else if id < 0x3400 then sdDef id
  else if id < 0x3800 then adDef id
  else if id < 0x3C00 then gdDef id
  else if id < 0x4000 then fbDef id
  else if id < 0x4400 then wiDef id
  else if id < 0x4800 then rdDef id
  else if id < 0x4C00 then fclDef id
  else if id < 0x5400 then secDef id
  else if id < 0x8000 then mgDef id
  else none

/-- The resource group of a parameter ID (R39). -/
def groupOf (id : Nat) : Fin 16 :=
  if id < 0x1000 then 0
  else if id < 0x1800 then 1
  else if id < 0x2000 then 2
  else if id < 0x2800 then
    (if (id - 0x2000) % 0x40 ≥ 0x30 then 5 else if id < 0x2400 then 3 else 4)
  else if id < 0x3400 then 6
  else if id < 0x3800 then 7
  else if id < 0x3C00 then 8
  else if id < 0x4000 then 9
  else if id < 0x4400 then 10
  else if id < 0x4800 then 11
  else if id < 0x5000 then 12
  else if id < 0x5800 then 13
  else if id < 0x6000 then 14
  else 15

/-- The reset value of a parameter's map. -/
def resetOf (id : Nat) : Word :=
  match pdef id with
  | some d => d.reset
  | none => 0

end Sys2Proof.Machine
end

