-- ==== Sys2Proof/Machine/State/Base.lean ====
section
/-! DEFINITION. Pieces of state shared by several blocks of the SP9430 model: sparse word stores, command packets,
replies, deferred effects of a frame, pending work and MRAM jobs. -/

namespace Sys2Proof.Machine

/-- A sparse store of 32-bit words in canonical form: addresses strictly rising, no entry equal to the store's
default at its address. -/
abbrev Words := List (Nat × Word)

/-- A signal whose newest values are placed in it at stated instants, oldest first (R268, R273, R278, R279). -/
structure Late where
  cur  : F32 := 0
  next : List (Nat × F32) := []
deriving DecidableEq, Repr

/-- A command packet held in a slot of a host port (R442, R445). crcOk: its CRC-32C checked. -/
structure Packet where
  port    : Port
  opcode  : Byte
  tag     : BitVec 8
  session : BitVec 4
  arg     : Word
  len     : Nat
  payload : List Word
deriving DecidableEq, Repr

/-- A reply packet (R442, R606). final: its last word, once read for good, returns the slot's credit (R445).
violation: it sits in the violation slot (R446). iso: it stands when its frame ends in a mismatch (R103). -/
structure Reply where
  port      : Port
  tag       : BitVec 8
  session   : BitVec 4
  status    : Byte
  result    : Word
  len       : Nat
  payload   : List Word
  final     : Bool
  violation : Bool
  iso       : Bool := false
  pubAt     : Nat := 0
deriving DecidableEq, Repr

/-- A debug challenge (R483): requested level, session and port that issued it, and its time. -/
structure DbgCh where
  level   : BitVec 2
  port    : Port
  session : BitVec 4
  slot    : BitVec 3
  persist : Bool
  bytes   : List Word
  at_     : Nat
deriving DecidableEq, Repr

/-- The commands answered ACCEPTED_PENDING, with what their work needs (R449, R455). Signatures stand in Work. -/
inductive WorkKind
  | sessionSig (k : Fin 8) (challenge : List Word)
  | configLoad (slot : Bool) (chunk : Nat) (ws : List Word)
  | configActivate (slot : Bool)
  | comb (entries : List Word)
  | freezeClear
  | imageBegin (ws : List Word)
  | imageStage
  | imageBlock (block : Nat) (ws : List Word)
  | imageCommit
  | attest (nonce : List Word)
  | debugResponse (x : DbgCh)
  | lifecycle (target : BitVec 3) (slot : BitVec 3)
deriving DecidableEq, Repr

/-- Pending work of a command: who issued it, and its payload's signature where it has one (R449, R450). -/
structure Work where
  kind     : WorkKind
  port     : Port
  tag      : BitVec 8
  session  : BitVec 4
  sig      : List Byte
deriving DecidableEq, Repr

/-- Reply payloads that are taken at the commit instant (R533, R541). -/
inductive Fill
  | log (freeze : Bool) (first count : Nat)
  | counters (block : Nat)
  | snapshot (age : Nat)
deriving DecidableEq, Repr

/-- What a processed command does when its frame commits at CCLK 22,520 (R86, R98). fill: the payload of the frame's
reply with this index. -/
inductive Effect
  | inForce (id : Nat) (v : Word)
  | queueSample (slot : Fin 32) (id : Nat) (v : Word)
  | clearBits (id : Nat) (v : Word)
  | compare (k : Fin 8) (cfg : Bool)   -- cfg: a write of FB_CMP_CFG
  | ceReturn (slot : Fin 32)
  | rcClear (m : Fin 8)
  | gdTest (g : Grp)
  | minVsup
  | exePeak
  | fclClear
  | keyProgram (slot : BitVec 3)
  | keyRevoke (slot : BitVec 3)
  | relock
  | clrCnt
  | sampler
  | loopLoad (slot : Fin 32) (prog : List Word)
  | loopStart (slot : Fin 32)
  | loopStop (slot : Fin 32)
  | driveEnable (g : Grp)
  | driveDisable (g : Grp)
  | curveLoad (pts : List Word)
  | traceArm (u : Fin 4)
  | netStart
  | netStop
  | lockoutReq (w1 w2 : Bool)
  | powerEntry (target : BitVec 2)
  | pctConfig (block : Nat) (clearAll : Bool) (cfg : List Word)
  | handover
  | withdraw
  | level (l : BitVec 3)
  | reset (p : Port)
  | trial (p : Port)
  | bist (test : BitVec 8) (p : Port) (session : BitVec 4)
  | work (w : Work)
  | fill (index : Nat) (f : Fill)
deriving DecidableEq, Repr

/-- An event-log entry of eight words (R529). -/
structure LogEntry where
  seq    : Word
  time   : Word
  cycle  : Word
  head   : Word
  d0     : Word
  d1     : Word
  d2     : Word
  d3     : Word
deriving DecidableEq, Repr

/-- What an MRAM block write stores (R454, R459, R464, R493, R532). -/
inductive MramData
  | log (e : LogEntry)
  | latch (on : Bool)
  | curve (pts : List Word)
  | comb (entries : List Word)
  | loop (slot : Fin 32) (prog : List Word)
  | configChunk (slot : Bool) (chunk : Nat) (ws : List Word)
  | imageHeader (ws : List Word)
  | imageBlock (block : Nat) (ws : List Word)
  | freezeErase
deriving DecidableEq, Repr

/-- An MRAM block write waiting for or in its attempts; work: the command it completes (R464). -/
structure MramJob where
  data  : MramData
  tries : Nat
  work  : Option Work
deriving DecidableEq, Repr

end Sys2Proof.Machine
end

