-- ==== Sys2Proof/Machine/State/Ce.lean ====
section
/-! DEFINITION. State of the control engine of a channel (spec file 04). -/

namespace Sys2Proof.Machine

/-- The four slot states (R110). -/
inductive SlotSt | empty | stopped | running | hold
deriving DecidableEq, Repr

/-- An entry of a slot's coefficient queue: parameter, value, and when it entered (R130, R131). -/
structure QEntry where
  id  : Nat
  val : Word
  tIn : Nat
deriving DecidableEq, Repr

/-- What a sample in its window commits on a match (R120, R122, R127): states, the nodes y r e i q g v u, and for the
bound learning unit its number, bin, validity of the angle, whether it learned, a skipped bin, a clear before the
sample, and the learned value. -/
structure Sample where
  st      : LoopState
  nodes   : Vector F32 8
  at_     : Nat
  span    : Nat                   -- length of the window in ECLK
  mixed   : Bool
  unit    : Option (Fin 8)
  bin     : Nat
  angleOk : Bool
  learning : Bool                 -- learning takes place in the sample (R142)
  learned : Option F32
  skipped : Bool
  wiped   : Bool
  bad     : Bool                  -- a NaN arose
deriving DecidableEq, Repr

/-- A loop slot (R110, R111, R120, R123, R130, R136 to R138, R144, R145, R151). -/
structure Slot where
  st            : SlotSt
  startAt       : Nat              -- LOOP_START committed then; runs from a boundary 8 ECLK later
  stopReq       : Bool             -- LOOP_STOP accepted, takes effect at the next boundary
  first         : Bool             -- the next evaluated sample is the first one
  state         : LoopState
  queue         : List QEntry
  fallback      : Bool
  returnPending : Bool
  oscTrip       : Bool
  noInput       : Bool
  trackLost     : Bool
  oscTrips      : BitVec 8
  samples       : Word
  out           : F32
  err           : F32
  int           : F32
  nodes         : Vector F32 8     -- y r e i q g v u
  oscPos        : Nat
  oscCross      : Nat
  oscPeak       : F32
  oscSide       : Option Bool      -- some true: last on the positive side
  oscTripped    : Bool
  oscIsolate    : Bool
  oscFallback   : Bool             -- FALLBACK at the next boundary
  pend          : Option Sample
  queueRose     : Bool             -- the queue became non-empty since the last evaluated sample
  leadRec       : Option LoopState -- newest record received since the last boundary
  trackLostCyc  : Option Word
  bAt           : Option Nat       -- the slot's last boundary
deriving DecidableEq, Repr

def LoopState.zero : LoopState := ⟨0, 0, 0, 0, 0, 0, 0, 0, 0, 0⟩

/-- DESIGN CHOICE (unsafe), log entry 7. -/
def Slot.reset : Slot :=
  { st := .empty, startAt := 0, stopReq := false, first := true, state := LoopState.zero, queue := [],
    fallback := false, returnPending := false, oscTrip := false, noInput := false, trackLost := false,
    oscTrips := 0, samples := 0, out := 0, err := 0, int := 0, nodes := Vector.replicate 8 0,
    oscPos := 0, oscCross := 0, oscPeak := 0, oscSide := none, oscTripped := false, oscIsolate := false,
    oscFallback := false, pend := none, queueRose := false,
    leadRec := none, trackLostCyc := none, bAt := none }

/-- A repetitive-controller entry with its bins (R139 to R143, R155). -/
structure RcInst where
  slot       : Option (Fin 32) -- the slot whose LOOP_START bound the unit
  bins       : Words
  bLast      : Option Nat
  bin        : BitVec 10
  angleValid : Bool
  learning   : Bool
  skip       : BitVec 16
  clearReq   : Bool
  gap        : Bool          -- a discontinuity was reported since the previous sample
  paused     : Bool          -- the last sample found the angle invalid or discontinuous (R143)
  received   : List Nat      -- RESYNC: bins received since entry (R339), ascending
deriving DecidableEq, Repr

/-- DESIGN CHOICE (unsafe), log entry 7. -/
def RcInst.reset : RcInst :=
  { slot := none, bins := [], bLast := none, bin := 0, angleValid := false, learning := false, skip := 0,
    clearReq := false, gap := false, paused := false, received := [] }

/-- The trace unit states (R146). -/
inductive TraceSt | idle | filling | armed | post | done
deriving DecidableEq, Repr

/-- A record of a trace unit: eight nodes, and whether its parity failed (R35, R145). -/
structure TraceRec where
  vals : Vector F32 8
  bad  : Bool
deriving DecidableEq, Repr

/-- A trace unit (R145 to R147, R154). recs is newest first; cfg to level are the values read at TRACE_ARM. -/
structure TraceUnit where
  st       : TraceSt
  recs     : List TraceRec
  postLeft : Nat
  decim    : Nat
  trigSeen : Bool
  trigIdx  : BitVec 11
  invalid  : Bool
  stamp    : Word
  prev     : Option F32
  cfg      : Word
  sel0     : Word
  sel1     : Word
  trig     : Word
  level    : Word
deriving DecidableEq, Repr

/-- DESIGN CHOICE (unsafe), log entry 7. -/
def TraceUnit.reset : TraceUnit :=
  { st := .idle, recs := [], postLeft := 0, decim := 0, trigSeen := false, trigIdx := 0, invalid := false,
    stamp := 0, prev := none, cfg := 0, sel0 := 0, sel1 := 0, trig := 0, level := 0 }

/-- A demand register: value and validity (R117). -/
structure Demand where
  val   : F32
  valid : Bool
deriving DecidableEq, Repr

/-- The control engine of a channel. dest holds the value last received by destinations 0x01, 0x02, 0x03, 0x04
and 0x10 to 0x13, in that order (R119); clsAt the last period start of each rate class; at4k the last 4 kHz period
taken (R124, R125). -/
structure Ce where
  slots     : Vector Slot 32
  rc        : Vector RcInst 8
  trace     : Vector TraceUnit 4
  demCore   : Vector Demand 64
  demEngine : Vector Demand 64
  results   : Vector F32 64
  dest      : Vector F32 8
  routedVd  : Bool
  routedVq  : Bool
  autoFail  : Word
  clsAt     : Vector (Option Nat) 4
  at4k      : Option Nat
deriving DecidableEq, Repr

/-- DESIGN CHOICE (unsafe), log entry 7. -/
def Ce.reset : Ce :=
  { slots := Vector.replicate 32 Slot.reset, rc := Vector.replicate 8 RcInst.reset,
    trace := Vector.replicate 4 TraceUnit.reset, demCore := Vector.replicate 64 ⟨0, false⟩,
    demEngine := Vector.replicate 64 ⟨0, false⟩, results := Vector.replicate 64 0,
    dest := Vector.replicate 8 0, routedVd := false, routedVq := false, autoFail := 0,
    clsAt := Vector.replicate 4 none, at4k := none }

end Sys2Proof.Machine
end

