-- ==== Sys2Proof/Machine/State/Drives.lean ====
section
/-! DEFINITION. State of the steering drive, the auxiliary drive and the gate drive of a channel (spec files 05,
06 and 07). -/

namespace Sys2Proof.Machine

/-- Steering drive states (R176). -/
inductive SdSt | off | closing | run | opening | asc
deriving DecidableEq, Repr

/-- Rotor-angle states (R167). -/
inductive AngleSt | sector | edge | index | hallOnly
deriving DecidableEq, Repr

/-- End-stop zones (R184). -/
inductive Zone | out | soft | hard
deriving DecidableEq, Repr

/-- The steering drive (R158 to R185, R191, R192). The signals of codes 0x28 to 0x2A, 0x2E to 0x31 and 0x3F are
sigIa to sigVdc; smp fields hold what the period start sampled until TCLK 120. perAt: start of the present PWM period;
loadAt: the instant from which its compare values cmpA to cmpC apply, with oldA to oldC before it (R165); prechg: a
precharge period (R241); heldAngle: the angle that SECTOR or EDGE holds (R169). -/
structure Sd where
  st          : SdSt
  angle       : AngleSt
  pisClosed   : Bool
  ovWait      : Bool
  speedWait   : Bool
  vsat        : Bool
  limited     : Bool
  esLeft      : Zone
  esRight     : Zone
  active      : BitVec 3
  lastLeave   : BitVec 3
  missedCmd   : BitVec 16
  encFaults   : BitVec 8
  wndFaults   : BitVec 8
  sigIa       : F32
  sigIb       : F32
  sigIc       : F32
  sigId       : F32
  sigIq       : F32
  sigIdRef    : F32
  sigIqRef    : Late
  sigVdc      : F32
  smpIa       : F32
  smpIb       : F32
  smpIc       : F32
  smpVdc      : F32
  smpTheta    : Word
  smpOmega    : F32           -- omega_e in rpm at the sample
  smpPend     : Bool          -- a sample waits for TCLK 120
  latchPend   : Bool          -- the period's latch is still to come
  cmpA        : Nat
  cmpB        : Nat
  cmpC        : Nat
  oldA        : Nat
  oldB        : Nat
  oldC        : Nat
  perAt       : Option Nat
  loadAt      : Nat
  nextA       : Nat
  nextB       : Nat
  nextC       : Nat
  missedRun   : Nat
  isumRun     : Nat
  pendEnable  : Bool
  withdrawn   : Bool
  closingAt   : Nat
  settled     : Bool
  joinCyc     : Option Word
  leaveCyc    : Option Word
  openingAt   : Nat
  wndOut      : Bool          -- the winding is out until the next enable or join (R181, R237)
  hallEdge    : Word          -- electrical angle at the last valid hall edge
  hallEdgeCnt : BitVec 32     -- ENC0 count at that edge
  hallEdgeT   : Nat
  hallLast    : Option (Nat × Nat)  -- number and instant of the last valid hall edge, in OFF too (R167)
  hallMiss    : Nat           -- consecutive hall edges out of tolerance
  held        : Bool          -- the angle is held until the next valid edge or Z (R169)
  heldAngle   : Word
  esReady     : Bool          -- end-stop counts computed (R183)
  esLSoft     : Word
  esLHard     : Word
  esRSoft     : Word
  esRHard     : Word
  periodIdx   : Nat
  prechgLeft  : Nat
  prechg      : Bool
deriving DecidableEq, Repr

/-- DESIGN CHOICE (unsafe), log entry 7. -/
def Sd.reset : Sd :=
  { st := .off, angle := .sector, pisClosed := false, ovWait := false, speedWait := false, vsat := false,
    limited := false, esLeft := .out, esRight := .out, active := 0, lastLeave := 0, missedCmd := 0,
    encFaults := 0, wndFaults := 0, sigIa := 0, sigIb := 0, sigIc := 0, sigId := 0, sigIq := 0,
    sigIdRef := 0, sigIqRef := {}, sigVdc := 0, smpIa := 0, smpIb := 0, smpIc := 0, smpVdc := 0,
    smpTheta := 0, smpOmega := 0, smpPend := false, latchPend := false, cmpA := 0, cmpB := 0, cmpC := 0,
    oldA := 0, oldB := 0, oldC := 0, perAt := none, loadAt := 0, nextA := 0, nextB := 0, nextC := 0, missedRun := 0,
    isumRun := 0, pendEnable := false, withdrawn := false, closingAt := 0, settled := false,
    joinCyc := none, leaveCyc := none, openingAt := 0, wndOut := false, hallEdge := 0, hallEdgeCnt := 0,
    hallEdgeT := 0, hallLast := none, hallMiss := 0, held := false, heldAngle := 0, esReady := false, esLSoft := 0,
    esLHard := 0, esRSoft := 0, esRHard := 0, periodIdx := 0, prechgLeft := 0, prechg := false }

/-- Auxiliary drive states (R205). -/
inductive AdSt | off | idle | catch | brake | align | start | run | coast | fault
deriving DecidableEq, Repr

/-- What an event of R206 changes, as it was before the first such event of a TCLK: the instant, state and counts, the
class entry PMP in the view, and whether lines AD_SYNC and AD_PMP waited for registration. -/
structure AdMark where
  t          : Nat
  st         : AdSt
  since      : Nat
  brakeRound : BitVec 4
  syncFails  : BitVec 8
  keFaults   : BitVec 8
  fails      : List Nat
  lastFault  : BitVec 3
  inView     : Bool
  sync       : Bool
  pmp        : Bool
deriving DecidableEq, Repr

/-- The auxiliary drive (R193 to R218, R224 to R226). sectors holds the last six sector times in TCLK, newest first,
and t60 their mean, in binary32 (R196, R203); tComm is the last commutation, tExp the expected crossing; steps counts
commutations since entry to START or RUN; fresh: RUN waits for its first predicted boundary, at tComm; rampK is the
step of the softening ramp, 0 to S; prevSector: the sector a ramp leaves; pwmAt: the last period start; cmps holds the
compare values of HB3 to HB5, oldCmps those before the load (R165, R199); cmpFrom: since when they apply; edgeAt: the
last switching edge of the modulated leg before that (R202); pendEnable: enabled during a self-test (R249); mark: the
drive before an event of R206 that one of a higher row in the same TCLK takes back. -/
structure Ad where
  st           : AdSt
  runReq       : Bool
  limited      : Bool
  ovWait       : Bool
  catchRes     : BitVec 2
  inputInvalid : Bool
  lastFault    : BitVec 3
  brakeRound   : BitVec 4
  catches      : BitVec 16
  syncFails    : BitVec 8
  keFaults     : BitVec 8
  measSpeed    : BitVec 16
  measKe       : BitVec 16
  curve        : Vector F32 64
  curvePend    : Option (Vector F32 64)
  nRef         : F32
  nObs         : F32
  integ        : F32
  dS           : F32
  dLim         : F32
  duty         : F32
  since        : Nat
  fails        : List Nat        -- the last three failures, newest first (R207)
  sector       : Fin 6
  sectors      : List F32
  t60          : F32
  tComm        : Nat
  steps        : Nat
  fresh        : Bool
  pendEnable   : Bool
  tExp         : Nat
  tZc          : Option Nat
  implausible  : Nat
  plausible    : Nat
  rampK        : Nat
  ramping      : Bool
  prevSector   : Option (Fin 6)
  pwmAt        : Nat
  sigA         : F32
  sigB         : F32
  sigC         : F32
  smpA         : F32
  smpB         : F32
  smpC         : F32
  smpVdc       : F32
  cmps         : Vector Nat 3
  oldCmps      : Vector Nat 3
  edgeAt       : Option Nat
  cmpFrom      : Nat
  mark         : Option AdMark
deriving DecidableEq, Repr

/-- DESIGN CHOICE (unsafe), log entry 7. -/
def Ad.reset : Ad :=
  { st := .off, runReq := false, limited := false, ovWait := false, catchRes := 0, inputInvalid := false,
    lastFault := 0, brakeRound := 0, catches := 0, syncFails := 0, keFaults := 0, measSpeed := 0,
    measKe := 0, curve := Vector.replicate 64 0, curvePend := none, nRef := 0, nObs := 0, integ := 0,
    dS := 0, dLim := 0, duty := 0, since := 0, fails := [], sector := 0, sectors := [],
    t60 := 0, tComm := 0, steps := 0, fresh := false, pendEnable := false, tExp := 0, tZc := none, implausible := 0,
    plausible := 0, rampK := 0, ramping := false, prevSector := none, pwmAt := 0,
    sigA := 0, sigB := 0, sigC := 0, smpA := 0, smpB := 0, smpC := 0, smpVdc := 0, cmps := Vector.replicate 3 0,
    oldCmps := Vector.replicate 3 0, edgeAt := none, cmpFrom := 0, mark := none }

/-- The phase of a leg's soft turn-off (R236). -/
inductive StoSt | none | level | off
deriving DecidableEq, Repr

/-- A half-bridge leg: lanes, gates, drive codes and latches (R228 to R233, R236, R242, R254). hs, ls: the gate
commanded on, which turns on at onAt (R230); offAt, offHs: the last turn-off, and whether it was the high side's;
codeInit: the CODE_INIT taken when the group last left OFF (R252); lastOn: the last turn-on that a turn-off has ended
(R234). -/
structure Leg where
  pulse    : Bool
  enable   : Bool
  hs       : Bool
  ls       : Bool
  onAt     : Nat
  lastOn   : Option Nat
  offAt    : Nat
  offHs    : Bool
  codeInit : BitVec 5
  codeHsOn : BitVec 5
  codeHsOff : BitVec 5
  codeLsOn : BitVec 5
  codeLsOff : BitVec 5
  rise     : BitVec 16
  fall     : BitVec 16
  trip     : Bool              -- the die's latch of R236
  sc       : Bool
  gate     : Bool
  bstBlock : Bool
  bstLow   : Bool
  scTrips  : BitVec 8
  bstUvCnt : BitVec 16
  sto      : StoSt
  stoAt    : Nat
deriving DecidableEq, Repr

/-- DESIGN CHOICE (unsafe), log entry 7. -/
def Leg.reset : Leg :=
  { pulse := false, enable := false, hs := false, ls := false, onAt := 0, lastOn := none, offAt := 0, offHs := false,
    codeInit := 8, codeHsOn := 8, codeHsOff := 8, codeLsOn := 8, codeLsOff := 8, rise := 0,
    fall := 0, trip := false, sc := false, gate := false, bstBlock := false, bstLow := false,
    scTrips := 0, bstUvCnt := 0, sto := .none, stoAt := 0 }

/-- Status of a gate-drive group (R234, R239, R249, R250, R256). -/
structure GdGrp where
  sc2       : Bool
  testDone  : Bool
  testFail  : Bool
  testBusy  : Bool
  failed    : BitVec 8
  interlock : BitVec 8
  tripFlag  : Bool      -- a trip waits for its GDL report (R237)
  sc2Flag   : Bool      -- a double short waits for its GDL report to this group (R239)
deriving DecidableEq, Repr

/-- DESIGN CHOICE (unsafe), log entry 7. -/
def GdGrp.reset : GdGrp :=
  { sc2 := false, testDone := false, testFail := false, testBusy := false, failed := 0,
    interlock := 0, tripFlag := false, sc2Flag := false }

/-- The gate-driver die and the chopper of a channel (R30, R236 to R258). dieCopy is the die's copy of the
parameters of file 07; gdlFails, gdlFailsUp: failed frames in a row to the die and from it; gdlStale: the last frame to
the die failed and has not been repeated (R251). bch is the PULSE of the chopper, bchGate its gate; bchTrip: latched off
by a double short (R239); pisAt: PIS_EN rose; testBchOff: the chopper has been off in the test in progress (R249). -/
structure Gd where
  legs      : Vector Leg 6
  grpS      : GdGrp
  grpA      : GdGrp
  dieCopy   : Words
  gclkHold  : Bool          -- GCLK was absent: off until reconfiguration (R30)
  configured : Bool
  gdlFails  : Nat
  gdlFailsUp : Nat
  gdlStale  : Bool
  vgdLow    : Bool          -- VGD under-voltage latch until the group leaves OFF again
  vgdLowA   : Bool
  gateSupply : Bool         -- gate-drive supply on (R57)
  firstTrip : Option Nat
  dsNext    : Option Nat    -- double-short sequence: next gate of the order 0 to 6 to look at
  dsAt      : Nat
  pisEn     : Bool
  pisOk     : BitVec 3      -- switches closed
  pisLatched : Bool
  pisAt     : Nat
  testBchOff : Bool
  bch       : Bool
  bchGate   : Bool
  bchTrip   : Bool
  bchSto    : StoSt
  bchStoAt  : Nat
  bchOnAt   : Nat
  bchSeenAt : Option Nat
  iSeen     : Bool
  bchFault  : Bool
  asc       : Bool
  ascAt     : Nat
  ascLowAt  : Option Nat    -- x_VLINK below OFF since then
  vlinkAbs  : Bool
  onCnt     : BitVec 16
deriving DecidableEq, Repr

/-- DESIGN CHOICE (unsafe), log entry 7. -/
def Gd.reset : Gd :=
  { legs := Vector.replicate 6 Leg.reset, grpS := GdGrp.reset, grpA := GdGrp.reset, dieCopy := [],
    gclkHold := false, configured := false, gdlFails := 0, gdlFailsUp := 0, gdlStale := false, vgdLow := false,
    vgdLowA := false, gateSupply := true, firstTrip := none, dsNext := none, dsAt := 0, pisEn := false, pisOk := 0,
    pisLatched := false, pisAt := 0, testBchOff := false, bch := false, bchGate := false, bchTrip := false, bchSto := .none, bchStoAt := 0,
    bchOnAt := 0, bchSeenAt := none, iSeen := false, bchFault := false, asc := false,
    ascAt := 0, ascLowAt := none, vlinkAbs := false, onCnt := 0 }

end Sys2Proof.Machine
end

