-- ==== Sys2Proof/Machine/State/Exec.lean ====
section
/-! DEFINITION. State of supply, reset, clocks, execution frames and the fault collector of a channel (spec files 02,
03 and 11). -/

namespace Sys2Proof.Machine

/-- Where a channel stands between reset and operation (R60 to R66, R496, R503, R515). -/
inductive Phase
  | unpowered
  | held          -- in reset, a cause still present
  | xtal          -- analog phase, before XTAL_OK
  | pll           -- analog phase, before PLL lock
  | interconnect  -- cycles 0 to 160,016
  | verify        -- boot verification
  | run           -- core released
  | recovery
  | shelf
  | wakeXtal
  | wakePll
  | wakeRestore
deriving DecidableEq, Repr

/-- Reset causes in the order of RST_CAUSE (R82). -/
inductive Cause | por | supply | rail | pin | watchdog | fault | command | debug
deriving DecidableEq, Repr

/-- A reset that waits for the end of an MRAM write attempt (R61). -/
structure ResetReq where
  cause : Cause
  full  : Bool
  line  : Option (BitVec 6)
  port  : BitVec 2
deriving DecidableEq, Repr

/-- Reset state (R59 to R66, R82, R83, R603). pinLow, supLow: causes that hold the reset; full: the sequence after
release; hold: the hold of R66; belowWarn: VSUP has not risen through the rising VWARN level; aboveOv: while the core
is not released, VSUP stands above VOV (R47); relAt: release of the core; tm: x_TM was high at reset release (R572);
clkHold: the reset of R70 holds until the crystal passes its test and the PLL locks (R71). DESIGN CHOICE (unsafe), log
entry 6. -/
structure Rst where
  phase     : Phase := .run
  pinLow    : Bool := false
  supLow    : Bool := false
  full      : Bool := true
  cause     : BitVec 8 := 1
  line      : BitVec 6 := 0
  lineValid : Bool := false
  cmdPort   : BitVec 2 := 0
  pend      : List ResetReq := []
  hold      : Bool := false
  belowWarn : Bool := false
  aboveOv   : Bool := false
  relAt     : Nat := 0
  strap     : BitVec 2
  tm        : Bool := false
  clkHold   : Bool := false
  lost      : Option (BitVec 2 × BitVec 3) := none   -- SESSION grant ended by the reset, logged at the boot (R484, R530)
deriving DecidableEq, Repr

/-- Clock state (R69, R74, R78). triAt: a start of the FREE triangles. -/
structure Clk where
  pllLock  : Bool := true
  xtalOk   : Bool := true
  spread   : BitVec 2 := 1
  mismatch : Bool := false
  depth    : BitVec 2 := 0
  triAt    : Nat := 0
deriving DecidableEq, Repr

/-- Supply monitor (R47 to R58, R79 to R81). acc: ride accumulator in ROOT periods; lim25: the 25 % limit is in
force; limAt: the warning flag crossed then, limit not yet in force; rideOver: the accumulator has reached 100 ms since
it last cleared (R55); cutOver: the overvoltage cut has lasted 100 ms (R58). -/
structure Sup where
  warn    : Bool := false
  ramp    : Bool := false
  ov      : Bool := false
  iso     : Bool := false
  acc     : Nat := 0
  warnAt  : Nat := 0
  exitAt  : Option Nat := none
  rampAt  : Nat := 0
  ovAt    : Nat := 0
  rideOver : Bool := false
  cutOver : Bool := false
  lim25   : Bool := false
  limAt   : Option Nat := none
  vsupMv  : BitVec 16 := 0
  minMv   : BitVec 16 := 0xFFFF
  warnMin : BitVec 16 := 0xFFFF
  warnCnt : BitVec 16 := 0
  ovCnt   : BitVec 16 := 0
deriving DecidableEq, Repr

/-- Where a frame stands (R86). -/
inductive FramePh | idle | passP | passT | checked | done
deriving DecidableEq, Repr

/-- Channel execution (R84 to R108). frame: number within the cycle; seq: frames since release; held: bus writes of
pass P in the comparator; bank0, bank1: snapshot banks; tSeq, tReads: bus writes and reads of pass T so far; sigP,
sigT: signatures; usedP, usedT: CCLK used by the passes; drain: matched writes on the way to the shadow registers;
last: the bus writes of the last committed frame; stopping: the core stops at the next frame boundary. -/
structure Exe where
  ph        : FramePh := .idle
  frame     : Nat := 0
  seq       : Nat := 0
  startAt   : Nat := 0
  held      : List BusWrite := []
  bank0     : List (Word × Word) := []
  bank1     : List (Word × Word) := []
  bankSel   : Bool := false
  tSeq      : Nat := 0
  tReads    : Nat := 0
  sigP      : Word := 0
  sigT      : Word := 0
  drain     : List BusWrite := []
  last      : List BusWrite := []
  bad       : Bool := false
  stopping  : Bool := false
  stopped   : Bool := false
  mismatch  : Bool := false
  kind      : BitVec 4 := 0
  tBusy     : Bool := false
  selfFail  : Bool := false
  stFrame   : BitVec 6 := 0
  stSeq     : BitVec 9 := 0
  stLoop    : BitVec 5 := 0
  addr      : Word := 0
  dataP     : Word := 0
  dataT     : Word := 0
  peakP     : BitVec 16 := 0
  peakT     : BitVec 16 := 0
  peakW     : BitVec 10 := 0
  peakS     : BitVec 11 := 0
  pubDone   : Bool := false
  wdg       : Nat := 0
  wdgArmed  : Bool := true
  usedP     : Nat := 0
  usedT     : Nat := 0
  noBeat    : Nat := 0     -- frames in a row without a management heartbeat (R523)
  tcm       : List Host.Cell := []
deriving DecidableEq, Repr

/-- A registration of a line for one DETAIL (R360, R607). quietAt: none while ACTIVE. -/
structure Reg where
  line    : Fin 62
  detail  : BitVec 16
  quietAt : Option Nat
deriving DecidableEq, Repr

/-- A history entry (R365, R370). -/
structure Hist where
  line   : BitVec 6
  cls    : BitVec 2
  kind   : BitVec 2
  detail : BitVec 16
  time   : Word
deriving DecidableEq, Repr

/-- The fault collector (R354 to R370). raised: lines asserted by their sources and not yet registered; held: the latch
holds the channel ISOLATED since its boot (R363); hist: newest first, at most 16; newest: index of the newest entry. -/
structure Fcl where
  raised  : List (Fin 62 × BitVec 16) := []
  status  : BitVec 64 := 0
  regs    : List Reg := []
  recov   : BitVec 16 := 0
  stamps  : List Nat := []
  latched : Bool := false
  held    : Bool := false
  first   : Option (BitVec 6) := none
  hist    : List Hist := []
  newest  : BitVec 4 := 0
  overwr  : BitVec 8 := 0
  reraise : BitVec 8 := 0
deriving DecidableEq, Repr

end Sys2Proof.Machine
end

