-- ==== Sys2Proof/Machine/State/Feedback.lean ====
section
/-! DEFINITION. State of the feedback interface of a channel (spec file 08). Stamps are TCLK counts since cycle 0. -/

namespace Sys2Proof.Machine

/-- An encoder (R263 to R270, R286). hist holds the intervals in TCLK, newest first; recov counts good edges since
an illegal transition, while invalid. -/
structure Enc where
  count     : Word := 0
  nZ        : Word := 0
  a         : Bool := false
  b         : Bool := false
  valid     : Bool := true
  indexed   : Bool := false
  dirchg    : Bool := false
  dir       : Bool := true
  illegal   : BitVec 8 := 0
  dirchgCnt : BitVec 16 := 0
  hist      : List Nat := []
  last      : Option Nat := none
  recov     : Nat := 0
  edged     : Bool := false        -- an edge was accepted since reset: dir is that of the last one
  aAt       : Option Nat := none   -- last acceptance on A, on B and of a rising edge on Z
  bAt       : Option Nat := none
  zAt       : Option Nat := none
  speed     : Late := {}
deriving DecidableEq, Repr

/-- A hall group (R267 to R270, R286). prev: the code that the next change is judged against. -/
structure Hall where
  code    : BitVec 3 := 0
  prev    : Option (BitVec 3) := none
  valid   : Bool := false
  dirchg  : Bool := false
  dir     : Bool := true
  seqErr  : BitVec 8 := 0
  invCode : BitVec 8 := 0
  hist    : List Nat := []
  last    : Option Nat := none
  edged   : Bool := false                                       -- as for an encoder
  lineAt  : Vector (Option Nat) 3 := Vector.replicate 3 none    -- last acceptance on each line
  speed   : Late := {}
deriving DecidableEq, Repr

/-- Where a SENT receiver stands in a frame (R272). -/
inductive SentPh | search | nibbles | pause | sync
deriving DecidableEq, Repr

/-- A judged frame waiting for its instant, 40 TCLK after its edge (R272, R273). -/
inductive SentRes
  | good (value : F32) (status : BitVec 4)
  | tick
  | crc
  | chk
deriving DecidableEq, Repr

/-- A SENT input (R271 to R275, R287). sync and prevSync are sync pulse lengths in TCLK; nibs holds the frame's
nibbles so far, newest first; serial holds the status nibbles of good frames of a message, newest first. -/
structure Sent where
  ph       : SentPh := .search
  lastEdge : Option Nat := none
  fellAt   : Option Nat := none   -- last acceptance of a falling edge
  syncLen  : Nat := 0
  nibs     : List (BitVec 4) := []
  judge    : List (Nat × SentRes) := []
  valid    : Bool := false
  value    : F32 := 0
  bad      : Nat := 0
  lastGood : Nat := 0
  crcErr   : BitVec 8 := 0
  tickErr  : BitVec 8 := 0
  chkErr   : BitVec 8 := 0
  smData   : BitVec 16 := 0
  smId     : BitVec 8 := 0
  smType   : Bool := false
  smNew    : Bool := false
  serial   : List (BitVec 4) := []
deriving DecidableEq, Repr

/-- A wheel-speed input (R276 to R278, R288). clean: valid since the window's start; spValid: a full window has
passed while valid. -/
structure Wss where
  valid   : Bool := false
  opn     : Bool := false
  shrt    : Bool := false
  faults  : BitVec 8 := 0
  odo     : Word := 0
  cnt     : Nat := 0
  nextCnt : Nat := 0              -- edges in the TCLK of the boundary to come, which the next window counts (R278)
  roseAt  : Option Nat := none    -- last acceptance of a rising edge
  clean   : Bool := false
  spValid : Bool := false
  speed   : Late := {}
  winAt   : Option Nat := none    -- start of the window in progress (R278)
deriving DecidableEq, Repr

/-- A position compare channel (R281 to R285, R290). -/
structure Cmp where
  armed  : Bool := false
  behind : Bool := false
  fired  : Bool := false
  srcInv : Bool := false
  fires  : BitVec 8 := 0
  firedAt : Option Nat := none  -- the last fire
  setAt   : Option Nat := none  -- when a write last took effect (R283)
  stamp  : Word := 0
deriving DecidableEq, Repr

/-- The feedback interface of a channel. ainSmp: the voltages in µV held since the period start; ainPend: a sample
waits for TCLK 420 (R279). -/
structure Fb where
  enc     : Vector Enc 2 := Vector.replicate 2 {}
  hall    : Vector Hall 2 := Vector.replicate 2 {}
  sent    : Vector Sent 2 := Vector.replicate 2 {}
  wss     : Vector Wss 4 := Vector.replicate 4 {}
  ainSmp  : Vector Nat 8 := Vector.replicate 8 0
  ainPend : Bool := false
  ainVal  : Vector F32 8 := Vector.replicate 8 0
  ainOk   : Vector Bool 8 := Vector.replicate 8 false
  ainLim  : Vector Bool 8 := Vector.replicate 8 false
  cmp     : Vector Cmp 8 := Vector.replicate 8 {}
deriving DecidableEq, Repr

end Sys2Proof.Machine
end

