-- ==== Sys2Proof/Machine/State/Host.lean ====
section
/-! DEFINITION. State of the host ports, sessions and mailboxes of a channel (spec file 14). -/

namespace Sys2Proof.Machine

/-- Session states (R451, R452). -/
inductive SessSt | closed | challenged | opened
deriving DecidableEq, Repr

/-- A session: level 0 OBSERVER to 3 VENDOR, key slot, challenge, and the instants of its last command and of its
challenge. A challenged session whose challenge is empty waits for its signature check. -/
structure Sess where
  st        : SessSt := .closed
  level     : BitVec 2 := 0
  slot      : BitVec 3 := 0
  challenge : List Word := []
  idleAt    : Nat := 0
  chAt      : Nat := 0
deriving DecidableEq, Repr

/-- A mailbox of 16 words with its FULL flag (R460). -/
structure Box where
  words : Vector Word 16 := Vector.replicate 16 0
  full  : Bool := false
deriving DecidableEq, Repr

/-- What a read transaction undoes on REWIND (R435). -/
inductive Undo
  | pop (n : Nat)
  | mbWord (w : BitVec 4)
  | f2hFull (k : Fin 4) (b : Box)
  | inNext (k : Fin 4) (b : Box)
  | inPrev (k : Fin 4) (b : Box)
deriving DecidableEq, Repr

/-- A host port (R430 to R468). cmds waits for the sample of CCLK 0 with each packet's commit instant; sampled is what
the frame in progress took, each with the status of checks 1 to 4 where one fails; replies are published, oldest
first; popped: reply words read but not final; undo: what REWIND would undo, newest first; lastAt: end of the last
transaction; sdo, sdoCrc: what the last read sent; used: packet slots taken; dbSnap and mbSnap: doorbells and H2F
boxes that the frame in progress relays. -/
structure HPort where
  chReset   : Bool := true
  spiErr    : Bool := false
  addrErr   : Bool := false
  mbErr     : Bool := false
  credViol  : Bool := false
  replyIrq  : Bool := true
  epoch     : BitVec 2 := 0
  dbPend    : BitVec 20 := 0
  dbSnap    : BitVec 20 := 0
  mbSnap    : BitVec 4 := 0
  dbF2h     : Word := 0
  dbMask    : Word := 0
  mbSel     : BitVec 5 := 0
  mbWord    : BitVec 4 := 0
  f2hReset  : Bool := false
  cmds      : List (Nat × Packet × Option Byte) := []
  sampled   : List (Packet × Option Byte) := []
  replies   : List Reply := []
  popped    : Nat := 0
  undo      : List Undo := []
  lastAt    : Nat := 0
  sdo       : List Word := []
  sdoCrc    : Byte := 0
  used      : Nat := 0
  violSlot  : Bool := false
  spiCrc    : BitVec 8 := 0
  badCrc    : BitVec 8 := 0
  credCnt   : BitVec 8 := 0
  staleCnt  : BitVec 8 := 0
  sess      : Vector Sess 8 := Vector.ofFn fun k => if k.val = 0 then { st := .opened, level := 1 } else {}
  h2f       : Vector Box 4 := Vector.replicate 4 {}
  f2h       : Vector Box 4 := Vector.replicate 4 {}
deriving DecidableEq, Repr

/-- A delivery toward one partner (R463). box: 0 to 3, or 4 for MB_U; part: the next part to send. -/
structure Deliver where
  box     : Fin 5
  tag     : BitVec 4
  part    : Nat
  tries   : Nat
  firstAt : Nat
  tryAt   : Option Nat
deriving DecidableEq, Repr

/-- The mailbox traffic with one partner channel (R460, R463). out, inc: outgoing and incoming boxes; parts: words
received of a message in arrival with its tag, by box; acks: answers to send, oldest first. -/
structure Peer where
  out       : Vector Box 4 := Vector.replicate 4 {}
  inc       : Vector Box 4 := Vector.replicate 4 {}
  lastTag   : Vector (Option (BitVec 4)) 4 := Vector.replicate 4 none
  parts     : Vector (List (BitVec 4 × Fin 4 × Vector Word 4)) 4 := Vector.replicate 4 []
  acks      : List (Bool × Bool × Fin 4 × BitVec 4) := []
  cur       : Option Deliver := none
  nextTag   : BitVec 4 := 0
  rxReset   : BitVec 4 := 0
  failed    : BitVec 4 := 0
  epoch     : BitVec 8 := 0
  mbuDone   : Bool := false
deriving DecidableEq, Repr

/-- What the host ports share: semaphores, their ownership in the frame's snapshot and the PCLK in which each was taken,
MB_U and LOCK_U with the PCLK of its taking, traffic with
the next and the previous channel, pending work, replies and effects of the frame in progress, and replies to publish
at CCLK 1,240, done: completion replies among them; ring: doorbells that the firmware rings at the next commit. -/
structure Hp where
  ports    : Vector HPort 2 := Vector.replicate 2 {}
  sem      : Vector (Option Port) 16 := Vector.replicate 16 none
  semSnap  : Vector (Option Port) 16 := Vector.replicate 16 none
  semAt    : Vector (Option Nat) 16 := Vector.replicate 16 none
  lockU    : Option Port := none
  lockAt   : Option Nat := none
  mbu      : Box := {}
  toNext   : Peer := {}
  toPrev   : Peer := {}
  work     : List Work := []
  results  : List Reply := []
  effects  : List Effect := []
  publish  : List Reply := []
  done     : List Reply := []
  ring     : Word := 0
  cmdReset : Option (Nat × Port) := none
deriving DecidableEq, Repr

end Sys2Proof.Machine
end

