-- ==== Sys2Proof/Machine/State/Manage.lean ====
section
/-! DEFINITION. State of power states, security, non-volatile memories, management, built-in test and performance
counters of a channel (spec files 15, 16 and 17). -/

namespace Sys2Proof.Machine

/-- An OEM key slot (R470, R473, R474). pub: its 15 words as staged. DESIGN CHOICE (unsafe), log entry 8. -/
structure KeySlot where
  pub        : List Word := []
  programmed : Bool := false
  revoked    : Bool := false
  damaged    : Bool := false
deriving DecidableEq, Repr

/-- A firmware bank (R490, R492, R493). st is the state code; missing: blocks not yet written, ascending; body: the
blocks written, ascending by number. DESIGN CHOICE (unsafe), log entry 8. -/
structure Bank where
  st      : BitVec 3 := 0
  header  : List Word := []
  blocks  : Nat := 0
  missing : List Nat := []
  body    : List (Nat × List Word) := []
deriving DecidableEq, Repr

/-- The TCM image region (R36, R91, R509, R517). shelf: its kind; cells: the plain half; params: the working copies that
it holds; net: NET_START was in force; digest: H of the image as written, in the protected store. -/
structure TcmImage where
  shelf  : Bool
  cells  : List Host.Cell
  params : Words
  net    : Bool
  digest : List Byte
deriving DecidableEq, Repr

/-- What survives a reset: fuses, the protected store and MRAM (R36, R471). cfg holds each slot's chunks, ascending by
number; lcNext: a life-cycle state in force from the next reset; revert: VERSION of a trial that failed, and whether
its bank became REJECTED, until the next boot; ring is the event log newest first; ringHead is the slot of its newest
entry; freezeFrom: SEQ at the last clear of the freeze region (R532); passed: attempts of other work since a command's
attempt became due (R464). DESIGN CHOICE (unsafe), log entry 8. -/
structure Nv where
  lc        : BitVec 3 := 2
  lcCount   : BitVec 16 := 0
  keys      : Vector KeySlot 4 := Vector.replicate 4 {}
  rootOk    : Bool := true
  idKey     : Bool := true
  cert      : Option (List Word × List Word) := none
  rollback  : BitVec 64 := 0
  grant     : Option (BitVec 2 × BitVec 3) := none
  digest    : List Byte := List.replicate 64 0
  bankA     : Bank := { st := 3 }
  bankB     : Bank := {}
  revert    : Option (BitVec 64 × Bool) := none
  lcNext    : Option (BitVec 3) := none
  cfg0      : List (Nat × List Word) := []
  cfg1      : List (Nat × List Word) := []
  cfgActive : Bool := false
  cfgNext   : Bool := false
  curve     : Option (List Word) := none
  comb      : Option (List Word) := none
  loops     : Vector (Option (List Word)) 32 := Vector.replicate 32 none
  latch     : Bool := false
  ring      : List LogEntry := []
  ringHead  : BitVec 11 := 64
  freeze    : List LogEntry := []
  freezeFrom : Word := 0
  seq       : Word := 0
  image     : Option TcmImage := none
  jobs      : List MramJob := []     -- block writes, the first in its attempt (lost at reset, R61)
  busy      : Bool := false          -- an attempt is in progress
  passed    : Nat := 0
deriving DecidableEq, Repr

/-- Event-log buffers (R52, R531, R544). wait: the warning buffer, oldest first; lost: entries lost. -/
structure Log where
  wait    : List LogEntry := []
  lostNow : Nat := 0
  lost    : BitVec 8 := 0
deriving DecidableEq, Repr

/-- The security unit's volatile state (R472, R473, R483, R499 to R502). staged: IMAGE_BLOCK half 0 with its block.
ey, eyData: the last answer on the Eyelet, 0 OK, 1 WAIT, 2 DENIED; halted: the core is halted over it (R482).
DESIGN CHOICE (unsafe), log entry 8. -/
structure Sec where
  level      : BitVec 2 := 0
  scope      : Bool := false
  grantSlot  : BitVec 3 := 0
  challenge  : Option DbgCh := none
  keyBusy    : Option (BitVec 3) := none
  trngBad    : Bool := false
  trngCnt    : Nat := 0
  staged     : Option (Nat × List Word) := none
  booted     : Bool := false                     -- false A, true B
  trial      : Bool := false                     -- running the TRIAL bank, not yet passed
  recovery   : Bool := false
  fwVer      : BitVec 64 := 0
  fwHash     : Vector Word 16 := Vector.replicate 16 0
  cfgHash    : Vector Word 16 := Vector.replicate 16 0
  cfgOk      : Bool := true
  policy     : Bool := false                     -- MODE_POLICY in force (R488)
  ey         : BitVec 2 := 0
  eyData     : Word := 0
  halted     : Bool := false
deriving DecidableEq, Repr

/-- A power entry in progress (R507 to R510, R516). target 1 DOZE, 2 SHELF; published: when the completion was
published; abort: warning has begun since the grant. -/
structure Entry where
  target    : BitVec 2
  port      : Port
  tag       : BitVec 8
  session   : BitVec 4
  frame     : Nat
  at_       : Nat
  published : Option Nat
  abort     : Bool := false
deriving DecidableEq, Repr

/-- Power state of a channel (R503 to R522). netOn: NET_START was in force; legsOn: its Welt supply legs. -/
structure Pwr where
  doze      : Bool := false
  entry     : Option Entry := none
  resumed   : Bool := false
  lastWake  : BitVec 5 := 0
  refuser   : BitVec 4 := 0
  dozes     : BitVec 12 := 0
  shelves   : BitVec 12 := 0
  refused   : BitVec 8 := 0
  writeback : BitVec 10 := 0
  wake      : BitVec 10 := 0
  wakeAt    : Nat := 0
  wakeReq   : List (Port × BitVec 8 × BitVec 4) := []
  waking    : Bool := false
  netOn     : Bool := false
  legsOn    : Bool := true
deriving DecidableEq, Repr

/-- Sensors and built-in test (R525 to R527, R534 to R537, R545). hot: since when sensors 0 to 6 lie above WARN;
tempOn, railOn: the sources of MG_TEMP and MG_RAIL; bist: the test running, with who started it; results: result words
by test; arm: the arming write; deadIn: the feedback inputs that their pin test found failed, ENC, HALL, SENT, WSS and
AIN from bit 0. -/
structure Mg where
  sensors  : Vector F32 22 := Vector.replicate 22 0
  hot      : Vector (Option Nat) 7 := Vector.replicate 7 none
  tempOn   : Bool := false
  railOn   : Bool := false
  bist     : Option (BitVec 8 × Port × BitVec 4) := none
  results  : Words := []
  unusable : BitVec 15 := 0
  deadIn   : BitVec 18 := 0
  arm      : Option (Word × Port × BitVec 4 × Nat) := none
  powerup  : Word := 0
deriving DecidableEq, Repr

/-- A snapshot of the counters (R540). -/
structure Snap where
  cycle : Word
  idx   : Word
  vals  : Vector (BitVec 48) 64
deriving DecidableEq, Repr

/-- Performance counters (R538 to R542, R546). snaps: newest first, at most 64; samples: oldest first. -/
structure Pct where
  cnt      : Vector (BitVec 48) 64 := Vector.replicate 64 0
  en       : BitVec 64 := 0
  chain    : BitVec 64 := 0
  wrap     : BitVec 12 := 0
  full     : Bool := false
  enChange : Bool := false
  snapIdx  : Word := 0
  snaps    : List Snap := []
  samples  : List SampleRec := []
deriving DecidableEq, Repr

end Sys2Proof.Machine
end

