-- ==== Sys2Proof/Machine/State/Net.lean ====
section
/-! DEFINITION. State of the Ollia nodes of a channel (spec files 12 and 13). -/

namespace Sys2Proof.Machine

/-- Ollia port states (R373). -/
inductive PortMode | off | listen | rx | tx
deriving DecidableEq, Repr

/-- An entry of a receive FIFO, and the instant of its write (R386). -/
structure FifoEntry where
  byte : Byte
  k    : Bool
  err  : Bool
  at_  : Nat
deriving DecidableEq, Repr

/-- A valid copy that waits to be judged 16 LCLK after its EOF: the instant, the header, the payload, and the channels
whose voting flow it carries (R330, R392). -/
structure Copy where
  due    : Nat
  hdr    : Vector Byte 8
  words  : List Word
  voters : List Ch
deriving DecidableEq, Repr

/-- An Ollia port (R373, R378, R386 to R399). fifo holds, oldest first, what not both readers have read: the receive
engine has read engAt entries of it and the forwarder fwdAt; frame counts the entries of the frame in reception and
engOn says that the engine reads it (R390); stalled: the engine reads nothing, which is a fault (R389); lost: an entry
of it found FULL (R389); fwdOut: what the forwarder has read of it, lastRead the byte read last, starvedAt its read that
found EMPTY (R388); hdr is the header of the frame in reception, and sofAt the instant of its
SOF; judged: the instant of the forwarder's preamble has passed; fwdTo: the other port sends for this frame; skip:
drop-rest is in force for the frame (R391); copy: the copy that waits to be judged; rxSof, txSof: the stamps of the SOF
received and sent last, in 1/16 LCLK after the own cycle start; rxAt: entry to RX; quietAt: end of the last activity or
transmission; freeAt: the port returns from TX to LISTEN then; closeAt: the instant of the closing symbol of the frame
that the port forwards, and whether it counts ABORT_TX; sentHdr: the header that the forwarder sent last on this port;
sent: header, payload and trailer of the own frame that it began to send last (R379, R380). OFF is not held here:
Channel.olState shows it. -/
structure OlPort where
  st        : PortMode := .listen
  heardAt   : Option Nat := none
  underrun  : Bool := false
  overflow  : Bool := false
  conflict  : Bool := false
  fwdBusy   : BitVec 8 := 0
  hdrErr    : BitVec 8 := 0
  crcErr    : BitVec 8 := 0
  codeErr   : BitVec 8 := 0
  abortRx   : BitVec 8 := 0
  fwd       : BitVec 16 := 0
  abortTx   : BitVec 8 := 0
  accepted  : BitVec 16 := 0
  dup       : BitVec 8 := 0
  old       : BitVec 8 := 0
  fifo      : List FifoEntry := []
  engAt     : Nat := 0
  fwdAt     : Nat := 0
  frame     : Nat := 0
  engOn     : Bool := false
  stalled   : Bool := false
  lost      : Bool := false
  fwdOut    : List Byte := []
  lastRead  : Byte := 0
  starvedAt : Option Nat := none
  hdr       : Option (Vector Byte 8) := none
  sofAt     : Nat := 0
  judged    : Bool := false
  fwdTo     : Bool := false
  skip      : Bool := false
  copy      : Option Copy := none
  rxSof     : Option Int := none
  txSof     : Option Int := none
  rxAt      : Nat := 0
  quietAt   : Nat := 0
  freeAt    : Option Nat := none
  closeAt   : Option (Nat × Bool) := none
  sentHdr   : Option (Vector Byte 8) := none
  sent      : List Byte := []
deriving DecidableEq, Repr

/-- What an own transmission carries (R395, R407, R408, R417). Echoes are held as instants in NetU.echoAt (R409). -/
inductive TxKind
  | waggle
  | ping (target : BitVec 6)
  | coldstart
  | data (flow : Fin 256) (service : Bool)
deriving DecidableEq, Repr

/-- An own transmission in progress: payload, sequence number, the ports it runs on in the order X_UP, X_DN, Y_UP,
Y_DN, its start, its cell, whether it was closed with ABORT, and the payload on network Y, which differs for a waggle
alone (R407). -/
structure Tx where
  kind    : TxKind
  words   : List Word
  seq     : BitVec 16
  ports   : Vector Bool 4
  at_     : Nat
  cell    : Option (Fin 128)
  aborted : Bool
  wordsY  : List Word
deriving DecidableEq, Repr

/-- A flow context (R392 to R395, R406, R429). landX, landY: the landing areas, with the payload of the copy that came
last on each network; content: the committed copy; stBuf: the buffer of state mode; queue: frames of queue mode,
oldest first; hit: a commit in this cycle. -/
structure Flow where
  last      : BitVec 16 := 0
  miss      : BitVec 2 := 0
  stale     : Bool := false
  committed : Bool := false
  skipped   : BitVec 8 := 0
  frames    : BitVec 16 := 0
  staleCnt  : BitVec 8 := 0
  landX     : List Word := []
  landY     : List Word := []
  content   : List Word := []
  stBuf     : Option (List Word) := none
  queue     : List (List Word) := []
  hit       : Bool := false
  passed    : Bool := false   -- its queued frame has been skipped (R508)
deriving DecidableEq, Repr

/-- Time-unit states (R414). -/
inductive NtSt | down | listen | cold | coarse | sync | reference | mismatch
deriving DecidableEq, Repr

/-- What the time unit holds of one network (R407 to R411, R416, R420). delay and src: the measured path delay and the
reference to which it refers; est: the estimate of R416 in 1/16 LCLK; e: the offset measured in this cycle, in 1/160
TCLK; shown: what shows the network good has come in this cycle, since counts the cycles since then and run the
consecutive cycles with it; withheld counts cycles since a transmission was withheld from both ports; reply: word 3 of
the next waggle. -/
structure NtNet where
  held     : Bool := false
  dv       : Bool := false
  delay    : BitVec 26 := 0
  est      : Nat := 0
  src      : BitVec 6 := 0
  e        : Option Int := none
  shown    : Bool := false
  since    : Nat := 8
  run      : Nat := 0
  withheld : Nat := 8
  reply    : Word := 0
deriving DecidableEq, Repr

/-- The time unit (R400 to R426). rate and frac are in 1/160 TCLK. cycStart is the ROOT count of the present cycle's
start and cycLen its length without correction, adj the delta of the cycle before it in TCLK; gapTo: the adopted cycle
start to which a gap leads; perBase, perTill: until the first mark after a gap, claim and CCL periods count from
perBase on, and perTill is that mark; markAt: the last mark; wag: a valid waggle in this cycle; noWag counts cycles
without one; goodE counts cycles with a small offset and pegged cycles with the rate held at its limit; slew: an offset
is worked off, and slewUp says that it was late when last known; adopt: the count that the cycle start after adoptIn
more takes; dataAge counts cycles since a DATA copy was committed; called: the node sent the waggle of this cycle;
coldAt: preamble start of the COLDSTART that waits for cycle 0; backoffAt: end of the activity after a collision;
guardAt: the cycle start that guardian time assumes; pingAt: address of the last ping and the stamp of its SOF in
1/16 LCLK. -/
structure Nt where
  st         : NtSt := .down
  x          : NtNet := {}
  y          : NtNet := {}
  holdover   : Bool := false
  cause      : BitVec 2 := 0
  refAddr    : BitVec 6 := 0
  offset     : BitVec 8 := 0
  cycle      : Word := 0
  cycStart   : Nat := 0
  cycLen     : Nat := 500000
  gapTo      : Option Nat := none
  perBase    : Nat := 0
  perTill    : Option Nat := none
  markAt     : Option Nat := none
  adj        : Int := 0
  rate       : Int := 0
  frac       : Int := 0
  wag        : Bool := false
  goodE      : Nat := 0
  pegged     : Nat := 0
  slew       : Bool := false
  slewUp     : Bool := false
  noWag      : Nat := 0
  listenAt   : Nat := 0
  adopt      : Option Word := none
  adoptIn    : Nat := 0
  dataAge    : Nat := 8
  called     : Bool := false
  coldAt     : Option Nat := none
  backoffAt  : Option Nat := none
  collisions : Nat := 0
  noCold     : Bool := false
  guardEv    : Nat := 0
  guardAt    : Nat := 0
  pingAt     : Option (BitVec 6 × Nat) := none
deriving DecidableEq, Repr

/-- The Ollia nodes of a channel: ports X_UP, X_DN, Y_UP, Y_DN, time unit, Comb and flow contexts. comb and cells are
those in force since NET_START; loaded is the Comb that the next NET_START takes; staging is the COMB_LOAD sequence
being received (R459); live: the receive flows that the snapshot of the frame shows as committed and not STALE (R88);
echoAt: preamble start of the echo to come on X and Y. -/
structure NetU where
  ports      : Vector OlPort 4 := Vector.replicate 4 {}
  creditViol : BitVec 8 := 0
  txBusy     : BitVec 8 := 0
  collision  : BitVec 8 := 0
  live       : List (Fin 256) := []
  tx         : Option Tx := none
  echoAt     : Vector (Option Nat) 2 := Vector.replicate 2 none
  nt         : Nt := {}
  skippedCnt : BitVec 8 := 0
  cutCnt     : BitVec 8 := 0
  guardCut   : BitVec 8 := 0
  reinteg    : BitVec 8 := 0
  comb       : List Word := []
  loaded     : Option (List Word) := none
  staging    : Option (List Word) := none
  flows      : Vector Flow 256 := Vector.replicate 256 {}
deriving DecidableEq, Repr

end Sys2Proof.Machine
end

