-- ==== Sys2Proof/Machine/State/Redund.lean ====
section
/-! DEFINITION. State of the redundancy unit and of the Welt interface of a channel (spec files 09 and 10). -/

namespace Sys2Proof.Machine

/-- Roles (R326). -/
inductive Role | offline | resync | standby | lead | isolated
deriving DecidableEq, Repr

/-- An announcement waiting to be made (R605). -/
inductive AnnReq
  | join
  | leave (n : Nat)
  | handover
  | level (l : BitVec 3)
deriving DecidableEq, Repr

/-- A hand-over whose mark has come (R302, R337, R338): its ROOT instant, the incoming and the outgoing channel,
and the Welts that have accepted the incoming lead's claim. -/
structure Handover where
  at_  : Nat
  inc  : Ch
  out  : Ch
  seen : BitVec 2 := 0
deriving DecidableEq, Repr

/-- The SAFE_STOP course (R346). heldAt: entry to HELD from it. -/
structure SafeStop where
  integ  : F32
  heldAt : Option Nat
  zeroed : Bool
deriving DecidableEq, Repr

/-- What a channel knows of a partner (R31, R32, R329 to R333, R341, R342). latest: its newest voting block on any CCL
path; latched: its first block of the present cycle; hears: the channels it reports heard on a direct link within this
cycle; supLast: SUP_LOW of its last block on any path, CCL or network; netAt: last block heard on a network; goodAt:
last good frame on the direct link; heardAt: last block on any CCL path; leadReq: the REQ fields of its last block as
lead (R336); judgeAt: direct link judged from then;
failed: direct link failed; seenRole: role in its newest block at the last mark; outSeq and sent: the last frame sent
to it; relay: a block to relay to it in the next period; restRecs, restSegs: relayed records and segments that found
no room; relayed: the last block relayed to it. -/
structure Partner where
  latest  : Option Vote := none
  latched : Option Vote := none
  hears   : BitVec 3 := 0
  supLast : Bool := false
  netAt   : Option Nat := none
  goodAt  : Option Nat := none
  heardAt : Option Nat := none
  leadReq : Option (BitVec 3 × BitVec 3) := none
  judgeAt : Option Nat := none
  failed  : Bool := false
  seenRole : BitVec 3 := 0
  outSeq  : BitVec 16 := 0
  sent    : Option CclFrame := none
  relay   : Option CclBlock := none
  restRecs : List TrackRec := []
  restSegs : List MbSeg := []
  relayed : Option CclBlock := none
deriving DecidableEq, Repr

/-- The redundancy unit (R326 to R353). view: own fault view; faults: module fault set; absent: since when a bit's
condition has been absent; resyncSeen: CH or SUP bits to clear at the next mark; recs: tracking records waiting for a
frame; chunkPos: the next learning bin to send; health: start of the health window; healthBad: it has failed;
healthOk: it has passed; passCyc: cycle of the mark at which it left RESYNC; silent: Welts judged silent at the last
mark (R341); markCyc: cycle count of the last mark; comp: level computed there (R345); rejoined: windings that have
joined since WND of their channel entered the set (R175, R333); claimAt, cclAt: starts of the last claim and CCL
period; speeds: mean speeds formed at 4 kHz period starts, newest first, at most 401 (R346); laneCh: the own CH rests on
a lane fault alone (R342). -/
structure Rd where
  role       : Role := .offline
  level      : BitVec 3 := 4
  faults     : Word := 0
  view       : Word := 0
  absent     : Vector (Option Nat) 24 := Vector.replicate 24 none
  active     : BitVec 3 := 0
  rejoined   : BitVec 3 := 0
  leadCh     : Option Ch := none
  ann        : Option Ann := none
  annQ       : List AnnReq := []
  rotAt      : Nat := 0
  rotExp     : Bool := false
  swaps      : BitVec 16 := 0
  promos     : BitVec 8 := 0
  resyncs    : BitVec 8 := 0
  a          : Partner := {}
  b          : Partner := {}
  c          : Partner := {}
  ownLatched : Option Vote := none
  angle      : F32 := 0
  angleOk    : Bool := false
  sigA       : F32 := 0
  sigB       : F32 := 0
  sigC       : F32 := 0
  okA        : Bool := false
  okB        : Bool := false
  okC        : Bool := false
  angInv     : Nat := 0
  angTol     : Nat := 0
  xref       : Option (Ch × F32 × Word) := none
  xfail      : Option Ch := none
  markCyc    : Word := 0
  comp       : BitVec 3 := 4
  recs       : List TrackRec := []
  chunkPos   : Nat := 0
  resyncCyc  : Word := 0
  health     : Option Nat := none
  healthBad  : Bool := false
  healthOk   : Bool := false
  passCyc    : Option Word := none
  silent     : BitVec 2 := 0
  stop       : Option SafeStop := none
  still      : Option Nat := none
  ho         : Option Handover := none
  demote     : Bool := false
  cclIdx     : BitVec 8 := 0
  claimAt    : Option Nat := none
  cclAt      : Option Nat := none
  speeds     : List (Option F32) := []
  laneCh     : Bool := false
deriving DecidableEq, Repr

/-- A channel's lane pair with one Welt (R294, R317, R319, R321, R325, R341). lastGood: last good status word's
instant, or release of the core; silentAt: since when the lane is silent; kAt: the last change of the claim sent, from
which status periods are counted; lowIdx, highIdx: the last of them with a good word whose ACC_CLAIM lay below the
claim, or did not; silent: WI_LANE
asserted for silence; fault: claim-lane fault held until reset; dem: SO0, SO1 and PKR release as demanded by the
firmware. -/
structure Wi where
  stat     : Option StatusWord := none
  bad      : BitVec 8 := 0
  missed   : BitVec 8 := 0
  refused  : BitVec 8 := 0
  lastGood : Nat := 0
  seq      : BitVec 8 := 0
  setIdx   : Nat := 0
  rstLeft  : Nat := 0
  claim    : BitVec 8 := 0
  kAt      : Nat := 0
  lowIdx   : Option Nat := none
  highIdx  : Option Nat := none
  silent   : Bool := false
  silentAt : Nat := 0
  fault    : Bool := false
  sent     : Option ClaimWord := none
  dem      : BitVec 3 := 0
  pkrOffAt : Option Nat := none   -- the last good status word that showed the PKR half off (R506)
deriving DecidableEq, Repr

end Sys2Proof.Machine
end

