-- ==== Sys2Proof/Machine/State/Welt.lean ====
section
/-! DEFINITION. State of a Welt die (spec file 09). Times are WCLK counts. -/

namespace Sys2Proof.Machine

/-- Welt states (R313). -/
inductive WSt | init | start | run | lockout
deriving DecidableEq, Repr

/-- Causes of R315. -/
inductive WCause | discrepancy | crossCircuit | soFault | vload | clock | internal | pkrFault | spClamp
deriving DecidableEq, Repr

/-- Guard pair states (R310). -/
inductive PairSt | closed | open_ | transit | disabled
deriving DecidableEq, Repr

/-- A claim lane at a Welt (R297 to R300, R315, R316). word: the most recent good word; fresh: a valid claim since
freshAt; badPeriods: consecutive claim periods outside 380 to 420 WCLK; sight: first sighting of RST_REQ while WRST
is high. -/
structure Lane where
  word       : Option ClaimWord := none
  claim      : BitVec 8 := 0
  fresh      : Bool := false
  freshAt    : Nat := 0
  lastMark   : Option Nat := none
  badPeriods : Nat := 0
  invalid    : Nat := 0
  sight      : Option Nat := none
deriving DecidableEq, Repr

/-- A guard pair (R309 to R311, R314). at_: entry to TRANSIT; fromClosed, fromOpen: TRANSIT was entered from CLOSED or
from OPEN; passed: the start-up test; disc: its discrepancy stands among the causes. At power-up both inputs of a pair
in equivalent mode are in the open state. -/
structure Pair where
  st       : PairSt := .open_
  at_      : Nat := 0
  fromClosed : Bool := false
  fromOpen : Bool := false
  passed   : Bool := false
  disc     : Bool := false
deriving DecidableEq, Repr

/-- A solenoid output (R305, R306). -/
structure Sol where
  on      : Bool := false
  onCount : Nat := 0
  perAt   : Nat := 0
  ma      : BitVec 12 := 0
  fault   : Bool := false
  openAt  : Option Nat := none
deriving DecidableEq, Repr

/-- A Welt (R292 to R325). Lanes are those from A, B and C. accepted: the lane of the accepted claim; apply: an
application scheduled for an instant, with the lane it comes from (saddr 0: its setting is not taken); sp0 to so1Req:
setpoints and requests in force; orphan: since when; causes: active causes, ascending by code; cause: first after
entry to LOCKOUT; note: latest that does not lock out; causeAt: the last instant at which one other than CLOCK and
INTERNAL arose, 0x8 and 0x9 among them; news, newsAt: the lockout causes that arose in the WCLK newsAt; lockedAt:
entry to LOCKOUT by a cause; upAt: power-up; pkrArm: after an orphan drop, 0 has been applied; held: class-S settings
waiting; siAt: the last accepted level of each input; tpLow0, tpLow1: a test pulse is in progress; tpAt0, tpAt1: the
start of the last one; tpGood: consecutive good test pulses; soBad: a fault of an SO stands; soAt: when one last
stood; initAt: entry to INIT; resetAt: when a deliberate reset that was granted takes effect; resetBad: a cause arose
in the WCLK of its edge. DESIGN CHOICE (unsafe), log entry 6. -/
structure Welt where
  powered  : Bool := true
  st       : WSt := .init
  lanes    : Vector Lane 3 := Vector.replicate 3 {}
  accepted : Option (Fin 3) := none
  apply    : List (Nat × Fin 3 × ClaimWord) := []
  sp0      : BitVec 12 := 0
  sp1      : BitVec 12 := 0
  so0Req   : Bool := false
  so1Req   : Bool := false
  pkrReq   : Bool := false
  accSeq   : BitVec 8 := 0
  orphan   : Option Nat := some 0
  orphSet  : Bool := true
  pkrDrop  : Bool := false
  pkrArm   : Bool := false
  multi    : Bool := false
  causes   : List WCause := []
  cause    : Option WCause := none
  note     : Option WCause := none
  causeAt  : Option Nat := none
  news     : List WCause := []
  newsAt   : Nat := 0
  lockedAt : Option Nat := none
  upAt     : Nat := 0
  set1     : BitVec 16 := 0x2D
  set2     : BitVec 16 := 3
  set3     : BitVec 16 := 0x64
  set4     : BitVec 16 := 0x3232
  set5     : BitVec 16 := 0xF
  set6     : BitVec 16 := 0
  set7     : BitVec 16 := 0
  set8     : BitVec 16 := 0x1414
  set9     : BitVec 16 := 0x264
  held     : List (Nat × BitVec 16) := []
  sol0     : Sol := {}
  sol1     : Sol := {}
  clamp    : Bool := false
  dither   : Bool := true
  pkr      : Bool := false
  pkrFault : Bool := false
  si       : BitVec 4 := 0
  siAt     : Vector (Option Nat) 4 := Vector.replicate 4 none
  pair0    : Pair := {}
  pair1    : Pair := {}
  tp0      : Bool := true
  tp1      : Bool := true
  tpLow0   : Bool := false
  tpLow1   : Bool := false
  tpAt0    : Option Nat := none
  tpAt1    : Option Nat := none
  tpSnap0  : BitVec 4 := 0
  tpSnap1  : BitVec 4 := 0
  tpGood   : Nat := 0
  soBad    : Vector Bool 2 := Vector.replicate 2 false
  soAt     : Nat := 0
  ditherAt : Nat := 0
  initAt   : Nat := 0
  so0      : Bool := false
  so1      : Bool := false
  wstat    : Bool := false            -- WSTAT low
  wrst     : Bool := false
  wrstAt   : Nat := 0
  resetAt  : Option Nat := none
  resetBad : Bool := false
  rstr     : BitVec 4 := 0
  vload    : Bool := true             -- load supply within range
  sent     : Option StatusWord := none
deriving DecidableEq, Repr

end Sys2Proof.Machine
end

