-- ==== Sys2Proof/Machine/State.lean ====
section
/-! DEFINITION. The state of the SP9430: three channels, two Welts, the commands that wait, and the model's own
counter of free values; the reasons a step can stop; and the state right after reset. -/

namespace Sys2Proof.Machine

/-- A channel island's channel. params: the working copy of every parameter written since reset (R91); act: the
values in force where an apply point has not yet passed (R15); both list only values that differ from the reset
value of their map. img: the persisted parameters as the active configuration image holds them (R16), in the same
form. nv survives resets. -/
structure Channel where
  rst    : Rst
  clk    : Clk
  sup    : Sup
  exe    : Exe
  ce     : Ce
  sd     : Sd
  ad     : Ad
  gd     : Gd
  fb     : Fb
  wi1    : Wi
  wi2    : Wi
  rd     : Rd
  fcl    : Fcl
  net    : NetU
  hp     : Hp
  sec    : Sec
  pwr    : Pwr
  mg     : Mg
  log    : Log
  pct    : Pct
  params : Words
  act    : Words
  img    : Words
  nv     : Nv
deriving DecidableEq, Repr

/-- The module's state. pending: the commands that wait, first in, first out. freeCtr: the model's own counter, read
and advanced where a command leaves a value open (Config.freeWord); no register of the hardware. -/
structure State where
  chA     : Channel
  chB     : Channel
  chC     : Channel
  w1      : Welt
  w2      : Welt
  pending : List Instr
  freeCtr : Nat
deriving DecidableEq, Repr

/-- Why a command stops with a fault. -/
inductive Fault
  /-- No command raises it: the spec names no access of the block to a place that does not exist. Safe. -/
  | noSuchPlace
deriving DecidableEq, Repr

/-- Why a command has no meaning. -/
inductive Refusal
  /-- Raised by Dispatch for a command that the model rejects by its mnemonic. Safe: no next state. -/
  | notModelled (mnemonic : String)
deriving DecidableEq, Repr

/-- A channel at the instant its core is released after a power-on reset (R60, R66, R82).
DESIGN CHOICE (unsafe), log entry 6. DESIGN CHOICE (unsafe), log entry 8. DEDUCED (safe), log entry 10. DESIGN CHOICE
(safe), log entry 11. -/
def Channel.reset (ch : Ch) : Channel :=
  { rst := { strap := ch.code }, clk := {}, sup := {}, exe := {}, ce := Ce.reset, sd := Sd.reset,
    ad := Ad.reset, gd := { Gd.reset with configured := true }, fb := {}, wi1 := {}, wi2 := {}, rd := {},
    fcl := {}, net := {}, hp := {}, sec := {}, pwr := {}, mg := { powerup := 0x201 }, log := {}, pct := {}, params := [],
    act := [], img := [], nv := {} }

/-- The module right after reset: every channel's core just released, both Welts just powered up, nothing waiting.
DESIGN CHOICE (unsafe), log entry 6. -/
def State.reset : State :=
  { chA := Channel.reset .a, chB := Channel.reset .b, chC := Channel.reset .c, w1 := {}, w2 := {},
    pending := [], freeCtr := 0 }

end Sys2Proof.Machine
end

