-- ==== Sys2Proof/Machine/Ops.lean ====
section
/-! DEFINITION. The named operations that the commands share: reaching a channel or a Welt, parameters, time, error
lines, counters, the event log and MRAM writes. Times are ROOT counts unless a name says TCLK. -/

namespace Sys2Proof.Machine

/-- An answer of one command: always a next state. -/
abbrev Out := Host.Outcome State Fault Refusal

def State.ch (s : State) : Ch → Channel
  | .a => s.chA
  | .b => s.chB
  | .c => s.chC

def State.setCh (s : State) (ch : Ch) (x : Channel) : State :=
  match ch with
  | .a => { s with chA := x }
  | .b => { s with chB := x }
  | .c => { s with chC := x }

def State.welt (s : State) : Wid → Welt
  | .w1 => s.w1
  | .w2 => s.w2

def State.setWelt (s : State) (w : Wid) (x : Welt) : State :=
  match w with
  | .w1 => { s with w1 := x }
  | .w2 => { s with w2 := x }

/-- What a command does to one channel; nothing else changes. -/
def onCh (ch : Ch) (s : State) (f : Channel → Channel) : Out := .next (s.setCh ch (f (s.ch ch)))

/-- VSUP is below its levels, or the channel has switched its Welt supply legs off (R24, R503, R505).
DEDUCED (safe), log entry 132. -/
def Channel.legDown (c : Channel) : Bool := c.rst.phase == .unpowered || c.rst.supLow || !c.pwr.legsOn
/-- The supply input is within its operating range: no warning and no overvoltage holds (R24, R47).
DEDUCED (safe), log entry 132. -/
def Channel.legUp (c : Channel) : Bool :=
  !c.legDown && !c.sup.warn && !c.rst.belowWarn && !c.sup.ov && !c.rst.aboveOv
/-- One of the two channels that supply a Welt has a property: A or B for W1, B or C for W2 (R23).
DEDUCED (safe), log entry 132. -/
def State.feeds (s : State) (w : Wid) (p : Channel → Bool) : Bool :=
  match w with
  | .w1 => p s.chA || p s.chB
  | .w2 => p s.chB || p s.chC
/-- A Welt has a supply leg that is not down (R24). DEDUCED (safe), log entry 132. -/
def State.fed (s : State) (w : Wid) : Bool := s.feeds w fun c => !c.legDown

/-- A Welt without supply: every output is off (R24). DESIGN CHOICE (unsafe), log entry 67. -/
def Welt.lost (w : Welt) : Welt := if w.powered then { powered := false, tp0 := false, tp1 := false, vload := w.vload } else w

/-- Every Welt whose two supply legs are down loses its state (R24, R505). -/
def State.feed (s : State) : State :=
  let s := if s.fed .w1 then s else s.setWelt .w1 s.w1.lost
  if s.fed .w2 then s else s.setWelt .w2 s.w2.lost

/-- What a command that may take supply legs down does to one channel; Welts that lose both legs follow (R24). -/
def onLegs (ch : Ch) (s : State) (f : Channel → Channel) : Out := .next (s.setCh ch (f (s.ch ch))).feed

/-- What a command does to one Welt. -/
def onWelt (w : Wid) (s : State) (f : Welt → Welt) : Out := .next (s.setWelt w (f (s.welt w)))

/-- f where the condition holds, else nothing. -/
def when (b : Bool) (f : Channel → Channel) (c : Channel) : Channel := if b then f c else c

/-- DESIGN CHOICE (safe), log entry 11. -/
def Channel.id (c : Channel) : Ch := if c.rst.strap == 1 then .a else if c.rst.strap == 2 then .b else .c

/-- Durations in ROOT periods (R67). DESIGN CHOICE (safe), log entry 1. -/
def tclk (n : Nat) : Nat := 5 * n
/-- DESIGN CHOICE (safe), log entry 1. -/
def eclk (n : Nat) : Nat := 4 * n
/-- DESIGN CHOICE (safe), log entry 1. -/
def lclk (n : Nat) : Nat := 8 * n
/-- DESIGN CHOICE (safe), log entry 1. -/
def usec (n : Nat) : Nat := 1000 * n
/-- DESIGN CHOICE (safe), log entry 1. -/
def msec (n : Nat) : Nat := 1000000 * n

/-- The working copy of a parameter (R91). -/
def Channel.getW (c : Channel) (id : Nat) : Word := lookupD c.params id (resetOf id)
/-- The value of a parameter in force (R15). -/
def Channel.getA (c : Channel) (id : Nat) : Word := lookupD c.act id (resetOf id)
def Channel.putW (c : Channel) (id : Nat) (v : Word) : Channel :=
  { c with params := storeD c.params id v (resetOf id) }
def Channel.putA (c : Channel) (id : Nat) (v : Word) : Channel :=
  { c with act := storeD c.act id v (resetOf id) }
/-- A field of the value in force. -/
def Channel.af (c : Channel) (id lo w : Nat) : Nat := fld (c.getA id) lo w
def Channel.wf (c : Channel) (id lo w : Nat) : Nat := fld (c.getW id) lo w

/-- The RESTART parameters with IDs in a to b take their working copy: the engine that owns them starts (R15). -/
def Channel.applyRange (c : Channel) (a b : Nat) : Channel :=
  let inside (p : Nat × Word) : Bool :=
    decide (a ≤ p.1) && decide (p.1 ≤ b) &&
      (match pdef p.1 with
       | some d => d.apply == .restart
       | none => false)
  let kept := c.act.filter fun p => !inside p
  { c with act := (c.params.filter inside).foldl (fun m p => storeD m p.1 p.2 (resetOf p.1)) kept }

/-- Every MARK parameter takes its working copy (R15). -/
def Channel.applyMarks (c : Channel) : Channel :=
  let isMark (p : Nat × Word) : Bool :=
    match pdef p.1 with
    | some d => d.apply == .mark
    | none => false
  let kept := c.act.filter fun p => !isMark p
  { c with act := (c.params.filter isMark).foldl (fun m p => storeD m p.1 p.2 (resetOf p.1)) kept }

/-- The core has been released and the channel is not in reset (R66). -/
def Channel.released (c : Channel) : Bool := c.rst.phase == .run
/-- The core runs: released, not stopped by a mismatch or an ISOLATE reaction, not in DOZE. -/
def Channel.running (c : Channel) : Bool := c.released && !c.exe.stopped && !c.pwr.doze
/-- The channel die has its clocks and is not held in reset. -/
def Channel.alive (c : Channel) : Bool := c.rst.phase == .run || c.rst.phase == .recovery

/-- MRAM writes are deferred (R52, R66). -/
def Channel.deferring (c : Channel) : Bool := c.sup.warn || c.rst.hold

/-- Length of the network cycle in TCLK as configured and in force (R400). -/
def Channel.cycleTclk (c : Channel) : Nat := 40 * cycleMt (c.getA 0x1040)
/-- TCLK since the cycle start. -/
def Channel.pos (c : Channel) (t : Nat) : Nat := (t - c.net.nt.cycStart) / 5
/-- NT32 (R402). -/
def Channel.nt32 (c : Channel) (t : Nat) : Word := put 19 (c.net.nt.cycle.toNat % 8192) ||| put 0 (c.pos t % 2 ^ 19)

def roleCode : Role → BitVec 3
  | .offline => 0
  | .resync => 1
  | .standby => 2
  | .lead => 3
  | .isolated => 4

/-- An error line asserted by its source: it waits for registration (R355). DESIGN CHOICE (safe), log entry 83. -/
def Channel.raise (c : Channel) (line : Fin 62) (detail : BitVec 16 := 0) : Channel :=
  if c.fcl.raised.contains (line, detail) then c
  else { c with fcl := { c.fcl with raised := c.fcl.raised ++ [(line, detail)] } }

/-- First counter and length of each block of R538. -/
def pctBase : Nat → Nat × Nat
  | 0 => (0, 8)
  | 1 => (8, 4)
  | 2 => (12, 8)
  | 3 => (20, 4)
  | 4 => (24, 4)
  | 5 => (28, 4)
  | 6 => (32, 4)
  | 7 => (36, 8)
  | 8 => (44, 8)
  | 9 => (52, 4)
  | 10 => (56, 4)
  | 11 => (60, 4)
  | _ => (64, 0)

/-- n counts on counter k, with carries into chained counters; fuel bounds the chain (R539). -/
def pctCount (blk : Nat) : Nat → Nat → Nat → Pct → Pct
  | 0, _, _, p => p
  | fuel + 1, k, n, p =>
    if h : k < 64 then
      if n = 0 || !p.en.getLsbD k then p
      else
        let v := (p.cnt[k]).toNat + n
        let p := { p with cnt := p.cnt.set k (BitVec.ofNat 48 v) }
        if v < 2 ^ 48 then p
        else if p.chain.getLsbD k then pctCount blk fuel (k + 1) (v / 2 ^ 48) p
        else { p with wrap := setBit p.wrap blk true }
    else p

/-- n events on counter i of block b: a counter fed by a chained one does not count its own event (R538, R539). -/
def Channel.bump (c : Channel) (b i : Nat) (n : Nat := 1) : Channel :=
  let (base, len) := pctBase b
  let k := base + i
  if i > 0 && c.pct.chain.getLsbD (k - 1) then c
  else { c with pct := pctCount b len k n c.pct }

/-- The class of a line (R354): 0 INFO, 1 RECOVERABLE, 2 CHANNEL_FATAL, 3 MODULE_SAFETY. -/
def lineClass (l : Nat) : BitVec 2 :=
  if l ∈ [0, 1, 2, 3, 5, 6, 7, 12, 14, 17, 23, 30, 31, 32, 47, 48, 56, 61] then 2
  else if l ∈ [41, 42, 44, 45, 46] then 3
  else if l ∈ [8, 15, 16, 19, 21, 22, 24, 25, 26, 27, 33, 34, 35, 38, 43, 49, 54] then 1
  else 0

/-- The block write whose attempt comes next stands first: the oldest, or that of the oldest command once 7 attempts of
other work have gone ahead of it (R464). DEDUCED (unsafe), log entry 152. -/
def pickJob (passed : Nat) (js : List MramJob) : List MramJob :=
  if passed < 7 then js
  else match js.find? fun j => j.work.isSome with
    | some j => j :: js.eraseP fun j => j.work.isSome
    | none => js

/-- An MRAM block write joins the writer's queue (R464). -/
def Channel.mram (c : Channel) (d : MramData) (w : Option Work := none) : Channel :=
  { c with nv := { c.nv with jobs := c.nv.jobs ++ [⟨d, 0, w⟩], busy := c.nv.busy || !c.deferring } }

/-- A built-in test runs on the channel (R534). DEDUCED (unsafe), log entry 152. -/
def Channel.testRuns (c : Channel) (test : BitVec 8) : Bool :=
  match c.mg.bist with
  | some (k, _, _) => k == test
  | none => false
/-- The links of the channel are out of service: its interconnect test runs (R534). DEDUCED (unsafe), log entry 152. -/
def Channel.linksOut (c : Channel) : Bool := c.testRuns 1

/-- An event-log entry is created (R528 to R531): held in warning, else queued for MRAM. -/
def Channel.logEv (c : Channel) (t : Nat) (source code : Nat) (d : List Word) : Channel :=
  let flags := b2n c.deferring * 128 + (roleCode c.rd.role).toNat * 8 + c.rd.level.toNat
  let e : LogEntry :=
    { seq := c.nv.seq + 1, time := c.nt32 t, cycle := c.net.nt.cycle,
      head := put 24 source ||| put 16 code ||| put 8 flags, d0 := d.getD 0 0, d1 := d.getD 1 0,
      d2 := d.getD 2 0, d3 := d.getD 3 0 }
  let c := { c with nv := { c.nv with seq := c.nv.seq + 1 } }
  if c.deferring then
    if c.log.wait.length < 32 then ({ c with log := { c.log with wait := c.log.wait ++ [e] } }.bump 11 2).bump 11 3
    else { c with log := { c.log with lostNow := c.log.lostNow + 1, lost := satInc c.log.lost } }
  else (c.mram (.log e)).bump 11 2

/-- A role change at a mark or by a reaction, logged (R530). -/
def Channel.setRole (c : Channel) (t : Nat) (r : Role) : Channel :=
  if c.rd.role = r then c
  else
    let old := roleCode c.rd.role
    { c with rd := { c.rd with role := r } }.logEv t 8 1 [put 24 old.toNat ||| put 16 (roleCode r).toNat]

/-- A module level change, logged (R530). -/
def Channel.setLevel (c : Channel) (t : Nat) (l : BitVec 3) : Channel :=
  if c.rd.level = l then c
  else
    let old := c.rd.level
    { c with rd := { c.rd with level := l } }.logEv t 8 2 [put 24 old.toNat ||| put 16 l.toNat]

/-- The value a late signal shows at an instant (R268, R273, R278). -/
def lateAt (x : Late) (t : Nat) : F32 := x.next.foldl (fun v p => if p.1 ≤ t then p.2 else v) x.cur

/-- The values still to come after an instant. -/
def Late.rest (x : Late) (t : Nat) : List (Nat × F32) := x.next.filter fun p => decide (t < p.1)

/-- A new value, shown from an instant on; those that come before it stay. -/
def lateSet (x : Late) (t due : Nat) (v : F32) : Late := { cur := lateAt x t, next := x.rest t ++ [(due, v)] }

/-- The value at once, and those that are on their way after it. -/
def lateCur (x : Late) (t : Nat) (v : F32) : Late := { cur := v, next := x.rest t }

/-- The value at once, and nothing after it. -/
def lateNow (v : F32) : Late := { cur := v, next := [] }

end Sys2Proof.Machine
end

