-- ==== Sys2Proof/Machine/Grid.lean ====
section
/-! DEFINITION. The local network cycle and the grids that run from it: frames, PWM periods, class periods and the
mark (R84, R85, R125, R160, R165, R400, R411, R412, R416). Offsets of the time unit are in 1/160 TCLK. -/

namespace Sys2Proof.Machine

/-- ROOT periods of a cycle without correction (R400). -/
def Channel.cycleRoot (c : Channel) : Nat := tclk c.cycleTclk

/-- DMAX in 1/160 TCLK: 200 ppm of the cycle (R411). -/
def Channel.dmax (c : Channel) : Int := 160 * 10 * 2 ^ c.af 0x1040 0 2

def clampI (x lo hi : Int) : Int := if x < lo then lo else if hi < x then hi else x
/-- The nearest whole number of n / d, ties to even. -/
def roundI (n : Int) (d : Nat) : Int :=
  let q := n / d
  let r := n % d
  if 2 * r < d then q else if (d : Int) < 2 * r then q + 1 else if q % 2 = 0 then q else q + 1

/-- The mean offset of the networks that gave one in this cycle (R411). -/
def Nt.meanE (n : Nt) : Option Int :=
  match n.x.e, n.y.e with
  | some a, some b => some ((a + b) / 2)
  | some a, none => some a
  | none, some b => some b
  | none, none => none

/-- The correction of a cycle: rate, delta and fraction (R411, R416, R419). A cycle of the slew without a waggle takes
DMAX in the direction of the last offset. DEDUCED (unsafe), log entry 91. DEDUCED (unsafe), log entry 92. -/
def Nt.correct (n : Nt) (dmax : Int) : Nt :=
  match n.meanE with
  | some e =>
    let ns := sat8 (roundI e 32)
    if n.slew then
      let d := if e < 0 then -(dmax / 160) else dmax / 160
      { n with offset := ns, rate := 0, frac := 0, adj := d, slew := !decide (e.natAbs ≤ dmax.natAbs)
               slewUp := !decide (e < 0) }
    else
      let i := clampI (n.rate + e / 8) (-dmax) dmax
      let k := e / 2 + i + n.frac
      let d := clampI (roundI k 160) (-(dmax / 160)) (dmax / 160)
      { n with offset := ns, rate := i, adj := d, frac := k - 160 * d
               pegged := if i.natAbs = dmax.natAbs then n.pegged + 1 else 0 }
  | none =>
    if n.slew then { n with adj := if n.slewUp then dmax / 160 else -(dmax / 160) }
    else
      let k := n.rate + n.frac
      let d := clampI (roundI k 160) (-(dmax / 160)) (dmax / 160)
      { n with adj := d, frac := k - 160 * d, pegged := if n.rate.natAbs = dmax.natAbs then n.pegged + 1 else 0 }

/-- Delta of the present cycle in TCLK: 0 where the node keeps free or own time (R411, R414). -/
def Channel.delta (c : Channel) : Int :=
  if c.net.nt.st = .coarse || c.net.nt.st = .sync then (c.net.nt.correct c.dmax).adj else 0

/-- Delta in the first i of the last four macroticks (R412). Of a split that is not even, the later macroticks take the
more. DESIGN CHOICE (safe), log entry 136. -/
def deltaPart (d : Int) (i : Nat) : Int := Int.fdiv (d * (min i 4 : Nat)) 4

/-- Start of macrotick m of the present cycle, in ROOT (R400, R412). DESIGN CHOICE (safe), log entry 136. -/
def Channel.mtAt (c : Channel) (m : Nat) : Nat :=
  let n := c.net.nt.cycLen / 200
  ((c.net.nt.cycStart + 200 * m : Nat) + 5 * deltaPart c.delta (m - (n - 4))).toNat

/-- End of the present cycle: its macroticks and delta (R411, R412). -/
def Channel.cycEnd (c : Channel) : Nat := c.mtAt (c.net.nt.cycLen / 200)

/-- The next cycle start: the present cycle's end, or the adopted cycle start at the end of the gap (R416).
DESIGN CHOICE (safe), log entry 24. DEDUCED (unsafe), log entry 92. -/
def Channel.cycDue (c : Channel) : Nat :=
  if c.net.nt.adoptIn = 0 then max c.cycEnd (c.net.nt.gapTo.getD 0) else c.cycEnd

/-- Frames and PWM periods in a cycle (R84). -/
def Nt.slots (n : Nt) : Nat := n.cycLen / 50000

/-- The place of an instant on the grid of frames and PWM periods of the present cycle: every 10,000 TCLK from the
cycle start. The last one absorbs delta, and none begins in a gap (R84, R85, R160, R412, R416).
DESIGN CHOICE (safe), log entry 24. -/
def Nt.gridAt (n : Nt) (t : Nat) : Option Nat :=
  let d := t - n.cycStart
  if decide (n.cycStart ≤ t) && d % 50000 == 0 && decide (d / 50000 < n.slots) then some (d / 50000) else none

/-- MARK_OFFSET in ROOT (R425). -/
def Channel.markOff (c : Channel) : Nat := 200 * c.af 0x1040 2 14

/-- The mark of the present cycle is due: MARK_OFFSET macroticks after the cycle start, once in a cycle (R400, R425).
DESIGN CHOICE (safe), log entry 24. -/
def Channel.markDue (c : Channel) (t : Nat) : Bool :=
  let n := c.net.nt
  t == n.cycStart + c.markOff && decide (c.markOff < n.cycLen) &&
    (match n.markAt with
     | some m => decide (m < n.cycStart)
     | none => true)

/-- The PWM period with place j in the cycle counts from the mark: its number after it (R125, R160). -/
def Channel.sinceMark (c : Channel) (j : Nat) : Nat :=
  let n := c.net.nt.slots
  (j + n - (c.markOff / 50000) % max 1 n) % max 1 n

/-- PWM periods in a class period: 20, 4, 2 and 1 kHz (R124). -/
def classSlots (k : Fin 4) : Nat :=
  match k with
  | 0 => 1
  | 1 => 5
  | 2 => 10
  | 3 => 20

/-- A period of p PWM periods starts at place j: at the mark and every whole period after it; one longer than the cycle
at the mark of every cycle whose number within the hypercycle is a multiple of their ratio (R125, R278).
DESIGN CHOICE (safe), log entry 24. -/
def Channel.everySlots (c : Channel) (p j : Nat) : Bool :=
  let n := c.net.nt.slots
  let m := c.sinceMark j
  if p ≤ n then m % p == 0
  else m == 0 && c.net.nt.cycle.toNat % 2 ^ c.af 0x1800 8 3 % (p / max 1 n) == 0

/-- A period of a class starts at place j (R125). DESIGN CHOICE (safe), log entry 24. -/
def Channel.classStarts (c : Channel) (k : Fin 4) (j : Nat) : Bool := c.everySlots (classSlots k) j

/-- The class periods that start with a PWM period (R125). -/
def Channel.startClasses (c : Channel) (t j : Nat) : Channel :=
  { c with ce := { c.ce with
      clsAt := Vector.ofFn fun k => if c.classStarts k j then some t else c.ce.clsAt[k] } }

/-- Local time begins: a free cycle that starts at an instant (R84, R414). DEDUCED (unsafe), log entry 137. -/
def Channel.timeStart (c : Channel) (t : Nat) : Channel :=
  { c with net := { c.net with nt := { c.net.nt with
      cycStart := t, cycLen := c.cycleRoot, guardAt := t, gapTo := none, perBase := t, perTill := none } } }

/-- A claim or CCL period: 2,000 TCLK (R294, R329). -/
def lanePeriod : Nat := tclk 2000

/-- The adopted mark that the grid of claim and CCL periods still waits for after a gap (R416). -/
def Nt.perHeld (n : Nt) (t : Nat) : Option Nat := n.perTill.filter fun k => decide (t < k)

/-- The adopted mark to come that cuts the grid of claim and CCL periods: after a gap, or after the cycle 0 of a
COLDSTART (R416, R417). -/
def Channel.perCut (c : Channel) (t : Nat) : Option Nat :=
  let n := c.net.nt
  match n.perHeld t, n.gapTo, n.st, n.coldAt with
  | some k, _, _, _ => some k
  | none, some g, _, _ => some (g + c.markOff)
  | none, none, .cold, some a => some (a + c.cycleRoot + c.markOff)
  | none, none, _, _ => none

/-- A claim or CCL period starts: every 2,000 TCLK from the mark. MARK_OFFSET is a whole number of periods, so the grid
runs from the cycle start too, and the last period of a cycle absorbs delta (R294, R329, R401, R412). From a gap to the
adopted mark it keeps its phase, and a period that this mark would cut short does not start (R416, R417).
DESIGN CHOICE (safe), log entry 24. -/
def Channel.periodAt (c : Channel) (t : Nat) : Bool :=
  let n := c.net.nt
  let free := (n.perHeld t).isSome || n.gapTo.isSome
  let base := if (n.perHeld t).isSome then n.perBase else n.cycStart
  decide (base ≤ t) && (t - base) % lanePeriod == 0 && (free || decide ((t - base) / lanePeriod < n.cycLen / lanePeriod)) &&
    (match c.perCut t with
     | some k => decide (t + lanePeriod ≤ k)
     | none => true)

/-- Start and length of the spread triangles in ROOT periods: in LOCKED 16 from the cycle start, in FREE of 6,250 TCLK
(R73, R74). -/
def Channel.triangle (c : Channel) : Nat × Nat :=
  if c.clk.spread = 2 then (c.net.nt.cycStart, c.net.nt.cycLen / 16) else (c.clk.triAt, tclk 6250)
/-- The depth of the stretch in 1/200 (R73). -/
def Channel.spreadDepth (c : Channel) : Nat := if c.clk.spread = 0 then 0 else c.af 0x0200 0 2

/-- The stretch of the first n ROOT periods of a triangle of p, in 1/64 of the depth (R72). -/
def triSum (p n : Nat) : Nat :=
  (List.range 128).foldl (fun a k => a + min k (128 - k) * (min n ((k + 1) * p / 128) - min n (k * p / 128))) 0

/-- The stretch from the start of the triangles to an instant, in 1/12,800 ROOT (R72).
DEDUCED (unsafe), log entry 91. -/
def Channel.stretchTo (c : Channel) (x : Nat) : Nat :=
  if c.spreadDepth = 0 then 0
  else
    let p := c.triangle.2
    let d := x - c.triangle.1
    c.spreadDepth * (d / p * triSum p p + triSum p (d % p))

/-- The unspread length from an instant to another of the own clock, in 1/12,800 ROOT (R72, R409). -/
def Channel.unspread (c : Channel) (a b : Nat) : Nat := (b - a) * 12800 + (c.stretchTo b - c.stretchTo a)

/-- The most ROOT periods of the own clock from an instant whose unspread length is at most u: n and those that the
bits below the given one add. -/
def Channel.rootsWithin (c : Channel) (a u : Nat) : Nat → Nat → Nat
  | 0, n => n
  | k + 1, n => c.rootsWithin a u k (if c.unspread a (a + n + 2 ^ k) ≤ u then n + 2 ^ k else n)

/-- An unspread length in 1/16 LCLK from an instant on, in 1/32 ns of the own clock: the own spread profile converts it
(R409, R411, R421). DEDUCED (unsafe), log entry 91. -/
def Channel.toLocal (c : Channel) (a d : Nat) : Nat :=
  if c.spreadDepth = 0 then 16 * d
  else
    let u := 6400 * d
    let n := c.rootsWithin a u 26 0
    32 * n + (u - c.unspread a (a + n)) * 32 / c.unspread (a + n) (a + n + 1)

end Sys2Proof.Machine
end

