-- ==== Sys2Proof/Machine/SteerOps.lean ====
section
/-! DEFINITION. Operations of the steering drive that several commands share (spec file 05): angle, torque sharing,
end stops, and the changes of drive state; and announcements, which they make (R605). -/

namespace Sys2Proof.Machine

/-- Share and end-stop constants: √3 and 0.25 as binary32. -/
def f32Sqrt3 : F32 := 0x3FDDB3D7
def f32One : F32 := 0x3F800000
def f32Quarter : F32 := 0x3E800000

/-- A channel's bit in the sets of R173 (bit 0 A, 1 B, 2 C). -/
def Ch.bit (ch : Ch) : Nat := (Ch.idx ch).val

/-- The newest block of a partner on any CCL path. -/
def Channel.latestOf (c : Channel) (ch : Ch) : Option Vote :=
  match ch with
  | .a => c.rd.a.latest
  | .b => c.rd.b.latest
  | .c => c.rd.c.latest

/-- A channel is live: neither CH nor SUP holds for it in the fault set (R344). -/
def Channel.liveIn (c : Channel) (ch : Ch) : Bool := !bit c.rd.faults (Ch.bit ch) && !bit c.rd.faults (3 + Ch.bit ch)

/-- A partner that is a live STANDBY channel (R337). -/
def Channel.standsBy (c : Channel) (ch : Ch) : Bool :=
  c.liveIn ch && (match c.latestOf ch with
    | some v => v.role == 2
    | none => false)

/-- The next live STANDBY channel in the order A, B, C, A (R337). -/
def Channel.nextStandby (c : Channel) : Option Ch :=
  if c.standsBy c.id.next then some c.id.next
  else if c.standsBy c.id.prev then some c.id.prev else none

/-- ANN codes (R330): the announcement made at an instant in the cycle with this count.
DEDUCED (unsafe), log entry 47. -/
def Channel.annOf (c : Channel) (t : Nat) (r : AnnReq) : Ann :=
  let n := c.net.nt.cycle
  match r with
  | .join =>
    let settle := 20000 * c.af 0x3003 0 8
    let L := c.cycleTclk
    let mo := 40 * c.af 0x1040 2 14
    let p := c.pos t
    let j := (settle + p - mo + L - 1) / L
    ⟨1, c.id.code, 0, n + BitVec.ofNat 32 (max 2 j)⟩
  | .leave k => ⟨2, c.id.code, 0, n + BitVec.ofNat 32 k⟩
  | .handover =>
    match c.nextStandby with
    | some ch => ⟨3, ch.code, 0, n + 4⟩
    | none => ⟨0, 0, 0, 0⟩
  | .level l => ⟨4, 0, l, n + 2⟩

/-- An announcement: at once, or when the one in force has passed (R605). DEDUCED (unsafe), log entry 47. -/
def Channel.announce (c : Channel) (t : Nat) (r : AnnReq) : Channel :=
  match c.rd.ann with
  | some _ => { c with rd := { c.rd with annQ := c.rd.annQ ++ [r] } }
  | none =>
    let a := c.annOf t r
    let c := { c with rd := { c.rd with ann := some a } }
    match r with
    | .join => { c with sd := { c.sd with joinCyc := some a.cyc } }
    | .leave _ => { c with sd := { c.sd with leaveCyc := some a.cyc } }
    | _ => c

/-- The hall codes in forward order: a code's place (R167). -/
def hallIdx (code : BitVec 3) : Option Nat :=
  match code.toNat with
  | 1 => some 0
  | 3 => some 1
  | 2 => some 2
  | 6 => some 3
  | 4 => some 4
  | 5 => some 5
  | _ => none

/-- Electrical angle of hall edge k, plus an extra of twelfths of a turn (R167). -/
def Channel.hallAngle (c : Channel) (k twelfths : Nat) : Word :=
  put 16 (c.af 0x3002 16 16) + BitVec.ofNat 32 ((2 * k + twelfths) * 2 ^ 32 / 12)

/-- (count - base) mod CPR as a phase word of one mechanical turn (R166, R266). -/
def phaseOf (count base : Word) (cpr : Nat) : Word :=
  let d := ((count - base).toInt % (cpr : Int)).toNat
  BitVec.ofNat 32 (d * 2 ^ 32 / cpr)

/-- theta_m of R166. -/
def Channel.thetaM (c : Channel) : Word := phaseOf (c.fb.enc[0]).count (c.fb.enc[0]).nZ (c.af 0x3001 0 20)
/-- theta_e of R166. -/
def Channel.thetaE (c : Channel) : Word :=
  c.thetaM * BitVec.ofNat 32 (c.af 0x3000 0 4) + put 16 (c.af 0x3002 0 16)

/-- The electrical angle in use (R167). DEDUCED (unsafe), log entry 44. -/
def Channel.sdTheta (c : Channel) (t : Nat) : Word :=
  let pp := c.af 0x3000 0 4
  match c.sd.angle with
  | .index => c.thetaE
  | .sector | .edge =>
    if c.sd.held then c.sd.heldAngle
    else
      let d := ((c.fb.enc[0]).count - c.sd.hallEdgeCnt).toInt
      c.sd.hallEdge + BitVec.ofInt 32 (Int.fdiv (d * 2 ^ 32 * pp) (c.af 0x3001 0 20))
  | .hallOnly =>
    let w := lateAt (c.fb.hall[0]).speed t
    let adv := F32.mulFloor w ((t - c.sd.hallEdgeT) * 2 ^ 32 : Nat) 60000000000
    let lim : Int := 2 ^ 32 / 6
    c.sd.hallEdge + BitVec.ofInt 32 (max (-lim) (min lim adv))

/-- Every leg changed by a rule of its number. -/
def Channel.mapLegs (c : Channel) (f : Fin 6 → Leg → Leg) : Channel :=
  { c with gd := { c.gd with legs := Vector.ofFn fun k => f k c.gd.legs[k] } }

/-- Every learning unit changed by a rule of its number. -/
def Channel.mapRc (c : Channel) (f : Fin 8 → RcInst → RcInst) : Channel :=
  { c with ce := { c.ce with rc := Vector.ofFn fun m => f m c.ce.rc[m] } }

/-- A discontinuity of the angle of a source: the learning units on it see a gap (R140, R170, R266). -/
def Channel.angleGap (c : Channel) (src : Nat) : Channel :=
  c.mapRc fun m r => if c.af (0x2130 + m.val * 0x40) 5 3 == src then { r with gap := true } else r

/-- Legs 0 to 2 form the steering group, 3 to 5 the auxiliary group. -/
def inGrp (g : Grp) (k : Fin 6) : Bool := if g = .steer then decide (k.val < 3) else decide (3 ≤ k.val)

/-- A gate of the leg is on: commanded on, with its dead time over (R230). -/
def Leg.isOn (l : Leg) (t : Nat) : Bool := (l.hs || l.ls) && decide (l.onAt ≤ t)

/-- The gate that is on turns off with a normal edge; one still in its dead time does not turn on (R230). -/
def Leg.turnOff (l : Leg) (t : Nat) : Leg :=
  let x := { l with hs := false, ls := false }
  if l.isOn t then { x with offAt := t, offHs := l.hs, lastOn := some l.onAt } else x

/-- One gate turns on, the other off at once: when PULSE changes the side, after the dead time dt and 10 ns after the
outgoing gate is sensed below 1.5 V; when ENABLE rises, once the other gate is sensed so. sense: from a turn-off to that
(R230). DESIGN CHOICE (safe), log entry 140. -/
def Leg.turnOn (l : Leg) (t : Nat) (high : Bool) (dt : Nat) (sense : Nat → Nat) : Leg :=
  if (if high then l.hs else l.ls) then l
  else
    let swap := if high then l.ls else l.hs
    let x := l.turnOff t
    let low := x.offAt + sense x.offAt
    { x with hs := high, ls := !high,
             onAt := if swap then max (t + dt) (low + 10) else if x.offHs != high then max t low else t }

/-- ENABLE lanes of a group low; its gates turn off, but a soft turn-off keeps its course (R29, R176, R236). -/
def Channel.gatesOff (c : Channel) (t : Nat) (g : Grp) : Channel :=
  c.mapLegs fun k l =>
    if inGrp g k then
      (if l.sto = .none then { l.turnOff t with enable := false } else { l with enable := false })
    else l

/-- Every gate of HB0 to HB5 off at once, whatever the lanes say (R30, R57, R234, R248). -/
def Channel.allGatesOff (c : Channel) (t : Nat) : Channel := c.mapLegs fun _ l => { l.turnOff t with sto := .none }

/-- The gate-driver die holds every gate off and PIS open: GCLK was lost, or VLINK_ABS has tripped (R30, R244, R248). -/
def Gd.open_ (g : Gd) : Bool := g.gclkHold || g.vlinkAbs

/-- The die keeps a group's gates off: it holds all of them, its gate-drive supply is cut, or VGD was too low and the
group has not left OFF since (R30, R57, R234, R248). -/
def Gd.off (x : Gd) (g : Grp) : Bool := x.open_ || !x.gateSupply || (if g = .steer then x.vgdLow else x.vgdLowA)

/-- The gate of BCH follows a PULSE that is high, unless it is latched off or the die holds it (R30, R228, R234, R239,
R248). DEDUCED (unsafe), log entry 54. -/
def Channel.bchFollow (c : Channel) : Channel :=
  { c with gd := { c.gd with bchGate := c.gd.bchGate || (c.gd.bch && !c.gd.bchTrip && !c.gd.off .steer) } }

/-- PIS_EN high or low; the switches follow unless the die holds them open (R30, R244). -/
def Channel.pis (c : Channel) (t : Nat) (on : Bool) : Channel :=
  { c with sd := { c.sd with pisClosed := on },
           gd := { c.gd with pisEn := on, pisOk := if on && !c.gd.open_ then 7 else 0
                             pisAt := if on && !c.gd.pisEn then t else c.gd.pisAt } }

/-- A JOIN or a LEAVE. -/
def AnnReq.ofWinding : AnnReq → Bool
  | .join | .leave _ => true
  | .handover | .level _ => false

/-- The own bit leaves the channel's view of the active-winding set; a JOIN or LEAVE of the winding that still waits is
dropped with it (R177, R605). DEDUCED (unsafe), log entry 47. -/
def Channel.leaveSet (c : Channel) : Channel :=
  { c with sd := { c.sd with active := setBit c.sd.active (Ch.bit c.id) false },
           rd := { c.rd with annQ := c.rd.annQ.filter fun r => !r.ofWinding } }

/-- The drive returns to OFF: gates off, PIS open (R176, R180). The angle state shown in OFF is SECTOR, in which the
next start begins (R167). DEDUCED (unsafe), log entry 44. -/
def Channel.sdOff (c : Channel) (t : Nat) : Channel :=
  let c := ((c.gatesOff t .steer).pis t false).leaveSet
  { c with sd := { c.sd with st := .off, angle := .sector, held := false, joinCyc := none, leaveCyc := none,
                             settled := false } }

/-- OPENING with a cause of LAST_LEAVE (R177, R191). -/
def Channel.sdOpening (c : Channel) (t : Nat) (cause : BitVec 3) : Channel :=
  let c := (c.gatesOff t .steer).leaveSet
  { c with sd := { c.sd with st := .opening, lastLeave := cause, openingAt := t, joinCyc := none, leaveCyc := none,
                             settled := false } }

/-- ISUM, SENSORS and MISSED_CMD (R177, R181). DEDUCED (unsafe), log entry 48. -/
def Channel.sdFault (c : Channel) (t : Nat) (cause : BitVec 3) : Channel :=
  if c.sd.st = .run then
    let c := (c.sdOpening t cause).raise 16
    { c with sd := { c.sd with wndFaults := satInc c.sd.wndFaults, wndOut := true } }
  else c

/-- |rotor speed| below SD_PIS.NMAX (R177, R188). -/
def Channel.belowNmax (c : Channel) (t : Nat) : Bool :=
  F32.lt (F32.abs (lateAt (c.fb.enc[0]).speed t)) (F32.ofInt (10 * c.af 0x3003 24 8))

/-- The group leaves OFF: every code at CODE_INIT, short and gate latches cleared (R231, R237, R252). -/
def Channel.leaveOffCodes (c : Channel) (g : Grp) : Channel :=
  c.mapLegs fun k l =>
    if inGrp g k then
      let base := if k.val < 3 then 0x3800 + k.val * 0x10 else 0x3A00 + (k.val - 3) * 0x10
      let code := BitVec.ofNat 5 (c.af base 10 5)
      { l with trip := false, sc := false, gate := false, codeInit := code,
               codeHsOn := code, codeHsOff := code, codeLsOn := code, codeLsOff := code }
    else l

/-- HALL_ONLY starts from the last valid hall edge; where none has come since reset, from the centre of the sector
(R167). DEDUCED (unsafe), log entry 44. -/
def Channel.fromEdge (c : Channel) : Channel :=
  match c.sd.hallLast with
  | some (k, at_) => { c with sd := { c.sd with hallEdge := c.hallAngle k 0, hallEdgeT := at_ } }
  | none => c

/-- HALL_ONLY on an encoder fault (R168). -/
def Channel.encFault (c : Channel) : Channel :=
  if c.sd.st = .off || c.sd.angle = .hallOnly then c
  else
    let c := c.fromEdge.raise 15
    { c with sd := { c.sd with angle := .hallOnly, encFaults := satInc c.sd.encFaults } }

/-- The engine's compare channel counts ENC0 (R182, R285). DESIGN CHOICE (unsafe), log entry 45. -/
def Channel.disarmEs (c : Channel) (k : Fin 8) : Channel :=
  let c := (c.putW (0x3D00 + 4 * k.val) 0).putA (0x3D00 + 4 * k.val) 0
  { c with fb := { c.fb with cmp := c.fb.cmp.set k { c.fb.cmp[k] with
      armed := false, behind := false, srcInv := !(c.fb.enc[0]).valid } } }

/-- The drive engine takes compare channels 0 to 3: a compare that the host has armed there is disarmed (R182).
DESIGN CHOICE (unsafe), log entry 45. -/
def Channel.esTake (c : Channel) : Channel :=
  if (c.getA 0x3000).getLsbD 5 then (((c.disarmEs 0).disarmEs 1).disarmEs 2).disarmEs 3 else c

/-- Entry to CLOSING: PIS_EN high, angle state SECTOR, RESTART parameters taken, JOIN announced; an invalid ENC0 is an
encoder fault at once (R168, R177). DEDUCED (unsafe), log entry 44. -/
def Channel.sdClosing (c : Channel) (t : Nat) : Channel :=
  let c := (c.applyRange 0x3000 0x300F).pis t true
  let centre := match hallIdx (c.fb.hall[0]).code with
    | some k => c.hallAngle k 1
    | none => c.sd.hallEdge
  let c := { c with
    sd := { c.sd with st := .closing, angle := .sector, held := (hallIdx (c.fb.hall[0]).code).isNone,
                      heldAngle := centre, hallEdge := centre, hallEdgeCnt := (c.fb.enc[0]).count, hallEdgeT := t
                      hallMiss := 0, closingAt := t, settled := false, esReady := false, speedWait := false
                      ovWait := false, pendEnable := false, withdrawn := false, missedRun := 0, isumRun := 0,
                      prechgLeft := c.af 0x3880 22 8, prechg := false },
    gd := { c.gd with vgdLow := false, pisLatched := false } }
  let c := (c.bchFollow.leaveOffCodes .steer).esTake
  let c := c.announce t .join
  if (c.fb.enc[0]).valid then c else c.encFault

/-- The drive leaves OFF, unless a self-test, a cut or the speed holds it (R177, R249). -/
def Channel.sdStart (c : Channel) (t : Nat) : Channel :=
  if c.sd.st != .off then c
  else if c.gd.grpS.testBusy then { c with sd := { c.sd with pendEnable := true } }
  else if c.sup.ov then { c with sd := { c.sd with ovWait := true, pendEnable := false } }
  else if c.belowNmax t then c.sdClosing t
  else { c with sd := { c.sd with speedWait := true, pendEnable := false } }

/-- A forward or backward edge of HALL0, with its edge number (R167, R168). DEDUCED (unsafe), log entry 44. -/
def Channel.sdHallEdge (c : Channel) (t k : Nat) : Channel :=
  let c := { c with sd := { c.sd with hallLast := some (k, t) } }
  if c.sd.st = .off then c
  else
    let a := c.hallAngle k 0
    let diff := ((c.sdTheta t) - a).toInt.natAbs
    let far := decide (diff * 360 > c.af 0x3000 8 8 * 2 ^ 32)
    let checked := c.sd.angle == .index || c.sd.angle == .edge
    let miss := if checked && far then c.sd.hallMiss + 1 else 0
    let st := if c.sd.angle = .sector then AngleSt.edge else c.sd.angle
    let c := { c with sd := { c.sd with angle := st, held := false, hallEdge := a,
                                        hallEdgeCnt := (c.fb.enc[0]).count, hallEdgeT := t, hallMiss := miss } }
    if miss ≥ 2 then c.encFault else c

/-- An invalid hall code or an edge out of sequence (R169). DEDUCED (unsafe), log entry 44. -/
def Channel.sdHallBad (c : Channel) (t : Nat) : Channel :=
  if c.sd.st = .off then c
  else match c.sd.angle with
    | .index => c.raise 15
    | .sector | .edge =>
      { c with sd := { c.sd with held := true, heldAngle := c.sdTheta t } }
    | .hallOnly => c.sdFault t 4

/-- A Z of ENC0 that moves the count by d from a multiple of CPR, where a Z came before it (R167, R168, R170).
DEDUCED (unsafe), log entry 44. -/
def Channel.sdZ (c : Channel) (d : Option Nat) : Channel :=
  let far (n : Nat) : Bool := match d with
    | some x => decide (n < x)
    | none => false
  if c.sd.st = .off then c
  else
    let c := match c.sd.angle with
      | .sector | .edge => { c with sd := { c.sd with angle := .index, held := false } }.angleGap 2
      | .index => if far 1 then c.angleGap 2 else c
      | .hallOnly => c
    if far (c.af 0x3001 20 8) then c.encFault else c

/-- The number of active windings in the channel's view. -/
def popcount3 (x : BitVec 3) : Nat := b2n (x.getLsbD 0) + b2n (x.getLsbD 1) + b2n (x.getLsbD 2)

/-- The current-limit factor of the recovery ramp: 25 % to 100 % over 20 ms (R54, R174).
DEDUCED (unsafe), log entry 26. -/
def Channel.fRamp (c : Channel) (t : Nat) : F32 :=
  if c.sup.ramp then F32.ofFrac (20000000 + 3 * min (t - c.sup.rampAt) 20000000 : Nat) 80000000
  else f32One

/-- The smallest of the current-limit factors (R174). DEDUCED (unsafe), log entry 26. -/
def Channel.limFactor (c : Channel) (t : Nat) (hall : Bool) : F32 :=
  let w := if c.sup.lim25 then f32Quarter else f32One
  let h := if hall && c.sd.angle == .hallOnly then F32.ofFrac (c.af 0x3000 16 7) 100 else f32One
  F32.min (F32.min w h) (c.fRamp t)

/-- The end-stop limit of a torque toward one end (R185). -/
def Channel.esLimit (c : Channel) (z : Zone) (towardPos : Bool) (x : F32) : F32 :=
  let bound := match z with
    | .out => none
    | .soft => some (c.getA 0x3010)
    | .hard => some 0
  match bound with
  | none => x
  | some b =>
    if towardPos then (if F32.lt b x then b else x)
    else (if F32.lt x (F32.neg b) then (if z = .hard then 0 else F32.neg b) else x)

/-- A rising angle raises the ENC0 count (sign of SD_CNT_PER_DEG). -/
def Channel.rightRises (c : Channel) : Bool := F32.lt 0 (c.getA 0x300B)

/-- A torque demand routed to 0x03 (R174): references 24 ECLK later. -/
def Channel.routeTorque (c : Channel) (t : Nat) (x : F32) : Channel :=
  let t1 := if c.getA 0x3000 |>.getLsbD 5 then
      c.esLimit c.sd.esRight c.rightRises (c.esLimit c.sd.esLeft (!c.rightRises) x)
    else x
  let n := popcount3 c.sd.active
  let share := if n = 0 then 0 else F32.ofFrac 1 n
  let raw := F32.div (F32.mul t1 share) (c.getA 0x3009)
  let lim := F32.mul (c.getA 0x3008) (c.limFactor t true)
  let out := F32.clamp raw (F32.neg lim) lim
  let lmt := F32.lt raw (F32.neg lim) || F32.lt lim raw
  let c := { c with sd := { c.sd with sigIqRef := lateSet c.sd.sigIqRef t (t + eclk 24) out, sigIdRef := 0,
                                      limited := lmt } }
  if lmt then c.bump 3 2 else c

/-- Arm compare channel k on ENC0 (R184). DESIGN CHOICE (unsafe), log entry 45. -/
def Channel.armEs (c : Channel) (k : Fin 8) (rising : Bool) (v : Word) : Channel :=
  let cfg : Word := (if rising then 0 else 8) ||| 0x10
  let c := ((c.putW (0x3D00 + 4 * k.val) cfg).putA (0x3D00 + 4 * k.val) cfg)
  let c := ((c.putW (0x3D01 + 4 * k.val) v).putA (0x3D01 + 4 * k.val) v)
  { c with fb := { c.fb with cmp := c.fb.cmp.set k { c.fb.cmp[k] with
      armed := true, behind := false, srcInv := !(c.fb.enc[0]).valid } } }

/-- The compares of one end in its zone (R184): soft and hard counts, up: the count rises toward the end.
DESIGN CHOICE (unsafe), log entry 45. -/
def Channel.armEnd (c : Channel) (k0 k1 : Fin 8) (z : Zone) (soft hard : Word) (up : Bool) : Channel :=
  let h := BitVec.ofNat 32 (c.af 0x3004 16 8)
  let back (v : Word) := if up then v - h else v + h
  match z with
  | .out => (c.armEs k0 up soft).disarmEs k1
  | .soft => (c.armEs k0 (!up) (back soft)).armEs k1 up hard
  | .hard => (c.disarmEs k0).armEs k1 (!up) (back hard)

/-- A fire of compare channel k while the drive engine owns channels 0 to 3; in HALL_ONLY the count is not trusted, the
zones follow the marks alone, and the channel disarms as any other does (R184, R185, R284). -/
def Channel.esFire (c : Channel) (k : Nat) : Channel :=
  if !c.sd.esReady || c.sd.angle = .hallOnly then c.disarmEs (Fin.ofNat 8 k) else
  let next (z : Zone) (second : Bool) : Zone :=
    match z, second with
    | .out, false => .soft
    | .soft, false => .out
    | .soft, true => .hard
    | .hard, true => .soft
    | z, _ => z
  if k < 2 then
    let z := next c.sd.esLeft (k == 1)
    { c with sd := { c.sd with esLeft := z } }.armEnd 0 1 z c.sd.esLSoft c.sd.esLHard (!c.rightRises)
  else
    let z := next c.sd.esRight (k == 3)
    { c with sd := { c.sd with esRight := z } }.armEnd 2 3 z c.sd.esRSoft c.sd.esRHard c.rightRises

/-- The drive engine owns compare channels 0 to 3 (R182). -/
def Channel.esOwns (c : Channel) : Bool := (c.getA 0x3000).getLsbD 5 && c.sd.st != .off

/-- The compare count of an angle: the binary32 product to the nearest whole number, ties to even (R183).
DESIGN CHOICE (unsafe), log entry 151. -/
def Channel.esCount (c : Channel) (n0 : Word) (theta thetaV : F32) : Word :=
  n0 + BitVec.ofInt 32 (F32.toIntRne (F32.mul (F32.sub theta thetaV) (c.getA 0x300B)))

/-- The zone of a position against an end's counts (R183). -/
def zoneOf (n soft hard : Word) (up : Bool) : Zone :=
  let past (v : Word) : Bool := if up then decide (0 ≤ (n - v).toInt) else decide ((n - v).toInt ≤ 0)
  if past hard then .hard else if past soft then .soft else .out

/-- The zone of an angle against an end's angles, for HALL_ONLY (R185). -/
def zoneOfAngle (a soft hard : F32) (right : Bool) : Zone :=
  if right then (if F32.le hard a then .hard else if F32.le soft a then .soft else .out)
  else (if F32.le a hard then .hard else if F32.le a soft then .soft else .out)

/-- At a mark with a voted angle: counts and zones in CLOSING (R183), zones alone in HALL_ONLY (R185). Of the compare
channels, 0 and 1 serve the left end's SOFT and HARD, 2 and 3 the right end's. DESIGN CHOICE (unsafe), log entry 45. -/
def Channel.esMark (c : Channel) (voted : Option F32) : Channel :=
  match voted with
  | none => c
  | some a =>
    if !(c.getA 0x3000).getLsbD 5 || c.sd.st = .off then c
    else if c.sd.angle = .hallOnly then
      { c with sd := { c.sd with esLeft := zoneOfAngle a (c.getA 0x300C) (c.getA 0x300D) false,
                                 esRight := zoneOfAngle a (c.getA 0x300E) (c.getA 0x300F) true } }
    else if c.sd.st = .closing && !c.sd.esReady then
      let n0 := (c.fb.enc[0]).count
      let ls := c.esCount n0 (c.getA 0x300C) a
      let lh := c.esCount n0 (c.getA 0x300D) a
      let rs := c.esCount n0 (c.getA 0x300E) a
      let rh := c.esCount n0 (c.getA 0x300F) a
      let zl := zoneOf n0 ls lh (!c.rightRises)
      let zr := zoneOf n0 rs rh c.rightRises
      let c := { c with sd := { c.sd with esReady := true, esLSoft := ls, esLHard := lh, esRSoft := rs,
                                          esRHard := rh, esLeft := zl, esRight := zr } }
      (c.armEnd 0 1 zl ls lh (!c.rightRises)).armEnd 2 3 zr rs rh c.rightRises
    else c

end Sys2Proof.Machine
end

