-- ==== Sys2Proof/Machine/FbOps.lean ====
section
/-! DEFINITION. Operations of the feedback interface that several commands share (spec file 08): the compare unit,
interval speeds, SENT judgements and changes of configuration. -/

namespace Sys2Proof.Machine

def Channel.setEnc (c : Channel) (n : Fin 2) (e : Enc) : Channel := { c with fb := { c.fb with enc := c.fb.enc.set n e } }
def Channel.setHall (c : Channel) (n : Fin 2) (h : Hall) : Channel :=
  { c with fb := { c.fb with hall := c.fb.hall.set n h } }
def Channel.setSent (c : Channel) (n : Fin 2) (x : Sent) : Channel :=
  { c with fb := { c.fb with sent := c.fb.sent.set n x } }
def Channel.setWss (c : Channel) (n : Fin 4) (x : Wss) : Channel :=
  { c with fb := { c.fb with wss := c.fb.wss.set n x } }
def Channel.setCmp (c : Channel) (k : Fin 8) (x : Cmp) : Channel :=
  { c with fb := { c.fb with cmp := c.fb.cmp.set k x } }

/-- The counter that FB_CMP_CFG.SRC names, and whether its source is valid (R281, R285). -/
def Channel.cmpCount (c : Channel) (src : Nat) : Word :=
  match src with
  | 0 => (c.fb.enc[0]).count
  | 1 => (c.fb.enc[1]).count
  | 2 => (c.fb.wss[0]).odo
  | 3 => (c.fb.wss[1]).odo
  | 4 => (c.fb.wss[2]).odo
  | _ => (c.fb.wss[3]).odo

def Channel.cmpSrcOk (c : Channel) (src : Nat) : Bool :=
  match src with
  | 0 => (c.fb.enc[0]).valid
  | 1 => (c.fb.enc[1]).valid
  | 2 => (c.fb.wss[0]).valid
  | 3 => (c.fb.wss[1]).valid
  | 4 => (c.fb.wss[2]).valid
  | _ => (c.fb.wss[3]).valid

def Channel.cmpCfg (c : Channel) (k : Fin 8) : Word := c.getA (0x3D00 + 4 * k.val)
def Channel.cmpVal (c : Channel) (k : Fin 8) : Word := c.getA (0x3D01 + 4 * k.val)
def Channel.cmpSrc (c : Channel) (k : Fin 8) : Nat := fld (c.cmpCfg k) 0 3

/-- BEHIND judged from the present count (R282, R283). -/
def Channel.cmpJudge (c : Channel) (k : Fin 8) : Channel :=
  let src := c.cmpSrc k
  let x := c.fb.cmp[k]
  let d := (c.cmpCount src - c.cmpVal k).toInt
  let past := if bit (c.cmpCfg k) 3 then decide (d < 0) else decide (0 ≤ d)
  c.setCmp k { x with srcInv := !c.cmpSrcOk src, behind := x.armed && c.cmpSrcOk src && past }

/-- FB_CMP_CFG and FB_CMP_VALUE take effect together (R283). -/
def Channel.cmpApply (c : Channel) (t : Nat) (k : Fin 8) : Channel :=
  let cfgId := 0x3D00 + 4 * k.val
  let c := (c.putA cfgId (c.getW cfgId)).putA (cfgId + 1) (c.getW (cfgId + 1))
  (c.setCmp k { c.fb.cmp[k] with armed := bit (c.getA cfgId) 4, setAt := some t }).cmpJudge k

/-- Two instants lie in one TCLK. -/
def sameTclk (a b : Nat) : Bool := a / 5 == b / 5

/-- The frame in progress commits in this TCLK what it has checked (R86, R98). -/
def Channel.commitsAt (c : Channel) (t : Nat) : Bool :=
  c.exe.ph == .checked && !c.exe.bad && !c.exe.stopping && sameTclk (c.exe.startAt + 45040) t

/-- A write of the channel takes effect in this TCLK: it has done so, or the frame commits it in this TCLK. The crossing
test then uses the new value alone, with BEHIND judged from the count of that TCLK (R283). -/
def Channel.cmpSetNow (c : Channel) (t : Nat) (k : Fin 8) : Bool :=
  (match c.fb.cmp[k].setAt with
   | some a => sameTclk a t
   | none => false) ||
    (c.commitsAt t && (c.hp.effects.contains (.compare k true) || c.hp.effects.contains (.compare k false)))

/-- A fire (R284); channels 0 to 3 re-arm under R184 while the drive engine owns them. Disarming leaves a write of
FB_CMP_CFG that still waits for its commit as it is, and one of FB_CMP_VALUE alone does not arm again (R283, R284). -/
def Channel.cmpFire (c : Channel) (t : Nat) (k : Fin 8) : Channel :=
  let x := c.fb.cmp[k]
  let c := (c.setCmp k { x with fired := true, firedAt := some t, fires := satInc x.fires, stamp := c.nt32 t }).bump 6 2
  if decide (k.val < 4) && c.esOwns then c.esFire k.val
  else if bit (c.cmpCfg k) 5 then c
  else
    let cfgId := 0x3D00 + 4 * k.val
    let c := if c.hp.effects.contains (.compare k true) then c else c.putW cfgId (c.getW cfgId &&& ~~~0x10)
    let c := c.putA cfgId (c.getA cfgId &&& ~~~0x10)
    c.setCmp k { c.fb.cmp[k] with armed := false }

/-- One compare channel after its source moved from old to now (R281, R282). -/
def Channel.cmpStep (c : Channel) (t src : Nat) (old now : Word) (k : Fin 8) : Channel :=
  let x := c.fb.cmp[k]
  if c.cmpSrc k != src || !x.armed || x.srcInv then c
  else if c.cmpSetNow t k then c.cmpJudge k
  else
    let v := c.cmpVal k
    let up := decide ((old - v).toInt = -1) && decide ((now - v).toInt = 0)
    let dn := decide ((old - v).toInt = 0) && decide ((now - v).toInt = -1)
    let falling := bit (c.cmpCfg k) 3
    if x.behind then
      (if (falling && up) || (!falling && dn) then c.setCmp k { x with behind := false } else c)
    else if (falling && dn) || (!falling && up) then c.cmpFire t k
    else c

/-- Every compare channel on a source whose count moved. -/
def Channel.cmpMove (c : Channel) (t src : Nat) (old now : Word) : Channel :=
  (List.finRange 8).foldl (fun c k => c.cmpStep t src old now k) c

/-- The channels of a source whose validity changed (R285). -/
def Channel.cmpValidity (c : Channel) (src : Nat) : Channel :=
  (List.finRange 8).foldl (fun c k => if c.cmpSrc k == src then c.cmpJudge k else c) c

def listSum (l : List Nat) : Nat := l.foldl (· + ·) 0

/-- dir · K · scale / (div · Σt) (R268). -/
def intervalSpeed (dir : Bool) (scale div : Nat) (hist : List Nat) : F32 :=
  let s := listSum hist
  if s = 0 then 0
  else
    let n : Int := (hist.length * scale : Nat)
    F32.ofFrac (if dir then n else -n) (div * s)

/-- K of an encoder (R286). -/
def Channel.encAvg (c : Channel) (n : Fin 2) : Nat := 2 ^ c.af (0x3C00 + n.val * 0x10) 20 2
def Channel.encCpr (c : Channel) (n : Fin 2) : Nat := c.af (0x3C00 + n.val * 0x10) 0 20

/-- Interval speed at a 20 kHz period start: τ in place of the newest interval, and standstill (R269). -/
def decayed (dir : Bool) (scale div still : Nat) (hist : List Nat) (last : Option Nat) (now : Nat) (sp : F32) :
    Option (F32 × List Nat) :=
  match last, hist with
  | some l, h :: r =>
    let tau := now - l
    if tau ≥ still then some (0, [])
    else if tau > h then
      let v := intervalSpeed dir scale div (tau :: r)
      if F32.lt (F32.abs v) (F32.abs sp) then some (v, hist) else none
    else none
  | some l, [] => if now - l ≥ still then some (0, []) else none
  | _, _ => none

/-- The period-start course of every encoder and hall speed (R269). STILL is in ms, 200,000 TCLK each.
DEDUCED (unsafe), log entry 57. -/
def Channel.speedDecay (c : Channel) (t : Nat) : Channel :=
  let encStep (c : Channel) (n : Fin 2) : Channel :=
    let e := c.fb.enc[n]
    let now := t / 5 - (2 + c.af 0x3DF0 0 8)
    match decayed e.dir 12000000000 (c.encCpr n) (200000 * c.af (0x3C00 + n.val * 0x10) 22 8) e.hist e.last now
        (lateAt e.speed t) with
    | some (v, h) => c.setEnc n { e with speed := lateCur e.speed t v, hist := h }
    | none => c
  let hallStep (c : Channel) (n : Fin 2) : Channel :=
    let e := c.fb.hall[n]
    let now := t / 5 - (2 + c.af 0x3DF0 8 8)
    match decayed e.dir 2000000000 1 (200000 * c.af (0x3C20 + n.val * 0x10) 3 8) e.hist e.last now
        (lateAt e.speed t) with
    | some (v, h) => c.setHall n { e with speed := lateCur e.speed t v, hist := h }
    | none => c
  hallStep (hallStep (encStep (encStep c 0) 1) 0) 1

/-- One judged SENT frame (R272 to R275). DESIGN CHOICE (safe), log entry 19. -/
def Channel.sentJudge (c : Channel) (n : Fin 2) (due : Nat) (r : SentRes) : Channel :=
  let x := c.fb.sent[n]
  let fail (x : Sent) : Channel :=
    let bad := x.bad + 1
    let drop := x.valid && decide (bad ≥ 2)
    let c := c.setSent n { x with bad := bad, serial := [], valid := x.valid && !drop }
    if drop then c.raise 35 else c
  match r with
  | .tick => fail { x with tickErr := satInc x.tickErr }
  | .crc => fail { x with crcErr := satInc x.crcErr }
  | .chk => fail { x with chkErr := satInc x.chkErr }
  | .good v st =>
    let x := { x with value := v, valid := true, bad := 0, lastGood := due }
    let c := if n = 0 then c.bump 6 1 else c
    let mode := c.af (0x3C40 + n.val * 0x10) 9 2
    if mode = 0 then c.setSent n { x with serial := [] }
    else
      let ser := st :: x.serial
      match Config.sentSerial (mode == 2) ser.reverse with
      | none => c.setSent n { x with serial := ser }
      | some (d, id, ok) =>
        if ok then
          c.setSent n { x with serial := [], smData := d, smId := id, smType := mode == 2, smNew := true }
        else c.setSent n { x with serial := [], crcErr := satInc x.crcErr }

/-- Judgements whose instant has come (R272). DEDUCED (unsafe), log entry 60. -/
def Channel.sentSettle (c : Channel) (t : Nat) (n : Fin 2) : Channel :=
  let x := c.fb.sent[n]
  let due := x.judge.filter fun p => decide (p.1 ≤ t)
  let c := c.setSent n { x with judge := x.judge.filter fun p => decide (t < p.1) }
  due.foldl (fun c p => c.sentJudge n p.1 p.2) c

def Channel.sentSettleAll (c : Channel) (t : Nat) : Channel := (c.sentSettle t 0).sentSettle t 1

/-- A SENT input as it stands at an instant, its judgements due by then made (R272 to R274).
DEDUCED (unsafe), log entry 60. -/
def Channel.sentNow (c : Channel) (t : Nat) (n : Fin 2) : Sent := (c.sentSettle t n).fb.sent[n]

/-- A line of a filter time FILT, in TCLK, can have moved n times since an acceptance (R262). -/
def settled (last : Option Nat) (filt n t : Nat) : Bool :=
  match last with
  | some a => decide (a + tclk (n * filt) ≤ t)
  | none => true

/-- Failed inputs are invalid: ENC, HALL, SENT, WSS and AIN from bit 0 (R537). -/
def Fb.without (f : Fb) (dead : BitVec 18) : Fb :=
  let ok (k : Nat) (v : Bool) : Bool := v && !dead.getLsbD k
  { f with enc := Vector.ofFn fun n => { f.enc[n] with valid := ok n.val (f.enc[n]).valid }
           hall := Vector.ofFn fun n => { f.hall[n] with valid := ok (2 + n.val) (f.hall[n]).valid }
           sent := Vector.ofFn fun n => { f.sent[n] with valid := ok (4 + n.val) (f.sent[n]).valid }
           wss := Vector.ofFn fun n => { f.wss[n] with
             valid := ok (6 + n.val) (f.wss[n]).valid, clean := ok (6 + n.val) (f.wss[n]).clean
             spValid := ok (6 + n.val) (f.wss[n]).spValid }
           ainOk := Vector.ofFn fun n => ok (10 + n.val) f.ainOk[n] }

/-- A feedback input serves its pin: its stage is not at a test source, and its pin has not failed its test (R534,
R537). -/
def Channel.inputOn (c : Channel) (k : Nat) : Bool := c.alive && !c.testRuns 0x11 && !c.mg.deadIn.getLsbD k

/-- The feedback inputs set up again after their test: histories are cleared as at a change of configuration, no
encoder is indexed, SENT searches, a window starts (R535). DEDUCED (unsafe), log entry 152. -/
def Channel.fbRestart (c : Channel) : Channel :=
  let f := c.fb
  { c with fb := { f with
      enc := f.enc.map fun e => { e with hist := [], last := none, edged := false, indexed := false, speed := {} }
      hall := f.hall.map fun e => { e with prev := none, hist := [], last := none, edged := false, speed := {} }
      sent := f.sent.map fun x => { x with ph := .search, lastEdge := none, nibs := [], serial := [] }
      wss := f.wss.map fun x => { x with cnt := 0, nextCnt := 0, clean := false, spValid := false, winAt := none }
      ainPend := false } }

/-- A change of an input's configuration at a mark: its history is cleared; SENT searches anew; a WSS window starts
(file 08, Parameters). old: the channel before the mark's values. DEDUCED (unsafe), log entry 59. -/
def Channel.fbReconfig (c old : Channel) : Channel :=
  let changed (a b : Nat) : Bool := (List.range (b - a + 1)).any fun i => c.getA (a + i) != old.getA (a + i)
  let enc (c : Channel) (n : Fin 2) : Channel :=
    if changed (0x3C00 + n.val * 0x10) (0x3C00 + n.val * 0x10) then
      c.setEnc n { c.fb.enc[n] with hist := [], last := none, speed := {} } else c
  let hall (c : Channel) (n : Fin 2) : Channel :=
    if changed (0x3C20 + n.val * 0x10) (0x3C20 + n.val * 0x10) then
      c.setHall n { c.fb.hall[n] with hist := [], last := none, speed := {} } else c
  let sent (c : Channel) (n : Fin 2) : Channel :=
    if changed (0x3C40 + n.val * 0x10) (0x3C42 + n.val * 0x10) then
      c.setSent n { c.fb.sent[n] with ph := .search, nibs := [], serial := [] } else c
  let wss (c : Channel) (n : Fin 4) : Channel :=
    if changed (0x3C80 + n.val * 8) (0x3C81 + n.val * 8) then
      c.setWss n { c.fb.wss[n] with
          cnt := 0, nextCnt := 0, clean := (c.fb.wss[n]).valid, spValid := false, winAt := c.net.nt.markAt }
    else c
  wss (wss (wss (wss (sent (sent (hall (hall (enc (enc c 0) 1) 0) 1) 0) 1) 0) 1) 2) 3

end Sys2Proof.Machine
end

