-- ==== Sys2Proof/Machine/DriveOps.lean ====
section
/-! DEFINITION. Operations of the gate drive and the auxiliary drive that several commands share, and the reactions
that drop the enables of a channel (spec files 03, 06, 07 and 11). -/

namespace Sys2Proof.Machine

/-- A field of the gate-driver die's copy of its parameters (R251). -/
def Channel.gdf (c : Channel) (id lo w : Nat) : Nat := fld (lookupD c.gd.dieCopy id (resetOf id)) lo w

/-- The die takes the values in force of file 07 (R251). DESIGN CHOICE (unsafe), log entry 56. -/
def Channel.gdCopy (c : Channel) : Channel :=
  { c with gd := { c.gd with dieCopy := c.act.filter fun p => decide (0x3800 ≤ p.1) && decide (p.1 < 0x3C00) } }

/-- Base of a leg's block of parameters (R252). -/
def legBase (k : Fin 6) : Nat := if k.val < 3 then 0x3800 + k.val * 0x10 else 0x3A00 + (k.val - 3) * 0x10
def grpOf (k : Fin 6) : Grp := if k.val < 3 then .steer else .aux
/-- Base of a group's block of parameters. -/
def grpBase (g : Grp) : Nat := if g = .steer then 0x3880 else 0x3A80
/-- DETAIL of GD_GATE and GD_TEST (R607). -/
def grpDetail (g : Grp) : BitVec 16 := if g = .steer then 0 else 1

def Channel.grp (c : Channel) (g : Grp) : GdGrp := if g = .steer then c.gd.grpS else c.gd.grpA
def Channel.setGrp (c : Channel) (g : Grp) (x : GdGrp) : Channel :=
  if g = .steer then { c with gd := { c.gd with grpS := x } } else { c with gd := { c.gd with grpA := x } }

def Channel.setLeg (c : Channel) (k : Fin 6) (x : Leg) : Channel :=
  { c with gd := { c.gd with legs := c.gd.legs.set k x } }

/-- The PULSE of BCH low: its gate turns off, but a soft turn-off keeps its course (R228, R236, R239). -/
def Channel.bchOff (c : Channel) : Channel :=
  { c with gd := { c.gd with bch := false, bchGate := c.gd.bchGate && c.gd.bchSto != .none,
                             testBchOff := c.gd.testBchOff || c.gd.grpS.testBusy } }

/-- The gate of BCH off at once with a normal edge (R30, R57, R234, R248). -/
def Channel.bchCut (c : Channel) : Channel :=
  { c.bchOff with gd := { c.bchOff.gd with bchGate := false, bchSto := .none } }

/-- The gate of BCH off at once with a normal edge while its PULSE stays as it is: the die alone holds it (R30, R234,
R248). -/
def Channel.bchHeld (c : Channel) : Channel :=
  { c with gd := { c.gd with bchGate := false, bchSto := .none, testBchOff := c.gd.testBchOff || c.gd.grpS.testBusy } }

/-- The PULSE of BCH high (R228, R245). DEDUCED (unsafe), log entry 54. -/
def Channel.bchStart (c : Channel) (t : Nat) : Channel :=
  { c with gd := { c.gd with bch := true, bchOnAt := t, bchSeenAt := none, onCnt := satInc c.gd.onCnt } }.bchFollow

/-- Dead time of a leg in ROOT: GD_DT.DT in 5 ns (R230, R253). -/
def Channel.deadTime (c : Channel) (k : Fin 6) : Nat := 5 * c.gdf (legBase k + 2) 0 8

/-- A leg may turn a gate on: the die drives it (R30, R57, R236, R248). -/
def Channel.legDriven (c : Channel) (k : Fin 6) : Bool :=
  let l := c.gd.legs[k]
  !l.trip && !l.gate && l.sto == .none && !c.gd.off (grpOf k)

/-- A request pair of which one side is low at least, encoded on the lanes of a leg and followed by the die (R228 to
R230, R242). DESIGN CHOICE (unsafe), log entry 53. -/
def Channel.legFollow (c : Channel) (t : Nat) (k : Fin 6) (hs ls : Bool) (l : Leg) : Leg :=
  if !hs && !ls then (if l.sto = .none then { l.turnOff t with enable := false } else { l with enable := false })
  else
    let l := { l with pulse := hs, enable := true }
    let on (high : Bool) : Leg := l.turnOn t high (c.deadTime k) (Config.gateSense c.id k)
    if !c.legDriven k then l
    else if ls then on false
    else if l.bstBlock && l.bstLow then l.turnOff t
    else { on true with bstBlock := false }

/-- The low sides of a group on, its high sides off: BRAKE and ASC (R215, R247). -/
def Channel.lowSides (c : Channel) (t : Nat) (g : Grp) : Channel :=
  c.mapLegs fun k l => if inGrp g k then c.legFollow t k false true l else l

/-- The auxiliary drive enters a state without gates. -/
def Channel.adIdle (c : Channel) (t : Nat) (st : AdSt) : Channel :=
  let c := c.gatesOff t .aux
  { c with ad := { c.ad with st := st, since := t, limited := false, ramping := false, fresh := false } }

/-- The auxiliary drive enters OFF (R206). -/
def Channel.adOff (c : Channel) (t : Nat) : Channel :=
  let c := c.adIdle t .off
  { c with ad := { c.ad with ovWait := false, pendEnable := false } }

/-- FAULT with its cause: 1 SYNC, 2 KE, 3 REVERSE (R208, R224). -/
def Channel.adFault (c : Channel) (t : Nat) (cause : BitVec 3) : Channel :=
  let c := (c.adIdle t .fault).raise 19
  { c with ad := { c.ad with lastFault := cause } }

/-- Failures less than 10 s before an instant (R207, R224). -/
def Ad.recent (a : Ad) (t : Nat) : List Nat := a.fails.filter fun f => decide (t < f + 10000000000)

/-- A failure of R207. DEDUCED (unsafe), log entry 50. -/
def Channel.adFailure (c : Channel) (t : Nat) : Channel :=
  let earlier := c.ad.recent t
  let c := c.raise 18
  let c := { c with ad := { c.ad with syncFails := satInc c.ad.syncFails, fails := (t :: c.ad.fails).take 3 } }
  if earlier.length ≥ 2 then c.adFault t 1 else c.adIdle t .coast

/-- The drive leaves OFF, unless a self-test or a cut holds it (R206, R249). -/
def Channel.adStart (c : Channel) (t : Nat) : Channel :=
  if c.ad.st != .off then c
  else if c.gd.grpA.testBusy then { c with ad := { c.ad with pendEnable := true } }
  else
    let c := (c.applyRange 0x3400 0x340F).leaveOffCodes .aux
    let c := { c with ad := { c.ad with pendEnable := false }, gd := { c.gd with vgdLowA := false } }
    if c.sup.ov then
      let c := c.adIdle t .coast
      { c with ad := { c.ad with ovWait := true } }
    else
      let c := c.adIdle t .idle
      { c with ad := { c.ad with brakeRound := 0 } }

/-- The drive and what it has raised, as they are before the first event of R206 in a TCLK that one of a higher row may
take back. -/
def Channel.adMark (c : Channel) (t : Nat) : Channel :=
  let held := match c.ad.mark with
    | some m => sameTclk m.t t
    | none => false
  if held then c
  else
    let m : AdMark :=
      { t := t, st := c.ad.st, since := c.ad.since, brakeRound := c.ad.brakeRound, syncFails := c.ad.syncFails,
        keFaults := c.ad.keFaults, fails := c.ad.fails, lastFault := c.ad.lastFault,
        inView := bit c.rd.view (18 + c.id.idx.val), sync := c.fcl.raised.contains (18, 0),
        pmp := c.fcl.raised.contains (19, 0) }
    { c with ad := { c.ad with mark := some m } }

/-- An event of a higher row of R206 governs one of a lower row in the same TCLK: what that one did is taken back, and
its lines are not raised (R206). DEDUCED (unsafe), log entry 50. -/
def Channel.adTakeBack (c : Channel) (t : Nat) : Channel :=
  match c.ad.mark with
  | some m =>
    if !sameTclk m.t t then c
    else
      let keep (l : Fin 62 × BitVec 16) : Bool := !((l == (18, 0) && !m.sync) || (l == (19, 0) && !m.pmp))
      { c with
        ad := { c.ad with mark := none, st := m.st, since := m.since, brakeRound := m.brakeRound, syncFails := m.syncFails,
                          keFaults := m.keFaults, fails := m.fails, lastFault := m.lastFault },
        fcl := { c.fcl with raised := c.fcl.raised.filter keep },
        rd := { c.rd with view := if m.inView then c.rd.view else setBit c.rd.view (18 + c.id.idx.val) false } }
  | none => c

/-- ENABLE lanes of a group dropped by a fault reaction (R177, R206, R237). ASC ends at a short report alone. -/
def Channel.dropGrp (c : Channel) (t : Nat) (g : Grp) : Channel :=
  match g with
  | .steer =>
    match c.sd.st with
    | .closing | .run => c.sdOpening t 2
    | .asc => c
    | _ => c.gatesOff t .steer
  | .aux =>
    let c := c.adTakeBack t
    if c.ad.st = .off then { c.gatesOff t .aux with ad := { c.ad with pendEnable := false } } else c.adOff t

/-- Lanes 6 to 11 and BCH PULSE low (R102); an ASC in progress keeps HB0 to HB2 (R247). -/
def Channel.dropEnables (c : Channel) (t : Nat) : Channel := ((c.dropGrp t .steer).dropGrp t .aux).bchOff

/-- The channel is ISOLATED: its core stops (R102, R327). -/
def Channel.isolateNow (c : Channel) (t : Nat) : Channel :=
  let c := c.setRole t .isolated
  { c with exe := { c.exe with stopping := false, stopped := true },
           rd := { c.rd with ann := none, annQ := [], health := none, ho := none } }

/-- The reaction ISOLATE (R102, R358): enables dropped, claims forced to 0x00, the core stops at the next frame
boundary; where no frame runs it has stopped already. -/
def Channel.beginIsolate (c : Channel) (t : Nat) : Channel :=
  if c.exe.stopping || c.exe.stopped then c
  else
    let c := c.dropEnables t
    let c := { c with exe := { c.exe with stopping := true }, sd := { c.sd with pendEnable := false } }
    if c.running then c else c.isolateNow t

/-- ASC of R247 ends: the drive enters OFF, PIS opens. -/
def Channel.endAsc (c : Channel) (t : Nat) : Channel :=
  if c.gd.asc then
    let c := c.sdOff t
    { c with gd := { c.gd with asc := false, ascLowAt := none } }
  else c

/-- The reaction to a chopper fault (R247). -/
def Channel.chopFault (c : Channel) (t : Nat) : Channel :=
  let c := c.bchOff.raise 30
  let c := { c with gd := { c.gd with bchFault := true } }
  let c := match c.sd.st with
    | .run =>
      let c := c.leaveSet.lowSides t .steer
      { c with sd := { c.sd with st := .asc, lastLeave := 7 }, gd := { c.gd with asc := true, ascAt := t } }
    | .closing => c.sdOpening t 2
    | _ => c
  let c := (c.adTakeBack t).adOff t
  if c.exe.stopping || c.exe.stopped then c
  else
    let c := { c with exe := { c.exe with stopping := true }, sd := { c.sd with pendEnable := false } }
    if c.running then c else c.isolateNow t

/-- The two-level soft turn-off of a gate that is on; one in its dead time does not turn on (R236).
DESIGN CHOICE (unsafe), log entry 53. -/
def softOff (l : Leg) (t : Nat) : Leg :=
  if l.sto != .none then l else if l.isOn t then { l with sto := .level, stoAt := t } else l.turnOff t

/-- The next gate from place i that is still on, in the order HB0 to HB5 and BCH, which has place 6 (R239). -/
def Gd.nextOn (g : Gd) (t i : Nat) : Option (Fin 7) :=
  (List.finRange 7).find? fun k => decide (i ≤ k.val) &&
    (if h : k.val < 6 then (g.legs[k.val]).isOn t && (g.legs[k.val]).sto == .none else g.bchGate && g.bchSto == .none)

/-- The refresh compare value RC' of a group (R240). -/
def Channel.rcPrime (c : Channel) (g : Grp) : Nat := max (c.gdf (grpBase g) 6 10) (c.af 0x3004 8 8)

/-- A code at a mark: CODE_INIT where ADAPT is 0, held within CODE_MIN to CODE_MAX (R233, R252). -/
def Channel.codeAt (c : Channel) (k : Fin 6) (l : Leg) (x : BitVec 5) : BitVec 5 :=
  let b := legBase k
  let x := if c.gdf b 9 1 = 0 then l.codeInit else x
  BitVec.ofNat 5 (max (c.gdf b 15 5) (min (c.gdf b 20 5) x.toNat))

/-- The die's copy takes effect at a mark, unless the frame that carried it failed (R233, R251).
DESIGN CHOICE (unsafe), log entry 56. -/
def Channel.gdMark (c : Channel) : Channel :=
  if c.gd.gclkHold || c.gd.gdlStale then c
  else
    let c := c.gdCopy
    c.mapLegs fun k l => { l with codeHsOn := c.codeAt k l l.codeHsOn, codeHsOff := c.codeAt k l l.codeHsOff,
                                  codeLsOn := c.codeAt k l l.codeLsOn, codeLsOff := c.codeAt k l l.codeLsOff }

end Sys2Proof.Machine
end

