-- ==== Sys2Proof/Machine/ResetOps.lean ====
section
/-! DEFINITION. Entering a channel reset and the start of the sequence after it (R59 to R66, R603, R71). -/

namespace Sys2Proof.Machine

/-- RST_CAUSE bit of a cause (R82). -/
def Cause.bit : Cause → Nat
  | .por => 0
  | .supply => 1
  | .rail => 2
  | .pin => 3
  | .watchdog => 4
  | .fault => 5
  | .command => 6
  | .debug => 7

/-- The place of OEM slot 1 to 4 among the key slots (R470). -/
def keyIdx (slot : BitVec 3) : Fin 4 := Fin.ofNat 4 (slot.toNat + 3)

/-- A bank by name: false A, true B. -/
def Nv.bank (n : Nv) (b : Bool) : Bank := if b then n.bankB else n.bankA
def Nv.setBank (n : Nv) (b : Bool) (x : Bank) : Nv := if b then { n with bankB := x } else { n with bankA := x }

/-- A trial cut off by a reset fails: the bank becomes REJECTED, or VALID again after POR or SUPPLY (R497). -/
def Nv.trialFailed (n : Nv) (s : Sec) (supply : Bool) : Nv :=
  if s.trial then
    let n := n.setBank s.booted { n.bank s.booted with st := if supply then 2 else 5 }
    { n with revert := some (s.fwVer, !supply) }
  else n

/-- A reset during fuse programming leaves the slot damaged (R473). -/
def Nv.keyCut (n : Nv) (s : Sec) : Nv :=
  match s.keyBusy with
  | some k => { n with keys := n.keys.set (keyIdx k) { n.keys[keyIdx k] with damaged := true } }
  | none => n

/-- The chunks of a configuration slot (R491). -/
def Nv.cfg (n : Nv) (slot : Bool) : List (Nat × List Word) := if slot then n.cfg1 else n.cfg0
def Nv.setCfg (n : Nv) (slot : Bool) (xs : List (Nat × List Word)) : Nv :=
  if slot then { n with cfg1 := xs } else { n with cfg0 := xs }

/-- The bank in a state: A first. -/
def Nv.bankIn (n : Nv) (st : BitVec 3) : Option Bool :=
  if n.bankA.st = st then some false else if n.bankB.st = st then some true else none

/-- A bank is neither ACTIVE nor TRIAL (R492). -/
def Nv.idle (n : Nv) (b : Bool) : Bool := (n.bank b).st != 3 && (n.bank b).st != 4

/-- The bank that an update writes, false A, true B: the inactive one (R492). With both banks inactive the PARTIAL
one, or else one that is not VALID, A first. DEDUCED (unsafe), log entry 112. -/
def Nv.inactive (n : Nv) : Bool :=
  if !n.idle false then true
  else if !n.idle true then false
  else match n.bankIn 1 with
    | some b => b
    | none => n.bankA.st == 2 && n.bankB.st != 2
/-- The PARTIAL bank (R492). -/
def Nv.partialBank (n : Nv) : Option Bool :=
  if n.bankA.st = 1 then some false else if n.bankB.st = 1 then some true else none

/-- A block whose write did not complete its commit word reads as unwritten (R61).
DEDUCED (unsafe), log entry 133. -/
def Nv.unwritten (n : Nv) (d : MramData) : Nv :=
  match d with
  | .log _ => { n with ring := n.ring.take 1983 }
  | .latch _ => n
  | .curve _ => { n with curve := none }
  | .comb _ => { n with comb := none }
  | .loop slot _ => { n with loops := n.loops.set slot none }
  | .configChunk slot k _ => n.setCfg slot ((n.cfg slot).filter fun p => p.1 != k)
  | .imageHeader _ => n.setBank n.inactive {}
  | .imageBlock b _ =>
    match n.partialBank with
    | none => n
    | some k =>
      let x := n.bank k
      let lost := (x.body.any fun p => p.1 == b) && !x.missing.contains b
      let missing := if lost then (x.missing.filter (· < b)) ++ b :: x.missing.filter (b < ·) else x.missing
      n.setBank k { x with body := x.body.filter fun p => p.1 != b, missing := missing }
  | .freezeErase => { n with freeze := [] }

/-- The block write in its attempt is cut off (R61). DEDUCED (unsafe), log entry 133. -/
def Nv.cutJob (n : Nv) : Nv :=
  match n.busy, n.jobs with
  | true, j :: _ => n.unwritten j.data
  | _, _ => n

/-- What a reset leaves of fuses and MRAM: block writes that wait are lost, the one cut off reads as unwritten, an
advanced life-cycle state is in force, SEQ goes on from the newest stored entry, and the log digest starts afresh at
entry to MANUFACTURE (R61, R473, R476, R481, R497, R529). DEDUCED (unsafe), log entry 115. DEDUCED (unsafe), log entry
121. -/
def Nv.cut (n : Nv) (s : Sec) (supply : Bool) : Nv :=
  let n := (n.cutJob.trialFailed s supply).keyCut s
  let seq := match n.ring with
    | e :: _ => e.seq
    | [] => 0
  let digest := if n.lcNext = some 1 then List.replicate 64 0 else n.digest
  { n with jobs := [], busy := false, passed := 0, lc := n.lcNext.getD n.lc, lcNext := none, seq := seq,
           freezeFrom := seq, digest := digest }

/-- What a reset leaves: everything at its reset value but the always-on domain, fuses and MRAM (R16, R61, R63,
R537). supply: its cause is POR or SUPPLY. DESIGN CHOICE (unsafe), log entry 25. DEDUCED (safe), log entry 29. -/
def Channel.cleared (c : Channel) (supply : Bool) : Channel :=
  let r := Channel.reset c.id
  { r with
    rst := { c.rst with phase := .held, pend := [], hold := false, belowWarn := c.sup.warn || c.rst.belowWarn,
                        aboveOv := c.sup.ov || c.rst.aboveOv },
    clk := { c.clk with spread := 0, mismatch := false, depth := 0, triAt := 0 },
    sup := { vsupMv := c.sup.vsupMv },
    gd := Gd.reset,
    fb := r.fb.without c.mg.deadIn,
    mg := { unusable := c.mg.unusable, deadIn := c.mg.deadIn, powerup := c.mg.powerup },
    img := c.img, params := c.img, act := c.img,
    nv := c.nv.cut c.sec supply }

/-- The SESSION grant that a reset ends, which the boot logs (R484, R530). DEDUCED (unsafe), log entry 118. -/
def Sec.lost (s : Sec) (q : ResetReq) : Option (BitVec 2 × BitVec 3) :=
  if s.level = 0 || s.scope || q.cause = .debug then none else some (s.level, s.grantSlot)

/-- A SESSION grant is kept by a reset with cause DEBUG alone (R484). DEDUCED (unsafe), log entry 28. -/
def Sec.kept (s : Sec) (q : ResetReq) : Sec :=
  if q.cause = .debug then { level := s.level, scope := s.scope, grantSlot := s.grantSlot } else {}

/-- The sequence after the reset starts once nothing holds it (R60, R64, R71). DEDUCED (unsafe), log entry 28. -/
def Channel.sequence (c : Channel) : Channel :=
  if c.rst.phase != .held || c.rst.pinLow || c.rst.supLow then c
  else if c.rst.full then
    { c with rst := { c.rst with phase := .xtal }, clk := { c.clk with xtalOk := false, pllLock := false } }
  else { c with rst := { c.rst with phase := .interconnect } }

/-- A channel in reset or on its way out of one. -/
def Channel.inReset (c : Channel) : Bool :=
  c.rst.phase == .held || c.rst.phase == .xtal || c.rst.phase == .pll || c.rst.phase == .interconnect ||
    c.rst.phase == .verify

/-- A cause still holds the reset: further causes join those recorded (R63, R71). -/
def Channel.heldReset (c : Channel) : Bool :=
  c.rst.phase == .held || (c.rst.clkHold && (c.rst.phase == .xtal || c.rst.phase == .pll))

/-- A further cause joins a reset that is held: it holds it anew, and what that reset has recorded stands (R63). -/
def Channel.joined (c : Channel) : Channel := { c with rst := { c.rst with phase := .held, pend := [] } }

/-- A reset takes effect; causes that coincide all appear (R61, R63, R82, R83, R517).
DESIGN CHOICE (unsafe), log entry 25. DEDUCED (unsafe), log entry 28. DEDUCED (safe), log entry 128. -/
def Channel.enterReset (c : Channel) (q : ResetReq) : Channel :=
  let old : Nat := if c.heldReset then c.rst.cause.toNat else 0
  let full := q.full || (c.rst.phase != .run && c.rst.phase != .recovery && c.rst.phase != .interconnect &&
    c.rst.phase != .verify && c.rst.full)
  let sec := c.sec.kept q
  let lost := (c.sec.lost q).or c.rst.lost
  let c := if c.heldReset then c.joined else c.cleared (q.cause == .supply || q.cause == .por)
  let image := if q.cause = .supply then c.nv.image else none
  let c := { c with sec := sec, nv := { c.nv with image := image } }
  let r := { c.rst with
    lost := lost
    cause := setBit (BitVec.ofNat 8 old) q.cause.bit true, full := full,
    cmdPort := if q.cause = .command then q.port else if old = 0 then 0 else c.rst.cmdPort }
  let r := match q.line with
    | some k => { r with line := k, lineValid := true }
    | none => if old = 0 then { r with line := 0, lineValid := false } else r
  { c with rst := r }

/-- Every reset that waits takes effect (R61). -/
def Channel.pendingReset (c : Channel) : Channel :=
  match c.rst.pend with
  | [] => c
  | qs => (qs.foldl (fun c q => c.enterReset q) c).sequence

/-- A reset of a source that waits for the end of an MRAM attempt in progress (R61). -/
def Channel.requestReset (c : Channel) (q : ResetReq) : Channel :=
  let c := { c with rst := { c.rst with pend := c.rst.pend ++ [q] } }
  if c.nv.busy then c else c.pendingReset

/-- A reset that takes effect at once (R61). -/
def Channel.resetNow (c : Channel) (q : ResetReq) : Channel :=
  let c := { c with rst := { c.rst with pend := c.rst.pend ++ [q] } }
  c.pendingReset

/-- The cause that the reset of a failed trial records: open (R497). DESIGN CHOICE (safe), log entry 21. -/
def Channel.trialCause (c : Channel) (t : Nat) : Cause :=
  match (Config.trialCause c.id t).val with
  | 0 => .por
  | 1 => .supply
  | 2 => .rail
  | 3 => .pin
  | 4 => .watchdog
  | 5 => .fault
  | 6 => .command
  | _ => .debug

/-- A trial that fails by a line or by time ends in a reset, and its bank is rejected, unless the cause of that reset is
POR or SUPPLY (R497). DESIGN CHOICE (safe), log entry 21. -/
def Channel.failTrial (c : Channel) (t : Nat) : Channel :=
  let q := c.trialCause t
  let c := { c with nv := c.nv.trialFailed c.sec (q == Cause.por || q == Cause.supply), sec := { c.sec with trial := false } }
  c.requestReset ⟨q, false, none, 0⟩

end Sys2Proof.Machine
end

