-- ==== Sys2Proof/Machine/FaultOps.lean ====
section
/-! DEFINITION. The fault view of a channel and the fault collector (R331, R340 to R342, R354 to R370, R607). -/

namespace Sys2Proof.Machine

def Channel.wi (c : Channel) (w : Wid) : Wi :=
  match w with
  | .w1 => c.wi1
  | .w2 => c.wi2
def Channel.setWi (c : Channel) (w : Wid) (x : Wi) : Channel :=
  match w with
  | .w1 => { c with wi1 := x }
  | .w2 => { c with wi2 := x }

/-- Integrated: SYNC or REFERENCE (R414). -/
def Channel.integrated (c : Channel) : Bool := c.net.nt.st == .sync || c.net.nt.st == .reference

/-- A channel is a partner's or the own record in the order A, B, C. -/
def Channel.peer (c : Channel) (ch : Ch) : Partner :=
  match ch with
  | .a => c.rd.a
  | .b => c.rd.b
  | .c => c.rd.c
def Channel.setPeer (c : Channel) (ch : Ch) (x : Partner) : Channel :=
  match ch with
  | .a => { c with rd := { c.rd with a := x } }
  | .b => { c with rd := { c.rd with b := x } }
  | .c => { c with rd := { c.rd with c := x } }

/-- WLOST by a status word: LOCKOUT with CLOCK, INTERNAL or VLOAD, or a PKR fault (R340). -/
def statLost (sw : StatusWord) : Bool :=
  (sw.state == 3 && (sw.cause == 4 || sw.cause == 5 || sw.cause == 6)) || sw.cause == 8

def Channel.wltCond (c : Channel) (w : Wid) : Bool :=
  match (c.wi w).stat with
  | some sw => sw.solf != 0
  | none => false
def Channel.wlostCond (c : Channel) (w : Wid) : Bool :=
  (match (c.wi w).stat with
   | some sw => statLost sw
   | none => false) || c.rd.silent.getLsbD (if w = .w1 then 0 else 1)

/-- WND of the own winding (R340). -/
def Channel.wndCond (c : Channel) : Bool :=
  c.sd.wndOut || (c.sd.angle == .hallOnly && c.sd.st != .off) || c.gd.pisLatched || c.gd.grpS.testFail ||
    (List.finRange 6).any fun k => decide (k.val < 3) && ((c.gd.legs[k]).sc || (c.gd.legs[k]).gate)
/-- PMP of the own pump (R340). -/
def Channel.pmpCond (c : Channel) : Bool :=
  c.ad.st == .fault || c.gd.grpA.testFail ||
    (List.finRange 6).any fun k => decide (3 ≤ k.val) && ((c.gd.legs[k]).sc || (c.gd.legs[k]).gate)
/-- SNS of the own sensor (R334). -/
def Channel.snsCond (c : Channel) : Bool := decide (2 ≤ c.rd.angInv) || decide (4 ≤ c.rd.angTol)

/-- The condition of a class entry that the channel itself judges, by its bit of R331 (R340).
DEDUCED (unsafe), log entry 82. -/
def Channel.viewCond (c : Channel) (k : Nat) : Bool :=
  let me := Ch.bit c.id
  let netOn := c.rd.role != .offline
  if k = 6 then c.wltCond .w1
  else if k = 7 then c.wltCond .w2
  else if k = 8 then c.wlostCond .w1
  else if k = 9 then c.wlostCond .w2
  else if k = 10 then netOn && !c.net.nt.x.held
  else if k = 11 then netOn && !c.net.nt.y.held
  else if 12 ≤ k ∧ k < 15 then (k == 12 + me && c.snsCond) || c.rd.xfail.any fun ch => k == 12 + Ch.bit ch
  else if k = 15 + me then c.wndCond
  else if k = 18 + me then c.pmpCond
  else false

/-- A class entry enters the view. -/
def Channel.enterView (c : Channel) (k : Fin 24) : Channel :=
  { c with rd := { c.rd with view := setBit c.rd.view k.val true, absent := c.rd.absent.set k none } }

/-- Conditions judged: entries enter, and the time without a condition starts (R340, R342). -/
def Channel.viewStep (t : Nat) (c : Channel) (k : Fin 24) : Channel :=
  if c.viewCond k.val then c.enterView k
  else if bit c.rd.view k.val && (c.rd.absent[k]).isNone then
    { c with rd := { c.rd with absent := c.rd.absent.set k (some t) } }
  else c

def Channel.viewSync (c : Channel) (t : Nat) : Channel := (List.finRange 24).foldl (Channel.viewStep t) c

/-- Lines that serve one registration per DETAIL (R607). -/
def perDetail (l : Fin 62) : Bool := l == 24 || l == 27 || l == 44

def Reg.is (r : Reg) (l : Fin 62) (d : BitVec 16) : Bool := r.line == l && (!perDetail l || r.detail == d)

/-- A history entry and its copy in the event log (R365, R370, R530). -/
def Channel.hist (c : Channel) (t : Nat) (l : Fin 62) (kind : BitVec 2) (d : BitVec 16) : Channel :=
  let f := c.fcl
  let cls := lineClass l.val
  let h : Hist := ⟨BitVec.ofNat 6 l.val, cls, kind, d, c.nt32 t⟩
  let overflowed := decide (16 ≤ f.hist.length)
  let newest := if f.hist.isEmpty then 0 else f.newest + 1
  let f := { f with hist := (h :: f.hist).take 16, newest := newest,
                    overwr := if overflowed then satInc f.overwr else f.overwr }
  { c with fcl := f }.logEv t 1 l.val [put 24 cls.toNat ||| put 16 kind.toNat ||| put 0 d.toNat]

/-- Fault-view entry of a line at its registration; its absence counts from there where no condition keeps it (R342,
R354, R357, R607). -/
def Channel.lineView (c : Channel) (t : Nat) (l : Fin 62) (d : BitVec 16) : Channel :=
  let me := c.id.idx.val
  let c := c.viewSync t
  let wnd (c : Channel) : Channel := (c.enterView (Fin.ofNat 24 (15 + me))).viewSync t
  let pmp (c : Channel) : Channel := (c.enterView (Fin.ofNat 24 (18 + me))).viewSync t
  if l = 3 then c.enterView (Fin.ofNat 24 (3 + me))
  else if l = 16 ∨ l = 21 ∨ l = 25 then wnd c
  else if l = 19 ∨ l = 22 then pmp c
  else if l = 24 ∨ l = 27 then (if d = 0 then wnd c else pmp c)
  else if l = 44 then
    let who := d.toNat % 4
    if who = 0 then c
    else c.enterView (Fin.ofNat 24 (who - 1 + (if d.getLsbD 8 then 3 else 0)))
  else c

/-- A single event, such as ECC_MRAM, enters QUIET in the TCLK after its registration (R360).
DEDUCED (unsafe), log entry 86. -/
def quietFrom (t : Nat) (l : Fin 62) : Option Nat := if l = 8 then some (t + tclk 1) else none

/-- One line registers (R355, R356, R364, R607); a raise of class RECOVERABLE or above spoils a health window (R339).
The flag says that it is new.
DEDUCED (unsafe), log entry 80. DEDUCED (unsafe), log entry 85. -/
def Channel.registerLine (c : Channel) (t : Nat) (l : Fin 62) (d : BitVec 16) : Channel × Bool :=
  let spoilt := c.rd.health.isSome && lineClass l.val != 0
  let c := { c with rd := { c.rd with healthBad := c.rd.healthBad || spoilt } }
  let f := c.fcl
  let f := { f with raised := f.raised.filter fun p => !(p.1 == l && p.2 == d) }
  if f.regs.any fun r => r.is l d then
    let regs := f.regs.map fun r => if r.is l d then { r with quietAt := quietFrom t l } else r
    ({ c with fcl := { f with regs := regs, reraise := satInc f.reraise } }, false)
  else
    let first := if f.first.isNone && lineClass l.val != 0 then some (BitVec.ofNat 6 l.val) else f.first
    let f := { f with status := setBit f.status l.val true, regs := f.regs ++ [⟨l, d, quietFrom t l⟩], first := first }
    let c := { c with fcl := f }
    ((c.hist t l (if l = 61 then 2 else 0) d).lineView t l d, true)

/-- Lines whose reaction is ISOLATE (R354). -/
def isolates (l : Fin 62) : Bool := lineClass l.val == 2 && l != 2 && l != 30 && l != 56

/-- The reset of a clock failure: it holds until the clocks pass their tests; no MRAM write starts before boot
verification (R61, R70, R71). DESIGN CHOICE (unsafe), log entry 27. -/
def Channel.clockReset (c : Channel) (t : Nat) : Channel :=
  let c := c.resetNow ⟨.fault, true, some 2, 0⟩
  let c := { c with rst := { c.rst with clkHold := true } }
  let c := (c.registerLine t 2 0).1
  { c with nv := { c.nv with busy := false } }.sequence

/-- The reaction to the lines that register newly in one TCLK: the most severe runs (R356 to R358, R364). -/
def Channel.react (c : Channel) (t : Nat) (new : List (Fin 62)) : Channel :=
  if new.contains 2 then c.clockReset t
  else if new.contains 56 then c.requestReset ⟨.fault, false, some 56, 0⟩
  else if c.sec.trial && new.any (fun l => lineClass l.val == 2) then c.failTrial t
  else if new.contains 30 && !c.gd.bchFault then c.chopFault t
  else if new.any isolates then c.beginIsolate t
  else c

/-- A result word (R536). DEDUCED (safe), log entry 10. -/
def bistWord (test : BitVec 8) (status : Nat) (detail : BitVec 16) : Word :=
  put 0 test.toNat ||| put 8 status ||| put 16 detail.toNat

def Channel.setResult (c : Channel) (test : BitVec 8) (v : Word) : Channel :=
  { c with mg := { c.mg with results := storeD c.mg.results test.toNat v (bistWord test 0 0) } }

/-- Tests that take the channel OFFLINE first (R535). -/
def bistOffline (test : BitVec 8) : Bool := test == 1 || decide (0x10 ≤ test.toNat)

/-- Partners are judged afresh, as after a reset (R332, R504). -/
def Rd.woken (r : Rd) : Rd := { r with a := {}, b := {}, c := {} }

/-- The links set up again after their test: partners and lanes are judged afresh (R535).
DEDUCED (unsafe), log entry 152. -/
def Channel.linksBack (c : Channel) (t : Nat) : Channel :=
  { c with rd := c.rd.woken, wi1 := { c.wi1 with lastGood := t }, wi2 := { c.wi2 with lastGood := t } }

/-- An Ollia port whose clock stops, or that leaves OFF: its counts stand (R373). -/
def OlPort.stopped (x : OlPort) : OlPort :=
  { x with st := .listen, heardAt := none, fifo := [], engAt := 0, fwdAt := 0, frame := 0, engOn := false, hdr := none,
           judged := false, fwdTo := false, skip := false, copy := none, rxAt := 0, freeAt := none, closeAt := none }

/-- A host port set up again after its test: no read data is held for a next transaction (R432, R535).
DEDUCED (unsafe), log entry 152. -/
def HPort.restarted (x : HPort) : HPort := { x with sdo := [], sdoCrc := 0 }

/-- The tested block is set up again from its configuration, however its test ends; port: the one that started it (R373,
R535). DEDUCED (unsafe), log entry 152. -/
def Channel.bistRestore (c : Channel) (t : Nat) (test : BitVec 8) (port : Port) : Channel :=
  match test.toNat with
  | 0x01 => c.linksBack t
  | 0x10 => c.gdCopy
  | 0x11 => c.fbRestart
  | 0x12 => { c with net := { c.net with ports := c.net.ports.map OlPort.stopped } }
  | 0x13 => match port with
    | .hp0 => { c with hp := { c.hp with ports := c.hp.ports.set 1 (c.hp.ports[1]).restarted } }
    | .hp1 => { c with hp := { c.hp with ports := c.hp.ports.set 0 (c.hp.ports[0]).restarted } }
  | _ => c

/-- A test ends: its result, logged, and its block set up again (R530, R535, R536). status: 2 passed, 3 failed, 4
aborted. DEDUCED (unsafe), log entry 152. -/
def Channel.bistEnd (c : Channel) (t : Nat) (test : BitVec 8) (port : Port) (status : Nat) (detail : BitVec 16) :
    Channel :=
  let w := bistWord test status detail
  ({ c with mg := { c.mg with bist := none } }.setResult test w).bistRestore t test port |>.logEv t 7 test.toNat [w]

/-- A CHANNEL_FATAL line or a wake source aborts a test (R536). -/
def Channel.bistAbort (c : Channel) (t : Nat) : Channel :=
  match c.mg.bist with
  | some (k, p, _) => c.bistEnd t k p 4 0
  | none => c

/-- A test holds the channel OFFLINE (R535). -/
def Channel.bistHolds (c : Channel) : Bool :=
  match c.mg.bist with
  | some (k, _, _) => bistOffline k
  | none => false

/-- A wake from DOZE starts, by a source of LAST_WAKE; sources that coincide all appear (R513, R515, R520). -/
def Channel.wakeDoze (c : Channel) (t : Nat) (source : Nat) : Channel :=
  if c.pwr.waking then
    (if c.pwr.wakeAt = t then { c with pwr := { c.pwr with lastWake := setBit c.pwr.lastWake source true } } else c)
  else
    { c with pwr := { c.pwr with waking := true, wakeAt := t, lastWake := setBit (0 : BitVec 5) source true } }

/-- Lines that register in one TCLK, in ascending order (R355 to R358, R364). In DOZE a line of class CHANNEL_FATAL
wakes the channel, and its reaction follows the release of the core (R512). An ISOLATED channel runs no reaction, but
its trial fails (R364, R497). DEDUCED (unsafe), log entry 84. -/
def Channel.registerLines (c : Channel) (t : Nat) (ls : List (Fin 62 × BitVec 16)) : Channel :=
  let ls := ls.mergeSort fun a b => decide (a.1.val ≤ b.1.val)
  let r := ls.foldl (fun (a : Channel × List (Fin 62)) p =>
    let x := a.1.registerLine t p.1 p.2
    (x.1, if x.2 then a.2 ++ [p.1] else a.2)) (c, [])
  let c := r.1
  let new := r.2
  let c := if new.contains 61 then { c with fcl := { c.fcl with latched := true } }.mram (.latch true) else c
  let fatal := new.any fun l => lineClass l.val == 2
  let c := if fatal then c.bistAbort t else c
  if c.exe.stopped then (if c.sec.trial && fatal then c.failTrial t else c)
  else if c.pwr.doze then (if new.any (fun l => lineClass l.val == 2) then c.wakeDoze t 3 else c)
  else c.react t new

/-- Recoveries within the window in force (R362). WINDOW is in minutes. -/
def Channel.recent (c : Channel) (t : Nat) : List Nat :=
  c.fcl.stamps.filter fun s => decide (t < s + 60000000000 * c.af 0x4804 14 11)

/-- A recovered line (R360 to R363). DEDUCED (unsafe), log entry 85. -/
def Channel.recover (c : Channel) (t : Nat) (l : Fin 62) (d : BitVec 16) : Channel :=
  let f := c.fcl
  let c := { c with fcl := { f with regs := f.regs.filter (fun r => !r.is l d), recov := satInc f.recov } }
  let c := c.hist t l 1 d
  let c := { c with fcl := { c.fcl with stamps := t :: c.recent t } }
  if (c.recent t).length > c.af 0x4804 10 4 then c.registerLines t [(61, 0)] else c

/-- Registrations of a MODULE_SAFETY line end when its entry leaves the view (R359). -/
def Channel.dropLine (c : Channel) (l : Fin 62) (d : BitVec 16) : Channel :=
  { c with fcl := { c.fcl with regs := c.fcl.regs.filter fun r => !r.is l d } }

end Sys2Proof.Machine
end

