-- ==== Sys2Proof/Machine/Signals.lean ====
section
/-! DEFINITION. The signals of R116 as the control engine and the drives see them, and the angle sources of R140. -/

namespace Sys2Proof.Machine

/-- A slot's output is valid in RUNNING and HOLD (R110, R117). -/
def Slot.live (x : Slot) : Bool := x.st == .running || x.st == .hold

/-- A receive flow that feeds a demand register is STALE: the register is an invalid signal from the cycle start on
that found it so (R117, R394). DESIGN CHOICE (safe), log entry 15. -/
def Channel.demandStale (c : Channel) (r : Fin 64) : Bool :=
  (List.finRange 256).any fun f => (c.net.flows[f]).stale && Config.demandFlow (c.nv.cfg c.nv.cfgActive) f r

/-- A signal of R116: its value and whether its producer calls it valid. -/
def Channel.sigRaw (c : Channel) (t code : Nat) : F32 × Bool :=
  if h : code < 32 then ((c.ce.slots[code]).out, (c.ce.slots[code]).live)
  else if h : 0x20 ≤ code ∧ code < 0x28 then (c.fb.ainVal[code - 0x20], c.fb.ainOk[code - 0x20])
  else if h : 0x40 ≤ code ∧ code < 0x80 then
    ((c.ce.demEngine[code - 0x40]).val,
     (c.ce.demEngine[code - 0x40]).valid && !c.demandStale (Fin.ofNat 64 (code - 0x40)))
  else
    let sd (v : F32) (b : Bool) : F32 × Bool := (v, b)
    let on := c.sd.st != .off
    let run := c.sd.st == .run
    match code with
    | 0x28 => sd c.sd.sigIa on
    | 0x29 => sd c.sd.sigIb on
    | 0x2A => sd c.sd.sigIc on
    | 0x2B => (c.ad.sigA, c.ad.st != .off)
    | 0x2C => (c.ad.sigB, c.ad.st != .off)
    | 0x2D => (c.ad.sigC, c.ad.st != .off)
    | 0x2E => sd c.sd.sigId run
    | 0x2F => sd c.sd.sigIq run
    | 0x30 => sd c.sd.sigIdRef run
    | 0x31 => sd (lateAt c.sd.sigIqRef t) run
    | 0x32 => ((c.sentNow t 0).value, (c.sentNow t 0).valid)
    | 0x33 => ((c.sentNow t 1).value, (c.sentNow t 1).valid)
    | 0x34 => (c.rd.sigA, c.rd.okA)
    | 0x35 => (c.rd.sigB, c.rd.okB)
    | 0x36 => (c.rd.sigC, c.rd.okC)
    | 0x37 => (lateAt (c.fb.enc[0]).speed t, (c.fb.enc[0]).valid)
    | 0x38 => (lateAt (c.fb.enc[1]).speed t, (c.fb.enc[1]).valid)
    | 0x39 => (lateAt (c.fb.hall[0]).speed t, (c.fb.hall[0]).valid)
    | 0x3A => (lateAt (c.fb.hall[1]).speed t, (c.fb.hall[1]).valid)
    | 0x3B => (lateAt (c.fb.wss[0]).speed t, (c.fb.wss[0]).valid && (c.fb.wss[0]).spValid)
    | 0x3C => (lateAt (c.fb.wss[1]).speed t, (c.fb.wss[1]).valid && (c.fb.wss[1]).spValid)
    | 0x3D => (lateAt (c.fb.wss[2]).speed t, (c.fb.wss[2]).valid && (c.fb.wss[2]).spValid)
    | 0x3E => (lateAt (c.fb.wss[3]).speed t, (c.fb.wss[3]).valid && (c.fb.wss[3]).spValid)
    | 0x3F => (c.sd.sigVdc, true)
    | 0x80 => (c.ad.nObs, c.ad.st == .run)
    | _ => (0, false)

/-- A signal as a consumer takes it: a non-finite value counts as invalid (R117). -/
def Channel.sig (c : Channel) (t code : Nat) : F32 × Bool :=
  let x := c.sigRaw t code
  (x.1, x.2 && F32.finite x.1)

/-- The auxiliary rotor angle (R195): 2^32 / (6 · POLE_PAIRS) per commutation, rising at the observer speed within a
sector and held at the next commutation's value. -/
def Channel.adAngle (c : Channel) (t : Nat) : Word :=
  let at_ (s : Nat) : Nat := s * 2 ^ 32 / (6 * max 1 (c.af 0x3400 0 4))
  let base := at_ c.ad.steps
  let rise := (F32.mulFloor c.ad.nObs ((t - c.ad.tComm) * 2 ^ 32 : Nat) 60000000000).toNat
  BitVec.ofNat 32 (min (base + rise) (at_ (c.ad.steps + 1)))

/-- An angle source of R140: its phase word and validity (R195, R266, R170). -/
def Channel.angleSrc (c : Channel) (t src : Nat) : Word × Bool :=
  match src with
  | 0 => (phaseOf (c.fb.enc[0]).count (c.fb.enc[0]).nZ (c.encCpr 0), (c.fb.enc[0]).valid && (c.fb.enc[0]).indexed)
  | 1 => (phaseOf (c.fb.enc[1]).count (c.fb.enc[1]).nZ (c.encCpr 1), (c.fb.enc[1]).valid && (c.fb.enc[1]).indexed)
  | 2 => (c.thetaM, c.sd.st != .off && c.sd.angle == .index)
  | 3 => (c.adAngle t, c.ad.st == .run)
  | _ => (0, false)

end Sys2Proof.Machine
end

