-- ==== Sys2Proof/Machine/CeOps.lean ====
section
/-! DEFINITION. Operations of the control engine that several commands share (spec file 04): the sample, the queue, the
timetable checks and the oscillation detector; and the reaction to a mismatch (R102). -/

namespace Sys2Proof.Machine

/-- A mismatch: TDX_STATUS is latched at the first one, the frame's commit is blocked and the channel isolates
(R102, R105, R106, R524). -/
def Channel.tdx (c : Channel) (t : Nat) (line : Fin 62) (kind : BitVec 4) (loop seq : Nat) (addr dp dt : Word) :
    Channel :=
  let e := c.exe
  let e := if e.mismatch then e else
    { e with mismatch := true, kind := kind, tBusy := e.ph == .passT, stFrame := BitVec.ofNat 6 e.frame,
             stSeq := BitVec.ofNat 9 seq, stLoop := BitVec.ofNat 5 loop, addr := addr, dataP := dp, dataT := dt }
  ({ c with exe := { e with bad := true, wdgArmed := false } }.raise line).beginIsolate t

def loopId (n off : Nat) : Nat := 0x2000 + n * 0x40 + off
def rcId (m off : Nat) : Nat := 0x2130 + m * 0x40 + off
def trId (u off : Nat) : Nat := 0x2030 + u * 0x40 + off

def Channel.setSlot (c : Channel) (n : Fin 32) (x : Slot) : Channel :=
  { c with ce := { c.ce with slots := c.ce.slots.set n x } }
def Channel.setRc (c : Channel) (m : Fin 8) (x : RcInst) : Channel :=
  { c with ce := { c.ce with rc := c.ce.rc.set m x } }
def Channel.setTrace (c : Channel) (u : Fin 4) (x : TraceUnit) : Channel :=
  { c with ce := { c.ce with trace := c.ce.trace.set u x } }

/-- A coefficient of the active set: offsets from 0x10 (R138). -/
def Channel.coef (c : Channel) (n : Fin 32) (off : Nat) : F32 :=
  c.getA (loopId n.val (if (c.ce.slots[n]).fallback then 0x20 + off else 0x10 + off))

/-- Period of a class in ECLK (R124). -/
def classPeriod (cls : Nat) : Nat :=
  match cls with
  | 0 => 12500
  | 1 => 62500
  | 2 => 125000
  | _ => 250000

/-- The number of inputs with a source, and pass cost c (R126). -/
def passCost (cfg src route : Word) : Nat :=
  let used (i : Nat) : Nat := b2n (fld src (8 * i) 8 != 0xFF)
  let routes := b2n (fld route 8 8 != 0) + b2n (fld route 16 8 != 0)
  60 + 96 + 48 * (used 0 + used 1 + used 2 + used 3) + (if bit cfg 5 then 64 else 4) + 16 + 552 +
    (if bit cfg 6 then 109 else 4) + (if bit cfg 7 then 180 else 4) + 32 + 64 + 40 + 24 * routes

/-- Window length D in ECLK (R126). -/
def windowLen (cfg src route : Word) : Nat := 2 * passCost cfg src route + 2

/-- The window length of a slot by the values in force. -/
def Channel.slotLen (c : Channel) (n : Nat) : Nat :=
  windowLen (c.getA (loopId n 0)) (c.getA (loopId n 2)) (c.getA (loopId n 3))

/-- Window starts over a horizon, from a class and a START offset. -/
def windowStarts (cls start horizon : Nat) : List Nat :=
  (List.range (horizon / classPeriod cls)).map fun k => k * classPeriod cls + start

/-- Two sets of windows overlap at some instant. -/
def windowsClash (a : List Nat) (la : Nat) (b : List Nat) (lb : Nat) : Bool :=
  a.any fun x => b.any fun y => decide (x < y + lb) && decide (y < x + la)

/-- The bound entries of a slot by their working RC_CFG (R128). -/
def Channel.boundRc (c : Channel) (get : Nat → Word) (n : Nat) : List (Fin 8) :=
  let _ := c
  (List.finRange 8).filter fun m => fld (get (rcId m.val 0)) 0 5 == n

/-- LOOP_START of a slot is accepted and waits for the commit of its frame. DEDUCED (unsafe), log entry 38. -/
def Channel.starting (c : Channel) (n : Fin 32) : Bool := c.hp.effects.contains (.loopStart n)

/-- A loop parameter of a slot that runs, or that starts at the commit of this frame (R602). -/
def Channel.liveVal (c : Channel) (n : Fin 32) (off : Nat) : Word :=
  if (c.ce.slots[n]).live then c.getA (loopId n.val off) else c.getW (loopId n.val off)

/-- The judgement of LOOP_START on a slot (R111, R128); none: it starts. Starts accepted earlier in the same frame
count as running; BAD_PARAM stands before BUSY (DESIGN CHOICE (unsafe), log entry 146).
DEDUCED (unsafe), log entry 37. DEDUCED (unsafe), log entry 38. -/
def Channel.loopStartCheck (c : Channel) (n : Fin 32) : Option Byte :=
  if (c.ce.slots[n]).st != .stopped then some stLocked
  else
    let cfg := c.getW (loopId n.val 0)
    let src := c.getW (loopId n.val 2)
    let route := c.getW (loopId n.val 3)
    let start := fld (c.getW (loopId n.val 1)) 0 18
    let cls := fld cfg 0 2
    let mode := fld cfg 2 3
    let none_ (i : Nat) : Bool := fld src (8 * i) 8 == 0xFF
    let bound := c.boundRc c.getW n.val
    let badIn := (mode == 0 && none_ 0) || (mode == 2 && (none_ 0 || none_ 1 || none_ 2)) ||
      (none_ 0 && none_ 1 && none_ 2 && none_ 3)
    let badRc := bit cfg 7 && (bound.length != 1 || bound.any fun m =>
      decide (1024 / 2 ^ fld (c.getW (rcId m.val 0)) 16 3 ≤ fld (c.getW (rcId m.val 1)) 0 10))
    if classPeriod cls ≤ start || badIn || badRc then some stBadParam
    else
      let len := windowLen cfg src route
      let cyc := c.cycleTclk * 5 / 4
      let others := (List.finRange 32).filter fun k => k != n && ((c.ce.slots[k]).live || c.starting k)
      let slow := others.foldl (fun a k => max a (classPeriod (fld (c.liveVal k 0) 0 2))) (classPeriod cls)
      let horizon := max slow cyc
      let mine := windowStarts cls start horizon
      let spans := mine.any fun x => decide (cyc < x % cyc + len + 100)
      let clash := others.any fun k =>
        windowsClash mine len
          (windowStarts (fld (c.liveVal k 0) 0 2) (fld (c.liveVal k 1) 0 18) horizon)
          (windowLen (c.liveVal k 0) (c.liveVal k 2) (c.liveVal k 3))
      let code (v : Word) (i : Nat) : Nat := fld v (8 + 8 * i) 8
      let shared := others.any fun k =>
        let r := c.liveVal k 3
        [(0, 0), (0, 1), (1, 0), (1, 1)].any fun p => code route p.1 != 0 && code route p.1 == code r p.2
      if clash || spans || shared then some stBusy else none

/-- The value last received by a destination (R119, R123). -/
def Channel.destVal (c : Channel) (code : Nat) : F32 :=
  if h : 0x40 ≤ code ∧ code < 0x80 then c.ce.results[code - 0x40]
  else if h : 1 ≤ code ∧ code ≤ 4 then c.ce.dest[code - 1]
  else if h : 0x10 ≤ code ∧ code ≤ 0x13 then c.ce.dest[code - 0x10 + 4]
  else 0

/-- LOOP_START takes effect at its commit (R111, R123, R138, R155). DEDUCED (unsafe), log entry 37. -/
def Channel.loopStart (c : Channel) (t : Nat) (n : Fin 32) : Channel :=
  let bound := c.boundRc c.getW n.val
  let c := c.applyRange (loopId n.val 0) (loopId n.val 0x2E)
  let c := bound.foldl (fun c m => c.applyRange (rcId m.val 0) (rcId m.val 0)) c
  let c := c.mapRc fun m r =>
    { r with slot := if bound.contains m then some n else if r.slot = some n then none else r.slot }
  let x := c.ce.slots[n]
  let preset := bit (c.getA (loopId n.val 0)) 9
  let h := c.destVal (c.af (loopId n.val 3) 8 8)
  let st := if preset then { LoopState.zero with i1 := h, w1 := h, w2 := h, q1 := h, q2 := h, u1 := h, v1 := h }
    else LoopState.zero
  c.setSlot n { x with
    st := .running, startAt := t, stopReq := false, first := true, state := st, fallback := false
    returnPending := false, oscTrips := 0, samples := 0, oscPos := 0, oscCross := 0, oscPeak := 0, oscSide := none
    oscTripped := false, oscIsolate := false, oscFallback := false, pend := none, leadRec := none, bAt := none,
    queueRose := false }

/-- An entry of a coefficient queue, or a SAMPLE write that bypasses it, takes effect. -/
def Channel.applyEntry (c : Channel) (e : QEntry) : Channel := c.putA e.id e.val

/-- A slot's window starts: START ECLK after the start of a period of its class (R126).
DESIGN CHOICE (safe), log entry 24. -/
def Channel.windowDue (c : Channel) (t : Nat) (n : Fin 32) : Bool :=
  let k : Fin 4 := Fin.ofNat 4 (c.af (loopId n.val 0) 0 2)
  match c.ce.clsAt[k] with
  | some a => t == a + eclk (c.af (loopId n.val 1) 0 18) && (c.ce.slots[n]).bAt != some t
  | none => false

/-- Every queued entry of a slot at once, in order (R111, R137). DEDUCED (unsafe), log entry 41. -/
def Channel.drainQueue (c : Channel) (n : Fin 32) : Channel :=
  let x := c.ce.slots[n]
  let c := x.queue.foldl Channel.applyEntry c
  (c.setSlot n { x with queue := [] }).bump 2 2 x.queue.length

/-- The head entry, if it entered at least 8 ECLK before (R131). -/
def Channel.headEntry (c : Channel) (t : Nat) (n : Fin 32) : Channel :=
  let x := c.ce.slots[n]
  match x.queue with
  | [] => c
  | e :: r => if e.tIn + eclk 8 ≤ t then ((c.applyEntry e).setSlot n { x with queue := r }).bump 2 2 else c

/-- A write of a SAMPLE parameter for a slot at its commit (R130, R133, R134, R138). -/
def Channel.sampleWrite (c : Channel) (t : Nat) (n : Fin 32) (id : Nat) (v : Word) : Channel :=
  let x := c.ce.slots[n]
  let off := (id - 0x2000) % 0x40
  if x.live && !(x.fallback && decide (0x10 ≤ off) && decide (off ≤ 0x1D)) then
    c.setSlot n { x with queue := x.queue ++ [⟨id, v, t⟩], queueRose := x.queueRose || x.queue.isEmpty }
  else c.putA id v

/-- Scaled input i: nothing where it is not configured, else its value and validity (R120). -/
def Channel.input (c : Channel) (t : Nat) (n : Fin 32) (i : Nat) : Option (F32 × Bool) :=
  let code := fld (c.getA (loopId n.val 2)) (8 * i) 8
  if code = 0xFF then none
  else
    let s := c.sig t code
    some (F32.mul (c.getA (loopId n.val (4 + i))) s.1, s.2)

/-- The median of three. -/
def mid3 (a b d : F32) : F32 := F32.max (F32.min a b) (F32.min (F32.max a b) d)

/-- MID3 over the valid ones of three (R121). -/
def mid3Of (xs : List F32) : Option F32 :=
  match xs with
  | [a, b, d] => some (mid3 a b d)
  | [a, b] => some (F32.mul (F32.add a b) 0x3F000000)
  | [a] => some a
  | _ => none

/-- SELECT of R121. -/
def selectInput (mode : Nat) (xs : List (Option (F32 × Bool))) : Option F32 :=
  let valid := xs.filterMap fun x =>
    match x with
    | some (v, true) => some v
    | _ => none
  match mode with
  | 0 =>
    match xs with
    | some (v, true) :: _ => some v
    | _ => none
  | 1 =>
    let set := xs.filterMap id
    if set.all (·.2) then
      (match set with
       | [] => none
       | x :: r => some (r.foldl (fun a y => F32.add a y.1) x.1))
    else none
  | 2 => mid3Of ((xs.take 3).filterMap fun x =>
      match x with
      | some (v, true) => some v
      | _ => none)
  | 3 =>
    match valid with
    | [] => none
    | x :: r => some (r.foldl F32.min x)
  | _ =>
    match valid with
    | [] => none
    | x :: r => some (r.foldl F32.max x)

/-- The reference: 0xFF is +0.0 and always valid (R116). -/
def Channel.refIn (c : Channel) (t : Nat) (n : Fin 32) : Option F32 :=
  let code := c.af (loopId n.val 3) 0 8
  if code = 0xFF then some 0
  else
    let s := c.sig t code
    if s.2 then some s.1 else none

/-- What the learning unit gives a sample (R141). -/
structure RcOut where
  g       : F32
  bin     : Nat
  angleOk : Bool
  learning : Bool
  learned : Option F32
  skipped : Bool
  wiped   : Bool
deriving DecidableEq, Repr

/-- A slot without a learning unit. -/
def rcNone : RcOut := ⟨0, 0, false, false, none, false, false⟩

/-- The repetitive controller of one sample (R141 to R143): its output and what it will commit. e: the sample's
error. DEDUCED (unsafe), log entry 40. -/
def Channel.rcSample (c : Channel) (t : Nat) (m : Fin 8) (e : F32) : RcOut :=
  let x := c.ce.rc[m]
  let cfg := c.getA (rcId m.val 0)
  let shift := fld cfg 16 3
  let n := 1024 / 2 ^ shift
  let a := c.angleSrc t (fld cfg 5 3)
  let phase := a.1 * BitVec.ofNat 32 (fld cfg 8 8)
  let b := phase.toNat / 2 ^ (22 + shift)
  if !a.2 || x.gap then { rcNone with bin := b }
  else
    let wiped := x.paused && !bit cfg 19
    let bins := if wiped then [] else x.bins
    let g := lookupD bins ((b + c.af (rcId m.val 1) 0 10) % n) 0
    let freeze := bit (c.getA (rcId m.val 6)) 0
    let moved := match x.bLast with
      | some p => p != b
      | none => true
    let far := match x.bLast with
      | some p => decide (1 < min ((b + n - p) % n) ((p + n - b) % n))
      | none => false
    let lim := c.getA (rcId m.val 4)
    let old := lookupD bins b 0
    let new := F32.clamp (F32.add (F32.mul (c.getA (rcId m.val 3)) old) (F32.mul (c.getA (rcId m.val 2)) e))
      (F32.neg lim) lim
    ⟨g, b, true, !freeze, if !freeze && moved then some new else none, far, wiped⟩

/-- The states of the first sample (R123). -/
def firstState (st : LoopState) (rs : Bool) (y rin : F32) : LoopState :=
  { st with r1 := if rs then y else rin, y1 := y }

/-- The stages of a sample up to feed-forward (R120). -/
structure Stages where
  r : F32
  e : F32
  p : F32
  d : F32
  i : F32
  w : F32
  q : F32
  f : F32
deriving DecidableEq, Repr

/-- Gains and limits of the active set by their offsets from 0x10 (R120, R138). -/
abbrev Coefs := Nat → F32

/-- The shaped reference (R120). -/
def Channel.shape (c : Channel) (n : Fin 32) (r1 rin : F32) : F32 :=
  if bit (c.getA (loopId n.val 0)) 5 then
    F32.add r1 (F32.clamp (F32.sub rin r1) (F32.neg (c.getA (loopId n.val 9))) (c.getA (loopId n.val 8)))
  else rin

/-- PID and biquad (R120). s: the states before the sample. -/
def pid (co : Coefs) (s : LoopState) (dmode : Bool) (r e y : F32) (f : F32) : Stages :=
  let p := F32.mul (co 3) e
  let d := F32.mul (co 5) (if dmode then F32.sub s.y1 y else F32.sub e s.e1)
  let i0 := F32.add (F32.add s.i1 (F32.mul (co 4) e)) (F32.mul (co 6) (F32.sub s.u1 s.v1))
  let i := F32.clamp i0 (F32.neg (co 2)) (co 2)
  let w := F32.add (F32.add p i) d
  let q0 := F32.add (F32.add (F32.mul (co 7) w) (F32.mul (co 8) s.w1)) (F32.mul (co 9) s.w2)
  let q := F32.sub (F32.sub q0 (F32.mul (co 10) s.q1)) (F32.mul (co 11) s.q2)
  ⟨r, e, p, d, i, w, q, f⟩

/-- The stages of slot n from y and the reference (R120, R123). -/
def Channel.stages (c : Channel) (n : Fin 32) (y rin : F32) : LoopState × Stages :=
  let cfg := c.getA (loopId n.val 0)
  let x := c.ce.slots[n]
  let s := if x.first then firstState x.state (bit cfg 5) y rin else x.state
  let r := c.shape n s.r1 rin
  let e := F32.sub r y
  let s := if x.first then { s with e1 := e } else s
  let f := if bit cfg 6 then F32.add (F32.mul (c.coef n 12) r) (F32.mul (c.coef n 13) (F32.sub r s.r1)) else 0
  (s, pid (c.coef n) s (bit cfg 8) r e y f)

/-- The learning unit that acts in a slot: the one that its LOOP_START bound (R128, R139, R155). -/
def Channel.rcUnit (c : Channel) (n : Fin 32) : Option (Fin 8) :=
  if bit (c.getA (loopId n.val 0)) 7 then (List.finRange 8).find? fun m => (c.ce.rc[m]).slot == some n else none

/-- A NaN among the nodes of a sample (R120). DESIGN CHOICE (safe), log entry 39. -/
def nodesNan (y : F32) (z : Stages) (g v u : F32) : Bool :=
  F32.isNan y || F32.isNan z.r || F32.isNan z.e || F32.isNan z.p || F32.isNan z.d || F32.isNan z.i || F32.isNan z.w ||
    F32.isNan z.q || F32.isNan z.f || F32.isNan g || F32.isNan v || F32.isNan u

/-- The states after a sample (R120). -/
def stateAfter (s : LoopState) (z : Stages) (y v u : F32) : LoopState :=
  ⟨z.r, z.e, y, z.i, z.w, s.w1, z.q, s.q1, u, v⟩

/-- The traced nodes of a sample (R146). -/
def nodesOf (z : Stages) (y g v u : F32) : Vector F32 8 := #v[y, z.r, z.e, z.i, z.q, g, v, u]

/-- A learned value that is NaN (R142). DESIGN CHOICE (safe), log entry 39. -/
def learnedNan (r : RcOut) : Bool :=
  match r.learned with
  | some b => F32.isNan b
  | none => false

/-- The sample record of stages and a learning unit (R120). -/
def Channel.sampleOf (c : Channel) (t : Nat) (n : Fin 32) (y : F32) (s : LoopState) (z : Stages)
    (unit : Option (Fin 8)) (rc : RcOut) : Sample :=
  let v := F32.add (F32.add z.q z.f) rc.g
  let u := F32.clamp v (c.coef n 1) (c.coef n 0)
  { st := stateAfter s z y v u, nodes := nodesOf z y rc.g v u, at_ := t, span := c.slotLen n.val,
    mixed := !(c.ce.slots[n]).queue.isEmpty, unit := unit, bin := rc.bin, angleOk := rc.angleOk,
    learning := rc.learning, learned := rc.learned, skipped := rc.skipped, wiped := rc.wiped,
    bad := nodesNan y z rc.g v u || learnedNan rc }

/-- One sample by R120, from latched y and reference. -/
def Channel.evalSample (c : Channel) (t : Nat) (n : Fin 32) (y rin : F32) : Sample :=
  let a := c.stages n y rin
  match c.rcUnit n with
  | some m => c.sampleOf t n y a.1 a.2 (some m) (c.rcSample t m a.2.e)
  | none => c.sampleOf t n y a.1 a.2 none rcNone

/-- One route of an output (R119). Destinations 0x01 and 0x02 take a value in RUN only (R158). -/
def Channel.routeOne (c : Channel) (t code : Nat) (u : F32) : Channel :=
  let put (c : Channel) (k : Fin 8) : Channel := { c with ce := { c.ce with dest := c.ce.dest.set k u } }
  if h : 0x40 ≤ code ∧ code < 0x80 then { c with ce := { c.ce with results := c.ce.results.set (code - 0x40) u } }
  else match code with
    | 0x01 =>
      if c.sd.st = .run then
        let c := put c 0
        { c with ce := { c.ce with routedVd := true } }
      else c
    | 0x02 =>
      if c.sd.st = .run then
        let c := put c 1
        { c with ce := { c.ce with routedVq := true } }
      else c
    | 0x03 => (put c 2).routeTorque t u
    | 0x04 => put c 3
    | 0x10 => put c 4
    | 0x11 => put c 5
    | 0x12 => put c 6
    | 0x13 => put c 7
    | _ => c

/-- What the learning unit of a sample commits (R141 to R143, R155). DEDUCED (unsafe), log entry 40. -/
def Channel.rcCommit (c : Channel) (m : Fin 8) (p : Sample) : Channel :=
  let x := c.ce.rc[m]
  let bins := if p.wiped then [] else x.bins
  let bins := match p.learned with
    | some v => storeD bins p.bin v 0
    | none => bins
  let x := { x with bins := bins, bLast := some p.bin, bin := BitVec.ofNat 10 p.bin, angleValid := p.angleOk,
                    learning := p.learning, paused := !p.angleOk,
                    skip := if p.skipped then satInc x.skip else x.skip }
  let c := c.setRc m x
  let c := if p.learned.isSome then c.bump 2 5 else c
  if p.skipped then c.bump 2 6 else c

/-- The oscillation window begins anew (R136). -/
def oscRestart (x : Slot) : Slot := { x with oscPos := 0, oscCross := 0, oscPeak := 0, oscTripped := false }

/-- The oscillation detector on a compared e (R136). The flag says that it trips. DEDUCED (safe), log entry 43. -/
def Channel.oscStep (c : Channel) (n : Fin 32) (x : Slot) (e : F32) : Slot × Bool :=
  let cfg := c.getA (loopId n.val 0xA)
  let win := fld cfg 0 12
  if win = 0 then (x, false)
  else
    let x := if win ≤ x.oscPos then oscRestart x else x
    let band := c.getA (loopId n.val 0xB)
    let pos := F32.le band e && F32.lt 0 e
    let neg := F32.le e (F32.neg band) && F32.lt e 0
    let crossed := (pos && x.oscSide == some false) || (neg && x.oscSide == some true)
    let side := if pos then some true else if neg then some false else x.oscSide
    let x := { x with oscPos := x.oscPos + 1, oscSide := side, oscCross := x.oscCross + b2n crossed,
                      oscPeak := F32.max x.oscPeak (F32.abs e) }
    let trip := !x.oscTripped && decide (fld cfg 12 8 ≤ x.oscCross) &&
      F32.le (c.getA (loopId n.val 0xC)) x.oscPeak
    if trip then ({ x with oscTripped := true, oscCross := 0, oscPeak := 0 }, true) else (x, false)

/-- The reaction to a trip by ACTION (R137, R138). -/
def Channel.oscTrip (c : Channel) (n : Fin 32) (x : Slot) : Channel :=
  let act := c.af (loopId n.val 0xA) 20 2
  let x := { x with oscTrip := true, oscTrips := satInc x.oscTrips }
  let x := match act with
    | 1 =>
      if x.fallback then { x with returnPending := false } else { x with oscFallback := true }
    | 2 => { x with oscIsolate := true }
    | _ => x
  let c := (c.setSlot n x).bump 2 4
  if act = 2 then c else c.raise 11

/-- The trigger condition of a trace unit at an evaluated sample (R147, R154). A rise passes from below LEVEL to LEVEL
or above, a fall from above it to LEVEL or below; the first sample since TRACE_ARM has none before it. DEDUCED
(unsafe), log entry 144. -/
def trigMet (cond : Nat) (prev : Option F32) (v level : F32) (trip rose : Bool) : Bool :=
  let up := match prev with
    | some p => F32.lt p level && F32.le level v
    | none => false
  let dn := match prev with
    | some p => F32.lt level p && F32.le v level
    | none => false
  match cond with
  | 0 => true
  | 1 => up
  | 2 => dn
  | 3 => up || dn
  | 4 => F32.le level (F32.abs v)
  | 5 => trip
  | 6 => rose
  | _ => false

/-- A trace unit at a completed sample of a slot: decimation and trigger (R145 to R147). TR_STAMP takes the instant of
the sample's result. DESIGN CHOICE (safe), log entry 42. DEDUCED (unsafe), log entry 144. -/
def Channel.traceSample (c : Channel) (t : Nat) (n : Fin 32) (trip rose : Bool) (u : Fin 4) : Channel :=
  let x := c.ce.trace[u]
  let active := x.st == .filling || x.st == .armed || x.st == .post
  if !active then c
  else
    let x := if fld x.cfg 8 5 = n.val then { x with decim := x.decim + 1 } else x
    let node := fld x.trig 0 8
    let x := if node / 8 = n.val then
        let v := (c.ce.slots[n]).nodes[node % 8]
        let hit := x.st == .armed && trigMet (fld x.trig 8 3) x.prev v x.level trip rose
        let x := if hit then
            { x with st := .post, postLeft := 2048 - fld x.cfg 13 11, trigSeen := true, stamp := c.nt32 t }
          else x
        { x with prev := some v }
      else x
    c.setTrace u x

end Sys2Proof.Machine
end

