-- ==== Sys2Proof/Machine/AdOps.lean ====
section
/-! DEFINITION. Operations of the auxiliary drive that several commands share (spec file 06): the Last curve, the
regulator and the limiter, six-step modulation with softened commutation, the observer and the ramp of START. Instants
are ROOT counts, 5 of them a TCLK; the times of the observer are TCLK in binary32 (R196, R203). -/

namespace Sys2Proof.Machine

/-- The modulated phase of a sector, 0 for HB3 (R200). -/
def sectorMod (k : Fin 6) : Nat := k.val / 2
/-- The clamped phase of a sector (R200). -/
def sectorClamp (k : Fin 6) : Nat := (k.val / 2 + 1 + k.val % 2) % 3

/-- The sector after k in the forward direction by AD_CFG.DIR (R200). -/
def nextSector (dir : Bool) (k : Fin 6) : Fin 6 := if dir then k + 5 else k + 1

/-- What a phase does in a sector (R200). -/
inductive PhaseUse | modulated | clamped | floating
deriving DecidableEq, Repr

def phaseUse (k : Fin 6) (p : Nat) : PhaseUse :=
  if p = sectorMod k then .modulated else if p = sectorClamp k then .clamped else .floating

/-- The level of a use at duty d (R201). -/
def useLevel (d : F32) (u : PhaseUse) : F32 :=
  match u with
  | .modulated => d
  | .clamped => f32One
  | .floating => 0

/-- C = round(5,000 · (1 - level)), held within 0 to 5,000 (R199). -/
def duty5000 (level : F32) : Nat :=
  min 5000 (F32.toIntRne (F32.mul (F32.ofInt 5000) (F32.sub f32One level))).toNat

/-- Softening time S in µs (R201, R219). -/
def Channel.adSoft (c : Channel) : Nat := c.af 0x3400 8 7

/-- The period in progress is a refresh period of a group (R240). periodIdx counts the periods begun since the mark. -/
def Channel.refreshes (c : Channel) (g : Grp) : Bool :=
  let n := c.gdf (grpBase g) 0 6
  (c.sd.periodIdx - 1) % max 1 n == 0

/-- The use and level of a phase, softened while the ramp runs (R201). -/
def Channel.adPhase (c : Channel) (p : Nat) : PhaseUse × F32 :=
  let a := c.ad
  let new := phaseUse a.sector p
  let old := match a.prevSector with
    | some k => phaseUse k p
    | none => .floating
  let k := F32.ofFrac a.rampK (max 1 c.adSoft)
  if !a.ramping then (new, useLevel a.duty new)
  else if old = new then (new, useLevel a.duty new)
  else if new = .floating then (old, F32.mul (F32.sub f32One k) (useLevel a.duty old))
  else (new, F32.mul k (useLevel a.duty new))

/-- The compare values of HB3 to HB5: for a modulated phase of its high side, for a clamped one of its low side (R199
to R201, R240). -/
def Channel.adValues (c : Channel) : Vector Nat 3 :=
  let one (p : Nat) : Nat :=
    let x := c.adPhase p
    let v := duty5000 x.2
    if x.1 = .modulated && c.refreshes .aux then max v (c.rcPrime .aux) else v
  Vector.ofFn fun p => one p.val

/-- The compare values change at once, as at each step of a commutation (R201). -/
def Channel.adCompares (c : Channel) : Channel :=
  let v := c.adValues
  { c with ad := { c.ad with cmps := v, oldCmps := v } }

/-- The compare values of a period: they apply from its load instant (R165, R199). -/
def Channel.adLoad (c : Channel) : Channel := { c with ad := { c.ad with cmps := c.adValues, oldCmps := c.ad.cmps } }

/-- 0.955 · KE · n / (1,000 · Vdc) (R213). -/
def Channel.dE (c : Channel) (n : F32) : F32 :=
  F32.div (F32.mul (F32.mul (F32.ofFrac 955 1000) (c.getA 0x3409)) n) (F32.mul (F32.ofInt 1000) c.ad.smpVdc)

/-- d_floor = 0.98 · d_E(n_obs) (R218). -/
def Channel.dFloor (c : Channel) : F32 := F32.mul (F32.ofFrac 98 100) (c.dE c.ad.nObs)

/-- The Last curve at x (R217). DEDUCED (unsafe), log entry 50. -/
def lastCurve (v : Vector F32 64) (x : F32) : F32 :=
  if F32.le x v[0] then v[1]
  else if F32.le v[62] x then v[63]
  else
    match (List.finRange 31).find? fun i => F32.le v[2 * i.val] x && F32.lt x v[2 * i.val + 2] with
    | some i =>
      let dx := F32.sub x v[2 * i.val]
      let dn := F32.sub v[2 * i.val + 3] v[2 * i.val + 1]
      F32.add v[2 * i.val + 1] (F32.div (F32.mul dx dn) (F32.sub v[2 * i.val + 2] v[2 * i.val]))
    | none => v[63]

/-- A curve is valid when its x values rise strictly (R216). -/
def curveValid (v : Vector F32 64) : Bool :=
  (List.finRange 31).all fun i => F32.lt v[2 * i.val] v[2 * i.val + 2]

/-- RUN_REQ, the speed reference and the input's validity at a 4 kHz period start (R217). -/
def Channel.adCommand (c : Channel) (t : Nat) : Channel :=
  let cfg := c.getA 0x3404
  let src := fld cfg 0 8
  let s := if src = 0xFF then ((0 : F32), false) else c.sig t src
  let x := if bit cfg 8 then F32.sub (c.getA 0x3412) s.1 else s.1
  let inv := c.getA 0x3413
  let up := if F32.le (c.getA 0x3410) x then true else c.ad.runReq
  let req := if s.2 then (if F32.le x (c.getA 0x3411) then false else up) else F32.lt 0 inv
  let nL := if s.2 then lastCurve c.ad.curve x else inv
  let target := F32.clamp (F32.add nL c.ce.dest[3]) (F32.ofInt (c.af 0x3401 16 16)) (F32.ofInt (c.af 0x3401 0 16))
  let step := F32.div (c.getA 0x340F) (F32.ofInt 4000)
  let n := F32.add c.ad.nRef (F32.clamp (F32.sub target c.ad.nRef) (F32.neg step) step)
  let c := { c with ad := { c.ad with runReq := req, nRef := n, inputInvalid := !s.2 } }
  if s.2 then c else c.raise 20

/-- CATCH: the window starts (R206, R210). -/
def Channel.adCatch (c : Channel) (t : Nat) : Channel := c.adIdle t .catch

/-- The drive follows RUN_REQ at each 4 kHz start: IDLE entered with RUN_REQ already 1 goes to CATCH at the next one, as
on a rise (R206). DEDUCED (unsafe), log entry 50. -/
def Channel.adFollow (c : Channel) (t : Nat) : Channel :=
  match c.ad.st with
  | .catch | .brake | .align | .start | .run =>
    if c.ad.runReq then c
    else
      let c := c.adIdle t .idle
      { c with ad := { c.ad with brakeRound := 0 } }
  | .idle => if c.ad.runReq then c.adCatch t else c
  | _ => c

/-- A 4 kHz class period starts at an instant, and its row has not been taken (R125, R206). -/
def Channel.class4kNow (c : Channel) (t : Nat) : Bool :=
  (match c.net.nt.gridAt t with
   | some j => c.classStarts 1 j
   | none => false) && c.ce.at4k != some t

/-- RUN_REQ falls in this TCLK: the drive goes to IDLE, and an event of a lower row has no effect (R206). -/
def Channel.reqFalls (c : Channel) (t : Nat) : Bool := c.class4kNow t && !(c.adCommand t).ad.runReq

/-- The speed regulator of a 4 kHz period start in RUN, once energised (R213, R218). DEDUCED (unsafe), log entry 50. -/
def Channel.adRegulate (c : Channel) : Channel :=
  if c.ad.st != .run || c.ad.fresh then c
  else
    let e := F32.sub c.ad.nRef c.ad.nObs
    let i := F32.clamp (F32.add c.ad.integ (F32.mul (c.getA 0x340E) e)) 0 f32One
    let raw := F32.add (F32.mul (c.getA 0x340D) e) i
    let lo := c.dFloor
    let clipped := F32.lt raw lo || F32.lt f32One raw
    { c with ad := { c.ad with dS := F32.clamp raw lo f32One, integ := if clipped then c.ad.integ else i } }

/-- The auxiliary drive's part of a 4 kHz period start (R206, R217, R218). -/
def Channel.adClass4k (c : Channel) (t : Nat) : Channel := ((c.adCommand t).adFollow t).adRegulate

/-- The phase currents of the conducting phases: the larger magnitude (R218). -/
def Channel.adCurrent (c : Channel) : F32 :=
  let one (p : Nat) : F32 := F32.abs (if p = 0 then c.ad.smpA else if p = 1 then c.ad.smpB else c.ad.smpC)
  F32.max (one (sectorMod c.ad.sector)) (one (sectorClamp c.ad.sector))

/-- The current limiter and the duty at a PWM period start (R214, R218). DESIGN CHOICE (unsafe), log entry 49. -/
def Channel.adPeriod (c : Channel) (t : Nat) : Channel :=
  let lim := F32.mul (c.getA 0x3408) (c.limFactor t false)
  let tick := F32.ofFrac 1 256
  let move (i bound lo : F32) : F32 :=
    F32.clamp (if F32.lt bound i then F32.sub c.ad.dLim tick else F32.add c.ad.dLim tick) lo f32One
  match c.ad.st with
  | .run =>
    if c.ad.fresh then c
    else
      let d := move c.adCurrent lim c.dFloor
      let low := F32.lt d c.ad.dS
      { c with ad := { c.ad with dLim := d, duty := F32.min c.ad.dS d, limited := low } }.adLoad
  | .align | .start =>
    let d := move c.adCurrent (F32.min (c.getA 0x340B) lim) 0
    { c with ad := { c.ad with dLim := d, duty := d, limited := false } }.adLoad
  | _ => c

/-- T60: the mean of the last six sector times, summed from the newest on (R203). DESIGN CHOICE (unsafe), log entry 151.
-/
def mean6 (sectors : List F32) : F32 := F32.div (sectors.foldl F32.add 0) (F32.ofInt 6)

/-- Observer speed (R203). -/
def observed (t60 : F32) (pp : Nat) : F32 := F32.div (F32.ofInt 2000000000) (F32.mul t60 (F32.ofInt pp))

/-- A time in TCLK as ROOT periods, to the nearest TCLK. DEDUCED (unsafe), log entry 51. -/
def rootOf (x : F32) : Nat := tclk (F32.toIntRne x).toNat

/-- T60 · n / d as ROOT periods (R202, R203). -/
def Ad.part (a : Ad) (n d : Nat) : Nat := rootOf (F32.div (F32.mul a.t60 (F32.ofInt n)) (F32.ofInt d))

/-- The ramp of START as a fraction: ACC is num / den rpm/s (R214). -/
def accNum (a : F32) : Nat := F32.mant a * 2 ^ (F32.pow2 a).toNat
def accDen (a : F32) : Nat := 2 ^ (-F32.pow2 a).toNat

/-- k sectors have been swept τ ROOT periods after entry to START (R214). -/
def rampSwept (acc : F32) (nmin pp k τ : Nat) : Bool :=
  let n := accNum acc
  let d := accDen acc
  let s := 1000000000
  if n * τ < nmin * d * s then decide (20 * k * d * s * s ≤ pp * n * τ * τ)
  else decide (20 * k * n * s + pp * nmin * (nmin * d * s) ≤ pp * nmin * (2 * τ * n))

/-- The ramp speed is at least 5 % of NMAX (R211, R214). -/
def rampReached (acc : F32) (nmin nmax τ : Nat) : Bool :=
  decide (nmax ≤ 20 * nmin) && decide (nmax * accDen acc * 1000000000 ≤ 20 * accNum acc * τ)

/-- The search of the present sector (R202). -/
def Channel.adSearch (c : Channel) (t : Nat) : Bool :=
  let a := c.ad
  let rampEnd := a.tComm + usec c.adSoft
  let lo := max (rampEnd + a.part (c.af 0x3400 20 8) 100) (a.tExp - a.part 1 4)
  decide (lo ≤ t) && decide (t ≤ a.tExp + a.part 1 4)


/-- The expected crossing after a commutation (R203). -/
def Channel.adExpect (c : Channel) (tc : Nat) : Nat := tc + c.ad.part (30 + c.af 0x3400 16 4) 60

/-- The next commutation of RUN (R203). DEDUCED (unsafe), log entry 51. -/
def Channel.adNextComm (c : Channel) : Nat :=
  match c.ad.tZc with
  | some z => z + c.ad.part (30 - c.af 0x3400 16 4) 60
  | none => c.ad.tComm + c.ad.part 1 1

/-- A commutation at an instant: sector, plausibility, observer and the softening ramp (R200 to R204). -/
def Channel.adCommutate (c : Channel) (tc : Nat) : Channel :=
  let a := c.ad
  let ok := a.tZc.isSome
  let time := if ok then F32.ofFrac (tc - a.tComm : Nat) 5 else a.t60
  let sectors := (time :: a.sectors).take 6
  let t60 := mean6 sectors
  let next := nextSector (bit (c.getA 0x3400) 5) a.sector
  let c := if ok then c else c.bump 4 2
  let c := c.bump 4 0
  let c := { c with ad := { a with
      sector := next, prevSector := some a.sector, sectors := sectors, t60 := t60
      nObs := observed t60 (c.af 0x3400 0 4)
      implausible := if ok then 0 else a.implausible + 1
      plausible := if ok then a.plausible + 1 else 0
      tComm := tc, tZc := none, steps := a.steps + 1, rampK := 0, ramping := true } }
  { c with ad := { c.ad with tExp := c.adExpect tc } }

/-- Entry to RUN: regulator initialised, origin of the rotor angle set (R195, R206, R217, R218). -/
def Channel.adEnterRun (c : Channel) (t : Nat) : Channel :=
  { c with ad := { c.ad with
      st := .run, since := t, nRef := c.ad.nObs, dLim := f32One, integ := c.ad.duty, dS := c.ad.duty, steps := 0
      brakeRound := 0, implausible := 0 } }.angleGap 3

/-- The handover of START is due (R214). -/
def Channel.adHandover (c : Channel) (t : Nat) : Bool :=
  decide (6 ≤ c.ad.plausible) &&
    rampReached (c.getA 0x340C) (c.af 0x3401 16 16) (c.af 0x3401 0 16) (t - c.ad.since)

/-- Direct synchronisation (R213). v: angle of the vector at the window's end. DEDUCED (unsafe), log entry 51. -/
def Channel.adSync (c : Channel) (t rpm : Nat) (v : Word) : Channel :=
  let pp := c.af 0x3400 0 4
  let t60 := F32.div (F32.ofInt 2000000000) (F32.ofInt (rpm * pp : Nat))
  let one := rootOf t60
  let k := v.toNat * 6 / 2 ^ 32
  let ends := c.ad.since + tclk 1000000
  let toNext := ((k + 1) * 2 ^ 32 - v.toNat * 6) * one / 2 ^ 32
  let j := if toNext < tclk 2000 then (tclk 2000 - toNext + one - 1) / max 1 one else 0
  let place := Fin.ofNat 6 (k + 1 + j)
  let sector := if bit (c.getA 0x3400) 5 then 5 - place else place
  let tc := ends + toNext + j * one
  let n := observed t60 pp
  let c := { c with ad := { c.ad with
      sectors := List.replicate 6 t60, t60 := t60, nObs := n, duty := c.dE n, sector := sector, prevSector := none
      tComm := tc, tZc := none, plausible := 0, fresh := true, ramping := false, rampK := 0 } }
  { c with ad := { c.ad with tExp := c.adExpect tc } }.adEnterRun t

/-- Energised at the first predicted boundary, with d_E from the DC link of the last period start (R213). -/
def Channel.adFirst (c : Channel) : Channel :=
  let d := c.dE c.ad.nObs
  { c with ad := { c.ad with fresh := false, rampK := 0, ramping := true, duty := d, dS := d, integ := d, dLim := f32One,
                                 limited := false } }.adCompares

end Sys2Proof.Machine
end

