-- ==== Sys2Proof/Machine/LaneOps.lean ====
section
/-! DEFINITION. The request pairs that the drive engines form for each leg, and how the lanes and the gate-driver die
follow them (R160, R161, R165, R176, R199 to R201, R205, R228 to R230, R241). -/

namespace Sys2Proof.Machine

/-- The up-down counter of a PWM period at a place in TCLK: held at 0 after 10,000 (R160, R165). -/
def pwmCounter (pos : Nat) : Nat := if pos ≤ 5000 then pos else 10000 - pos

/-- The place in the present PWM period, TCLK. -/
def Channel.pwmPos (c : Channel) (t : Nat) : Nat := (t - c.sd.perAt.getD t) / 5

/-- The compare value of a steering leg in force: the old one until the load instant (R163, R165). -/
def Channel.steerCmp (c : Channel) (t : Nat) (k : Fin 6) : Nat :=
  let old := decide (t < c.sd.loadAt)
  match k.val with
  | 0 => if old then c.sd.oldA else c.sd.cmpA
  | 1 => if old then c.sd.oldB else c.sd.cmpB
  | _ => if old then c.sd.oldC else c.sd.cmpC

/-- HS_REQ and LS_REQ of a steering leg: SVPWM in RUN, the low sides round a valley in a precharge period, all low sides
in ASC (R161, R176, R241, R247). -/
def Channel.steerRequest (c : Channel) (t : Nat) (k : Fin 6) : Bool × Bool :=
  let pos := c.pwmPos t
  match c.sd.st with
  | .run =>
    let high := c.sd.perAt.isSome && decide (c.steerCmp t k < pwmCounter pos)
    (high, c.sd.perAt.isSome && !high)
  | .closing => (false, c.sd.prechg && (decide (pos < c.rcPrime .steer) || decide (10000 ≤ pos + c.rcPrime .steer)))
  | .asc => (false, true)
  | .off | .opening => (false, false)

/-- The compare value of an auxiliary phase in force (R165, R199). -/
def Channel.auxCmp (c : Channel) (t : Nat) (p : Fin 3) : Nat :=
  if t < c.sd.loadAt then c.ad.oldCmps[p] else c.ad.cmps[p]

/-- HS_REQ and LS_REQ of an auxiliary phase: low sides in BRAKE, the sector with its softening in ALIGN, START and
RUN; a clamped phase under ramp is modulated on its low side alone (R200, R201, R205, R213, R215). -/
def Channel.auxRequest (c : Channel) (t : Nat) (p : Fin 3) : Bool × Bool :=
  let up := c.sd.perAt.isSome && decide (c.auxCmp t p < pwmCounter (c.pwmPos t))
  match c.ad.st with
  | .brake => (false, true)
  | .align | .start | .run =>
    if c.ad.fresh then (false, false)
    else match (c.adPhase p.val).1 with
      | .modulated => (up, c.sd.perAt.isSome && !up)
      | .clamped => (false, c.auxCmp t p == 0 || up)
      | .floating => (false, false)
  | _ => (false, false)

/-- The modulated phase of the present sector (R200). -/
def Channel.adModPhase (c : Channel) : Fin 3 := Fin.ofNat 3 (sectorMod c.ad.sector)

/-- The instants at which the counter of the present period moves across a compare value (R161). -/
def Channel.crossings (c : Channel) (v : Nat) : List Nat :=
  if v < 5000 then [c.ad.pwmAt + tclk (v + 1), c.ad.pwmAt + tclk (10000 - v)] else []

/-- The last switching edge of the modulated leg up to an instant: the last one before its present compare values, or
one of theirs: a crossing of the counter, or the step at the load instant (R161, R165, R199, R202).
DEDUCED (unsafe), log entry 51. -/
def Channel.adEdge (c : Channel) (t : Nat) : Option Nat :=
  let p := c.adModPhase
  let load := c.sd.loadAt
  let early := (c.crossings c.ad.oldCmps[p]).filter fun e => decide (e < load)
  let late := (c.crossings c.ad.cmps[p]).filter fun e => decide (load ≤ e)
  let step := decide (c.ad.pwmAt < load) && (c.auxRequest (load - 1) p).1 != (c.auxRequest load p).1
  ((early ++ late ++ if step then [load] else []).filter fun e => decide (c.ad.cmpFrom ≤ e) && decide (e ≤ t)).foldl
    (fun a e => some (max e (a.getD 0))) c.ad.edgeAt

/-- Sector or compare values have changed at an instant, where old is the channel before: what the modulated leg's last
edge is from then on (R199 to R202). DEDUCED (unsafe), log entry 51. -/
def Channel.adSwitch (c old : Channel) (t : Nat) : Channel :=
  let p := c.adModPhase
  let moved := (old.auxRequest (t - 1) p).1 != (c.auxRequest t p).1
  let before := if old.adModPhase = p then old.adEdge (t - 1) else none
  { c with ad := { c.ad with edgeAt := if moved then some t else before, cmpFrom := t } }

/-- The comparator is blanked after every switching edge of the modulated leg (R202). DEDUCED (unsafe), log entry 51. -/
def Channel.adBlanked (c : Channel) (t : Nat) : Bool :=
  match c.adEdge t with
  | some e => decide (t < e + tclk (c.af 0x3403 0 10))
  | none => false

/-- HS_REQ and LS_REQ of a leg at an instant (R228). DESIGN CHOICE (unsafe), log entry 53. -/
def Channel.request (c : Channel) (t : Nat) (k : Fin 6) : Bool × Bool :=
  if k.val < 3 then c.steerRequest t k else c.auxRequest t (Fin.ofNat 3 (k.val - 3))

/-- A request pair on a leg: both high is an internal fault and is ignored; any other edge is one to the pair that the
engine forms at that instant (R228 to R230). DESIGN CHOICE (unsafe), log entry 53. -/
def Channel.laneReq (c : Channel) (t : Nat) (k : Fin 6) (hs ls : Bool) : Channel :=
  if hs && ls then
    let g := grpOf k
    let x := c.grp g
    let c := c.setGrp g { x with interlock := satInc x.interlock }
    (c.setLeg k (c.legFollow t k false false c.gd.legs[k])).raise 29
  else if (hs, ls) == c.request t k then c.setLeg k (c.legFollow t k hs ls c.gd.legs[k])
  else c

/-- The lanes of a group follow the requests of an instant at which they may change together: a period start, a
commutation, a step of the softening ramp (R160, R200, R201). DESIGN CHOICE (unsafe), log entry 53. -/
def Channel.lanesNow (c : Channel) (t : Nat) (g : Grp) : Channel :=
  c.mapLegs fun k l => if inGrp g k then c.legFollow t k (c.request t k).1 (c.request t k).2 l else l

end Sys2Proof.Machine
end

