-- ==== Sys2Proof/Machine/Trig.lean ====
section
/-! DEFINITION. Sine, cosine and the angle of a vector over phase words, in which 2^32 is one turn (R158, R166, R171,
R210). The spec states no rounding of them: a value that no binary32 word or no phase word holds exactly is one of its
two neighbours, and which of them is free. DESIGN CHOICE (safe), log entry 16. -/

namespace Sys2Proof.Machine

/-- pi · 2^128, rounded down. -/
def piFix : Nat := 0x3243F6A8885A308D313198A2E03707344

/-- The Taylor terms of sine from x^k / k! on, with signs; everything in 2^-128. sq: the square of x. -/
def sineTerms (sq : Nat) : Nat → Nat → Nat → Int
  | 0, _, _ => 0
  | n + 1, k, term => (term : Int) - sineTerms sq n (k + 2) (term * sq / 2 ^ 128 / ((k + 1) * (k + 2)))

/-- Sine of r / 2^32 of a turn within the first quarter, in 2^-128; exact at its two ends. -/
def sineQuarter (r : Nat) : Int :=
  if r = 2 ^ 30 then 2 ^ 128
  else
    let x := r * piFix / 2 ^ 31
    sineTerms (x * x / 2 ^ 128) 18 1 x

/-- Sine of a phase word, in 2^-128. -/
def sineFix (theta : Word) : Int :=
  let r := theta.toNat % 2 ^ 30
  match theta.toNat / 2 ^ 30 with
  | 0 => sineQuarter r
  | 1 => sineQuarter (2 ^ 30 - r)
  | 2 => -sineQuarter r
  | _ => -sineQuarter (2 ^ 30 - r)

/-- Cosine of a phase word, in 2^-128. -/
def cosineFix (theta : Word) : Int := sineFix (theta + 0x40000000)

/-- A binary32 neighbour of x · 2^-128: the one nearer to zero, or with up the one beyond it; x itself where it is
exact. -/
def neighbour (x : Int) (up : Bool) : F32 :=
  let m := x.natAbs
  let k := Nat.log2 m - 23
  let q := m / 2 ^ k
  F32.round (decide (x < 0)) (if up && m % 2 ^ k != 0 then q + 1 else q) ((k : Int) - 128) false

/-- Sine and cosine in binary32. DESIGN CHOICE (safe), log entry 16. -/
def sin32 (theta : Word) : F32 := neighbour (sineFix theta) (Config.trigUp true theta)
/-- DESIGN CHOICE (safe), log entry 16. -/
def cos32 (theta : Word) : F32 := neighbour (cosineFix theta) (Config.trigUp false theta)

/-- The largest n below 2^30, of those that add the bits below the given one, whose direction does not lie beyond the
vector (x, y) of the first quarter. -/
def angleBits (x y : Int) : Nat → Nat → Nat
  | 0, n => n
  | k + 1, n =>
    let m := n + 2 ^ k
    angleBits x y k (if x * sineQuarter m ≤ y * sineQuarter (2 ^ 30 - m) then m else n)

/-- The angle of a vector of a quarter q as a phase word: (x, y) its place in that quarter. up: the neighbour above
where the angle is none exactly. -/
def quarterAngle (q : Nat) (x y : Int) (up : Bool) : Word :=
  let n := angleBits x y 30 0
  let exact := decide (x * sineQuarter n = y * sineQuarter (2 ^ 30 - n))
  BitVec.ofNat 32 (q * 2 ^ 30 + (if up && !exact then n + 1 else n))

/-- The angle of a vector, positive from alpha toward beta (R210); the zero vector and one that is not finite have
none, and its word is free. DESIGN CHOICE (safe), log entry 139. -/
def vecAngle (alpha beta : F32) : Word :=
  let e := min (F32.pow2 alpha) (F32.pow2 beta)
  let a := F32.smant alpha * 2 ^ (F32.pow2 alpha - e).toNat
  let b := F32.smant beta * 2 ^ (F32.pow2 beta - e).toNat
  let up := Config.angleUp alpha beta
  if !F32.finite alpha || !F32.finite beta || (a == 0 && b == 0) then Config.vecOpen alpha beta
  else if decide (0 < a) && decide (0 ≤ b) then quarterAngle 0 a b up
  else if decide (a ≤ 0) && decide (0 < b) then quarterAngle 1 b (-a) up
  else if decide (a < 0) && decide (b ≤ 0) then quarterAngle 2 (-a) (-b) up
  else quarterAngle 3 (-b) a up

end Sys2Proof.Machine
end

