-- ==== Sys2Proof/Machine/Auxiliary.lean ====
section
/-! DEFINITION. The auxiliary-drive commands (spec file 06). -/

namespace Sys2Proof.Machine

/-- The Ke check fails: DEMAG_OR_WRONG_MOTOR (R212). -/
def Channel.keFails (c : Channel) (ke : F32) : Bool :=
  F32.lt (F32.mul (c.getA 0x340A) (c.getA 0x3409)) (F32.abs (F32.sub ke (c.getA 0x3409)))

/-- KE_MEAS in 0.01 V per 1,000 rpm, held to 16 bits (R226). -/
def keRegister (ke : F32) : BitVec 16 :=
  if F32.finite ke then BitVec.ofNat 16 (min 65535 (F32.toIntRne (F32.mul ke (F32.ofInt 100))).toNat) else 65535

/-- What a decided window leaves in the status registers (R210, R224 to R226). -/
def Channel.catchMeasured (c : Channel) (n : Int) (res : BitVec 2) (ke : BitVec 16) : Channel :=
  { c with ad := { c.ad with catches := satInc c.ad.catches, catchRes := res, measSpeed := BitVec.ofInt 16 n,
                             measKe := ke } }

/-- AD_STATUS.CATCH of a measured speed (R211, R224). -/
def catchResult (nmax n : Int) : BitVec 2 := if nmax ≤ 20 * n then 1 else if -nmax < 100 * n then 2 else 3

/-- ALIGN begins in sector 0 (R214). -/
def Channel.adAlign (c : Channel) (t : Nat) : Channel :=
  let c := { c with ad := { c.ad with st := .align, since := t, sector := 0, prevSector := none, brakeRound := 0 } }
  (c.adCompares.adSwitch c t).lanesNow t .aux

/-- BRAKE, or FAULT once the rounds are used up (R215). -/
def Channel.adBrake (c : Channel) (t : Nat) : Channel :=
  if c.af 0x3402 24 4 ≤ c.ad.brakeRound.toNat then c.adFault t 3
  else
    let c := { c with ad := { c.ad with st := .brake, since := t } }
    c.lowSides t .aux

/-- FAULT, cause KE (R212). -/
def Channel.adKeFault (c : Channel) (t : Nat) : Channel :=
  let c := { c with ad := { c.ad with keFaults := satInc c.ad.keFaults } }
  c.adFault t 2

/-- The decision of a catch window (R210 to R215). DEDUCED (unsafe), log entry 50. -/
def Channel.catchDecide (c : Channel) (t : Nat) (rpm : Int) (epk : F32) (v : Word) : Channel :=
  let n : Int := if F32.lt epk f32Quarter then 0 else rpm
  let nmax : Int := c.af 0x3401 0 16
  let ke := F32.div (F32.mul epk (F32.ofInt 1000)) (F32.ofInt n.natAbs)
  let check := decide (nmax ≤ 20 * n.natAbs)
  let res := catchResult nmax n
  let c := (c.catchMeasured n res (if check then keRegister ke else 0)).bump 4 3
  if check && c.keFails ke then c.adKeFault t
  else if res = 1 then c.adSync t n.toNat v
  else if res = 2 then c.adAlign t
  else c.adBrake t

/-- The space vector of the line-to-line voltages of a sample, in volts: alpha and beta, of the length of the
line-to-line peak. A step of the converter is 72 V / 4,096: its 12 bits stand for 0 V to 3.0 V behind the divider of
1/24 (R197, R210, R579). DEDUCED (unsafe), log entry 150. -/
def catchVector (x : CatchSmp) : F32 × F32 :=
  let volts (a b : BitVec 12) : F32 := F32.ofFrac (((a.toNat : Int) - b.toNat) * 72) 4096
  (volts x.u x.v, F32.div (F32.sub (volts x.v x.w) (volts x.w x.u)) f32Sqrt3)

/-- The rotation between the first and the last of a list of angles, in turns of 2^32 (R210). -/
def rotation : List Word → Int
  | a :: b :: r => (b - a).toInt + rotation (b :: r)
  | _ => 0

/-- What a catch window measures from its samples: speed in rpm, positive forward, the mean length E_pk, and the place
of the vector at its end among the sectors of RUN, advanced by ADV (R210, R213); angle: the angle of a vector.
DEDUCED (unsafe), log entry 150. -/
def Channel.catchMeasureBy (c : Channel) (angle : F32 → F32 → Word) (smp : List CatchSmp) : Int × F32 × Word :=
  let vs := smp.map catchVector
  let len (v : F32 × F32) : F32 := F32.sqrt (F32.add (F32.mul v.1 v.1) (F32.mul v.2 v.2))
  let epk := F32.div ((vs.map len).foldl F32.add 0) (F32.ofInt (max 1 smp.length : Nat))
  let forward (w : Word) : Word := if bit (c.getA 0x3400) 5 then 0 - w else w
  let angles := vs.map fun v => forward (angle v.1 v.2)
  let us := smp.length - 1
  let rpm := if us = 0 then 0 else roundI (rotation angles * 60000000) (2 ^ 32 * us * max 1 (c.af 0x3400 0 4))
  (rpm, epk, angles.getLastD 0 + BitVec.ofNat 32 ((30 + c.af 0x3400 16 4) * 2 ^ 32 / 360))

/-- The measurement with the angles of the vectors to one of the two nearest phase words. DESIGN CHOICE (safe), log
entry 139. -/
def Channel.catchMeasure (c : Channel) (smp : List CatchSmp) : Int × F32 × Word := c.catchMeasureBy vecAngle smp

/-- CATCH_DECISION, 2,000 TCLK after the window's end (R206, R210, R211). -/
def execCatchDecision (l : At) (us vs : List (BitVec 12)) (ws : List (BitVec 12 × BitVec 12)) (s : State) : Out :=
  let c := s.ch l.ch
  let due := c.released && c.ad.st == .catch && decide (c.ad.since + tclk 1002000 ≤ l.t) && !c.reqFalls l.t
  onCh l.ch s (when due fun c =>
    let m := c.catchMeasure (catchSamples us vs ws)
    ((c.adMark l.t).catchDecide l.t m.1 m.2.1 m.2.2).viewSync l.t)

/-- ZERO_CROSSING: the first crossing in the search, after blanking, is stamped (R202). -/
def execZeroCrossing (l : At) (s : State) : Out :=
  let c := s.ch l.ch
  let looks := (c.ad.st == .run && !c.ad.fresh) || c.ad.st == .start
  onCh l.ch s (when (c.released && looks && c.ad.tZc.isNone && c.adSearch l.t && !c.adBlanked l.t) fun c =>
    { c with ad := { c.ad with tZc := some l.t } }.bump 4 1)

/-- A commutation that is due: the first boundary, one of the observer, or one of the ramp of START (R203, R213, R214).
DEDUCED (unsafe), log entry 51. -/
def Channel.commutes (c : Channel) (t : Nat) : Bool :=
  match c.ad.st with
  | .run => decide ((if c.ad.fresh then c.ad.tComm else c.adNextComm) ≤ t)
  | .start =>
    rampSwept (c.getA 0x340C) (c.af 0x3401 16 16) (c.af 0x3400 0 4) (c.ad.steps + 1) (t - c.ad.since) && !c.reqFalls t
  | _ => false

/-- A commutation and what follows from it; the legs follow the new sector at once (R200, R203, R204, R213, R214). -/
def Channel.commutate (c : Channel) (t : Nat) : Channel :=
  let old := c
  let c := if c.ad.st = .start then
      let c := (c.adCommutate t).adCompares
      if c.adHandover t then (c.adMark t).adEnterRun t else c
    else if c.ad.fresh then c.adFirst
    else (c.adCommutate c.adNextComm).adCompares
  (c.adSwitch old t).lanesNow t .aux

/-- The handover of START falls due in this TCLK or has done so; it governs over START_TMAX (R206, R214).
DEDUCED (unsafe), log entry 50. -/
def Channel.handsOver (c : Channel) (t : Nat) : Bool :=
  c.ad.st == .start && c.commutes t && (c.adCommutate t).adHandover t

/-- COMMUTATION; a disagreement of the observer's two evaluations raises AD_CMP, and the reaction of R102 follows (R196,
R203). DEDUCED (unsafe), log entry 51. -/
def execCommutation (l : Judged) (s : State) : Out :=
  let c := s.ch l.ch
  onCh l.ch s (when (c.released && c.commutes l.t) fun c =>
    if l.upset then (c.raise 17).beginIsolate l.t else c.commutate l.t)

/-- SOFT_RAMP_STEP: every 200 TCLK the ramp factor rises by 1/S (R201). -/
def execSoftRampStep (l : At) (s : State) : Out :=
  let c := s.ch l.ch
  onCh l.ch s (when (c.released && c.ad.ramping && decide (c.ad.tComm + usec (c.ad.rampK + 1) ≤ l.t)) fun c =>
    let k := c.ad.rampK + 1
    let x := { c with ad := { c.ad with rampK := k, ramping := decide (k < c.adSoft) } }.adCompares
    (x.adSwitch c l.t).lanesNow l.t .aux)

/-- LOSS_OF_SYNCHRONISM: 18 consecutive implausible sectors in RUN; a falling RUN_REQ of the same TCLK governs (R204,
R206, R207). -/
def execLossOfSynchronism (l : At) (s : State) : Out :=
  let c := s.ch l.ch
  let due := c.released && c.ad.st == .run && decide (18 ≤ c.ad.implausible) && !c.reqFalls l.t
  onCh l.ch s (when due fun c => ((c.adMark l.t).adFailure l.t).viewSync l.t)

/-- BRAKE_T_ELAPSED: the round is counted and the drive catches again (R206, R215). -/
def execBrakeTElapsed (l : At) (s : State) : Out :=
  let c := s.ch l.ch
  let due := c.released && c.ad.st == .brake && decide (c.ad.since + msec (c.af 0x3402 16 8) ≤ l.t) && !c.reqFalls l.t
  onCh l.ch s (when due fun c =>
    let c := (c.adMark l.t).adCatch l.t
    { c with ad := { c.ad with brakeRound := satInc c.ad.brakeRound } })

/-- START begins at 0 rpm in the sector of the alignment (R214). The six sector times that T60 needs at its start are
open in the spec: free values. DESIGN CHOICE (unsafe), log entry 49. -/
def Channel.adBegin (c : Channel) (t : Nat) (times : List F32) : Channel :=
  let t60 := mean6 times
  let c := { c with ad := { c.ad with
      st := .start, since := t, sectors := times, t60 := t60, nObs := observed t60 (c.af 0x3400 0 4), tComm := t
      tZc := none, steps := 0, plausible := 0, implausible := 0 } }
  { c with ad := { c.ad with tExp := c.adExpect t } }

/-- ALIGN_T_ELAPSED (R206, R214). DESIGN CHOICE (unsafe), log entry 49. -/
def execAlignTElapsed (l : At) (s : State) : Out :=
  let c := s.ch l.ch
  if c.released && c.ad.st == .align && decide (c.ad.since + msec (c.af 0x3402 0 8) ≤ l.t) && !c.reqFalls l.t then
    let times := (List.range 6).map fun i => F32.ofInt (Config.freeWord (s.freeCtr + i)).toNat
    .next { s.setCh l.ch (c.adBegin l.t times) with freeCtr := s.freeCtr + 6 }
  else .next s

/-- START_TMAX_ELAPSED: a failure, unless the handover falls into the same TCLK (R206, R207). -/
def execStartTmaxElapsed (l : At) (s : State) : Out :=
  let c := s.ch l.ch
  let due := c.released && c.ad.st == .start && decide (c.ad.since + msec (10 * c.af 0x3402 8 8) ≤ l.t) &&
    !c.reqFalls l.t && !c.handsOver l.t
  onCh l.ch s (when due fun c => ((c.adMark l.t).adFailure l.t).viewSync l.t)

/-- COAST_ELAPSED: 1 ms in COAST without a cut leads to CATCH (R206). -/
def execCoastElapsed (l : At) (s : State) : Out :=
  let c := s.ch l.ch
  onCh l.ch s (when (c.released && c.ad.st == .coast && !c.ad.ovWait && decide (c.ad.since + msec 1 ≤ l.t)) fun c =>
    c.adCatch l.t)

end Sys2Proof.Machine
end

