-- ==== Sys2Proof/Machine/Gate.lean ====
section
/-! DEFINITION. The gate-drive commands (spec file 07). -/

namespace Sys2Proof.Machine

/-- LANE_EDGE: a request pair encoded on the lanes and followed by the die (R228 to R230, R242). -/
def execLaneEdge (l : At) (leg : Fin 6) (hsReq lsReq : Bool) (s : State) : Out :=
  onCh l.ch s (when (s.ch l.ch).alive fun c => c.laneReq l.t leg hsReq lsReq)

/-- A gate's code moved by one step within CODE_MIN to CODE_MAX (R233). Steps are of 625 ps, TARGET in ns. -/
def moveCode (code : BitVec 5) (steps target lo hi : Nat) : BitVec 5 :=
  if steps * 625 * 16 > target * 1000 * 17 then (if code.toNat < hi then code + 1 else code)
  else if steps * 625 * 16 < target * 1000 * 15 then (if lo < code.toNat then code - 1 else code)
  else code

/-- The gate to which a transition that ends at an instant belongs, with its command's instant: the turn-off of the
outgoing gate where it begins within DT + 200 ns of it, else the turn-on of the incoming one (R232). -/
def Channel.ownerGate (c : Channel) (t : Nat) (k : Fin 6) (steps : Nat) : Option (GateCode × Nat) :=
  let l := c.gd.legs[k]
  let begins (at_ : Nat) : Bool := decide (1000 * at_ + 625 * steps ≤ 1000 * t)
  let late (at_ : Nat) : Bool := decide (1000 * (at_ + c.deadTime k + 200) + 625 * steps < 1000 * t)
  if begins l.offAt && !late l.offAt then some (if l.offHs then .hsOff else .lsOff, l.offAt)
  else if l.isOn t && begins l.onAt then some (if l.hs then .hsOn else .lsOn, l.onAt)
  else none

/-- A transition time is valid: both crossings fall within 2 µs of the gate command that caused it (R232). -/
def Channel.validTsw (c : Channel) (t : Nat) (k : Fin 6) (gate : GateCode) (steps : Nat) : Bool :=
  match c.ownerGate t k steps with
  | some (g, a) => g == gate && decide (t ≤ a + 2000)
  | none => false

/-- SWITCH_TRANSITION: a valid transition time adapts the code to which it belongs (R232, R233, R254).
DESIGN CHOICE (unsafe), log entry 53. -/
def Channel.transition (c : Channel) (k : Fin 6) (dir : TswDir) (gate : GateCode) (steps : Nat) : Channel :=
  let l := c.gd.legs[k]
  let time := BitVec.ofNat 16 steps
  let l := if dir = .rise then { l with rise := time } else { l with fall := time }
  let b := legBase k
  if c.gdf b 9 1 = 0 then c.setLeg k l
  else
    let mv (x : BitVec 5) : BitVec 5 := moveCode x steps (c.gdf b 0 9) (c.gdf b 15 5) (c.gdf b 20 5)
    let count (c : Channel) (old new : BitVec 5) : Channel :=
      if old < new then c.bump 5 0 else if new < old then c.bump 5 1 else c
    match gate with
    | .hsOn => count (c.setLeg k { l with codeHsOn := mv l.codeHsOn }) l.codeHsOn (mv l.codeHsOn)
    | .hsOff => count (c.setLeg k { l with codeHsOff := mv l.codeHsOff }) l.codeHsOff (mv l.codeHsOff)
    | .lsOn => count (c.setLeg k { l with codeLsOn := mv l.codeLsOn }) l.codeLsOn (mv l.codeLsOn)
    | .lsOff => count (c.setLeg k { l with codeLsOff := mv l.codeLsOff }) l.codeLsOff (mv l.codeLsOff)

def execSwitchTransition (l : At) (leg : Fin 6) (dir : TswDir) (gate : GateCode) (steps : Nat) (s : State) : Out :=
  let c := s.ch l.ch
  onCh l.ch s (when (c.alive && c.validTsw l.t leg gate steps) fun c => c.transition leg dir gate steps)

/-- SHORT_TRIP: the leg is latched off by the two-level turn-off; a second leg within 1 µs is a double short (R236,
R239). -/
def Channel.shortTrip (c : Channel) (t : Nat) (k : Fin 6) : Channel :=
  let l := c.gd.legs[k]
  if l.trip then c
  else
    let l := { softOff l t with trip := true, scTrips := satInc l.scTrips }
    let c := c.setLeg k l
    let g := grpOf k
    let c := c.setGrp g { c.grp g with tripFlag := true }
    match c.gd.firstTrip with
    | some f =>
      if t ≤ f + 1000 then
        let c := (c.setGrp .steer { c.grp .steer with sc2 := true, sc2Flag := true })
        let c := (c.setGrp .aux { c.grp .aux with sc2 := true, sc2Flag := true })
        if c.gd.dsNext.isNone then { c with gd := { c.gd with dsNext := some 0, dsAt := t + 100 } } else c
      else { c with gd := { c.gd with firstTrip := some t } }
    | none => { c with gd := { c.gd with firstTrip := some t } }

/-- The blanking of a leg: GD_PROT.BLANK, in 10 ns, from every turn-on of either gate, also past a turn-off that follows
it sooner (R234, R253). -/
def Channel.blanked (c : Channel) (t : Nat) (k : Fin 6) : Bool :=
  let l := c.gd.legs[k]
  let lasts (on : Nat) : Bool := decide (t < on + 10 * c.gdf (legBase k + 1) 6 7)
  (l.isOn t && lasts l.onAt) || (match l.lastOn with
    | some on => lasts on
    | none => false)

/-- DIDT or VDS trips at these magnitudes in mV: DIDT at its threshold, in 50 mV, or at three times it in blanking;
VDS of the gate that is on, in 100 mV, but not in blanking (R234, R238, R253). -/
def Channel.tripsShort (c : Channel) (t : Nat) (k : Fin 6) (didtMv vdsMv : Nat) : Bool :=
  let b := c.blanked t k
  let didt := 50 * c.gdf (legBase k + 1) 0 6
  decide ((if b then 3 * didt else didt) < didtMv) ||
    (!b && (c.gd.legs[k]).isOn t && decide (100 * c.gdf (legBase k + 1) 13 7 < vdsMv))

def execShortTrip (l : At) (x : LegSense) (s : State) : Out :=
  let c := s.ch l.ch
  onCh l.ch s (when (c.alive && c.tripsShort l.t x.leg x.didtMv x.vdsMv) fun c => c.shortTrip l.t x.leg)

/-- The hold of a group's soft turn-off: GD_STO.STO_T, in 10 ns (R236, R255). -/
def Channel.stoHold (c : Channel) (g : Grp) : Nat := 10 * c.gdf (grpBase g + 1) 4 8

/-- The gate of a leg is sunk to off after its hold (R236). -/
def Channel.stoEnd (c : Channel) (t : Nat) (k : Fin 6) : Channel :=
  let x := c.gd.legs[k]
  if x.sto == .level && decide (x.stoAt + c.stoHold (grpOf k) ≤ t) then
    c.setLeg k { x with sto := .none, hs := false, ls := false, offAt := t, offHs := x.hs, lastOn := some x.onAt }
  else c

/-- The gate of BCH is sunk to off after the hold of the steering group (R236, R239).
DEDUCED (unsafe), log entry 54. -/
def Channel.bchStoEnd (c : Channel) (t : Nat) : Channel :=
  if c.gd.bchSto == .level && decide (c.gd.bchStoAt + c.stoHold .steer ≤ t) then
    { c with gd := { c.gd with bchSto := .none, bchGate := false } }
  else c

/-- STO_HOLD_END of HB0 to HB5, or of BCH as gate 6 (R236, R239). -/
def execStoHoldEnd (l : At) (gate : Fin 7) (s : State) : Out :=
  onCh l.ch s (when (s.ch l.ch).alive fun c =>
    if h : gate.val < 6 then c.stoEnd l.t ⟨gate.val, h⟩ else c.bchStoEnd l.t)

/-- DOUBLE_SHORT_STEP: the next gate still on, in the order HB0 to HB5 and BCH (R239).
DEDUCED (unsafe), log entry 54. -/
def Channel.doubleShort (c : Channel) (t i : Nat) : Channel :=
  match c.gd.nextOn t i with
  | some k =>
    if h : k.val < 6 then
      let c := c.setLeg ⟨k.val, h⟩ { softOff c.gd.legs[k.val] t with trip := true }
      { c with gd := { c.gd with dsNext := some (k.val + 1), dsAt := t + 100 } }
    else { c with gd := { c.gd with dsNext := none, bchTrip := true, bchSto := .level, bchStoAt := t } }
  | none => { c with gd := { c.gd with dsNext := none } }

/-- DEDUCED (unsafe), log entry 54. -/
def execDoubleShortStep (l : At) (s : State) : Out :=
  let c := s.ch l.ch
  match c.gd.dsNext with
  | some i => onCh l.ch s (when (c.alive && decide (c.gd.dsAt ≤ l.t + 10)) fun c => c.doubleShort l.t i)
  | none => .next s

/-- A group's enables drop on a report of the die; the winding stays out (R237, R181).
DEDUCED (unsafe), log entry 55. -/
def Channel.dieReport (c : Channel) (t : Nat) (g : Grp) : Channel :=
  match g with
  | .steer =>
    if c.sd.st = .asc then (c.gatesOff t .steer).endAsc t
    else
      let was := c.sd.st == .run || c.sd.st == .closing
      let c := c.dropGrp t .steer
      if was then { c with sd := { c.sd with wndOut := true } } else c
  | .aux => c.dropGrp t .aux

/-- SHORT_REPORT: the flags of the die reach the drive engine: a trip of the group raises its line of GD_SC, a double
short raises GD_SC2 (R237, R239).
DESIGN CHOICE (unsafe), log entry 53. DEDUCED (unsafe), log entry 54. -/
def Channel.shortReport (c : Channel) (t : Nat) (g : Grp) : Channel :=
  let tripped := (c.grp g).tripFlag
  let c := c.mapLegs fun k l => if inGrp g k && l.trip then { l with sc := true } else l
  let c := c.setGrp g { c.grp g with tripFlag := false, sc2Flag := false }
  let c := c.dieReport t g
  let c := if tripped then c.raise (if g = .steer then 21 else 22) else c
  let c := if (c.grp g).sc2 then (((c.dieReport t .steer).dieReport t .aux).bchOff).raise 23 else c
  c.viewSync t

def execShortReport (l : At) (g : Grp) (s : State) : Out :=
  let c := s.ch l.ch
  onCh l.ch s (when (c.alive && ((c.grp g).tripFlag || (c.grp g).sc2Flag)) fun c => c.shortReport l.t g)

/-- GATE_FAULT: the leg is latched off with normal edges and the group follows as after a short (R234).
DEDUCED (unsafe), log entry 55. -/
def execGateFault (l : At) (leg : Fin 6) (s : State) : Out :=
  onCh l.ch s (when (s.ch l.ch).alive fun c =>
    let g := grpOf leg
    let c := c.setLeg leg { (c.gd.legs[leg]).turnOff l.t with gate := true, sto := .none }
    ((c.dieReport l.t g).raise 24 (grpDetail g)).viewSync l.t)

/-- BOOTSTRAP_UV: falling blocks the high side; rising lets the next request lift the block (R242). -/
def Channel.bootstrap (c : Channel) (t : Nat) (k : Fin 6) (falling : Bool) : Channel :=
  let l := c.gd.legs[k]
  if falling then
    if l.bstLow || c.blanked t k then c
    else
      let x := if l.hs && l.sto == .none then l.turnOff t else l
      ((c.setLeg k { x with bstLow := true, bstBlock := true, bstUvCnt := satInc l.bstUvCnt }).raise 28).bump 5 2
  else c.setLeg k { l with bstLow := false }

def execBootstrapUv (l : At) (leg : Fin 6) (falling : Bool) (s : State) : Out :=
  onCh l.ch s (when (s.ch l.ch).alive fun c => c.bootstrap l.t leg falling)

/-- VGD_UNDERVOLTAGE: all gates off until the group leaves OFF again (R234). DEDUCED (unsafe), log entry 55. -/
def execVgdUndervoltage (l : At) (s : State) : Out :=
  onCh l.ch s (when (s.ch l.ch).alive fun c =>
    let c := ((c.allGatesOff l.t).bchHeld).raise 26
    { c with gd := { c.gd with vgdLow := true, vgdLowA := true } })

/-- PIS_FAULT: a switch is not closed 100 µs after PIS_EN rose (R234, R244). DEDUCED (unsafe), log entry 55. -/
def execPisFault (l : At) (n : Fin 3) (s : State) : Out :=
  let c := s.ch l.ch
  onCh l.ch s (when (c.alive && c.gd.pisEn && decide (c.gd.pisAt + usec 100 ≤ l.t)) fun c =>
    ({ c with gd := { c.gd with pisOk := setBit c.gd.pisOk n.val false, pisLatched := true } }.raise 25).viewSync l.t)

/-- The chopper may run: not while its balls are tested with VGD off (R245, R534). DEDUCED (unsafe), log entry 152. -/
def Channel.chopperOn (c : Channel) : Bool :=
  c.alive && (c.getA 0x3901).getLsbD 0 && !c.exe.stopping && !c.exe.stopped && !c.sup.ov && !c.gd.asc && !c.gd.bchFault &&
    !c.testRuns 0x10

/-- CHOPPER_SAMPLE: levels in 10 mV; MARGIN in 0.1 V; times in µs; BCH_I is masked for 1 µs after turn-on (R234, R245 to
R247, R257, R258). -/
def Channel.chopper (c : Channel) (t v : Nat) (current : Bool) : Channel :=
  let on := c.af 0x3900 0 16
  let off := c.af 0x3900 16 16
  let low := if v < off then (if c.gd.ascLowAt.isSome then c.gd.ascLowAt else some t) else none
  let seen := current && !(c.gd.bch && decide (t < c.gd.bchOnAt + usec 1))
  let c := { c with gd := { c.gd with ascLowAt := low, iSeen := seen } }
  if !c.chopperOn then c.bchOff
  else
    let c := if c.gd.bch then c.bump 5 3 200 else c
    let c := if seen then { c with gd := { c.gd with bchSeenAt := some t } } else c
    let faultT := usec (c.af 0x3901 17 8)
    let unseen := match c.gd.bchSeenAt with
      | some a => decide (a + faultT < t)
      | none => true
    if c.gd.bch && decide (c.gd.bchOnAt + faultT ≤ t) && decide (on + 10 * c.af 0x3901 9 8 ≤ v) && unseen then
      c.chopFault t
    else if !c.gd.bch then (if on ≤ v then c.bchStart t else c)
    else if v ≤ off && decide (c.gd.bchOnAt + usec (c.af 0x3901 1 8) ≤ t) then c.bchOff
    else c

def execChopperSample (l : At) (vlink10mV : Nat) (iSeen : Bool) (s : State) : Out :=
  onCh l.ch s (when (s.ch l.ch).alive fun c => c.chopper l.t vlink10mV iSeen)

/-- ASC_TMAX_EXPIRY: ASC_TMAX, in ms, after ASC began (R247). -/
def execAscTmaxExpiry (l : At) (s : State) : Out :=
  let c := s.ch l.ch
  onCh l.ch s (when (c.alive && c.gd.asc && decide (c.gd.ascAt + msec (c.af 0x3901 25 7) ≤ l.t)) fun c => c.endAsc l.t)

/-- VLINK_ABS: every gate off, PIS open, both drives OFF; overrides ASC (R248). -/
def execVlinkAbs (l : At) (s : State) : Out :=
  onCh l.ch s (when (s.ch l.ch).alive fun c =>
    let c := ((c.allGatesOff l.t).bchHeld).adTakeBack l.t
    let left := c.sd.st == .run || c.sd.st == .closing
    let c := ((c.sdOff l.t).adOff l.t).raise 31
    { c with sd := { c.sd with lastLeave := if left then 2 else c.sd.lastLeave },
             gd := { c.gd with vlinkAbs := true, asc := false, ascLowAt := none } })

/-- The die loses its clock: gates off, PIS open until its configuration is written again (R30). -/
def Channel.gclkLost (c : Channel) (t : Nat) : Channel :=
  let c := (c.allGatesOff t).bchHeld
  { c with gd := { c.gd with gclkHold := true, configured := false, pisOk := 0 } }

/-- GCLK_LOSS (R30). -/
def execGclkLoss (l : At) (s : State) : Out := onCh l.ch s (when (s.ch l.ch).alive fun c => c.gclkLost l.t)

/-- A good frame: to the die, what it repeats has arrived, and after a loss of GCLK the whole set is written (R30,
R251).
DESIGN CHOICE (unsafe), log entry 56. -/
def Channel.gdlGood (c : Channel) (t : Nat) (dir : GdlDir) : Channel :=
  match dir with
  | .fromDie => { c with gd := { c.gd with gdlFailsUp := 0 } }
  | .toDie =>
    let c := { c with gd := { c.gd with gdlFails := 0, gdlStale := false } }
    if c.gd.configured then c
    else
      let c := c.gdCopy
      { c with gd := { c.gd with gclkHold := false, configured := true, pisAt := t,
                                 pisOk := if c.gd.pisEn && !c.gd.vlinkAbs then 7 else 0 } }.bchFollow

/-- A frame whose check fails is repeated; the values it carried have not arrived; the third in a row of one direction
raises GD_LINK (R251). DESIGN CHOICE (unsafe), log entry 56. -/
def Channel.gdlBad (c : Channel) (t : Nat) (dir : GdlDir) : Channel :=
  let n := (if dir = .toDie then c.gd.gdlFails else c.gd.gdlFailsUp) + 1
  let c := match dir with
    | .toDie => { c with gd := { c.gd with gdlFails := n, gdlStale := true } }
    | .fromDie => { c with gd := { c.gd with gdlFailsUp := n } }
  if n = 3 then (c.gclkLost t).raise 32 else c

/-- GDL_FRAME in one direction (R251). DESIGN CHOICE (unsafe), log entry 56. -/
def Channel.gdlFrame (c : Channel) (t : Nat) (dir : GdlDir) (ok : Bool) : Channel :=
  if ok then c.gdlGood t dir else c.gdlBad t dir

def execGdlFrame (l : At) (f : GdlFrame) (s : State) : Out :=
  onCh l.ch s (when ((s.ch l.ch).alive && !(s.ch l.ch).linksOut) fun c => c.gdlFrame l.t f.dir f.checkOk)

/-- A self-test of a group starts (R249). -/
def Channel.gdTestStart (c : Channel) (_t : Nat) (g : Grp) : Channel :=
  let c := c.setGrp g { c.grp g with testBusy := true }
  if g = .steer then { c with gd := { c.gd with testBchOff := !c.gd.bch } } else c

/-- The result of a self-test; a held enable then starts the drive (R249, R250, R256). -/
def Channel.gdTestEnd (c : Channel) (t : Nat) (g : Grp) (failed : BitVec 8) : Channel :=
  let kinds := if g = .steer then failed else failed &&& 0x0F
  let bad := kinds != 0
  let c := c.setGrp g { c.grp g with testBusy := false, testDone := true, testFail := bad, failed := kinds }
  let c := if bad then c.raise 27 (grpDetail g) else c
  match g with
  | .steer =>
    if c.sd.pendEnable && (c.rd.role = .standby || c.rd.role = .lead) then c.sdStart t else c
  | .aux =>
    let runs := c.rd.role = .resync || c.rd.role = .standby || c.rd.role = .lead
    if !c.ad.pendEnable then c else if runs then c.adStart t else { c with ad := { c.ad with pendEnable := false } }

/-- GD_SELFTEST_END: the test of the steering group waits until the chopper has been off; the first test of both groups
runs during boot verification too (R249, R250). -/
def execGdSelftestEnd (l : At) (g : Grp) (failed : BitVec 8) (s : State) : Out :=
  let c := s.ch l.ch
  let due := (c.alive || c.rst.phase == .verify) && (c.grp g).testBusy && (g == .aux || c.gd.testBchOff)
  onCh l.ch s (when due fun c => (c.gdTestEnd l.t g failed).viewSync l.t)

end Sys2Proof.Machine
end

