-- ==== Sys2Proof/Machine/MbOps.lean ====
section
/-! DEFINITION. Operations of the cross-channel mailboxes and of the relay between a channel's host ports (R460 to
R463). -/

namespace Sys2Proof.Machine

/-- The mailbox traffic with the next or the previous channel. -/
def Channel.xp (c : Channel) (next : Bool) : Peer := if next then c.hp.toNext else c.hp.toPrev
def Channel.setXp (c : Channel) (next : Bool) (p : Peer) : Channel :=
  if next then { c with hp := { c.hp with toNext := p } } else { c with hp := { c.hp with toPrev := p } }

/-- A channel is the next one, else the previous one. -/
def Channel.isNext (c : Channel) (ch : Ch) : Bool := ch == c.id.next

def Channel.port (c : Channel) (p : Port) : HPort :=
  match p with
  | .hp0 => c.hp.ports[0]
  | .hp1 => c.hp.ports[1]
def Channel.setPort (c : Channel) (p : Port) (x : HPort) : Channel :=
  match p with
  | .hp0 => { c with hp := { c.hp with ports := c.hp.ports.set 0 x } }
  | .hp1 => { c with hp := { c.hp with ports := c.hp.ports.set 1 x } }
def otherPort (p : Port) : Port := if p = .hp0 then .hp1 else .hp0

/-- Both deliveries of MB_U have ended: it empties and its lock is released (R462). -/
def Channel.mbuEnd (c : Channel) : Channel :=
  if c.hp.mbu.full && c.hp.toNext.mbuDone && c.hp.toPrev.mbuDone then
    { c with hp := { c.hp with
        mbu := { c.hp.mbu with full := false }, lockU := none
        toNext := { c.hp.toNext with mbuDone := false }, toPrev := { c.hp.toPrev with mbuDone := false } } }
  else c

/-- The delivery in progress ends, acknowledged or failed (R463). -/
def Channel.xmbEnd (c : Channel) (next failed : Bool) : Channel :=
  let p := c.xp next
  match p.cur with
  | none => c
  | some d =>
    if h : d.box.val < 4 then
      let out := p.out.set d.box.val { p.out[d.box.val] with full := false }
      c.setXp next { p with cur := none, out := out, failed := if failed then setBit p.failed d.box.val true else p.failed }
    else (c.setXp next { p with cur := none, mbuDone := true }).mbuEnd

/-- A NACK or an expired attempt: another try, up to XMB_CFG.RETRIES (R463). -/
def Channel.xmbRetry (c : Channel) (next : Bool) : Channel :=
  let p := c.xp next
  match p.cur with
  | none => c
  | some d =>
    if d.tries < c.af 0x0801 0 2 then
      c.setXp next { p with cur := some { d with part := 0, tries := d.tries + 1, tryAt := none } }
    else c.xmbEnd next true

/-- The box that the next delivery serves: MB_U ahead of all others, then the lowest FULL box (R462, R463).
DEDUCED (unsafe), log entry 110. -/
def Channel.xmbPick (c : Channel) (next : Bool) : Option (Fin 5) :=
  let p := c.xp next
  if c.hp.mbu.full && !p.mbuDone then some 4
  else if p.out[0].full then some 0
  else if p.out[1].full then some 1
  else if p.out[2].full then some 2
  else if p.out[3].full then some 3 else none

/-- A delivery begins where none is in progress. -/
def Channel.xmbBegin (c : Channel) (t : Nat) (next : Bool) : Channel :=
  let p := c.xp next
  match p.cur, c.xmbPick next with
  | none, some b =>
    c.setXp next { p with nextTag := p.nextTag + 1,
                          cur := some { box := b, tag := p.nextTag, part := 0, tries := 0, firstAt := t, tryAt := none } }
  | _, _ => c

/-- The words of a delivery's box. -/
def Channel.xmbWords (c : Channel) (next : Bool) (d : Deliver) : Vector Word 16 :=
  if h : d.box.val < 4 then (c.xp next).out[d.box.val].words else c.hp.mbu.words

/-- The DATA segment of a part of a delivery. -/
def Channel.xmbData (c : Channel) (next : Bool) (d : Deliver) : MbSeg :=
  let w := c.xmbWords next d
  let i : Fin 4 := Fin.ofNat 4 d.part
  { kind := 0, mbu := d.box.val == 4, box := if d.box.val = 4 then 3 else Fin.ofNat 4 d.box.val, tag := d.tag, part := i,
    d0 := w[4 * i.val], d1 := w[4 * i.val + 1], d2 := w[4 * i.val + 2], d3 := w[4 * i.val + 3] }

def answerSeg (a : Bool × Bool × Fin 4 × BitVec 4) : MbSeg :=
  { kind := if a.1 then 1 else 2, mbu := a.2.1, box := a.2.2.1, tag := a.2.2.2, part := 0, d0 := 0, d1 := 0, d2 := 0,
    d3 := 0 }

/-- The mailbox segments of one frame in the bytes it has for them: up to two answers, and one part of a delivery; what
does not fit is held for the next frame (R31, R463). DEDUCED (unsafe), log entry 110. -/
def Channel.xmbSegs (c : Channel) (t : Nat) (next : Bool) (room : Nat) : List MbSeg × Channel :=
  let c := c.xmbBegin t next
  let p := c.xp next
  let n := if 28 ≤ room then 2 else if 24 ≤ room then 1 else min 2 (room / 4)
  let acks := (p.acks.take n).map answerSeg
  let p := { p with acks := p.acks.drop n }
  match p.cur with
  | some d =>
    if d.part < 4 && 4 * n + 20 ≤ room then
      let first := if d.part = 0 then some t else d.tryAt
      (acks ++ [c.xmbData next d], c.setXp next { p with cur := some { d with part := d.part + 1, tryAt := first } })
    else (acks, c.setXp next p)
  | none => (acks, c.setXp next p)

/-- A whole message has come: stored, refused or acknowledged again (R463). -/
def Channel.xmbStore (c : Channel) (next : Bool) (g : MbSeg) (ws : Vector Word 16) : Channel :=
  let p := c.xp next
  let k := g.box
  let again := p.lastTag[k] == some g.tag
  let answer (p : Peer) (ok : Bool) : Peer :=
    { p with acks := p.acks ++ [(ok, g.mbu, k, g.tag)], parts := p.parts.set k [] }
  if again then c.setXp next (answer p true)
  else if p.inc[k].full then c.setXp next (answer p false)
  else
    let p := { p with inc := p.inc.set k { words := ws, full := true }, lastTag := p.lastTag.set k (some g.tag) }
    let bell := (if next then 24 else 28) + k.val
    let c := c.setXp next (answer p true)
    { c with hp := { c.hp with ring := setBit c.hp.ring bell true } }

/-- A part of a message arrives (R463). -/
def Channel.xmbPart (c : Channel) (next : Bool) (g : MbSeg) : Channel :=
  let p := c.xp next
  let same := p.parts[g.box].filter fun x => x.1 == g.tag && x.2.1 != g.part
  let all := (g.tag, g.part, #v[g.d0, g.d1, g.d2, g.d3]) :: same
  let get (i : Fin 4) : Vector Word 4 :=
    match all.find? fun x => x.2.1 == i with
    | some x => x.2.2
    | none => Vector.replicate 4 0
  let c := c.setXp next { p with parts := p.parts.set g.box all }
  if all.length = 4 then
    c.xmbStore next g (Vector.ofFn fun i => (get (Fin.ofNat 4 (i.val / 4)))[i.val % 4])
  else c

/-- A segment received from a partner (R463). -/
def Channel.xmbSeg (c : Channel) (next : Bool) (g : MbSeg) : Channel :=
  let c := c.bump 9 3
  if g.kind = 0 then c.xmbPart next g
  else
    match (c.xp next).cur with
    | some d =>
      let mine := d.tag == g.tag && (if g.mbu then d.box.val == 4 else d.box.val == g.box.val)
      if !mine then c else if g.kind = 1 then c.xmbEnd next false else c.xmbRetry next
    | none => c

/-- A partner silent for three periods is heard again: it has been reset (R463). DEDUCED (unsafe), log entry 110. -/
def Channel.xmbReset (c : Channel) (next : Bool) : Channel :=
  let p := c.xp next
  let lost : BitVec 4 :=
    BitVec.ofNat 4 (b2n p.out[0].full + 2 * b2n p.out[1].full + 4 * b2n p.out[2].full + 8 * b2n p.out[3].full)
  c.setXp next { p with
    out := p.out.map fun b => { b with full := false }, rxReset := p.rxReset ||| lost
    cur := match p.cur with
      | some d => if d.box.val = 4 then some d else none
      | none => none
    parts := Vector.replicate 4 [], lastTag := Vector.replicate 4 none, epoch := p.epoch + 1 }

/-- The doorbells and H2F boxes that a frame finds to relay (R460, R461). DEDUCED (unsafe), log entry 111. -/
def Channel.relaySnap (c : Channel) (p : Port) : Channel :=
  let x := c.port p
  let y := c.port (otherPort p)
  let one (k : Fin 4) : Nat := if x.h2f[k].full && !y.f2h[k].full then 2 ^ k.val else 0
  c.setPort p { x with dbSnap := x.dbPend, mbSnap := BitVec.ofNat 4 (one 0 + one 1 + one 2 + one 3) }

/-- One box relayed to the other port, with its doorbell (R460, R461). -/
def Channel.relayBox (p : Port) (c : Channel) (k : Fin 4) : Channel :=
  let x := c.port p
  let q := otherPort p
  let y := c.port q
  if x.mbSnap.getLsbD k.val && x.h2f[k].full && !y.f2h[k].full then
    let c := c.setPort p { x with h2f := x.h2f.set k { x.h2f[k] with full := false } }
    let y := c.port q
    c.setPort q { y with f2h := y.f2h.set k { words := x.h2f[k].words, full := true },
                         dbF2h := setBit y.dbF2h (20 + k.val) true }
  else c

/-- The firmware relays a port's boxes and doorbells (R460, R461). -/
def Channel.relayPort (c : Channel) (p : Port) : Channel :=
  let c := (List.finRange 4).foldl (Channel.relayBox p) c
  let x := c.port p
  let c := c.setPort p { x with dbPend := x.dbPend &&& ~~~x.dbSnap, dbSnap := 0, mbSnap := 0 }
  let q := otherPort p
  let y := c.port q
  c.setPort q { y with dbF2h := y.dbF2h ||| x.dbSnap.setWidth 32 ||| c.hp.ring }

/-- The relay work of a committing frame. DEDUCED (unsafe), log entry 111. -/
def Channel.relayAll (c : Channel) : Channel :=
  let c := (c.relayPort .hp0).relayPort .hp1
  { c with hp := { c.hp with ring := 0 } }

end Sys2Proof.Machine
end

