-- ==== Sys2Proof/Machine/WeltOps.lean ====
section
/-! DEFINITION. Operations of a Welt that several commands share (spec file 09). Times are WCLK counts. -/

namespace Sys2Proof.Machine

/-- Bits under CHECK of a claim word, in transmission order (R295). -/
def claimBits (w : ClaimWord) : List Bool :=
  bitsOf 8 w.claim.toNat ++ bitsOf 8 w.seq.toNat ++ bitsOf 12 w.sp0.toNat ++ bitsOf 12 w.sp1.toNat ++
    bitsOf 4 w.req.toNat ++ bitsOf 6 w.saddr.toNat ++ bitsOf 16 w.sdata.toNat

/-- Fields 2 to 14 of a status word (R318). -/
def statusBits (x : StatusWord) : List Bool :=
  bitsOf 3 x.state.toNat ++ bitsOf 8 x.accClaim.toNat ++ bitsOf 8 x.accSeq.toNat ++ bitsOf 12 x.i0.toNat ++
    bitsOf 12 x.i1.toNat ++ bitsOf 4 x.si.toNat ++ bitsOf 4 x.pair.toNat ++ bitsOf 3 x.out.toNat ++
    bitsOf 4 x.cause.toNat ++ bitsOf 2 x.solf.toNat ++ bitsOf 2 x.start.toNat ++ bitsOf 4 x.flags.toNat ++
    bitsOf 4 x.rstr.toNat

/-- A claim number in the LEAD or STANDBY range, on its own lane (R296, R297). -/
def claimValid (lane : Fin 3) (claim : BitVec 8) : Bool :=
  let role := (claim >>> 6).toNat
  let take := claim.getLsbD 5
  (role == 3 || (role == 1 && !take)) && claim.toNat % 4 == lane.val + 1

def isLead (claim : BitVec 8) : Bool := (claim >>> 6) == 3
def hasTake (claim : BitVec 8) : Bool := claim.getLsbD 5

/-- A good word (R297). -/
def wordGood (x : Lane) (w : ClaimWord) : Bool :=
  w.sync == 0xA && w.symOk && w.check == crc8 (claimBits w) &&
    (match x.word with
     | some p => p.seq != w.seq
     | none => true)

/-- The accepted lane: the highest fresh valid claim (R299). -/
def Welt.best (w : Welt) : Option (Fin 3) :=
  (List.finRange 3).foldl (fun (acc : Option (Fin 3)) k =>
    if !(w.lanes[k]).fresh then acc
    else match acc with
      | none => some k
      | some j => if (w.lanes[j]).claim < (w.lanes[k]).claim then some k else some j) none

/-- Two fresh LEAD claims without TAKE (R303). -/
def Welt.twoLeads (w : Welt) : Bool :=
  let n := (List.finRange 3).countP fun k =>
    (w.lanes[k]).fresh && isLead (w.lanes[k]).claim && !hasTake (w.lanes[k]).claim
  decide (2 ≤ n)

/-- Modes of a pair (R308, R323). -/
def Welt.pairEn (w : Welt) (p : Fin 2) : Bool := w.set1.getLsbD (3 * p.val)
def Welt.pairAnt (w : Welt) (p : Fin 2) : Bool := w.set1.getLsbD (3 * p.val + 1)
def Welt.pairTp (w : Welt) (p : Fin 2) : Bool := w.set1.getLsbD (3 * p.val + 2)
def Welt.pair (w : Welt) (p : Fin 2) : Pair := if p = 0 then w.pair0 else w.pair1
def Welt.setPair (w : Welt) (p : Fin 2) (x : Pair) : Welt := if p = 0 then { w with pair0 := x } else { w with pair1 := x }

/-- Both inputs in the closed state; both in the open state (R308). -/
def Welt.closedIn (w : Welt) (p : Fin 2) : Bool :=
  let a := w.si.getLsbD (2 * p.val)
  let b := w.si.getLsbD (2 * p.val + 1)
  if w.pairAnt p then a && !b else a && b
def Welt.openIn (w : Welt) (p : Fin 2) : Bool :=
  let a := w.si.getLsbD (2 * p.val)
  let b := w.si.getLsbD (2 * p.val + 1)
  if w.pairAnt p then !a && b else !a && !b

/-- A pair judged as at INIT (R308, R310). -/
def Welt.pairInit (w : Welt) (t : Nat) (p : Fin 2) : Welt :=
  let st := if !w.pairEn p then PairSt.disabled
    else if w.closedIn p then .closed
    else if w.openIn p then .open_ else .transit
  w.setPair p { st := st, at_ := t }

/-- A pair that raised DISCREPANCY still has its inputs in different states (R315). -/
def Welt.discrepant (w : Welt) (p : Fin 2) : Bool := (w.pair p).disc && !w.closedIn p && !w.openIn p

/-- A lockout cause that is active (R315). -/
def Welt.causeActive (w : Welt) (t : Nat) (c : WCause) : Bool :=
  w.causes.contains c &&
    (match c with
     | .discrepancy => w.discrepant 0 || w.discrepant 1
     | .soFault => w.soBad[0] || w.soBad[1] || decide (t < w.soAt + 4000000)
     | _ => true)

/-- The lockout causes in the order of their codes (R315). -/
def lockCauses : List WCause := [.discrepancy, .crossCircuit, .soFault, .vload, .clock, .internal]

/-- CLOCK or INTERNAL holds solenoids, PKR half and test pulses off (R315). -/
def Welt.dead (w : Welt) : Bool := w.causes.contains .clock || w.causes.contains .internal

/-- A pair maps to an output and keeps it off (R312, R323). -/
def Welt.gated (w : Welt) (k : Nat) : Bool :=
  (w.set5.getLsbD (2 * k) && w.pairEn 0 && w.pair0.st != .closed) ||
    (w.set5.getLsbD (2 * k + 1) && w.pairEn 1 && w.pair1.st != .closed)

/-- The orphan state has stood for 12 WCLK (R304). -/
def Welt.orphanDue (w : Welt) (t : Nat) : Bool :=
  match w.orphan with
  | some o => decide (o + 12 ≤ t)
  | none => false

/-- A solenoid output turns off when the period count reaches the on-count in force (R305). -/
def Sol.past (x : Sol) (t : Nat) : Sol := { x with on := x.on && decide (t < x.perAt + x.onCount) }

/-- What time has brought: the orphan state 12 WCLK after entry, the end of a solenoid's on-count (R304, R305).
DEDUCED (unsafe), log entry 62. -/
def Welt.settle (w : Welt) (t : Nat) : Welt :=
  { w with orphSet := w.orphSet || w.orphanDue t, sol0 := w.sol0.past t, sol1 := w.sol1.past t }

/-- Lockout causes that arose in this WCLK (R366). -/
def Welt.arisen (w : Welt) (t : Nat) (c : WCause) : Bool := w.newsAt == t && w.news.contains c

/-- Entry to START (R314). -/
def Welt.enterStart (w : Welt) : Welt :=
  { w with st := .start, cause := none, wstat := true, pair0 := { w.pair0 with passed := false },
           pair1 := { w.pair1 with passed := false } }

/-- The lockout causes that are active or have arisen in this WCLK, in the order of their codes (R315, R366). -/
def Welt.acting (w : Welt) (t : Nat) : List WCause := lockCauses.filter fun c => w.causeActive t c || w.arisen t c

/-- START or RUN with an active cause: LOCKOUT (R315). -/
def Welt.locks (w : Welt) (t : Nat) : Bool := (w.st == .start || w.st == .run) && !(w.acting t).isEmpty

/-- A pair has passed its start-up test, or is not enabled (R314). -/
def Welt.tested (w : Welt) (p : Fin 2) : Bool := !w.pairEn p || (w.pair p).passed

/-- The state that follows from causes and start-up tests (R314, R315). -/
def Welt.nextSt (w : Welt) (t : Nat) : WSt :=
  if w.locks t then .lockout
  else if w.st == .start && w.tested 0 && w.tested 1 then .run
  else w.st

/-- The output stage drives solenoids and PKR in a state (R293, R307, R313, R315). -/
def Welt.stage (w : Welt) (st : WSt) : Bool := w.powered && w.vload && !w.dead && st != .init

/-- The test-pulse outputs are driven (R293, R315). -/
def Welt.tpStage (w : Welt) : Bool := w.powered && w.vload && !w.dead

/-- A safety output in a state, with its request (R304, R312). -/
def Welt.soOn (w : Welt) (st : WSt) (k : Nat) (req : Bool) : Bool :=
  st == .run && w.powered && w.vload && req && !w.orphSet && !w.gated k

/-- A solenoid's driver under the stage, its latch and its setpoint (R305, R306). -/
def Sol.under (x : Sol) (stage : Bool) (sp : BitVec 12) : Sol := { x with on := x.on && stage && !x.fault && sp != 0 }

/-- State changes that follow from causes and start-up tests, and the outputs; of causes that arise in the WCLK of the
entry to LOCKOUT the lowest code is reported (R293, R307, R311 to R315, R366).
DEDUCED (unsafe), log entry 62. DEDUCED (unsafe), log entry 63. -/
def Welt.refresh (w : Welt) (t : Nat) : Welt :=
  { w with
    st := w.nextSt t
    cause := if w.locks t || (w.st == .lockout && w.lockedAt == some t) then (w.acting t).head? else w.cause
    lockedAt := if w.locks t then some t else w.lockedAt
    so0 := w.soOn (w.nextSt t) 0 w.so0Req, so1 := w.soOn (w.nextSt t) 1 w.so1Req
    pkr := w.stage (w.nextSt t) && w.pkrReq && !w.pkrDrop && !w.pkrFault
    sol0 := w.sol0.under (w.stage (w.nextSt t)) w.sp0, sol1 := w.sol1.under (w.stage (w.nextSt t)) w.sp1
    tp0 := w.tpStage && !w.tpLow0, tp1 := w.tpStage && !w.tpLow1
    wstat := if w.nextSt t = .start then w.wstat else w.nextSt t == .run && w.powered && w.vload }

/-- A cause other than CLOCK and INTERNAL arises: a reset whose edge lies in this WCLK is refused (R316). -/
def Welt.spoil (w : Welt) (t : Nat) : Welt :=
  { w with causeAt := some t, resetBad := w.resetBad || w.resetAt == some (t + 12) }

/-- A cause arises (R315, R316, R366). -/
def Welt.addCause (w : Welt) (t : Nat) (c : WCause) : Welt :=
  let w := if c = .clock ∨ c = .internal then w else w.spoil t
  { w with causes := if w.causes.contains c then w.causes else w.causes ++ [c],
           news := (if w.newsAt = t then w.news else []) ++ [c], newsAt := t }
def Welt.dropCause (w : Welt) (c : WCause) : Welt := { w with causes := w.causes.filter (· != c) }

/-- Acceptance re-evaluated after an event; decoded: lanes whose good words the event brought (R299 to R304).
DEDUCED (unsafe), log entry 64. -/
def Welt.evaluate (w : Welt) (t : Nat) (decoded : List (Fin 3)) : Welt :=
  let w := { w with multi := w.twoLeads }
  match w.best with
  | none =>
    { w with accepted := none, orphan := if w.orphan.isNone then some t else w.orphan }
  | some k =>
    let w := { w with orphan := none, orphSet := false }
    match (w.lanes[k]).word with
    | none => { w with accepted := some k }
    | some x =>
      if w.accepted = some k then
        if decoded.contains k then { w with apply := w.apply ++ [(t + 48, k, x)] } else w
      else
        let x := if decoded.contains k then x else { x with saddr := 0 }
        { w with accepted := some k, apply := [(t + 48, k, x)] }

/-- One decoded word on a lane (R297, R298, R315, R316). DEDUCED (unsafe), log entry 66. -/
def Welt.decodeLane (w : Welt) (t : Nat) (k : Fin 3) (x : ClaimWord) : Welt :=
  let l := w.lanes[k]
  let period := match l.lastMark with
    | some m => if t - m < 380 || 420 < t - m then l.badPeriods + 1 else 0
    | none => 0
  let l := if x.symOk then { l with lastMark := some t, badPeriods := period } else l
  let l := if !wordGood w.lanes[k] x then l
    else if claimValid k x.claim then
      { l with word := some x, claim := x.claim, fresh := true, freshAt := t,
               sight := if w.wrst && x.req.getLsbD 0 && l.sight.isNone then some t else l.sight }
    else
      { l with word := some x, claim := 0, fresh := false,
               invalid := if x.claim = 0 then l.invalid else l.invalid + 1 }
  { w with lanes := w.lanes.set k l }

/-- CLOCK by the claim periods of two lanes (R315). DEDUCED (unsafe), log entry 66. -/
def Welt.clockCheck (w : Welt) (t : Nat) : Welt :=
  if 2 ≤ (List.finRange 3).countP (fun k => decide (16 ≤ (w.lanes[k]).badPeriods)) then w.addCause t .clock else w

/-- The value of a setting as its writable bits hold it (R323). -/
def settingMask (a : Nat) : BitVec 16 :=
  match a with
  | 1 => 0x3F
  | 2 => 0xF
  | 3 => 0x1FF
  | 5 => 0xF
  | 6 | 7 => 0xFFF
  | 9 => 0x3FF
  | _ => 0xFFFF

/-- A setting in range that keeps R311 (R320, R323, R324). -/
def Welt.settingOk (w : Welt) (a : Nat) (v : BitVec 16) : Bool :=
  let n := v.toNat
  match a with
  | 1 | 5 => true
  | 2 => decide (w.set4.toNat % 256 ≤ 50 * (n + 1))
  | 3 => decide (50 ≤ n) && decide (n ≤ 500)
  | 4 => decide (20 ≤ n % 256) && decide (n % 256 ≤ 100) && decide (20 ≤ n / 256) && decide (n / 256 ≤ 200) &&
      decide (n % 256 ≤ 50 * (w.set2.toNat % 16 + 1))
  | 6 | 7 => decide (n ≤ 3000)
  | 8 => decide (1 ≤ n % 256) && decide (5 ≤ n / 256) && decide (n / 256 ≤ 50)
  | 9 => decide (n % 512 ≤ 300)
  | _ => false

/-- A setting takes effect (R320); a pair whose mode changes is judged as at INIT. DEDUCED (unsafe), log entry 64. -/
def Welt.putSetting (w : Welt) (t a : Nat) (v : BitVec 16) : Welt :=
  match a with
  | 1 =>
    let old := w.set1
    let w := { w with set1 := v }
    let w := if old.toNat % 8 = v.toNat % 8 then w else w.pairInit t 0
    if old.toNat / 8 = v.toNat / 8 then w else w.pairInit t 1
  | 2 => { w with set2 := v }
  | 3 => { w with set3 := v }
  | 4 => { w with set4 := v }
  | 5 => { w with set5 := v }
  | 6 => { w with set6 := v }
  | 7 => { w with set7 := v }
  | 8 => { w with set8 := v }
  | 9 => { w with set9 := v }
  | _ => w

/-- SO0 or SO1 is on in this WCLK, by the state that it leaves (R312, R320). -/
def Welt.soEither (w : Welt) (t : Nat) : Bool := (w.refresh t).so0 || (w.refresh t).so1

/-- A setting from a word of the accepted lane: class S waits for SO0 and SO1 off; a newer value takes the place of a
held one (R320). -/
def Welt.takeSetting (w : Welt) (t a : Nat) (v : BitVec 16) : Welt :=
  let v := v &&& settingMask a
  if a = 0 || !w.settingOk a v then w
  else
    let x := { w with held := w.held.filter fun p => p.1 != a }
    if a ≤ 5 && w.soEither t then { x with held := x.held ++ [(a, v)] } else x.putSetting t a v

/-- A word applies (R300, R304, R305, R307). DEDUCED (unsafe), log entry 63. -/
def Welt.applyWord (w : Welt) (t : Nat) (x : ClaimWord) : Welt :=
  let rel := x.req.getLsbD 1
  let tooBig := decide (3000 < x.sp0.toNat) || decide (3000 < x.sp1.toNat)
  let newly := tooBig && !w.clamp
  let clampTo (v : BitVec 12) : BitVec 12 := if 3000 < v.toNat then 3000 else v
  let note := if tooBig then some .spClamp
    else if w.note = some .spClamp then (if w.pkrFault then some .pkrFault else none) else w.note
  let arm := w.pkrDrop && (w.pkrArm || !rel)
  let drop := w.pkrDrop && !(w.pkrArm && rel)
  let w := { w with sp0 := clampTo x.sp0, sp1 := clampTo x.sp1, so0Req := x.req.getLsbD 3, so1Req := x.req.getLsbD 2,
                    pkrReq := rel, accSeq := x.seq, clamp := tooBig, note := note, pkrArm := arm && drop, pkrDrop := drop }
  let w := if newly then w.spoil t else w
  w.takeSetting t x.saddr.toNat x.sdata

/-- Applications that are due, in order. -/
def Welt.applyDue (w : Welt) (t : Nat) : Welt :=
  let due := w.apply.filter fun p => decide (p.1 ≤ t)
  let w := { w with apply := w.apply.filter fun p => decide (t < p.1) }
  due.foldl (fun w p => w.applyWord t p.2.2) w

/-- Solenoid k. -/
def Welt.sol (w : Welt) (k : Fin 2) : Sol := if k = 0 then w.sol0 else w.sol1
def Welt.setSol (w : Welt) (k : Fin 2) (x : Sol) : Welt := if k = 0 then { w with sol0 := x } else { w with sol1 := x }
def Welt.sp (w : Welt) (k : Fin 2) : BitVec 12 := if k = 0 then w.sp0 else w.sp1

/-- The regulated target: the setpoint with its dither (R305). -/
def Welt.target (w : Welt) (k : Fin 2) : Nat :=
  let sp := (w.sp k).toNat
  let amp := w.set9.toNat % 512
  if w.set9.getLsbD 9 then (if w.dither then sp + amp else sp - amp) else sp

/-- Codes of R315, R313 and R318. -/
def WCause.code : WCause → BitVec 4
  | .discrepancy => 1
  | .crossCircuit => 2
  | .soFault => 3
  | .vload => 4
  | .clock => 5
  | .internal => 6
  | .pkrFault => 8
  | .spClamp => 9
def WSt.code : WSt → BitVec 3
  | .init => 0
  | .start => 1
  | .run => 2
  | .lockout => 3
def PairSt.code : PairSt → Nat
  | .closed => 0
  | .open_ => 1
  | .transit => 2
  | .disabled => 3

/-- The cause that a status word reports (R315). DEDUCED (unsafe), log entry 63. -/
def Welt.reported (w : Welt) : BitVec 4 :=
  let c := if w.st = .lockout then w.cause else if w.st = .init then none else w.note
  match c with
  | some x => x.code
  | none => 0

/-- The status word of an instant (R318). -/
def Welt.status (w : Welt) : StatusWord :=
  let b2 (a b : Bool) : BitVec 2 := BitVec.ofNat 2 (2 * b2n a + b2n b)
  let acc := match w.accepted with
    | some k => (w.lanes[k]).claim
    | none => 0
  let x : StatusWord :=
    { sync := 0xA, state := w.st.code, accClaim := acc, accSeq := w.accSeq, i0 := w.sol0.ma, i1 := w.sol1.ma,
      si := w.si, pair := BitVec.ofNat 4 (4 * w.pair1.st.code + w.pair0.st.code),
      out := BitVec.ofNat 3 (4 * b2n w.so0 + 2 * b2n w.so1 + b2n w.pkr), cause := w.reported,
      solf := b2 w.sol1.fault w.sol0.fault, start := b2 w.pair1.passed w.pair0.passed,
      flags := BitVec.ofNat 4 (8 * b2n (!w.held.isEmpty) + 4 * b2n w.multi + 2 * b2n w.orphSet + b2n w.wrst),
      rstr := w.rstr, check := 0, symOk := true }
  { x with check := crc8 (statusBits x) }

/-- A cause that the reset of R316 leaves: CLOCK and INTERNAL, which only the self-check clears, and those still
active. -/
def Welt.outlasts (w : Welt) (t : Nat) (c : WCause) : Bool := c == .clock || c == .internal || w.causeActive t c

/-- The latches that a deliberate reset clears (R316). A clamped setpoint that stands is still reported, and a pair
whose discrepancy has ended has none any more. -/
def Welt.unlatched (w : Welt) (t : Nat) : Welt :=
  { w with causes := w.causes.filter (w.outlasts t), note := if w.clamp then some .spClamp else none, pkrFault := false,
           pair0 := { w.pair0 with disc := w.discrepant 0 }, pair1 := { w.pair1 with disc := w.discrepant 1 },
           sol0 := { w.sol0 with fault := false, openAt := none }, sol1 := { w.sol1 with fault := false, openAt := none } }

/-- Entry to INIT: every pair is judged (R310, R314). -/
def Welt.enterInit (w : Welt) (t : Nat) : Welt :=
  ({ w with st := .init, initAt := t }.pairInit t 0).pairInit t 1

/-- A deliberate reset takes effect (R314, R316). -/
def Welt.deliberate (w : Welt) (t : Nat) : Welt :=
  let w' := (w.unlatched t).enterStart
  if w.dead then w'.enterInit t else w'

/-- A reset that was granted takes effect 12 WCLK after its edge, unless a cause arose in the WCLK of the edge (R316).
DEDUCED (unsafe), log entry 62. -/
def Welt.resetStep (w : Welt) (t : Nat) : Welt :=
  match w.resetAt with
  | some r =>
    if r ≤ t then
      let w := { w with resetAt := none }
      if w.resetBad then { w with rstr := w.rstr + 1 } else w.deliberate r
    else w
  | none => w

/-- A command on a powered Welt: what time has brought, the command, then states and outputs.
DEDUCED (unsafe), log entry 62. -/
def onPowered (l : WAt) (s : State) (f : Welt → Welt) : Out :=
  onWelt l.w s fun w => if w.powered then (f ((w.resetStep l.t).settle l.t)).refresh l.t else w

end Sys2Proof.Machine
end

