-- ==== Sys2Proof/Machine/RdOps.lean ====
section
/-! DEFINITION. Operations of the redundancy unit that several commands share (spec files 09 and 10): what the voting
block and the claim carry, the judgements on links and channels, levels and roles. -/

namespace Sys2Proof.Machine

/-- Three CCL periods of 2,000 TCLK (R329, R332). -/
def threePeriods : Nat := tclk 6000

/-- An instant lies within three CCL periods before t. -/
def within3 (x : Option Nat) (t : Nat) : Bool :=
  match x with
  | some h => decide (t < h + threePeriods)
  | none => false

/-- A partner heard on a CCL path, on the direct link, or on a network within the last two cycles (R330, R332). -/
def Channel.heard (c : Channel) (t : Nat) (ch : Ch) : Bool := within3 (c.peer ch).heardAt t
def Channel.heardDirect (c : Channel) (t : Nat) (ch : Ch) : Bool := within3 (c.peer ch).goodAt t
/-- DEDUCED (unsafe), log entry 69. -/
def Channel.heardNet (c : Channel) (t : Nat) (ch : Ch) : Bool :=
  match (c.peer ch).netAt with
  | some h => decide (t < h + tclk (2 * c.cycleTclk))
  | none => false

/-- A good status word within the last three status periods (R319, R330). -/
def Channel.statGood (c : Channel) (t : Nat) (w : Wid) : Bool :=
  (c.wi w).stat.isSome && decide (t < (c.wi w).lastGood + tclk 6180)

/-- MISSED: the periods without a good word, those of a silence that lasts among them (R325). DEDUCED (unsafe), log
entry 148. -/
def Channel.missedNow (c : Channel) (t : Nat) (w : Wid) : BitVec 8 :=
  if c.released then satAdd (c.wi w).missed ((t - (c.wi w).lastGood) / tclk 2060) else (c.wi w).missed

/-- A flag per partner in the bits of R330. -/
def Channel.peerBits (c : Channel) (f : Ch → Bool) : BitVec 3 :=
  let one (ch : Ch) : Nat := if ch != c.id && f ch then 2 ^ Ch.bit ch else 0
  BitVec.ofNat 3 (one .a + one .b + one .c)

/-- The more severe of two levels (R343). -/
def worse (a b : BitVec 3) : BitVec 3 := if a < b then b else a

/-- The REQ bits SO0, SO1, PKR release that R343 prescribes for the lead at the level in force.
DEDUCED (unsafe), log entry 75. -/
def Channel.leadReq (c : Channel) (w : Wid) : BitVec 3 :=
  let d := (c.wi w).dem
  if 4 ≤ c.rd.level then 0
  else if c.rd.level = 3 then (if bit (c.getA 0x4402) 22 then 1 else (d &&& 2) ||| 1)
  else d

/-- The REQ bits that a channel sends to a Welt (R336, R343). DEDUCED (unsafe), log entry 75. -/
def Channel.reqBits (c : Channel) (w : Wid) : BitVec 3 :=
  match c.rd.role with
  | .lead => c.leadReq w
  | .standby =>
    if 3 ≤ c.rd.level then c.leadReq w
    else match c.rd.leadCh with
      | some ch =>
        (match (c.peer ch).leadReq with
         | some v => if w = .w1 then v.1 else v.2
         | none => c.leadReq w)
      | none => c.leadReq w
  | _ => 0

/-- The level sent in STATE (R345). DEDUCED (unsafe), log entry 70. -/
def Channel.sentLevel (c : Channel) : BitVec 3 :=
  if c.rd.role = .standby || c.rd.role = .lead then worse c.rd.comp c.rd.level else c.rd.level

/-- Networks held: bit 0 X, bit 1 Y. -/
def Channel.heldBits (c : Channel) : BitVec 2 := BitVec.ofNat 2 (b2n c.net.nt.x.held + 2 * b2n c.net.nt.y.held)

/-- The core is stopped or stops at the next frame boundary (R102). -/
def Channel.halted (c : Channel) : Bool := c.exe.stopping || c.exe.stopped

def noAnn : Ann := ⟨0, 0, 0, 0⟩

/-- The voting block at an instant (R330). ROLE is forced to ISOLATED from a mismatch on (R326). -/
def Channel.vote (c : Channel) (t : Nat) : Vote :=
  { angle := c.rd.angle, angleValid := c.rd.angleOk, role := if c.halted then 4 else roleCode c.rd.role
    level := c.sentLevel, supLow := c.sup.warn || c.sup.ov, active := c.sd.active, held := c.heldBits
    ann := c.rd.ann.getD noAnn, faults := c.rd.view, cyc := c.rd.markCyc
    direct := c.peerBits (c.heardDirect t), anyPath := c.peerBits fun ch => c.heard t ch || c.heardNet t ch
    req1 := c.reqBits .w1, req2 := c.reqBits .w2, st1 := c.statGood t .w1, st2 := c.statGood t .w2 }

/-- A channel's configured rank (R328). -/
def Channel.rankOf (c : Channel) (ch : Ch) : Nat := c.af 0x4400 (3 * Ch.bit ch) 3

/-- A claim number (R296). -/
def claimNum (lead take : Bool) (rank : Nat) (ch : Ch) : BitVec 8 :=
  BitVec.ofNat 8 ((if lead then 0xC0 else 0x40) + (if take then 0x20 else 0) + 4 * rank + ch.code.toNat)

/-- CH stands for the channel itself: it claims nothing (R340, R341). -/
def Channel.selfCh (c : Channel) : Bool := bit c.rd.view (Ch.bit c.id) || bit c.rd.faults (Ch.bit c.id)

/-- A claim of the running hand-over (R302): LEAD with TAKE of the incoming channel until M + 80 µs, LEAD of the
outgoing one for periods before M + 40 µs. DEDUCED (unsafe), log entry 73. -/
def Channel.handClaim (c : Channel) (t : Nat) : Option (BitVec 8) :=
  match c.rd.ho with
  | none => none
  | some h =>
    if h.inc = c.id && t < h.at_ + usec 80 then some (claimNum true true (c.rankOf c.id) c.id)
    else if h.out = c.id && t < h.at_ + usec 40 then some (claimNum true false (c.rankOf c.id) c.id)
    else none

/-- The claim number of a period (R296, R302, R326, R341, R475). -/
def Channel.claimNumber (c : Channel) (t : Nat) : BitVec 8 :=
  if c.halted || c.selfCh || c.wi1.fault || c.wi2.fault || c.nv.lc == 0 || c.nv.lc == 5 then 0
  else
    let plain (lead : Bool) : BitVec 8 := claimNum lead false (c.rankOf c.id) c.id
    match c.rd.role with
    | .lead => (c.handClaim t).getD (plain true)
    | .standby => (c.handClaim t).getD (plain false)
    | _ => 0

/-- A value in A as whole mA, ties to even, within 0 to 4,095; a value that is no number is 0 (R294). -/
def milliamps (x : F32) : BitVec 12 :=
  if !F32.finite x || F32.sign x then 0
  else BitVec.ofNat 12 (min 4095 (shiftRne (F32.mant x * 1000) (F32.pow2 x) false))

/-- The claim word of one lane (R294, R295, R317, R321). -/
def Channel.claimWord (c : Channel) (t : Nat) (w : Wid) : ClaimWord :=
  let x := c.wi w
  let k : Nat := if w = .w1 then 0 else 1
  let d (i : Nat) : BitVec 12 := milliamps (if i = 0 then (if k = 0 then c.ce.dest[4] else c.ce.dest[6])
    else (if k = 0 then c.ce.dest[5] else c.ce.dest[7]))
  let addr := x.setIdx + 1
  let u : ClaimWord :=
    { sync := 0xA, claim := c.claimNumber t, check := 0, seq := x.seq + 1, sp0 := d 0, sp1 := d 1,
      req := (c.reqBits w).setWidth 4 <<< 1 ||| BitVec.ofNat 4 (b2n (decide (0 < x.rstLeft))),
      saddr := BitVec.ofNat 6 addr, sdata := BitVec.ofNat 16 (c.af (0x4000 + 0x40 * k + addr) 0 16), symOk := true }
  { u with check := crc8 (claimBits u) }

/-- A lane sends its word of the period; a change of K restarts the judgement of R341.
DEDUCED (unsafe), log entry 79. -/
def Channel.sendClaim (c : Channel) (t : Nat) (w : Wid) : Channel :=
  let u := c.claimWord t w
  let x := c.wi w
  let changed := u.claim != x.claim
  c.setWi w { x with sent := some u, seq := u.seq, claim := u.claim, setIdx := (x.setIdx + 1) % 9,
                     rstLeft := x.rstLeft - 1, kAt := if changed then t else x.kAt,
                     lowIdx := if changed then none else x.lowIdx
                     highIdx := if changed then none else x.highIdx }

/-- A status period as a channel counts it: 2,060 TCLK (R319). -/
def statPeriod : Nat := tclk 2060

/-- Three status periods in a row from the third after the change of the claim on have passed, with good words in them
and none whose ACC_CLAIM did not lie below the claim; idx: the period in progress (R319, R341).
DEDUCED (unsafe), log entry 79. -/
def Wi.lowRun (x : Wi) (idx : Nat) : Bool :=
  match x.lowIdx with
  | none => false
  | some k =>
    let start := match x.highIdx with
      | some h => max 2 (h + 1)
      | none => 2
    let due := max (start + 3) (k + 1)
    decide (due ≤ idx) && decide (due ≤ k + 3)

/-- A lane fault of the own channel: CH stands for it alone, unless it stood already (R340 to R342). -/
def Channel.laneFault (c : Channel) : Channel :=
  let alone := c.rd.laneCh || !bit c.rd.view (Ch.bit c.id)
  { c.enterView (Fin.ofNat 24 (Ch.bit c.id)) with rd := { (c.enterView (Fin.ofNat 24 (Ch.bit c.id))).rd with laneCh := alone } }

/-- The judgement of a claim lane at an instant (R319, R341). DEDUCED (unsafe), log entry 79. -/
def Channel.judgeLane (c : Channel) (t : Nat) (w : Wid) : Channel :=
  let x := c.wi w
  if x.claim != 0 && !x.fault && x.lowRun ((t - x.kAt) / statPeriod) then
    ((c.setWi w { x with fault := true }).raise 38).laneFault
  else c

/-- The CCL entry between two channels (R331). -/
def cclBit (x y : Ch) : Fin 24 :=
  if x != .c && y != .c then 21 else if x != .a && y != .a then 22 else 23

/-- SNS, WND, PMP, WLT, WLOST and NET bits of R331. -/
def liveF (f : Word) (ch : Ch) : Bool := !bit f (Ch.bit ch) && !bit f (3 + Ch.bit ch)
def countCh (p : Ch → Bool) : Nat := b2n (p .a) + b2n (p .b) + b2n (p .c)

/-- Levels of a resource of which three are the full number (R344). none0: the level with none left. -/
def byCount (n : Nat) (none0 : BitVec 3) : BitVec 3 := if 3 ≤ n then 0 else if n = 2 then 1 else if n = 1 then 2 else none0

/-- The paths between two live channels (R344). -/
def pathLevel (f : Word) (x y z : Ch) : BitVec 3 :=
  if !(liveF f x && liveF f y) || !bit f (cclBit x y).val then 0
  else if liveF f z && !bit f (cclBit x z).val && !bit f (cclBit y z).val then 1 else 3

/-- A Welt is powered by at least one leg and not lost (R344). -/
def weltUp (f : Word) (w : Wid) : Bool :=
  match w with
  | .w1 => !bit f 8 && !(bit f 3 && bit f 4)
  | .w2 => !bit f 9 && !(bit f 4 && bit f 5)
def circuitUp (f : Word) (w : Wid) : Bool :=
  match w with
  | .w1 => !bit f 6 && !bit f 8
  | .w2 => !bit f 7 && !bit f 9

/-- The level of a fault set, with the networks that live channels hold (R344). -/
def levelOf (f : Word) (nets : BitVec 2) : BitVec 3 :=
  let live := byCount (countCh (liveF f)) 4
  let wind := byCount (countCh fun ch => liveF f ch && !bit f (15 + Ch.bit ch)) 4
  let ang := byCount (countCh fun ch => liveF f ch && !bit f (12 + Ch.bit ch)) 3
  let pump := byCount (countCh fun ch => liveF f ch && !bit f (18 + Ch.bit ch)) 3
  let circ : BitVec 3 := match b2n (circuitUp f .w1) + b2n (circuitUp f .w2) with
    | 0 => 4
    | 1 => 2
    | _ => 0
  let pow : BitVec 3 := if weltUp f .w1 && weltUp f .w2 then 0 else 4
  let net : BitVec 3 := if nets = 3 then 0 else if nets = 0 then 3 else 1
  let path := worse (pathLevel f .a .b .c) (worse (pathLevel f .b .c .a) (pathLevel f .c .a .b))
  let any : BitVec 3 := if f = 0 then 0 else 1
  worse live (worse wind (worse ang (worse pump (worse circ (worse pow (worse net (worse path any)))))))

/-- The life cycle's least severe level (R475). -/
def lcFloor (lc : BitVec 3) : BitVec 3 :=
  match lc.toNat with
  | 1 | 2 => 0
  | 3 => 2
  | _ => 4

/-- The first block of a channel in the cycle that ends: the own one as latched (R333). -/
def Channel.latchedOf (c : Channel) (ch : Ch) : Option Vote :=
  if ch = c.id then c.rd.ownLatched else (c.peer ch).latched

def roleIn (v : Option Vote) (r : BitVec 3) : Bool :=
  match v with
  | some x => x.role == r
  | none => false

/-- The third channel. -/
def third (x y : Ch) : Ch := if x != .a && y != .a then .a else if x != .b && y != .b then .b else .c

/-- Neither partner is heard on a CCL path while one is alive on a network (R332). DEDUCED (unsafe), log entry 68. -/
def Channel.cutOff (c : Channel) (t : Nat) : Bool :=
  !c.heard t c.id.next && !c.heard t c.id.prev && (c.heardNet t c.id.next || c.heardNet t c.id.prev)

/-- The loss of a partner at a mark (R332): nothing, or CH (false) or SUP (true). Judged from the mark after entry to
RESYNC on. DEDUCED (unsafe), log entry 68. -/
def Channel.lossOf (c : Channel) (t : Nat) (ch : Ch) : Option Bool :=
  let judging := match c.rd.ownLatched with
    | some v => v.role == 1 || v.role == 2 || v.role == 3
    | none => false
  let p := c.peer ch
  let z := third c.id ch
  let zHears := (c.peer z).hears.getLsbD (Ch.bit ch)
  let silent := p.latched.isNone && !zHears && !(c.cutOff t && c.heardNet t ch)
  let out := roleIn p.latest 0 || roleIn p.latest 4
  let sup := if out then (match p.latest with
    | some v => bit v.faults (3 + Ch.bit ch)
    | none => false) else p.supLast
  if judging && (out || silent) then some sup else none

/-- A partner's loss enters the view and RD_PEER (R332, R354, R607). DEDUCED (unsafe), log entry 68. -/
def Channel.takeLoss (c : Channel) (ch : Ch) (loss : Option Bool) : Channel :=
  match loss with
  | none => c
  | some sup =>
    if bit c.rd.view (Ch.bit ch) || bit c.rd.view (3 + Ch.bit ch) then c
    else
      let k := Ch.bit ch + (if sup then 3 else 0)
      (c.enterView (Fin.ofNat 24 k)).raise 44 (BitVec.ofNat 16 (ch.code.toNat + (if sup then 256 else 0)))

/-- CH, SUP and the links of a channel seen to enter RESYNC leave the view; the own CH that rests on a lane fault alone
stays until a reset (R342). -/
def Channel.clearOf (c : Channel) (ch : Ch) (links : Bool) : Channel :=
  let keep := ch == c.id && c.rd.laneCh
  let v := setBit (if keep then c.rd.view else setBit c.rd.view (Ch.bit ch) false) (3 + Ch.bit ch) false
  let drop (v : Word) (o : Ch) : Word := if o != ch && links then setBit v (cclBit ch o).val false else v
  let v := drop (drop (drop v .a) .b) .c
  let c := { c with rd := { c.rd with view := v } }
  let d := ch.code.setWidth 16
  let c := (c.dropLine 44 d).dropLine 44 (d + 256)
  let c := if !bit v 21 && !bit v 22 && !bit v 23 then c.dropLine 45 0 else c
  let fresh (c : Channel) (o : Ch) : Channel := c.setPeer o { c.peer o with failed := false, judgeAt := none }
  if !links then c
  else if ch = c.id then fresh (fresh c c.id.next) c.id.prev else fresh c ch

/-- R342 for a partner at a mark. -/
def Channel.clearPeer (c : Channel) (ch : Ch) (lost : Bool) : Channel :=
  let p := c.peer ch
  let now := match p.latest with
    | some v => v.role
    | none => 0
  let c := if now = 1 && !lost then c.clearOf ch (p.seenRole != 1) else c
  c.setPeer ch { c.peer ch with seenRole := now }

/-- The module fault set at a mark (R333). -/
def Channel.faultSet (c : Channel) (lost : Ch → Option Bool) : Word :=
  let view (ch : Ch) : Word :=
    if (lost ch).isSome then 0
    else match c.latchedOf ch with
      | some v => v.faults
      | none => 0
  let loss (ch : Ch) : Word :=
    match lost ch with
    | some sup => put (Ch.bit ch + (if sup then 3 else 0)) 1
    | none => 0
  view .a ||| view .b ||| view .c ||| loss .a ||| loss .b ||| loss .c

/-- The angles of the blocks latched at the last mark become signals 0x34 to 0x36 (R333). -/
def Channel.voteAngles (c : Channel) : Channel :=
  let val (ch : Ch) : F32 := match c.latchedOf ch with
    | some v => v.angle
    | none => 0
  let ok (ch : Ch) : Bool := match c.latchedOf ch with
    | some v => v.angleValid && F32.finite v.angle
    | none => false
  { c with rd := { c.rd with sigA := val .a, sigB := val .b, sigC := val .c, okA := ok .a, okB := ok .b, okC := ok .c } }

def Channel.angleOf (c : Channel) (ch : Ch) : F32 × Bool :=
  match ch with
  | .a => (c.rd.sigA, c.rd.okA)
  | .b => (c.rd.sigB, c.rd.okB)
  | .c => (c.rd.sigC, c.rd.okC)

/-- The voted angle: MID3 of signals 0x34 to 0x36 (R121, R333). -/
def Channel.votedAngle (c : Channel) : Option F32 :=
  mid3Of ([Ch.a, .b, .c].filterMap fun ch => if (c.angleOf ch).2 then some (c.angleOf ch).1 else none)

/-- SNS of the own sensor counts marks (R334). -/
def Channel.angleCounts (c : Channel) : Channel :=
  let s := c.fb.sent[0]
  let own := c.angleOf c.id
  let far := match c.votedAngle with
    | some m => own.2 && F32.lt (c.getA 0x4408) (F32.abs (F32.sub own.1 m))
    | none => false
  { c with rd := { c.rd with angInv := if s.valid then 0 else c.rd.angInv + 1,
                             angTol := if far then c.rd.angTol + 1 else 0 } }

/-- An angle that fails R334 within the health window spoils it (R339). DEDUCED (unsafe), log entry 80. -/
def Channel.healthAngle (c : Channel) : Channel :=
  { c with rd := { c.rd with healthBad := c.rd.healthBad || (c.rd.health.isSome && c.snsCond) } }

/-- The single valid angle, if exactly one is (R334). A sensor under the cross-check stays the one that is checked.
DEDUCED (unsafe), log entry 72. -/
def Channel.singleAngle (c : Channel) : Option Ch :=
  let ok (ch : Ch) : Bool :=
    (c.angleOf ch).2 && c.liveIn ch && (!bit c.rd.faults (12 + Ch.bit ch) || c.rd.xfail == some ch)
  match [Ch.a, .b, .c].filter ok with
  | [ch] => some ch
  | _ => none

/-- The cross-check against ENC0 while exactly one angle is valid (R334). DEDUCED (unsafe), log entry 72. -/
def Channel.crossCheck (c : Channel) : Channel :=
  match c.singleAngle with
  | none => { c with rd := { c.rd with xref := none, xfail := none } }
  | some ch =>
    let a := (c.angleOf ch).1
    let n := (c.fb.enc[0]).count
    let start := match c.rd.xref with
      | some r => if r.1 = ch then r.2 else (a, n)
      | none => (a, n)
    let moved := F32.div (F32.ofInt (n - start.2).toInt) (c.getA 0x300B)
    let bad := F32.lt (c.getA 0x4409) (F32.abs (F32.sub (F32.sub a start.1) moved))
    { c with rd := { c.rd with xref := some (ch, start), xfail := if bad then some ch else none } }

/-- Count order of cycles: a is at or before b. -/
def cycLe (a b : Word) : Bool := decide ((b - a).toNat < 2 ^ 31)

/-- The announced change of a channel that takes effect in this cycle: 1 JOIN, 2 LEAVE (R175, R330). -/
def Channel.announced (c : Channel) (ch : Ch) (k : BitVec 3) : Bool :=
  match if ch = c.id then c.rd.ann else (c.latestOf ch).map (·.ann) with
  | some a => a.kind == k && a.cyc == c.net.nt.cycle && a.ch == ch.code
  | none => false

/-- The windings that have joined since WND of their channel entered the set: WND holds them out no longer (R175, R177,
R333, R342). DEDUCED (unsafe), log entry 138. -/
def Channel.rejoins (c : Channel) : BitVec 3 :=
  let one (ch : Ch) : Bool := bit c.rd.faults (15 + Ch.bit ch) && (c.announced ch 1 || c.rd.rejoined.getLsbD (Ch.bit ch))
  BitVec.ofNat 3 (b2n (one .a) + 2 * b2n (one .b) + 4 * b2n (one .c))

/-- The active-winding set at a mark (R333, R175): views with their own bit, less SUP and WND, and announced changes.
DEDUCED (unsafe), log entry 138. -/
def Channel.activeSet (c : Channel) (lost : Ch → Option Bool) : BitVec 3 :=
  let f := c.rd.faults
  let named (ch : Ch) (k : BitVec 3) : Bool := c.announced ch k
  let own (ch : Ch) : Bool := match c.latchedOf ch with
    | some v => v.active.getLsbD (Ch.bit ch) && (ch != c.id || c.sd.active.getLsbD (Ch.bit ch))
    | none => false
  let stays (ch : Ch) : Bool := own ch && !named ch 2 && (!bit f (15 + Ch.bit ch) || c.rd.rejoined.getLsbD (Ch.bit ch))
  let isIn (ch : Ch) : Bool := (lost ch).isNone && !bit f (3 + Ch.bit ch) && (stays ch || named ch 1)
  BitVec.ofNat 3 (b2n (isIn .a) + 2 * b2n (isIn .b) + 4 * b2n (isIn .c))

/-- Silent Welts and lane faults by silence: a silence found by mark n is judged from the HEARD fields of the blocks
latched at mark n, which are complete at mark n + 1 (R333, R341). DEDUCED (unsafe), log entry 68. -/
def Channel.judgeSilence (c : Channel) (lost : Ch → Option Bool) (w : Wid) : Channel :=
  let told (ch : Ch) : Bool := match c.latchedOf ch with
    | some v => if w = .w1 then v.st1 else v.st2
    | none => false
  let good (ch : Ch) : Bool := ch != c.id && (lost ch).isNone && c.liveIn ch && told ch
  let other := good .a || good .b || good .c
  let x := c.wi w
  let due := x.silent && (match c.net.nt.markAt with
    | some m => decide (x.silentAt ≤ m)
    | none => false)
  let k := if w = .w1 then 0 else 1
  let c := { c with rd := { c.rd with silent := setBit c.rd.silent k (due && !told c.id && !other) } }
  if due && other then c.laneFault else c

/-- Entry to SAFE_STOP and HELD, and their end (R346). DEDUCED (unsafe), log entry 74. -/
def Channel.stopCourse (c : Channel) (t : Nat) (old : BitVec 3) : Channel :=
  let l := c.rd.level
  let active := c.rd.role == .standby || c.rd.role == .lead
  if l < 3 then { c with rd := { c.rd with stop := none } }
  else if l = 3 then
    if old != 3 && active then { c with rd := { c.rd with stop := some ⟨0, none, false⟩ } } else c
  else match c.rd.stop with
    | some x => if x.heldAt.isNone then { c with rd := { c.rd with stop := some { x with heldAt := some t } } } else c
    | none => c

/-- A level takes force (R345 to R347). -/
def Channel.toLevel (c : Channel) (t : Nat) (l : BitVec 3) : Channel :=
  let old := c.rd.level
  (c.setLevel t l).stopCourse t old

/-- The module level at a mark; in STANDBY and LEAD nothing but a LEVEL announcement makes it less severe (R345, R347).
DEDUCED (unsafe), log entry 70. -/
def Channel.moduleLevel (c : Channel) (t : Nat) (lost : Ch → Option Bool) : BitVec 3 :=
  let inRole (v : Vote) : Bool := v.role == 2 || v.role == 3
  let me := c.rd.role == .standby || c.rd.role == .lead
  let levels (pick : Ch → Option Vote) : List (BitVec 3) :=
    [Ch.a, .b, .c].filterMap fun ch =>
      if (lost ch).isSome || !c.liveIn ch then none
      else match pick ch with
        | some v => if inRole v then some v.level else none
        | none => none
  let ls := if me then levels c.latchedOf else levels fun ch => if ch = c.id || !c.heard t ch then none else c.latestOf ch
  let granted := [Ch.a, .b, .c].filterMap fun ch =>
    match (if ch = c.id then c.rd.ann else (c.latestOf ch).map (·.ann)) with
    | some a => if a.kind = 4 && a.cyc = c.net.nt.cycle then some a.level else none
    | none => none
  match granted, me with
  | g :: _, true => g
  | _, _ => if ls.isEmpty then 4 else ls.foldl worse (if me then c.rd.level else 0)

/-- An OFFLINE channel may enter RESYNC: integrated, configured, in a life-cycle state that leaves OFFLINE, and not
held by warning, a power entry, a test or x_TM (R66, R327, R475, R496, R504, R535, R572). -/
def Channel.joinable (c : Channel) : Bool :=
  c.integrated && c.sec.cfgOk && !c.halted && c.nv.lc != 0 && c.nv.lc != 5 && !c.rst.hold &&
    c.pwr.entry.isNone && !c.bistHolds && !c.rst.tm && !c.gd.grpS.testBusy && !c.gd.grpA.testBusy

/-- No other channel of a kind has a higher rank (R327, R328). DEDUCED (unsafe), log entry 71. -/
def Channel.highest (c : Channel) (p : Ch → Bool) : Bool :=
  [Ch.a, .b, .c].all fun ch => ch == c.id || !p ch || decide (c.rankOf ch < c.rankOf c.id)

/-- VERSION of a firmware header (R490). -/
def versionOf (ws : List Word) : BitVec 64 := BitVec.ofNat 64 ((ws.getD 2 0).toNat * 2 ^ 32 + (ws.getD 3 0).toNat)

/-- A trial passes (R497, R495). -/
def Channel.trialPass (c : Channel) (t : Nat) : Channel :=
  if !c.sec.trial || c.fcl.regs.any (fun r => lineClass r.line.val == 2) then c
  else
    let b := c.sec.booted
    let v := c.sec.fwVer
    let roll := if c.nv.rollback < v then v else c.nv.rollback
    let old := c.nv.bank (!b)
    let n := c.nv.setBank b { c.nv.bank b with st := 3 }
    let n := if old.st = 3 then n.setBank (!b) { old with st := if versionOf old.header < roll then 6 else 2 } else n
    let c := { c with nv := { n with rollback := roll }, sec := { c.sec with trial := false } }
    c.logEv t 5 1 [(v >>> 32).setWidth 32, v.setWidth 32]

/-- The channel takes STANDBY or LEAD. -/
def Channel.takeRole (c : Channel) (t : Nat) (r : Role) : Channel :=
  let c := (c.setRole t r).trialPass t
  if r = .lead then
    { c with rd := { c.rd with rotAt := t, rotExp := false, chunkPos := 0, recs := [], demote := false } }
  else { c with rd := { c.rd with recs := [], demote := false } }

/-- The stopped slots of CE_AUTOSTART start at entry to RESYNC; one that runs already goes on (R157). DEDUCED
(unsafe), log entry 81. -/
def Channel.autoStart (c : Channel) (t : Nat) : Channel :=
  let list := c.getW 0x27F3
  let one (c : Channel) (n : Fin 32) : Channel :=
    if !bit list n.val || (c.ce.slots[n]).live then c
    else if (c.loopStartCheck n).isSome then
      { c with ce := { c.ce with autoFail := setBit c.ce.autoFail n.val true } }.raise 10
    else c.loopStart t n
  (List.finRange 32).foldl one { c with ce := { c.ce with autoFail := 0 } }

/-- OFFLINE to RESYNC (R327, R339, R342, R206). DEDUCED (unsafe), log entry 81. -/
def Channel.enterResync (c : Channel) (t : Nat) : Channel :=
  let c := c.setRole t .resync
  let c := { c with rd := { c.rd with resyncs := satInc c.rd.resyncs, resyncCyc := c.net.nt.cycle, health := none,
                                      healthBad := false, healthOk := false } }
  let c := (c.mapRc fun _ r => { r with received := [] }).clearOf c.id true
  let c := if bit (c.getW 0x3400) 4 then c.adStart t else c
  c.autoStart t

/-- The channel leaves RESYNC: a pending enable or AUTO_EN starts the steering drive (R177, R178, R339).
DEDUCED (unsafe), log entry 81. -/
def Channel.leaveResync (c : Channel) (t : Nat) (r : Role) : Channel :=
  let start := !c.sd.withdrawn && (c.sd.pendEnable || bit (c.getW 0x3000) 4)
  let c := { c with sd := { c.sd with pendEnable := false, withdrawn := false }
                    rd := { c.rd with passCyc := some c.net.nt.cycle } }
  let c := c.takeRole t r
  if start then c.sdStart t else c

/-- A channel enters OFFLINE from a running role (R327). DEDUCED (unsafe), log entry 77. -/
def Channel.enterOffline (c : Channel) (t : Nat) : Channel :=
  let c := match c.sd.st with
    | .closing | .run => c.sdOpening t 2
    | _ => c
  let c := c.adOff t
  let c := c.setRole t .offline
  { c with
    sd := { c.sd with pendEnable := false, speedWait := false, ovWait := false }
    rd := { c.rd with ann := none, annQ := [], health := none, healthOk := false, ho := none, demote := false, stop := none } }

/-- Both networks lost here while another live channel keeps one (R327). DEDUCED (unsafe), log entry 77. -/
def Channel.netOffline (c : Channel) (t : Nat) : Channel :=
  let running := c.rd.role == .resync || c.rd.role == .standby || c.rd.role == .lead
  let kept (ch : Ch) : Bool := ch != c.id && c.liveIn ch &&
    (match c.latestOf ch with
     | some v => v.held != 0 && v.role != 0 && v.role != 4
     | none => false)
  if running && !c.halted && c.heldBits == 0 && (kept .a || kept .b || kept .c) then c.enterOffline t else c

/-- Every learning bin has been received (R339). -/
def Channel.binsComplete (c : Channel) : Bool := c.ce.rc.all fun r => decide (1024 ≤ r.received.length)

/-- A swap may not be announced or carried out (R338). trackBad: a channel's tracked slots reported TRACK_LOST in the
last 64 cycles. -/
def Channel.swapForbidden (c : Channel) (trackBad : Ch → Bool) : Bool :=
  decide (3 ≤ c.rd.level) ||
    (match c.rd.ann, c.nextStandby with
     | some a, n => if a.kind = 3 then (match [Ch.a, .b, .c].find? fun ch => ch.code == a.ch with
         | some ch => !c.standsBy ch || trackBad ch
         | none => true)
       else (match n with
         | some ch => trackBad ch
         | none => true)
     | none, some ch => trackBad ch
     | none, none => true)

/-- A channel is a live STANDBY channel in this one's view, itself included (R338). -/
def Channel.standing (c : Channel) (ch : Ch) : Bool :=
  if ch = c.id then c.rd.role == .standby && !c.selfCh else c.standsBy ch

/-- The swap whose mark has come, incoming and outgoing channel (R337). -/
def Channel.swapDue (c : Channel) (lost : Ch → Option Bool) : Option (Ch × Ch) :=
  ([Ch.a, .b, .c].filterMap fun ch =>
    match (if ch = c.id then c.rd.ann else if (lost ch).isSome then none else (c.latestOf ch).map (·.ann)) with
    | some a =>
      if a.kind = 3 && a.cyc = c.net.nt.cycle then ([Ch.a, .b, .c].find? fun x => x.code == a.ch).map (·, ch) else none
    | none => none).head?

/-- The role of a channel at a mark (R327). lost: losses at this mark; passing: channels that pass RESYNC at it; off: a
swap to a channel that R338 has cancelled by now. DEDUCED (unsafe), log entry 71. -/
def Channel.roleMark (c : Channel) (t : Nat) (lost : Ch → Option Bool) (passing off : Ch → Bool) : Channel :=
  let cyc := c.net.nt.cycle
  let others := [c.id.next, c.id.prev].filter fun ch => (lost ch).isNone
  let seen (r : BitVec 3) : Bool := others.any fun ch => roleIn (c.latchedOf ch) r
  let named := c.swapDue lost
  let swap := named.filter fun x => !off x.1
  let c : Channel := match named with
    | some (i, o) =>
      if !(c.rd.role == Role.standby || c.rd.role == Role.lead) then c
      else if off i then { c with rd := { c.rd with rotAt := t, rotExp := false } }
      else { c with rd := { c.rd with ho := some ⟨t, i, o, 0⟩, swaps := satInc c.rd.swaps, rotAt := t, rotExp := false } }
    | none => c
  let promoted (c : Channel) : Channel :=
    let c := c.takeRole t .lead
    { c with rd := { c.rd with promos := satInc c.rd.promos } }
  match c.rd.role with
  | .offline =>
    if c.joinable then c.enterResync t
    else c
  | .resync =>
    if c.rd.healthOk then
      if seen 3 then c.leaveResync t .standby
      else if !seen 2 then
        c.leaveResync t (if c.highest fun ch => (lost ch).isNone && passing ch then .lead else .standby)
      else c
    else
      let copied := c.binsComplete || (!seen 3 && !seen 2)
      if c.rd.health.isNone && cycLe (c.rd.resyncCyc + 64) cyc && copied then
        { c with rd := { c.rd with health := some t, healthBad := false } }
      else c
  | .standby =>
    match swap with
    | some (i, _) => if i = c.id then c.takeRole t .lead else c
    | none =>
      let leadGone := match c.rd.leadCh with
        | some ch => ch != c.id && !c.liveIn ch
        | none => false
      if c.selfCh then c
      else if leadGone && c.highest (fun ch => c.liveIn ch && (roleIn (c.latchedOf ch) 2 || roleIn (c.latchedOf ch) 3)) then
        promoted c
      else if !(seen 3) && !leadGone && !c.cutOff t && c.highest (fun ch => c.liveIn ch && roleIn (c.latchedOf ch) 2) then promoted c
      else c
  | .lead =>
    match swap with
    | some (i, _) => if i = c.id then c else c.takeRole t .standby
    | none => if bit c.rd.faults (Ch.bit c.id) then c.takeRole t .standby else c
  | .isolated => c

/-- The lead in a channel's view (R353). DEDUCED (unsafe), log entry 71. -/
def Channel.leadSeen (c : Channel) : Option Ch :=
  if c.rd.role = .lead then some c.id
  else
    let ls := [c.id.next, c.id.prev].filter fun ch => roleIn (c.latestOf ch) 3
    match ls with
    | [x, y] => some (if c.rankOf x < c.rankOf y then y else x)
    | x :: _ => some x
    | [] => match c.rd.ho with
      | some h => if h.inc != c.id then some h.inc else none
      | none => none

/-- Announcements whose mark has come are over; the next one is made, a HANDOVER under R338 (R605).
DEDUCED (unsafe), log entry 78. -/
def Channel.annMark (c : Channel) (t : Nat) (trackBad : Ch → Bool) : Channel :=
  let c := match c.rd.ann with
    | some a =>
      if cycLe a.cyc c.net.nt.cycle then { c with rd := { c.rd with ann := none } }
      else if a.kind = 3 && c.swapForbidden trackBad then
        { c with rd := { c.rd with ann := none, rotAt := t, rotExp := false } }
      else c
    | none => c
  match c.rd.ann, c.rd.annQ with
  | none, q :: r =>
    let c := { c with rd := { c.rd with annQ := r } }
    if q = .handover && (c.rd.role != .lead || c.swapForbidden trackBad) then c else c.announce t q
  | none, [] =>
    if c.rd.rotExp && c.rd.role = .lead && !c.swapForbidden trackBad then
      { c with rd := { c.rd with rotExp := false } }.announce t .handover
    else c
  | _, _ => c

/-- The steering drive at a mark: an announced leave, RUN at the join mark, and no RUN with the own bit clear (R173,
R177). The compare values of the first period of RUN rest on no latch: they are free. DESIGN CHOICE (safe), log entry
141.
DEDUCED (unsafe), log entry 138. -/
def Channel.sdMark (c : Channel) (t : Nat) : Channel :=
  let cyc := c.net.nt.cycle
  let first (k : Nat) : Nat := (Config.openWord c.id t (0x300 + k)).toNat % 5001
  let reached (x : Option Word) : Bool := match x with
    | some k => cycLe k cyc
    | none => false
  if reached c.sd.leaveCyc && (c.sd.st == .closing || c.sd.st == .run) then c.sdOpening t 1
  else if c.sd.st = .closing && reached c.sd.joinCyc && c.sd.settled then
    { c with sd := { c.sd with st := .run, joinCyc := none, wndOut := false, missedRun := 0, isumRun := 0,
                               nextA := first 0, nextB := first 1, nextC := first 2,
                               active := setBit c.sd.active (Ch.bit c.id) true },
             ce := { c.ce with routedVd := false, routedVq := false } }
  else if c.sd.st = .run && !c.sd.active.getLsbD (Ch.bit c.id) then c.sdOpening t c.sd.lastLeave
  else c

/-- The demand registers swap into the engine's view; the steering reference is frozen in SAFE_STOP and HELD (R117,
R343, R346). DEDUCED (unsafe), log entry 74. -/
def Channel.swapDemands (c : Channel) : Channel :=
  let steer := c.af 0x4402 0 6
  { c with ce := { c.ce with
      demEngine := Vector.ofFn fun k =>
        if 3 ≤ c.rd.level && k.val = steer then c.ce.demEngine[k] else c.ce.demCore[k] } }

/-- The counters are latched at a mark of a cycle whose count is a multiple of PERIOD (R540). -/
def Channel.pctSnapshot (c : Channel) : Channel :=
  let per := c.af 0x6000 0 16
  if per = 0 || c.net.nt.cycle.toNat % per != 0 then c
  else
    let idx := c.pct.snapIdx + 1
    let x : Snap := ⟨c.net.nt.cycle, idx, c.pct.cnt⟩
    { c with pct := { c.pct with snapIdx := idx, snaps := (x :: c.pct.snaps).take 64 } }

/-- The MARK parameters take force, with what follows from them (R15, R78, R216, R251).
DEDUCED (unsafe), log entry 52. DESIGN CHOICE (unsafe), log entry 56. -/
def Channel.markParams (c : Channel) : Channel :=
  let c := c.applyMarks.fbReconfig c
  let c := c.gdMark
  match c.ad.curvePend with
  | some v => { c with ad := { c.ad with curve := v, curvePend := none } }
  | none => c

/-- Entries judged; a line is raised where the condition of an entry of its class starts (R340, R354).
DEDUCED (unsafe), log entry 82. -/
def Channel.viewRaise (c : Channel) (t : Nat) : Channel :=
  let o := c.rd
  let c := c.viewSync t
  let new (k : Fin 24) : Bool := c.viewCond k.val && !(bit o.view k.val && (o.absent[k]).isNone)
  let c := if new 6 || new 7 then c.raise 41 else c
  let c := if new 8 || new 9 then c.raise 42 else c
  let c := if new 10 || new 11 then c.raise 46 else c
  if new 12 || new 13 || new 14 then c.raise 43 else c

/-- The mean of the valid wheel-speed signals named in RD_MAP.WSS (R346, R347). -/
def Channel.meanSpeed (c : Channel) (t : Nat) : Option F32 :=
  let set := c.af 0x4402 18 4
  let vs := (List.range 4).filterMap fun n =>
    let s := c.sig t (0x3B + n)
    if set.testBit n && s.2 then some s.1 else none
  match vs with
  | [] => none
  | x :: r => some (F32.div (r.foldl F32.add x) (F32.ofInt vs.length))

/-- The standstill judgement at a 4 kHz period start, and the history of the mean speed (R346, R347). -/
def Channel.stillStep (c : Channel) (t : Nat) (v : Option F32) : Channel :=
  let low := match v with
    | some x => F32.lt x (c.getA 0x440E)
    | none => false
  let since := if low then some (c.rd.still.getD t) else none
  { c with rd := { c.rd with still := since, speeds := (v :: c.rd.speeds).take 401 } }

/-- The pressure demand of a circuit; one with WLT or WLOST is written 0 (R346). -/
def Channel.stopDemand (c : Channel) (k : Nat) (integ : F32) : F32 :=
  if bit c.rd.faults (6 + k) || bit c.rd.faults (8 + k) then 0
  else F32.add (c.getA (0x440B + k)) (F32.mul (c.getA 0x440D) integ)

/-- The firmware's own write of a demand register. -/
def Channel.writeDemand (c : Channel) (r : Fin 64) (v : F32) (ok : Bool) : Channel :=
  { c with ce := { c.ce with demCore := c.ce.demCore.set r ⟨v, ok⟩ } }

/-- SAFE_STOP's pressure demands at a 4 kHz period start, whose speeds run back before the entry (R346).
DEDUCED (unsafe), log entry 74. -/
def Channel.stopStep (c : Channel) (v : Option F32) : Channel :=
  match c.rd.stop with
  | none => c
  | some x =>
    if x.heldAt.isSome || c.rd.level != 3 then c
    else
      let want := c.getA 0x440A
      let a := match v, c.rd.speeds[400]? with
        | some now, some (some old) => F32.div (F32.sub old now) 0x3DCCCCCD
        | _, _ => want
      let integ := F32.add x.integ (F32.mul (F32.sub want a) (F32.ofFrac 1 4000))
      let c := { c with rd := { c.rd with stop := some { x with integ := integ } } }
      let c := c.writeDemand (Fin.ofNat 64 (c.af 0x4402 6 6)) (c.stopDemand 0 integ) true
      c.writeDemand (Fin.ofNat 64 (c.af 0x4402 12 6)) (c.stopDemand 1 integ) true

/-- A network demand for a register that SAFE_STOP or HELD freezes or writes is ignored (R343, R346).
DEDUCED (unsafe), log entry 74. -/
def Channel.demandIgnored (c : Channel) (r : Fin 64) : Bool :=
  (decide (3 ≤ c.rd.level) && r.val == c.af 0x4402 0 6) ||
    (c.rd.stop.isSome && (r.val == c.af 0x4402 6 6 || r.val == c.af 0x4402 12 6))

end Sys2Proof.Machine
end

