-- ==== Sys2Proof/Machine/NetOps.lean ====
section
/-! DEFINITION. Operations of the Ollia ports, the time unit and the flow contexts that several commands share (spec
files 12 and 13). Stamps are in 1/16 LCLK unspread from the own cycle start, offsets in 1/160 TCLK. -/

namespace Sys2Proof.Machine

/-- The place of a port in X_UP, X_DN, Y_UP, Y_DN (R398). -/
def OPort.idx : OPort → Fin 4
  | .xUp => 0
  | .xDn => 1
  | .yUp => 2
  | .yDn => 3
/-- The other port of the same network (R372). -/
def OPort.other : OPort → OPort
  | .xUp => .xDn
  | .xDn => .xUp
  | .yUp => .yDn
  | .yDn => .yUp
def OPort.net : OPort → Net
  | .xUp | .xDn => .x
  | .yUp | .yDn => .y
def allPorts : List OPort := [.xUp, .xDn, .yUp, .yDn]
/-- The counter block of a network (R538). -/
def netBlk (n : Net) : Nat := if n = .x then 7 else 8

def Channel.ol (c : Channel) (p : OPort) : OlPort := c.net.ports[OPort.idx p]
def Channel.setOl (c : Channel) (p : OPort) (x : OlPort) : Channel :=
  { c with net := { c.net with ports := c.net.ports.set (OPort.idx p) x } }
def Channel.nn (c : Channel) (n : Net) : NtNet := if n = .x then c.net.nt.x else c.net.nt.y
def Channel.setNn (c : Channel) (n : Net) (x : NtNet) : Channel :=
  if n = .x then { c with net := { c.net with nt := { c.net.nt with x := x } } }
  else { c with net := { c.net with nt := { c.net.nt with y := x } } }
def Channel.setNt (c : Channel) (x : Nt) : Channel := { c with net := { c.net with nt := x } }
def Channel.setFlow (c : Channel) (f : Fin 256) (x : Flow) : Channel :=
  { c with net := { c.net with flows := c.net.flows.set f x } }

/-- A port is OFF: reset up to the end of the interconnect test, SHELF, test 0x12, or a failed port (R373, R537). -/
def Channel.olOff (c : Channel) (p : OPort) : Bool :=
  !(c.rst.phase == .verify || c.rst.phase == .run || c.rst.phase == .recovery) ||
    c.testRuns 0x12 || c.mg.unusable.getLsbD (10 + (OPort.idx p).val)
/-- x_OLX_BYP or x_OLY_BYP: high while the network's ports are out of OFF (R375). -/
def Channel.bypass (c : Channel) (n : Net) : Bool :=
  if n = .x then !(c.olOff .xUp && c.olOff .xDn) else !(c.olOff .yUp && c.olOff .yDn)
/-- The state of a port (R373, R398). -/
def Channel.olState (c : Channel) (p : OPort) : PortMode := if c.olOff p then .off else (c.ol p).st

/-- The port turns to TX until an instant, or until its transmission ends. -/
def OlPort.send (x : OlPort) (until? : Option Nat) : OlPort := { x with st := .tx, freeAt := until?, closeAt := none }
/-- The port's transmission ends: its postamble ends at q, and it returns to LISTEN within 20 LCLK (R377).
DEDUCED (unsafe), log entry 87. -/
def OlPort.endTx (x : OlPort) (q : Nat) : OlPort := { x with freeAt := some (q + lclk 20), quietAt := q, closeAt := none }

/-- A stamp of an instant in 1/16 LCLK after the own cycle start (R378). -/
def Channel.stampOf (c : Channel) (t : Nat) : Int := 2 * ((t : Int) - c.net.nt.cycStart)

/-- The forwarder's closing symbol goes out, and its postamble follows; in the LCLK of that symbol a guardian cut still
governs (R383, R423). DEDUCED (unsafe), log entry 87. -/
def Channel.fwdClose (t : Nat) (c : Channel) (p : OPort) : Channel :=
  let x := c.ol p
  match x.closeAt with
  | some (a, counted) =>
    if t < a + lclk 1 then c
    else c.setOl p ((if counted then { x with abortTx := satInc x.abortTx } else x).endTx (a + lclk 30))
  | none => c

/-- A port returns to LISTEN once its transmission is over (R373). -/
def Channel.olFree (t : Nat) (c : Channel) (p : OPort) : Channel :=
  let x := c.ol p
  match x.st, x.freeAt with
  | .tx, some f => if f ≤ t then c.setOl p { x with st := .listen, freeAt := none, rxAt := 0 } else c
  | _, _ => c

/-- The forwarder's preamble is due 40 LCLK after the input entered RX; the output is taken if it is free and has been
silent for 40 LCLK (R382, R385). DEDUCED (unsafe), log entry 87. -/
def Channel.olForward (t : Nat) (c : Channel) (p : OPort) : Channel :=
  let x := c.ol p
  let due := x.rxAt + lclk 40
  if x.st != .rx || x.judged || t < due then c
  else
    let q := OPort.other p
    let y := c.ol q
    let free := c.olState q == .listen && decide (y.quietAt + lclk 40 ≤ due)
    let c := c.setOl p { x with judged := true, fwdTo := free }
    if free then c.setOl q (y.send none) else c

/-- The node waits after a collision of its COLDSTART (R418). -/
def Channel.backingOff (c : Channel) : Bool := c.net.nt.st == .cold && c.net.nt.coldAt.isNone

/-- The end of the last transition on any port, where no port receives or sends on (R373, R418). -/
def Channel.lastActive (c : Channel) : Option Nat :=
  let busy (p : OPort) : Bool := c.olState p == .rx || (c.olState p == .tx && (c.ol p).freeAt.isNone)
  if allPorts.any busy then none
  else some (allPorts.foldl (fun a p => if c.olState p == .off then a else max a (c.ol p).quietAt) 0)

/-- The wait of R418 runs from the end of all activity: 32 LCLK after the last transition on a port (R373, R418). -/
def Channel.quietStep (c : Channel) : Channel :=
  if !c.backingOff || c.net.nt.backoffAt.isSome then c
  else match c.lastActive with
    | some q => c.setNt { c.net.nt with backoffAt := some (q + lclk 32) }
    | none => c

/-- The node address (R396). -/
def Channel.olAddr (c : Channel) : BitVec 6 := BitVec.ofNat 6 (c.af 0x1000 0 6)

/-- Fields of a header (R379). -/
def hdrType (h : Vector Byte 8) : Nat := (h[0]).toNat / 16
def hdrSrc (h : Vector Byte 8) : BitVec 6 := (h[1]).setWidth 6
def hdrHops (h : Vector Byte 8) : BitVec 6 := (h[3]).setWidth 6
def hdrSeq (h : Vector Byte 8) : BitVec 16 := (h[4]).setWidth 16 <<< 8 ||| (h[5]).setWidth 16
def hdrLen (h : Vector Byte 8) : Nat := (h[6]).toNat % 128

/-- The trailer that a header and a payload ask for (R380). -/
def trailerOf (h : Vector Byte 8) (payload : List Byte) : List Byte :=
  natBytes 4 (crc32c ((h.set 3 0).toList.take 7 ++ payload)).toNat

/-- The header of an own frame (R379). len: payload words. -/
def ownHdr (src : BitVec 6) (n : Net) (typ : Nat) (flow : Byte) (seq : BitVec 16) (len : Nat) : Vector Byte 8 :=
  let h : Vector Byte 8 :=
    #v[BitVec.ofNat 8 (16 * typ + (if n = .y then 8 else 0) + 1), src.setWidth 8, flow, 0, (seq >>> 8).setWidth 8,
       seq.setWidth 8, BitVec.ofNat 8 len, 0]
  h.set 7 (crc8Bytes (h.toList.take 7))

/-- Header, payload and trailer of an own frame (R377, R379, R380). -/
def ownFrame (src : BitVec 6) (n : Net) (typ : Nat) (flow : Byte) (seq : BitVec 16) (words : List Word) : List Byte :=
  let h := ownHdr src n typ flow seq words.length
  h.toList ++ bytesOf words ++ trailerOf h (bytesOf words)

/-- TYPE and FLOW of an own transmission (R379, R406 to R408, R417, R465). -/
def TxKind.head : TxKind → Nat × Byte
  | .waggle => (1, 0)
  | .ping _ => (3, 1)
  | .coldstart => (2, 0)
  | .data f service => (if service then 4 else 0, BitVec.ofNat 8 f.val)

/-- SEQ of a frame that belongs to no flow: the spec leaves it open (R379, R393). DESIGN CHOICE (safe), log entry 20. -/
def Channel.openSeq (c : Channel) (t : Nat) : BitVec 16 := (Config.openWord c.id t 0x320).setWidth 16

/-- A network whose ports all withhold an own transmission shows it in R420. -/
def Channel.netWithheld (c : Channel) (n : Net) (up dn : Bool) : Channel :=
  let off := if n = .x then c.olState .xUp == .off && c.olState .xDn == .off
    else c.olState .yUp == .off && c.olState .yDn == .off
  if up || dn || off then c else c.setNn n { c.nn n with withheld := 0 }

/-- An echo starts on both ports of its network; it lasts 360 LCLK (R377, R409). -/
def Channel.echoPort (c : Channel) (at_ : Nat) (p : OPort) : Channel :=
  let frame := ownFrame c.olAddr (OPort.net p) 3 2 (c.openSeq at_) [put 0 c.olAddr.toNat]
  if c.olState p = .off then c
  else if c.olState p = .listen then
    c.setOl p { ((c.ol p).send none).endTx (at_ + lclk 360) with sent := frame, txSof := some (c.stampOf (at_ + lclk 160)) }
  else { c with net := { c.net with txBusy := satInc c.net.txBusy } }.bump (netBlk (OPort.net p)) 7
/-- An echo that no port of its network sends counts as withheld there (R420). -/
def Channel.echoStart (t : Nat) (c : Channel) (n : Net) : Channel :=
  let k : Fin 2 := if n = .x then 0 else 1
  match c.net.echoAt[k] with
  | some a =>
    if t < a then c
    else
      let c := { c with net := { c.net with echoAt := c.net.echoAt.set k none } }
      let up : OPort := if n = .x then .xUp else .yUp
      let u := c.olState up == .listen
      let d := c.olState (OPort.other up) == .listen
      let c := (c.netWithheld n u d).echoPort a up |>.echoPort a (OPort.other up)
      if u || d then c.bump (netBlk n) 0 else c
  | none => c

/-- What has become due on the ports by an instant. -/
def Channel.olSettle (c : Channel) (t : Nat) : Channel :=
  let c := allPorts.foldl (Channel.fwdClose t) c
  let c := allPorts.foldl (Channel.olFree t) c
  let c := allPorts.foldl (Channel.olForward t) c
  ((c.echoStart t .x).echoStart t .y).quietStep

/-- Cells and entries of the Comb in force (R403, R404, R428). Places in ROOT periods from the cycle start. -/
def Channel.cells (c : Channel) : Nat := c.af 0x1800 0 8
def Channel.cellStart (c : Channel) (k : Nat) : Nat := tclk (40 * c.af (0x1880 + k) 0 14)
def Channel.cellEnd (c : Channel) (k : Nat) : Nat :=
  tclk (40 * (c.af (0x1880 + k) 0 14 + c.af (0x1880 + k) 14 14))
def Channel.combEntry (c : Channel) (cycle : Word) (k : Nat) : Word :=
  c.net.comb.getD (cycle.toNat % 2 ^ c.af 0x1800 8 3 * c.cells + k) 0

/-- Three macroticks, the guard of R421. -/
def guardMt : Nat := tclk 120

/-- The cycle start to which a gap in progress leads: the gap is not given up (R416). DEDUCED (unsafe), log entry 92. -/
def Channel.gapKept (c : Channel) (t : Nat) : Option Nat := if c.cycEnd ≤ t then c.net.nt.gapTo else none

/-- The spread state returns from LOCKED to FREE: the profile goes on from its phase at 6,250 TCLK per triangle (R74).
-/
def Channel.spreadFree (c : Channel) (t : Nat) : Channel :=
  if c.clk.spread = 2 then
    let p := c.triangle.2
    let i := (t - c.triangle.1) % p * tclk 6250 / p
    { c with clk := { c.clk with spread := 1, triAt := t - i } }
  else c

/-- LISTEN is entered; from COARSE, SYNC and REFERENCE with NET_SYNC (R415). -/
def Channel.toListen (c : Channel) (t : Nat) : Channel :=
  let n := c.net.nt
  let lost := n.st == .coarse || n.st == .sync || n.st == .reference
  let z (x : NtNet) : NtNet := { x with held := false, dv := false, e := none, shown := false, since := 8, run := 0 }
  let c := c.setNt { n with
    st := .listen, listenAt := t, x := z n.x, y := z n.y, holdover := false, adj := 0, rate := 0, frac := 0
    wag := false, goodE := 0, pegged := 0, slew := false, noWag := 0, adopt := none, adoptIn := 0, gapTo := c.gapKept t
    coldAt := none, called := false
    backoffAt := none, guardEv := 0, pingAt := none }
  let c := c.spreadFree t
  if lost then ({ c with net := { c.net with reinteg := satInc c.net.reinteg } }).raise 49 else c

/-- An own transmission was skipped or cut; two in a row send the node to LISTEN (R424). -/
def Channel.guardEvent (c : Channel) (t : Nat) : Channel :=
  let c := ((c.bump 7 6).bump 8 6).raise 50
  let n := c.net.nt
  let c := c.setNt { n with guardEv := n.guardEv + 1 }
  if 2 ≤ n.guardEv + 1 then c.toListen t else c

/-- Position of an instant after a cell's start in guardian time, within half a cycle (R421). -/
def Channel.guardPos (c : Channel) (t k : Nat) : Int :=
  let l : Int := c.cycleRoot
  let base : Nat := if c.net.nt.st = .reference then c.net.nt.cycStart else c.net.nt.guardAt
  let d : Int := ((t : Int) - base - c.cellStart k) % l
  if l < 2 * d then d - l else d
def Channel.gateOpen (c : Channel) (t k : Nat) : Bool :=
  let d := c.guardPos t k
  decide (-(guardMt : Int) ≤ d) && decide (d ≤ (c.cellEnd k : Int) - c.cellStart k + guardMt)

/-- Ports on which an own transmission starts: those free to send; the others withhold it (R385, R395).
DEDUCED (unsafe), log entry 89. -/
def Channel.txPorts (c : Channel) : Vector Bool 4 :=
  #v[c.olState .xUp == .listen, c.olState .xDn == .listen, c.olState .yUp == .listen, c.olState .yDn == .listen]

/-- The withheld ports counted; a network withheld whole shows in R420. DEDUCED (unsafe), log entry 89. -/
def Channel.txWithhold (c : Channel) (ps : Vector Bool 4) : Channel :=
  let busy (c : Channel) (p : OPort) : Channel :=
    if ps[OPort.idx p] || c.olState p == .off then c
    else { c with net := { c.net with txBusy := satInc c.net.txBusy } }.bump (netBlk (OPort.net p)) 7
  let c := allPorts.foldl busy c
  (c.netWithheld .x ps[0] ps[1]).netWithheld .y ps[2] ps[3]

/-- An own transmission starts on every port that is free (R377, R395). -/
def Channel.txStart (c : Channel) (t : Nat) (kind : TxKind) (words : List Word) (seq : BitVec 16)
    (cell : Option (Fin 128)) (wordsY : List Word := words) : Channel :=
  let ps := c.txPorts
  let c := c.txWithhold ps
  let frame (p : OPort) : List Byte :=
    ownFrame c.olAddr (OPort.net p) kind.head.1 kind.head.2 seq (if OPort.net p = .x then words else wordsY)
  let go (c : Channel) (p : OPort) : Channel :=
    if ps[OPort.idx p] then
      c.setOl p { (c.ol p).send none with sent := frame p, txSof := some (c.stampOf (t + lclk 160)) }
    else c
  let c := allPorts.foldl go c
  let c := if ps[0] || ps[1] then c.bump 7 0 else c
  let c := if ps[2] || ps[3] then c.bump 8 0 else c
  if ps[0] || ps[1] || ps[2] || ps[3] then
    { c with net := { c.net with tx := some { kind := kind, words := words, seq := seq, ports := ps, at_ := t,
                                              cell := cell, aborted := false, wordsY := wordsY } } }
  else c

/-- The ports of an own transmission are freed; its postamble ends at q. -/
def Channel.txFree (c : Channel) (x : Tx) (q : Nat) : Channel :=
  let go (c : Channel) (p : OPort) : Channel :=
    if x.ports[OPort.idx p] && (c.ol p).st == .tx then c.setOl p ((c.ol p).endTx q) else c
  allPorts.foldl go c

/-- The frame of a queue flow leaves its queue: its credit returns (R395). DEDUCED (unsafe), log entry 90. -/
def Channel.creditBack (c : Channel) (k : TxKind) : Channel :=
  match k with
  | .data f _ =>
    if bit (c.getA (0x1C00 + 4 * f.val)) 7 then
      let x := c.net.flows[f]
      c.setFlow f { x with queue := x.queue.drop 1 }
    else c
  | _ => c

/-- The words of a waggle on network n (R407). -/
def Channel.waggleWords (c : Channel) (n : Net) : List Word :=
  let w1 := put 30 (c.af 0x1040 0 2) ||| put 28 (c.af 0x0200 0 2) ||| put 25 (c.af 0x1800 8 3) |||
    put 16 (c.af 0x1040 17 6) ||| put 0 (c.af 0x1040 2 14)
  [c.net.nt.cycle, w1, c.getA 0x1801, (c.nn n).reply]

/-- The reference sends its waggle at macrotick 0; the path delays of word 3 are announced once (R407, R410).
DEDUCED (unsafe), log entry 93. -/
def Channel.sendWaggle (c : Channel) (t : Nat) : Channel :=
  let c := c.txStart t .waggle (c.waggleWords .x) (c.openSeq t) (some 0) (c.waggleWords .y)
  let c := (c.setNn .x { c.nn .x with reply := 0 }).setNn .y { c.nn .y with reply := 0 }
  c.setNt { c.net.nt with called := true }

/-- A COLDSTART starts (R417). -/
def Channel.sendColdstart (c : Channel) (t : Nat) : Channel :=
  let w := put 30 (c.af 0x1040 0 2) ||| put 28 (c.af 0x0200 0 2) ||| put 0 (c.af 0x1040 17 6)
  let c := c.txStart t .coldstart [w] (c.openSeq t) none
  c.setNt { c.net.nt with coldAt := some t, backoffAt := none }


/-- Time-unit changes that the end of a cycle brings in COARSE and SYNC (R415, R419).
DEDUCED (unsafe), log entry 91. -/
def Channel.ntJudge (c : Channel) (t : Nat) : Channel :=
  let n := c.net.nt
  let big := match n.meanE with
    | some e => decide (160 * 120 < e.natAbs)
    | none => false
  let small := match n.meanE with
    | some e => decide (e.natAbs ≤ 160 * 20)
    | none => false
  let n := n.correct c.dmax
  let n := { n with noWag := if n.wag then 0 else n.noWag + 1, goodE := if small then n.goodE + 1 else 0,
                    holdover := n.st == .sync && !n.wag }
  let silent := if n.st = .coarse then 8 else 64
  if big || 8 ≤ n.pegged || silent ≤ n.noWag then (c.setNt n).toListen t
  else if n.st = .coarse && (n.x.dv || n.y.dv) && 4 ≤ n.goodE then c.setNt { n with st := .sync }
  else c.setNt n

/-- A network held or lost at the end of a cycle (R420). DEDUCED (unsafe), log entry 91. -/
def NtNet.judge (x : NtNet) (on : Bool) : NtNet :=
  let since := if x.shown then 0 else x.since + 1
  let run := if x.shown then x.run + 1 else 0
  let clear := decide (8 ≤ x.withheld)
  let held := on && clear && (if x.held then decide (since < 8) else decide (2 ≤ run))
  { x with held := held, since := since, run := run, withheld := x.withheld + 1, shown := false, e := none }

/-- A receive flow that the Comb schedules in a cycle (R394, R406). -/
def Channel.scheduled (c : Channel) (cycle : Word) (f : Nat) : Bool :=
  (List.range c.cells).any fun k =>
    let e := c.combEntry cycle k
    decide (2 ≤ k) && fld e 0 6 != 0 && fld e 6 8 == f

/-- A cycle without a commit adds a miss; two make the flow STALE (R394). -/
def Flow.missed (x : Flow) : Flow :=
  let m := min (x.miss.toNat + 1) 3
  if x.stale || m < 2 then { x with miss := BitVec.ofNat 2 m }
  else { x with miss := BitVec.ofNat 2 m, stale := true, staleCnt := satInc x.staleCnt }

def Channel.flowStep (cycle : Word) (c : Channel) (f : Fin 256) : Channel :=
  let cfg := c.getA (0x1C00 + 4 * f.val)
  if !bit cfg 11 || bit cfg 6 then c
  else
    let x := c.net.flows[f]
    let x := if c.scheduled cycle f.val then (if x.hit then { x with miss := 0 } else x.missed) else x
    c.setFlow f { x with hit := false }

/-- The integrated node is in a state that holds networks (R420). -/
def Nt.timed (n : Nt) : Bool := n.st == .coarse || n.st == .sync || n.st == .reference

/-- The count of the cycle that begins, and the adoption still to come (R400, R416). DEDUCED (unsafe), log entry 92. -/
def Nt.advance (n : Nt) : Nt :=
  match n.adopt with
  | some k =>
    if n.adoptIn = 0 then { n with cycle := k, adopt := none } else { n with cycle := n.cycle + 1, adoptIn := n.adoptIn - 1 }
  | none => { n with cycle := n.cycle + 1 }

/-- A new cycle of local network time begins: adopted, or one on; a synchronised node to which a waggle has announced
its own depth is LOCKED from it (R74, R75, R400, R414, R416). -/
def Channel.newCycle (c : Channel) (t : Nat) : Channel :=
  let n := c.net.nt
  let g : Nat := if n.st = .reference then t else n.guardAt + c.cycleRoot
  let m := n.advance
  let lock := n.timed && m.adopt.isNone && c.clk.spread == 1 && !c.clk.mismatch
  let cut := n.adoptIn == 0 && n.gapTo.isSome
  let c := c.setNt { m with
    cycStart := t, cycLen := c.cycleRoot, gapTo := if n.adoptIn = 0 then none else n.gapTo, wag := false, guardAt := g
    perBase := if cut then n.cycStart else n.perBase, perTill := if cut then some (t + c.markOff) else n.perHeld t
    dataAge := n.dataAge + 1, called := false }
  { c with clk := if lock then { c.clk with spread := 2, triAt := t } else c.clk }

/-- The voting block as the words of the channel's flow (R330). -/
def voteWords (v : Vote) : List Word :=
  [v.angle,
   flag 31 v.angleValid ||| put 28 v.role.toNat ||| put 25 v.level.toNat ||| flag 24 v.supLow |||
     put 21 v.active.toNat ||| put 19 v.held.toNat ||| put 13 v.ann.kind.toNat ||| put 11 v.ann.ch.toNat |||
     put 8 v.ann.level.toNat,
   v.ann.cyc, v.faults, v.cyc,
   put 0 v.direct.toNat ||| put 3 v.anyPath.toNat ||| put 6 v.req1.toNat ||| put 9 v.req2.toNat |||
     flag 12 v.st1 ||| flag 13 v.st2]

/-- n words of a list, filled with zeros. -/
def padTo (n : Nat) (ws : List Word) : List Word := (ws ++ List.replicate n 0).take n

/-- What a transmit flow sends next: none where a queue is empty (R330, R395). -/
def Channel.flowNext (c : Channel) (t : Nat) (f : Fin 256) : Option (List Word) :=
  let cfg := c.getA (0x1C00 + 4 * f.val)
  let x := c.net.flows[f]
  if bit cfg 7 then x.queue.head?
  else if f.val = c.af 0x4400 16 8 then some (voteWords (c.vote t))
  else some (x.stBuf.getD [])

/-- A write without credit (R395). -/
def Channel.netCredit (c : Channel) : Channel :=
  let c := c.raise 51
  { c with net := { c.net with creditViol := satInc c.net.creditViol } }

/-- The channel core writes a frame of a transmit flow (R395). -/
def Channel.flowWrite (c : Channel) (f : Fin 256) (ws : List Word) : Channel :=
  let cfg := c.getA (0x1C00 + 4 * f.val)
  let x := c.net.flows[f]
  if bit cfg 7 then
    if x.queue.length < fld cfg 8 3 then c.setFlow f { x with queue := x.queue ++ [ws], passed := false }
    else c.netCredit
  else c.setFlow f { x with stBuf := some ws }

/-- How a copy of a DATA frame is judged against the flow (R392). -/
inductive CopyRes | commit | dup | old
deriving DecidableEq, Repr

def Flow.judge (x : Flow) (seq : BitVec 16) : CopyRes :=
  let d := (seq - x.last).toNat
  if !x.committed || x.stale then .commit
  else if d = 0 then .dup
  else if d < 32768 then .commit
  else .old

/-- The payload of a copy reaches the landing area of its network (R392). -/
def Flow.land (x : Flow) (n : Net) (ws : List Word) : Flow :=
  { x with landX := if n = .x then ws else x.landX, landY := if n = .y then ws else x.landY }

/-- A commit: the copy in the landing area becomes the content (R392, R394). -/
def Flow.commit (x : Flow) (seq : BitVec 16) (ws : List Word) : Flow :=
  { x with last := seq, stale := false, committed := true, frames := x.frames + 1, content := ws, hit := true }

/-- A flow context at NET_START. -/
def Flow.fresh (x : Flow) : Flow :=
  { x with miss := 0, stale := false, committed := false, hit := false, landX := [], landY := [], content := []
           stBuf := none, queue := [] }
/-- The time unit in a state that it enters afresh, in the local cycle in progress (R415). -/
def Nt.fresh (n : Nt) (st : NtSt) (t : Nat) (gap : Option Nat) : Nt :=
  { st := st, listenAt := t, cycle := n.cycle, cycStart := n.cycStart, cycLen := n.cycLen, gapTo := gap,
    perBase := n.perBase, perTill := n.perTill, markAt := n.markAt, guardAt := n.guardAt }
/-- The network unit at NET_START with the Comb it takes. -/
def NetU.started (u : NetU) (t : Nat) (comb : List Word) : NetU :=
  { u with comb := comb, flows := u.flows.map Flow.fresh, nt := u.nt.fresh .listen t u.nt.gapTo }
/-- NET_START accepted (R396, R415, R425, R427): the RESTART parameters of the network take force. -/
def Channel.netStart (c : Channel) (t : Nat) : Channel :=
  let u := c.net.started t (c.net.loaded.getD [])
  { c.applyRange 0x1000 0x1FFF with net := u }

/-- The network unit after NET_STOP: reception into flows ends, so the rest of each frame is dropped (R374, R391). -/
def NetU.ended (u : NetU) (gap : Option Nat) : NetU :=
  { u with tx := none, echoAt := Vector.replicate 2 none, nt := u.nt.fresh .down 0 gap,
           ports := u.ports.map fun x => { x with skip := true, copy := none } }
/-- An own transmission in progress is given up; its ports are freed. -/
def Channel.txDrop (c : Channel) (t : Nat) : Channel :=
  match c.net.tx with
  | some x => c.txFree x (t + lclk 30)
  | none => c
def Channel.ntDown (c : Channel) (t : Nat) : Channel := { c with net := c.net.ended (c.gapKept t) }
end Sys2Proof.Machine
end

