-- ==== Sys2Proof/Machine/HostOps.lean ====
section
/-! DEFINITION. The window registers of a host port: SPI transactions, the command and reply FIFOs, semaphores,
mailboxes and doorbells (R430 to R447, R460 to R463). -/

namespace Sys2Proof.Machine

/-- HP1 is bound to the service tunnel (R465). -/
def Channel.tunnel (c : Channel) : Bool := bit (c.getA 0x0800) 0
/-- A port's balls are served: not in reset, SHELF or the pin test of the port, and not bound to the tunnel (R465,
R503, R534). -/
def Channel.portUp (c : Channel) (p : Port) : Bool :=
  c.alive && !(p == .hp1 && c.tunnel) &&
    (match c.mg.bist with
     | some (k, q, _) => !(k == 0x13 && q != p)
     | none => true)

def Port.num : Port → BitVec 2
  | .hp0 => 1
  | .hp1 => 2

/-- The words of a reply packet: header, RESULT, payload and CRC-32C (R442). -/
def replyWords (r : Reply) : List Word :=
  let w0 := put 24 r.status.toNat ||| put 16 r.tag.toNat ||| put 12 r.session.toNat ||| put 0 r.len
  let body := w0 :: r.result :: r.payload
  body ++ [crc32c (bytesOf body)]
/-- The words waiting in the reply FIFO. -/
def HPort.stream (x : HPort) : List Word := (x.replies.flatMap replyWords).drop x.popped

/-- Replies read to their last word leave the FIFO; a final one returns its credit (R445, R446). -/
def popReplies : List Reply → Nat → Nat → Bool → List Reply × Nat × Nat × Bool
  | [], n, used, viol => ([], n, used, viol)
  | r :: rs, n, used, viol =>
    let k := (replyWords r).length
    if k ≤ n then
      popReplies rs (n - k) (if r.final && !r.violation then used - 1 else used) (viol && !r.violation)
    else (r :: rs, n, used, viol)

/-- Provisional side effects become final (R435). -/
def HPort.settle (x : HPort) : HPort :=
  let r := popReplies x.replies x.popped x.used x.violSlot
  { x with replies := r.1, popped := r.2.1, used := r.2.2.1, violSlot := r.2.2.2, undo := [] }

/-- One provisional side effect undone (R435). -/
def Channel.undoOne (p : Port) (c : Channel) (u : Undo) : Channel :=
  let x := c.port p
  match u with
  | .pop n => c.setPort p { x with popped := x.popped - n }
  | .mbWord w => c.setPort p { x with mbWord := w }
  | .f2hFull k b => c.setPort p { x with f2h := x.f2h.set k b }
  | .inNext k b => c.setXp true { c.hp.toNext with inc := c.hp.toNext.inc.set k b }
  | .inPrev k b => c.setXp false { c.hp.toPrev with inc := c.hp.toPrev.inc.set k b }

def Channel.clearUndo (c : Channel) (p : Port) : Channel := c.setPort p { c.port p with undo := [] }
/-- REWIND: every provisional side effect of the last read is undone (R435). -/
def Channel.rewind (c : Channel) (p : Port) : Channel :=
  ((c.port p).undo.foldl (Channel.undoOne p) c).clearUndo p

/-- A transaction begins: the side effects of the one before it are undone by REWIND and become final otherwise, as
they do after 10 µs (R435). DESIGN CHOICE (unsafe), log entry 96. DEDUCED (unsafe), log entry 99. -/
def Channel.transact (c : Channel) (p : Port) (t : Nat) (rew : Bool) : Channel :=
  let c := if rew && t < (c.port p).lastAt + usec 10 then c.rewind p else c.setPort p (c.port p).settle
  c.setPort p { c.port p with lastAt := t }

def Channel.addrErr (c : Channel) (p : Port) : Channel := c.setPort p { c.port p with addrErr := true }
def Channel.mbErr (c : Channel) (p : Port) : Channel := c.setPort p { c.port p with mbErr := true }
def Channel.addUndo (c : Channel) (p : Port) (u : Undo) : Channel :=
  let x := c.port p
  c.setPort p { x with undo := u :: x.undo }

/-- A source of IRQN stands (R439). -/
def HPort.irq (x : HPort) : Bool :=
  (!x.stream.isEmpty && x.replyIrq) || x.dbF2h &&& x.dbMask != 0 || x.chReset

/-- IRQN is driven low: it is released in reset and where the tunnel binds HP1 (R62, R439, R465). -/
def Channel.irqLow (c : Channel) (p : Port) : Bool := c.alive && !(p == .hp1 && c.tunnel) && (c.port p).irq

def fullBits (b : Vector Box 4) : Nat :=
  b2n b[0].full + 2 * b2n b[1].full + 4 * b2n b[2].full + 8 * b2n b[3].full
def ownerNum (o : Option Port) : Word :=
  match o with
  | some p => (Port.num p).setWidth 32
  | none => 0

/-- The value of a window register whose read has no side effect (R437, R438, R440, R460, R463). -/
def Channel.winView (c : Channel) (p : Port) (a : Nat) : Word :=
  let x := c.port p
  if 0x10 ≤ a && a < 0x20 then ownerNum c.hp.sem[a % 16]
  else match a with
    | 0x00 => flag 0 (!x.stream.isEmpty) ||| flag 1 (c.irqLow p) ||| flag 2 x.chReset |||
        flag 3 x.spiErr ||| flag 4 x.addrErr ||| flag 5 x.mbErr ||| flag 6 x.credViol |||
        flag 7 (p == .hp1 && c.tunnel)
    | 0x01 => put 0 (16 - x.used)
    | 0x02 => flag 2 x.replyIrq
    | 0x03 => put 0 x.epoch.toNat
    | 0x0A => put 0 (x.stream.length % 65536)
    | 0x21 => x.dbPend.setWidth 32
    | 0x22 => x.dbF2h
    | 0x23 => x.dbMask
    | 0x28 => put 0 x.mbSel.toNat ||| put 5 x.mbWord.toNat
    | 0x2A => put 0 (fullBits x.h2f) ||| put 4 (fullBits x.f2h) ||| flag 8 c.hp.mbu.full ||| flag 9 x.f2hReset
    | 0x2B => put 0 (fullBits c.hp.toNext.out) ||| put 4 (fullBits c.hp.toPrev.out) |||
        put 8 (fullBits c.hp.toNext.inc) ||| put 12 (fullBits c.hp.toPrev.inc) |||
        put 16 c.hp.toNext.rxReset.toNat ||| put 20 c.hp.toPrev.rxReset.toNat |||
        put 24 c.hp.toNext.failed.toNat ||| put 28 c.hp.toPrev.failed.toNat
    | 0x31 => put 0 c.hp.toNext.epoch.toNat ||| put 8 c.hp.toPrev.epoch.toNat
    | _ => 0

/-- The word index of MB_DATA moves on (R460). -/
def Channel.mbAdvance (c : Channel) (p : Port) : Channel :=
  let x := c.port p
  c.setPort p { x with mbWord := x.mbWord + 1 }

/-- A read of a word of one of the readable boxes; word 15 empties it (R460). DEDUCED (unsafe), log entry 98. -/
def Channel.boxRead (c : Channel) (p : Port) : Word × Channel :=
  let x := c.port p
  let sel := x.mbSel.toNat
  let k : Fin 4 := Fin.ofNat 4 sel
  let w : Fin 16 := Fin.ofNat 16 x.mbWord.toNat
  let last := x.mbWord == 15
  if sel / 4 = 1 then
    let b := x.f2h[k]
    let c := if last && b.full then
        c.setPort p { x with f2h := x.f2h.set k { b with full := false }, undo := .f2hFull k b :: x.undo }
      else c
    (b.words[w], c)
  else if sel / 4 = 6 then
    let b := c.hp.toNext.inc[k]
    let c := if last && b.full then
        (c.addUndo p (.inNext k b)).setXp true { c.hp.toNext with inc := c.hp.toNext.inc.set k { b with full := false } }
      else c
    (b.words[w], c)
  else if sel / 4 = 7 then
    let b := c.hp.toPrev.inc[k]
    let c := if last && b.full then
        (c.addUndo p (.inPrev k b)).setXp false { c.hp.toPrev with inc := c.hp.toPrev.inc.set k { b with full := false } }
      else c
    (b.words[w], c)
  else (0, c)

/-- MB_DATA is read: the index advances (R460). -/
def Channel.mbRead (c : Channel) (p : Port) : Word × Channel :=
  let r := c.boxRead p
  let old := (c.port p).mbWord
  (r.1, (r.2.addUndo p (.mbWord old)).mbAdvance p)

/-- The PCLK of an instant, and the port that wins it (R441). -/
def pclkOf (t : Nat) : Nat := t / 10
def pclkWinner (t : Nat) : Port := if pclkOf t % 2 = 0 then .hp0 else .hp1

/-- What the port that loses LOCK_U to a read of the same PCLK has read of it alone (R441, R462). -/
def HPort.lockLost (x : HPort) (winner : Port) : HPort :=
  let w : Word := (Port.num winner).setWidth 32
  if x.sdo = [0] then { x with sdo := [w], sdoCrc := crc8Bytes ((0x30 : Byte) :: bytesOf [w]) } else x

/-- LOCK_U is read: a free lock is taken; of two reads in one PCLK, whichever row comes first, the even count gives it
to HP0 (R441, R462). DEDUCED (safe), log entry 97. -/
def Channel.lockRead (c : Channel) (p : Port) (t : Nat) (contended : Bool) : Word × Channel :=
  let took (c : Channel) : Word × Channel := (0, { c with hp := { c.hp with lockU := some p, lockAt := some (pclkOf t) } })
  match c.hp.lockU with
  | some q =>
    if q = p then (0, c)
    else if c.hp.lockAt = some (pclkOf t) && pclkWinner t == p && !c.hp.mbu.full then
      took (c.setPort q ((c.port q).lockLost p))
    else ((Port.num q).setWidth 32, c)
  | none => if contended && pclkWinner t != p then ((Port.num (pclkWinner t)).setWidth 32, c) else took c

/-- One word of a read transaction, with its provisional side effects (R435, R437). -/
def Channel.winRead (c : Channel) (p : Port) (t : Nat) (a : Nat) : Word × Channel :=
  let x := c.port p
  match a with
  | 0x08 | 0x20 => (0, c.addrErr p)
  | 0x09 =>
    match x.stream with
    | w :: _ => (w, c.setPort p { x with popped := x.popped + 1, undo := .pop 1 :: x.undo })
    | [] => (0, c.addrErr p)
  | 0x29 => c.mbRead p
  | 0x30 => c.lockRead p t false
  | _ => (c.winView p a, c)

/-- The address after a data word (R436). -/
def nextAddr (a : Nat) : Nat := if a = 0x08 || a = 0x09 || a = 0x29 then a else (a + 1) % 128

/-- A word of a read at the start of which only the replies published by u show (R432).
DESIGN CHOICE (unsafe), log entry 96. -/
def Channel.winReadAt (c : Channel) (p : Port) (t u a : Nat) : Word × Channel :=
  let x := c.port p
  let r := (c.setPort p { x with replies := x.replies.filter fun r => decide (r.pubAt ≤ u) }).winRead p t a
  (r.1, r.2.setPort p { r.2.port p with replies := x.replies })

/-- The words of a read transaction that ends at t; word starts lie w apart, and the last of them one of them and a
CRC-8 of e before its end (R432). -/
def Channel.spiReads (p : Port) (t w e : Nat) : Nat → Nat → Channel → List Word × Channel
  | 0, _, c => ([], c)
  | n + 1, a, c =>
    let r := c.winReadAt p t (t - e - (n + 1) * w) a
    let q := Channel.spiReads p t w e n (nextAddr a) r.2
    (r.1 :: q.1, q.2)

/-- SEMk written: 1 takes a free semaphore, 0 releases an owned one; of two writes of 1 in one PCLK, whichever row comes
first, the even count lets HP0 win (R440, R441). DEDUCED (safe), log entry 97. -/
def Channel.semWrite (c : Channel) (p : Port) (t : Nat) (k : Fin 16) (v : Word) (contended : Bool) : Channel :=
  let set (o : Option Port) (a : Option Nat) : Channel :=
    { c with hp := { c.hp with sem := c.hp.sem.set k o, semAt := c.hp.semAt.set k a } }
  if v = 1 then
    match c.hp.sem[k] with
    | none => if contended && pclkWinner t != p then c else set (some p) (some (pclkOf t))
    | some q =>
      if q != p && c.hp.semAt[k] == some (pclkOf t) && pclkWinner t == p then set (some p) (some (pclkOf t)) else c
  else if v = 0 then (if c.hp.sem[k] = some p then set none none else c)
  else c.addrErr p

/-- Every semaphore of a port is released (R440). -/
def Channel.releaseSem (c : Channel) (p : Port) : Channel :=
  { c with hp := { c.hp with sem := c.hp.sem.map fun o => if o = some p then none else o } }

/-- LOCK_U written: the owner releases it by 0 while MBU_FULL is 0 (R462). -/
def Channel.lockWrite (c : Channel) (p : Port) (v : Word) : Channel :=
  if v = 0 && c.hp.lockU == some p && !c.hp.mbu.full then { c with hp := { c.hp with lockU := none } } else c

/-- A box takes a word; word 15 fills it. none: it is FULL (R460). -/
def Box.put (b : Box) (w : BitVec 4) (v : Word) : Option Box :=
  if b.full then none else some { words := b.words.set w.toNat v, full := w == 15 }

/-- The box that MB_INDEX selects takes a word; one that the port may not write counts as a FULL one (R460, R462).
DEDUCED (unsafe), log entry 98. -/
def Channel.boxWrite (c : Channel) (p : Port) (v : Word) : Option Channel :=
  let x := c.port p
  let sel := x.mbSel.toNat
  let k : Fin 4 := Fin.ofNat 4 sel
  if sel / 4 = 0 then
    ((x.h2f[k]).put x.mbWord v).map fun b => c.setPort p { x with h2f := x.h2f.set k b }
  else if sel = 8 then
    if c.hp.lockU = some p then (c.hp.mbu.put x.mbWord v).map fun b => { c with hp := { c.hp with mbu := b } } else none
  else if sel / 4 = 4 then
    ((c.hp.toNext.out[k]).put x.mbWord v).map fun b =>
      c.setXp true { c.hp.toNext with out := c.hp.toNext.out.set k b }
  else if sel / 4 = 5 then
    ((c.hp.toPrev.out[k]).put x.mbWord v).map fun b =>
      c.setXp false { c.hp.toPrev with out := c.hp.toPrev.out.set k b }
  else none

/-- MB_DATA is written: the index advances; a write that is ignored sets MB_ERR (R460, R462). -/
def Channel.mbWrite (c : Channel) (p : Port) (v : Word) : Channel :=
  ((c.boxWrite p v).getD (c.mbErr p)).mbAdvance p

/-- HOST_RESET: the port's sessions 1 to 7 close and its F2H boxes empty (R451, R463). -/
def Channel.hostReset (c : Channel) (p : Port) : Channel :=
  let x := c.port p
  let sess := Vector.ofFn fun k : Fin 8 => if k.val = 0 then x.sess[k] else ({} : Sess)
  c.setPort p { x with sess := sess, f2h := x.f2h.map fun b => { b with full := false }, f2hReset := true }

/-- PORT_CTRL written; REWIND has acted before (R438). -/
def Channel.ctrlWrite (c : Channel) (p : Port) (v : Word) : Channel :=
  let c := c.setPort p { c.port p with replyIrq := bit v 2 }
  let c := if bit v 1 then c.hostReset p else c
  if bit v 3 then c.releaseSem p else c

def peerClear (q : Peer) (rx failed : Nat) : Peer :=
  { q with rxReset := q.rxReset &&& ~~~BitVec.ofNat 4 rx, failed := q.failed &&& ~~~BitVec.ofNat 4 failed }

/-- PORT_STATUS: its W1C fields (R438). -/
def HPort.statusClear (x : HPort) (v : Word) : HPort :=
  { x with chReset := x.chReset && !bit v 2, spiErr := x.spiErr && !bit v 3, addrErr := x.addrErr && !bit v 4,
           mbErr := x.mbErr && !bit v 5, credViol := x.credViol && !bit v 6 }

/-- One word of a write transaction but CMD_FIFO (R437, R438, R460 to R462). -/
def Channel.winWrite (c : Channel) (p : Port) (t : Nat) (a : Nat) (v : Word) : Channel :=
  let x := c.port p
  if 0x10 ≤ a && a < 0x20 then c.semWrite p t (Fin.ofNat 16 a) v false
  else match a with
    | 0x00 => c.setPort p (x.statusClear v)
    | 0x02 => c.ctrlWrite p v
    | 0x03 => c.setPort p { x with epoch := v.setWidth 2 }
    | 0x20 => c.setPort p { x with dbPend := x.dbPend ||| v.setWidth 20 }
    | 0x22 => c.setPort p { x with dbF2h := x.dbF2h &&& ~~~v }
    | 0x23 => c.setPort p { x with dbMask := v }
    | 0x28 => c.setPort p { x with mbSel := v.setWidth 5, mbWord := (v >>> 5).setWidth 4 }
    | 0x29 => c.mbWrite p v
    | 0x2A => c.setPort p { x with f2hReset := x.f2hReset && !bit v 9 }
    | 0x2B => (c.setXp true (peerClear c.hp.toNext (fld v 16 4) (fld v 24 4))).setXp false
        (peerClear c.hp.toPrev (fld v 20 4) (fld v 28 4))
    | 0x30 => c.lockWrite p v
    | _ => c.addrErr p

/-- Packets of the CMD_FIFO words of one transaction, each with the status of checks 1 and 2 where one fails (R442 to
R444, R448). fuel bounds their number. DEDUCED (unsafe), log entry 100. -/
def parsePackets (p : Port) : Nat → List Word → List (Packet × Option Byte)
  | 0, _ => []
  | _, [] => []
  | fuel + 1, w0 :: r =>
    let len := fld w0 0 12
    let n := (len + 3) / 4
    let pk : Packet :=
      { port := p, opcode := (w0 >>> 24).setWidth 8, tag := (w0 >>> 16).setWidth 8, session := (w0 >>> 12).setWidth 4
        arg := r.getD 0 0, len := len, payload := (r.drop 1).take n }
    if 2048 < len || r.length < n + 2 then [(pk, some stBadLength)]
    else
      let good := crc32c (bytesOf (w0 :: r.take (n + 1))) == r.getD (n + 1) 0
      (pk, if good then none else some stBadCrc) :: parsePackets p fuel (r.drop (n + 2))

/-- A packet that finds no slot (R446). DEDUCED (unsafe), log entry 101. -/
def Channel.creditViolation (c : Channel) (t : Nat) (p : Port) (pk : Packet) : Channel :=
  let c := (c.bump 10 3).raise 53
  let x := c.port p
  let r : Reply :=
    { port := p, tag := pk.tag, session := pk.session, status := stCredit,
      result := Config.noResult c.id t pk.tag, len := 0, payload := []
      final := true, violation := true }
  let x := { x with credViol := true, credCnt := satInc x.credCnt }
  c.setPort p (if x.violSlot then x else { x with violSlot := true, replies := x.replies ++ [r] })

/-- A packet whose CRC fails (R448). -/
def Channel.crcBad (c : Channel) (p : Port) : Channel :=
  let c := c.raise 52
  c.setPort p { c.port p with badCrc := satInc (c.port p).badCrc }

/-- A packet takes a slot and waits for the sample of a frame (R89, R445, R446). DEDUCED (unsafe), log entry 100. -/
def Channel.takePacket (t : Nat) (p : Port) (c : Channel) (e : Packet × Option Byte) : Channel :=
  let c := c.bump 10 (if p = .hp0 then 0 else 1)
  let x := c.port p
  if x.used < 16 then
    let c := c.setPort p { x with used := x.used + 1, cmds := x.cmds ++ [(t, e.1, e.2)] }
    if e.2 = some stBadCrc then c.crcBad p else c
  else c.creditViolation t p e.1

/-- The CMD_FIFO words of one transaction (R443 to R446). -/
def Channel.cmdWrite (c : Channel) (p : Port) (t : Nat) (ws : List Word) : Channel :=
  (parsePackets p ws.length ws).foldl (Channel.takePacket t p) c

/-- The words of a write transaction from an address on; CMD_FIFO takes all that follow (R436). -/
def Channel.spiWrites (p : Port) (t : Nat) : List Word → Nat → Channel → Channel
  | [], _, c => c
  | w :: ws, a, c =>
    if a = 0x08 then c.cmdWrite p t (w :: ws) else Channel.spiWrites p t ws (nextAddr a) (c.winWrite p t a w)

/-- A write of 1 to REWIND stands among the words from an address on. -/
def rewindIn : List Word → Nat → Bool
  | [], _ => false
  | w :: ws, a => (a == 0x02 && bit w 0) || rewindIn ws (nextAddr a)

def instrAddr (i : Byte) : Nat := i.toNat % 128

/-- A write transaction that commits (R434). -/
def Channel.spiWrite (c : Channel) (p : Port) (t : Nat) (i : Byte) (ws : List Word) : Channel :=
  let a := instrAddr i
  Channel.spiWrites p t ws a (c.transact p t (rewindIn ws a))

/-- A write transaction that is discarded (R434). -/
def Channel.spiDiscard (c : Channel) (p : Port) (t : Nat) : Channel :=
  let c := c.transact p t false
  c.setPort p { c.port p with spiErr := true, spiCrc := satInc (c.port p).spiCrc }

/-- A read transaction of n words with an SCK period in ROOT: what the port sends, with its CRC-8 (R432, R433, R435). -/
def Channel.spiRead (c : Channel) (p : Port) (t : Nat) (i : Byte) (n : Nat) (sck : Nat := 0) : List Word × Channel :=
  let r := Channel.spiReads p t (32 * sck) (8 * sck) n (instrAddr i) (c.transact p t false)
  let x := r.2.port p
  (r.1, r.2.setPort p { x with sdo := r.1, sdoCrc := crc8Bytes (i :: bytesOf r.1) })

/-- The words of the host mark the last one of a read, and it alone (R432). -/
def readMarked (ws : List Word) : Bool := (ws.getLastD 0).getLsbD 31 && (ws.dropLast).all fun w => !w.getLsbD 31

/-- A transaction ends (R432 to R435): a read counts only if it ended exactly after its CRC-8. -/
def Channel.spiEnd (c : Channel) (p : Port) (t : Nat) (len : SpiLen) (i : Byte) (ws : List Word) (crc : Byte) : Channel :=
  let whole := decide (0 < ws.length) && len.bits == 16 + 32 * ws.length
  if i.getLsbD 7 then
    if whole && crc8Bytes (i :: bytesOf ws) == crc then c.spiWrite p t i ws else c.spiDiscard p t
  else if whole && readMarked ws then (c.spiRead p t i ws.length len.sck).2 else c.transact p t false

/-- One transaction as bytes, and the bytes that the tunnel answers (R465). DEDUCED (unsafe), log entry 102. -/
def Channel.spiBytes (c : Channel) (p : Port) (t : Nat) (bs : List Byte) : Channel × List Byte :=
  match bs with
  | [] => (c.spiDiscard p t, [1])
  | i :: r =>
    let n := (r.length - 1) / 4
    let whole := decide (0 < n) && r.length == 4 * n + 1
    let ws := packWords (r.take (4 * n))
    if i.getLsbD 7 then
      if whole && crc8Bytes (i :: r.take (4 * n)) == r.getD (4 * n) 0 then (c.spiWrite p t i ws, [0])
      else (c.spiDiscard p t, [1])
    else if whole && readMarked ws then
      let a := c.spiRead p t i n
      (a.2, bytesOf a.1 ++ [(a.2.port p).sdoCrc])
    else (c.transact p t false, [])

/-- The records of a request frame, carried out in order; the answer has one record for each (R465). fuel bounds
their number. DEDUCED (unsafe), log entry 102. -/
def Channel.tunnelRecords (t : Nat) : Nat → List Byte → Channel → Channel × List Byte
  | 0, _, c => (c, [])
  | fuel + 1, bs, c =>
    match bs with
    | h :: l :: r =>
      let n := h.toNat * 256 + l.toNat
      if n = 0 || r.length < n then (c, [])
      else
        let x := c.spiBytes .hp1 t (r.take n)
        let y := Channel.tunnelRecords t fuel (r.drop n) x.1
        (y.1, natBytes 2 x.2.length ++ x.2 ++ y.2)
    | _ => (c, [])

/-- A request frame commits: its records run, and the answer waits for its cell (R465). -/
def Channel.tunnelFrame (c : Channel) (t : Nat) (ws : List Word) : Channel :=
  let bs := bytesOf ws
  let r := Channel.tunnelRecords t bs.length bs c
  let f : Fin 256 := Fin.ofNat 256 (r.1.af 0x0800 16 8)
  r.1.flowWrite f (packWords r.2)

end Sys2Proof.Machine
end

