-- ==== Sys2Proof/Machine/RxOps.lean ====
section
/-! DEFINITION. The receive FIFOs of the Ollia ports, the judgement of the copies, and what a network cycle and NET_STOP
do (R386 to R394). -/

namespace Sys2Proof.Machine

/-- An entry shows to the readers 2 LCLK and less than 1 more after its write (R12, R387).
DEDUCED (unsafe), log entry 88. -/
def Channel.shows (c : Channel) (p : OPort) (t : Nat) (e : FifoEntry) : Bool :=
  decide (e.at_ + lclk 3 ≤ t) ||
    (decide (e.at_ + lclk 2 ≤ t) &&
      decide (e.at_ + lclk 2 + (Config.openWord c.id e.at_ (0x310 + (OPort.idx p).val)).toNat % lclk 1 ≤ t))

/-- EOF or ABORT (R376). -/
def FifoEntry.closes (e : FifoEntry) : Bool := e.k && (e.byte == 0xFD || e.byte == 0xFE)

/-- The entries that show to a reader (R387). -/
def OlPort.seen (vis : Nat → FifoEntry → Bool) (t : Nat) (x : OlPort) : Nat := (x.fifo.takeWhile (vis t)).length
/-- EMPTY of the receive engine: it has read all that shows (R387). -/
def OlPort.engEmpty (vis : Nat → FifoEntry → Bool) (t : Nat) (x : OlPort) : Bool := decide (x.seen vis t ≤ x.engAt)
/-- EMPTY of the forwarder (R387). -/
def OlPort.fwdEmpty (vis : Nat → FifoEntry → Bool) (t : Nat) (x : OlPort) : Bool := decide (x.seen vis t ≤ x.fwdAt)
/-- FULL, with the entries gone that both readers have passed (R386, R387). -/
def OlPort.full (x : OlPort) : Bool := decide (512 ≤ x.fifo.length)

/-- The receive engine reads each entry as soon as EMPTY allows: of the frame in reception once it has started on it,
and with drop-rest past whatever has come (R390, R391). -/
def OlPort.engTo (vis : Nat → FifoEntry → Bool) (t : Nat) (x : OlPort) : OlPort :=
  if x.stalled || x.engEmpty vis t then x
  else if x.skip then { x with engAt := x.fifo.length }
  else
    let last := if x.engOn then x.fifo.length else x.fifo.length - x.frame
    { x with engAt := max x.engAt (min last (x.seen vis t)) }

/-- The forwarder reads one entry per 10 LCLK from its SOF, 128 LCLK after the SOF that came; a read that finds EMPTY
gives the last entry again and is its last one (R382, R386, R388). fuel bounds the reads.
DEDUCED (unsafe), log entry 88. -/
def OlPort.fwdReads (vis : Nat → FifoEntry → Bool) (t : Nat) : Nat → OlPort → OlPort
  | 0, x => x
  | fuel + 1, x =>
    let r := x.sofAt + lclk 128 + lclk 10 * x.fwdOut.length
    if !x.fwdTo || x.starvedAt.isSome || t < r then x
    else if x.fwdEmpty vis r then
      { x with fwdOut := x.fwdOut ++ [x.lastRead], starvedAt := some r, underrun := true }
    else
      let b := (x.fifo[x.fwdAt]?.map FifoEntry.byte).getD x.lastRead
      OlPort.fwdReads vis t fuel { x with fwdAt := x.fwdAt + 1, fwdOut := x.fwdOut ++ [b], lastRead := b }

/-- Entries that both readers have passed leave the FIFO (R386). -/
def OlPort.trim (x : OlPort) : OlPort :=
  let k := if x.fwdTo && x.starvedAt.isNone then min x.engAt x.fwdAt else x.engAt
  { x with fifo := x.fifo.drop k, engAt := x.engAt - k, fwdAt := x.fwdAt - k }

/-- What the readers have read by an instant. -/
def OlPort.readTo (vis : Nat → FifoEntry → Bool) (t : Nat) (x : OlPort) : OlPort :=
  ((x.engTo vis t).fwdReads vis t 600).trim

/-- A write: it is discarded where it finds FULL, which the read pointers clear 3 LCLK late; the engine starts on the
frame with its entry THRESH or its closing symbol (R386, R387, R389, R390). DEDUCED (unsafe), log entry 88. -/
def OlPort.write (vis : Nat → FifoEntry → Bool) (thresh : Nat) (x : OlPort) (e : FifoEntry) : OlPort :=
  let x := x.readTo vis (e.at_ - lclk 3)
  if x.full then { x with lost := true, overflow := true }
  else { x with fifo := x.fifo ++ [e], frame := x.frame + 1,
                engOn := x.engOn || decide (thresh ≤ x.frame + 1) || e.closes }

/-- Entries are written to a port's FIFO; one that is discarded raises NET_FIFO (R386 to R390). -/
def Channel.fifoWrite (c : Channel) (p : OPort) (es : List FifoEntry) : Channel :=
  let x := es.foldl (OlPort.write (c.shows p) (c.af 0x1000 8 9)) (c.ol p)
  (if x.lost && !(c.ol p).lost then c.raise 51 else c).setOl p x

/-- A frame begins in the FIFO: its SOF came 90 LCLK before the header was complete (R382, R386). -/
def OlPort.frameOpen (x : OlPort) (t : Nat) : OlPort :=
  { x with sofAt := t - lclk 90, frame := 0, engOn := false, lost := false, fwdOut := [], starvedAt := none,
           fwdAt := x.fifo.length }

/-- SOF and header stand in the FIFO, one entry per 10 LCLK (R377, R386). DEDUCED (unsafe), log entry 88. -/
def Channel.fifoHeader (c : Channel) (t : Nat) (p : OPort) (h : Vector Byte 8) (codeError : Bool) : Channel :=
  let c := c.setOl p (((c.ol p).readTo (c.shows p) (t - lclk 90)).frameOpen t)
  let at_ (i : Nat) : Nat := t - lclk 80 + lclk 10 * i
  let es := h.toList.zipIdx.map fun b => ({ byte := b.1, k := false, err := codeError, at_ := at_ (b.2 + 1) } : FifoEntry)
  c.fifoWrite p ({ byte := 0xFB, k := true, err := false, at_ := at_ 0 } :: es)

/-- The instants at which n symbols of a frame were written by its end at t: those given, and 10 LCLK after the one
before where none is given. DEDUCED (unsafe), log entry 88. -/
def writeTimes (t : Nat) : Nat → List Nat → Nat → List Nat
  | _, _, 0 => []
  | _, w :: ws, n + 1 => min w t :: writeTimes t w ws n
  | a, [], n + 1 => min (a + lclk 10) t :: writeTimes t (a + lclk 10) [] n

/-- Payload, trailer and closing symbol stand in the FIFO; an error flag goes with the last of them
(R376, R386). DEDUCED (unsafe), log entry 88. -/
def Channel.fifoBody (c : Channel) (t : Nat) (p : OPort) (body : List Byte) (codeError : Bool) (wrote : List Nat)
    (e : NetEnd) : Channel :=
  let ts := writeTimes t ((c.ol p).sofAt + lclk 90) wrote body.length
  let es := (body.zip ts).map fun b => ({ byte := b.1, k := false, err := false, at_ := b.2 } : FifoEntry)
  let close : List FifoEntry := match e with
    | .eof => [{ byte := 0xFD, k := true, err := codeError, at_ := t }]
    | .abort => [{ byte := 0xFE, k := true, err := codeError, at_ := t }]
    | .silence => []
  let c := c.fifoWrite p (es ++ close)
  c.setOl p ((c.ol p).readTo (c.shows p) t)

/-- The forwarder reads what still stands for it behind a frame that is whole in the FIFO. -/
def Channel.fifoDrain (c : Channel) (t : Nat) (p : OPort) : Channel :=
  c.setOl p ((c.ol p).readTo (c.shows p) (t + lclk 140))

/-- A copy that is judged counts at its port (R392, R399). -/
def OlPort.countCopy (x : OlPort) (r : CopyRes) : OlPort :=
  match r with
  | .commit => { x with accepted := x.accepted + 1 }
  | .dup => { x with dup := satInc x.dup }
  | .old => { x with old := satInc x.old }

/-- A partner heard on a network through its voting flow (R330, R332). DEDUCED (unsafe), log entry 69. -/
def Channel.voteHeard (t : Nat) (ws : List Word) (c : Channel) (ch : Ch) : Channel :=
  let p := c.peer ch
  c.setPeer ch { p with netAt := some t, judgeAt := some (p.judgeAt.getD t), supLast := bit (ws.getD 1 0) 24 }

/-- A valid copy is judged and, where it commits, becomes the flow's content (R392, R465).
DEDUCED (unsafe), log entry 88. -/
def Channel.copyEnd (c : Channel) (p : OPort) (x : Copy) : Channel :=
  let f : Fin 256 := Fin.ofNat 256 (x.hdr[2]).toNat
  let y := c.net.flows[f]
  let r := y.judge (hdrSeq x.hdr)
  let n := OPort.net p
  let c := c.setOl p (OlPort.countCopy { c.ol p with copy := none } r)
  let c := if c.net.nt.st = .reference then c.setNn n { c.nn n with shown := true } else c
  match r with
  | .old => c
  | .dup => c.bump (netBlk n) 3
  | .commit =>
    let c := (c.bump (netBlk n) 2).setFlow f (y.commit (hdrSeq x.hdr) x.words)
    let c := c.setNt { c.net.nt with dataAge := 0 }
    let c := x.voters.foldl (Channel.voteHeard x.due x.words) c
    if hdrType x.hdr = 4 then c.tunnelFrame x.due x.words else c

/-- The port whose waiting copy is judged first of those due: by LCLK, and X before Y in the same one (R392).
DEDUCED (unsafe), log entry 88. -/
def Channel.firstCopy (c : Channel) (t : Nat) : Option (OPort × Copy) :=
  let key (p : OPort) (x : Copy) : Nat := x.due / lclk 1 * 4 + (OPort.idx p).val
  allPorts.foldl (fun best p =>
    match (c.ol p).copy, best with
    | none, b => b
    | some x, none => if x.due ≤ t then some (p, x) else none
    | some x, some (q, y) => if x.due ≤ t && key p x < key q y then some (p, x) else some (q, y)) none

/-- One copy that is due is judged. -/
def Channel.judgeNext (t : Nat) (c : Channel) : Channel :=
  match c.firstCopy t with
  | some (p, x) => c.copyEnd p x
  | none => c

/-- What has become due on the ports and in the receive engines by an instant (R386, R392).
DEDUCED (unsafe), log entry 88. -/
def Channel.netSettle (c : Channel) (t : Nat) : Channel :=
  let c := c.olSettle t
  (((c.judgeNext t).judgeNext t).judgeNext t).judgeNext t

/-- The start of a network cycle (R394, R407, R411, R415, R416, R419, R420). -/
def Channel.cycleStep (c : Channel) (t : Nat) : Channel :=
  let c := c.netSettle t
  let ended := c.net.nt.cycle
  let c := if c.net.nt.st = .coarse || c.net.nt.st = .sync then c.ntJudge t
    else c.setNt { c.net.nt with adj := 0 }
  let n := c.net.nt
  let c := c.setNt { n with x := n.x.judge n.timed, y := n.y.judge n.timed }
  let c := if n.st = .down then c else (List.finRange 256).foldl (Channel.flowStep ended) c
  let c := (c.newCycle t).viewRaise t
  let c := c.netOffline t
  if c.net.nt.st = .reference then c.sendWaggle t else c


/-- NET_STOP accepted: DOWN, and the node's own transmissions end (R374, R415). -/
def Channel.netStop (c : Channel) (t : Nat) : Channel := (((c.netSettle t).txDrop t).spreadFree t).ntDown t

end Sys2Proof.Machine
end

