-- ==== Sys2Proof/Machine/Views.lean ====
section
/-! DEFINITION. What a read of a parameter answers: the working copy of its written bits and the status that its RO and
W1C fields show (R13, R14, R39, R45 and the map rules of each chapter). -/

namespace Sys2Proof.Machine

/-- Identity, power, clocks, supply and reset (R78 to R83, R520 to R522, R543). -/
def Channel.viewPlatform (c : Channel) (t id : Nat) : Word :=
  let b := c.sec.booted
  let ser := Config.serial c.id
  match id with
  | 0x0000 => 0x9430
  | 0x0001 => put 24 c.id.code.toNat ||| put 16 (Config.dieRev 0).toNat ||| put 8 (Config.dieRev 1).toNat |||
      put 0 (Config.dieRev 2).toNat
  | 0x0002 => ser.setWidth 32
  | 0x0003 => (ser >>> 32).setWidth 32
  | 0x0004 => Config.fwVersion (c.nv.bank b).header
  | 0x0101 => put 0 (b2n c.pwr.doze) ||| flag 2 c.pwr.entry.isSome ||| flag 3 c.pwr.resumed |||
      put 4 c.pwr.lastWake.toNat ||| put 12 c.pwr.refuser.toNat
  | 0x0102 => put 0 c.pwr.dozes.toNat ||| put 12 c.pwr.shelves.toNat ||| put 24 c.pwr.refused.toNat
  | 0x0103 => put 0 c.pwr.writeback.toNat ||| put 10 c.pwr.wake.toNat
  | 0x0201 => flag 0 c.clk.pllLock ||| flag 1 c.clk.xtalOk ||| put 2 c.clk.spread.toNat ||| flag 4 c.clk.mismatch |||
      put 8 c.clk.depth.toNat
  | 0x0300 =>
    let acc := (c.sup.acc + (if c.sup.warn then t - c.sup.warnAt else 0)) / 1000000
    flag 0 (c.sup.warn || c.rst.hold) ||| flag 1 c.sup.ramp ||| flag 2 c.sup.ov ||| flag 3 c.deferring |||
      flag 4 c.sup.iso ||| put 8 (min 100 acc) ||| put 16 c.sup.vsupMv.toNat
  | 0x0301 => put 0 c.sup.warnCnt.toNat ||| put 16 c.sup.ovCnt.toNat
  | 0x0302 => put 0 c.sup.minMv.toNat
  | 0x0400 => put 0 c.rst.cause.toNat
  | 0x0401 => put 0 c.rst.line.toNat ||| flag 6 c.rst.lineValid ||| put 8 c.rst.cmdPort.toNat
  | 0x0802 =>
    let x := c.port .hp0
    put 0 x.spiCrc.toNat ||| put 8 x.badCrc.toNat ||| put 16 x.credCnt.toNat ||| put 24 x.staleCnt.toNat
  | 0x0803 =>
    let x := c.port .hp1
    put 0 x.spiCrc.toNat ||| put 8 x.badCrc.toNat ||| put 16 x.credCnt.toNat ||| put 24 x.staleCnt.toNat
  | _ => 0

def portCode : PortMode → Nat
  | .off => 0
  | .listen => 1
  | .rx => 2
  | .tx => 3
def ntCode : NtSt → Nat
  | .down => 0
  | .listen => 1
  | .cold => 2
  | .coarse => 3
  | .sync => 4
  | .reference => 5
  | .mismatch => 6

/-- A port's block (R398, R399). -/
def Channel.viewPort (c : Channel) (t : Nat) (p : OPort) (off : Nat) : Word :=
  let x := c.ol p
  let heard := match x.heardAt with
    | some h => decide (t < h + c.cycleRoot)
    | none => false
  match off with
  | 0 => put 0 (portCode (c.olState p)) ||| flag 2 heard ||| flag 3 x.underrun ||| flag 4 x.overflow |||
      flag 5 x.conflict ||| put 8 x.fwdBusy.toNat
  | 1 => put 0 x.hdrErr.toNat ||| put 8 x.crcErr.toNat ||| put 16 x.codeErr.toNat ||| put 24 x.abortRx.toNat
  | 2 => put 0 x.fwd.toNat ||| put 16 x.abortTx.toNat
  | _ => put 0 x.accepted.toNat ||| put 16 x.dup.toNat ||| put 24 x.old.toNat

/-- The transmit credits of a flow: only a queue flow has any (R395, R429). -/
def Channel.credit (c : Channel) (f : Fin 256) : Nat :=
  let cfg := c.getA (0x1C00 + 4 * f.val)
  if bit cfg 11 && bit cfg 6 && bit cfg 7 then fld cfg 8 3 - (c.net.flows[f]).queue.length else 0

/-- The network, as it stands at the read (R397 to R399, R426, R427, R429). -/
def Channel.viewNet (c : Channel) (t id : Nat) : Word :=
  let c := c.netSettle t
  let n := c.net.nt
  if 0x1010 ≤ id ∧ id < 0x1020 then
    let p : OPort := if id < 0x1014 then .xUp else if id < 0x1018 then .xDn else if id < 0x101C then .yUp else .yDn
    c.viewPort t p (id % 4)
  else if 0x1C00 ≤ id ∧ id < 0x2000 then
    let f : Fin 256 := Fin.ofNat 256 ((id - 0x1C00) / 4)
    let x := c.net.flows[f]
    match id % 4 with
    | 1 => put 0 x.last.toNat ||| put 16 x.miss.toNat ||| flag 18 x.stale ||| flag 19 x.committed ||| put 20 (c.credit f) |||
        put 24 x.skipped.toNat
    | 2 => put 0 x.frames.toNat ||| put 16 x.staleCnt.toNat
    | _ => 0
  else match id with
    | 0x1002 => put 0 c.net.creditViol.toNat ||| put 8 c.net.txBusy.toNat ||| put 16 c.net.collision.toNat
    | 0x1041 => put 0 (ntCode n.st) ||| flag 3 n.x.held ||| flag 4 n.y.held ||| flag 5 n.holdover |||
        put 6 n.cause.toNat ||| put 8 n.refAddr.toNat ||| flag 14 n.x.dv ||| flag 15 n.y.dv ||| put 16 n.offset.toNat
    | 0x1042 => n.cycle
    | 0x1043 => put 0 n.x.delay.toNat
    | 0x1044 => put 0 n.y.delay.toNat
    | 0x1045 => (BitVec.ofInt 16 (n.rate / 10)).setWidth 32
    | 0x1046 => put 0 c.net.skippedCnt.toNat ||| put 8 c.net.cutCnt.toNat ||| put 16 c.net.guardCut.toNat |||
        put 24 c.net.reinteg.toNat
    | 0x1802 => match c.net.loaded with
      | some e => flag 0 true ||| put 16 (e.length % 65536)
      | none => 0
    | _ => 0

def slotCode : SlotSt → Nat
  | .empty => 0
  | .stopped => 1
  | .running => 2
  | .hold => 3
def traceCode : TraceSt → Nat
  | .idle => 0
  | .filling => 1
  | .armed => 2
  | .post => 3
  | .done => 4

/-- One bit per slot. -/
def slotBits (f : Fin 32 → Bool) : Word := (List.finRange 32).foldl (fun a n => a ||| flag n.val (f n)) 0

/-- The control engine (R151, R153 to R157). -/
def Channel.viewCe (c : Channel) (id : Nat) : Word :=
  let n := (id - 0x2000) / 0x40
  let off := (id - 0x2000) % 0x40
  let x := c.ce.slots[Fin.ofNat 32 n]
  match off with
  | 0x0D => put 0 (slotCode x.st) ||| flag 2 x.fallback ||| flag 3 x.returnPending ||| flag 4 (!x.queue.isEmpty) |||
      flag 5 x.oscTrip ||| flag 6 x.noInput ||| flag 7 x.trackLost ||| put 8 x.queue.length |||
      put 16 x.oscTrips.toNat
  | 0x0F => x.out
  | 0x1E => x.err
  | 0x1F => x.int
  | 0x2E => x.samples
  | _ =>
    if id = 0x27F0 then slotBits fun k => (c.ce.slots[k]).live
    else if id = 0x27F1 then slotBits fun k => !(c.ce.slots[k]).queue.isEmpty
    else if id = 0x27F2 then
      let busy := (List.finRange 32).foldl (fun a k =>
        if (c.ce.slots[k]).live then a + c.slotLen k.val * (250000 / classPeriod (c.af (loopId k.val 0) 0 2)) else a) 0
      put 0 (busy % 2 ^ 18)
    else if id = 0x27F4 then c.ce.autoFail
    else if off = 0x35 ∧ n < 4 then
      let u := c.ce.trace[Fin.ofNat 4 n]
      put 0 (traceCode u.st) ||| flag 3 u.invalid ||| put 4 u.trigIdx.toNat
    else if off = 0x36 ∧ n < 4 then (c.ce.trace[Fin.ofNat 4 n]).stamp
    else if off = 0x35 then
      let r := c.ce.rc[Fin.ofNat 8 (n - 4)]
      put 0 r.bin.toNat ||| flag 10 r.angleValid ||| flag 11 r.learning ||| put 16 r.skip.toNat
    else 0

def sdCode : SdSt → Nat
  | .off => 0
  | .closing => 1
  | .run => 2
  | .opening => 3
  | .asc => 4
def angleCode : AngleSt → Nat
  | .sector => 0
  | .edge => 1
  | .index => 2
  | .hallOnly => 3
def zoneCode : Zone → Nat
  | .out => 0
  | .soft => 1
  | .hard => 2
def adCode : AdSt → Nat
  | .off => 0
  | .idle => 1
  | .catch => 2
  | .brake => 3
  | .align => 4
  | .start => 5
  | .run => 6
  | .coast => 7
  | .fault => 8

/-- The drives (R191, R192, R222 to R226). -/
def Channel.viewDrive (c : Channel) (t id : Nat) : Word :=
  let s := c.sd
  let a := c.ad
  match id with
  | 0x3020 => put 0 (sdCode s.st) ||| put 3 (angleCode s.angle) ||| flag 5 s.pisClosed ||| flag 6 s.ovWait |||
      flag 7 s.speedWait ||| flag 8 s.vsat ||| flag 9 s.limited ||| put 10 (zoneCode s.esLeft) |||
      put 12 (zoneCode s.esRight) ||| put 14 s.active.toNat ||| put 17 s.lastLeave.toNat
  | 0x3021 => put 0 s.missedCmd.toNat ||| put 16 s.encFaults.toNat ||| put 24 s.wndFaults.toNat
  | 0x3420 => put 0 (adCode a.st) ||| flag 4 a.runReq ||| flag 5 a.limited ||| flag 6 a.ovWait |||
      put 8 a.catchRes.toNat ||| flag 10 a.inputInvalid ||| put 12 a.lastFault.toNat ||| put 16 a.brakeRound.toNat |||
      put 20 (min 3 (a.recent t).length)
  | 0x3421 => put 0 a.catches.toNat ||| put 16 a.syncFails.toNat ||| put 24 a.keFaults.toNat
  | 0x3422 => put 0 a.measSpeed.toNat ||| put 16 a.measKe.toNat
  | 0x3423 => a.nRef
  | _ => if 0x3440 ≤ id ∧ id < 0x3480 then a.curve[Fin.ofNat 64 (id - 0x3440)] else 0

/-- The gate drive (R254, R256, R258). -/
def Channel.viewGate (c : Channel) (id : Nat) : Word :=
  if id = 0x3908 then
    flag 0 c.gd.bch ||| flag 1 c.gd.iSeen ||| flag 2 c.gd.bchFault ||| flag 3 c.gd.asc ||| flag 4 c.gd.vlinkAbs |||
      put 16 c.gd.onCnt.toNat
  else if id = 0x3888 ∨ id = 0x3A88 then
    let g := if id = 0x3888 then c.gd.grpS else c.gd.grpA
    flag 0 g.sc2 ||| flag 1 g.testDone ||| flag 2 g.testFail ||| flag 3 g.testBusy ||| put 8 g.failed.toNat |||
      put 16 g.interlock.toNat
  else
    let k : Fin 6 := Fin.ofNat 6 (if id < 0x3A00 then (id - 0x3800) / 0x10 else 3 + (id - 0x3A00) / 0x10)
    let x := c.gd.legs[k]
    match id % 0x10 with
    | 0x8 => put 0 x.codeHsOn.toNat ||| put 5 x.codeHsOff.toNat ||| put 10 x.codeLsOn.toNat ||| put 15 x.codeLsOff.toNat
    | 0x9 => put 0 x.rise.toNat ||| put 16 x.fall.toNat
    | 0xA => flag 0 x.sc ||| flag 1 x.gate ||| flag 2 x.bstBlock ||| put 8 x.scTrips.toNat ||| put 16 x.bstUvCnt.toNat
    | _ => 0

def bits8 (v : Vector Bool 8) : Nat := (List.finRange 8).foldl (fun a k => a + (if v[k] then 2 ^ k.val else 0)) 0

/-- The feedback interface (R286 to R290). -/
def Channel.viewFb (c : Channel) (t id : Nat) : Word :=
  let o := id - 0x3C00
  if o < 0x20 then
    let e := c.fb.enc[Fin.ofNat 2 (o / 0x10)]
    match o % 0x10 with
    | 1 => flag 0 e.valid ||| flag 1 e.indexed ||| flag 2 e.dirchg ||| flag 3 e.dir ||| put 8 e.illegal.toNat |||
        put 16 e.dirchgCnt.toNat
    | 2 => lateAt e.speed t
    | _ => 0
  else if o < 0x40 then
    let h := c.fb.hall[Fin.ofNat 2 (o / 0x10 - 2)]
    match o % 0x10 with
    | 1 => flag 0 h.valid ||| flag 1 h.dirchg ||| flag 2 h.dir ||| put 8 h.seqErr.toNat ||| put 16 h.invCode.toNat
    | 2 => lateAt h.speed t
    | _ => 0
  else if o < 0x60 then
    let x := c.sentNow t (Fin.ofNat 2 (o / 0x10 - 4))
    match o % 0x10 with
    | 3 => flag 0 x.valid ||| put 8 x.crcErr.toNat ||| put 16 x.tickErr.toNat ||| put 24 x.chkErr.toNat
    | 4 => put 0 x.smData.toNat ||| put 16 x.smId.toNat ||| flag 24 x.smType ||| flag 25 x.smNew
    | _ => 0
  else if 0x80 ≤ o ∧ o < 0xA0 then
    let w := c.fb.wss[Fin.ofNat 4 (o / 8)]
    match o % 8 with
    | 2 => flag 0 w.valid ||| flag 1 w.opn ||| flag 2 w.shrt ||| put 8 w.faults.toNat
    | 3 => w.odo
    | 4 => lateAt w.speed t
    | _ => 0
  else if 0xC0 ≤ o ∧ o < 0xE0 then (if o % 4 = 3 then c.fb.ainVal[Fin.ofNat 8 ((o - 0xC0) / 4)] else 0)
  else if o = 0xE0 then put 0 (bits8 c.fb.ainOk) ||| put 8 (bits8 c.fb.ainLim)
  else if 0x100 ≤ o ∧ o < 0x120 then
    let x := c.fb.cmp[Fin.ofNat 8 ((o - 0x100) / 4)]
    match o % 4 with
    | 2 => flag 0 x.armed ||| flag 1 x.behind ||| flag 2 x.fired ||| flag 3 x.srcInv ||| put 8 x.fires.toNat
    | 3 => x.stamp
    | _ => 0
  else 0

/-- The Welt interface and the redundancy unit (R325, R353). -/
def Channel.viewRd (c : Channel) (t id : Nat) : Word :=
  let w : Wid := if id < 0x4040 then .w1 else .w2
  let x := c.wi w
  if id < 0x4400 then
    match id % 0x40, x.stat with
    | 0x10, some s => put 0 s.state.toNat ||| put 3 s.accClaim.toNat ||| put 11 s.pair.toNat ||| put 15 s.out.toNat |||
        put 18 s.cause.toNat ||| put 22 s.solf.toNat ||| put 24 s.start.toNat ||| put 26 s.flags.toNat
    | 0x11, some s => put 0 s.i0.toNat ||| put 12 s.i1.toNat ||| put 24 s.si.toNat
    | 0x12, some _ => put 0 x.bad.toNat ||| put 8 (c.missedNow t w).toNat ||| put 16 x.refused.toNat ||| flag 24 (c.statGood t w)
    | _, _ => 0
  else match id with
    | 0x4420 =>
      let lead := match c.rd.leadCh with
        | some ch => (Ch.code ch).toNat
        | none => 0
      let said := c.rd.ann.any (fun a => a.kind == 3) || (match c.rd.leadCh with
        | some ch => (c.latestOf ch).any fun v => v.ann.kind == 3
        | none => false)
      let left := if c.rd.role = .lead then (c.rd.rotAt + 60000000000 * c.af 0x4401 0 11 - t) / 60000000000 else 0
      put 0 (roleCode c.rd.role).toNat ||| put 3 c.rd.level.toNat ||| put 6 c.rd.active.toNat ||| put 9 lead |||
        flag 11 said ||| flag 12 c.singleAngle.isSome ||| put 16 (left % 2048)
    | 0x4421 => c.rd.faults
    | 0x4422 => put 0 c.rd.swaps.toNat ||| put 16 c.rd.promos.toNat ||| put 24 c.rd.resyncs.toNat
    | _ => 0

/-- The active bits of the lines (R356 to R360). -/
def Channel.fclActive (c : Channel) (lo : Nat) : Word :=
  c.fcl.regs.foldl (fun a r => if lo ≤ r.line.val ∧ r.line.val < lo + 32 then a ||| flag (r.line.val - lo) true else a) 0

/-- The fault collector (R367, R369, R370). -/
def Channel.viewFcl (c : Channel) (t id : Nat) : Word :=
  let f := c.fcl
  match id with
  | 0x4800 => f.status.setWidth 32
  | 0x4801 => (f.status >>> 32).setWidth 32
  | 0x4802 => c.fclActive 0
  | 0x4803 => c.fclActive 32
  | 0x4805 => put 0 f.recov.toNat ||| put 16 (min 15 (c.recent t).length)
  | 0x4806 => flag 0 f.latched
  | 0x4807 => match f.first with
    | some l => put 0 l.toNat ||| flag 6 true
    | none => 0
  | 0x4808 => put 0 f.newest.toNat ||| put 4 f.hist.length ||| put 16 f.overwr.toNat ||| put 24 f.reraise.toNat
  | _ =>
    if 0x4810 ≤ id ∧ id < 0x4830 then
      let i := (id - 0x4810) / 2
      match f.hist[(f.newest.toNat + 16 - i) % 16]? with
      | some h =>
        if id % 2 = 0 then put 0 h.line.toNat ||| put 6 h.cls.toNat ||| put 8 h.kind.toNat ||| put 16 h.detail.toNat
        else h.time
      | none => 0
    else 0

/-- The number of blocks that the PARTIAL bank misses (R501). -/
def Nv.missing (n : Nv) : List Nat := if n.bankA.st = 1 then n.bankA.missing else if n.bankB.st = 1 then n.bankB.missing else []

def keyBits (n : Nv) (f : KeySlot → Bool) : Nat :=
  b2n (f n.keys[0]) + 2 * b2n (f n.keys[1]) + 4 * b2n (f n.keys[2]) + 8 * b2n (f n.keys[3])

/-- The security unit (R498 to R502). -/
def Channel.viewSec (c : Channel) (id : Nat) : Word :=
  let s := c.sec
  let n := c.nv
  match id with
  | 0x5000 => put 0 n.lc.toNat ||| put 16 n.lcCount.toNat
  | 0x5002 => put 0 s.level.toNat ||| flag 2 s.scope ||| put 4 s.grantSlot.toNat
  | 0x5003 => put 0 (keyBits n (·.programmed)) ||| put 4 (keyBits n fun k => k.revoked || k.damaged) |||
      flag 8 n.rootOk ||| flag 9 n.idKey ||| flag 10 n.cert.isSome
  | 0x5004 => flag 5 s.keyBusy.isSome
  | 0x5005 => n.rollback.setWidth 32
  | 0x5006 => (n.rollback >>> 32).setWidth 32
  | 0x5007 => put 0 n.bankA.st.toNat ||| put 3 n.bankB.st.toNat ||| flag 6 s.booted ||| flag 7 s.recovery |||
      put 16 n.missing.length
  | 0x5008 => s.fwVer.setWidth 32
  | 0x5009 => (s.fwVer >>> 32).setWidth 32
  | _ =>
    if 0x5020 ≤ id ∧ id < 0x502F then
      (let w := (Config.idPub c.id)[Fin.ofNat 15 (id - 0x5020)]
       if !n.idKey then 0 else if id = 0x502E then w &&& 0xFF000000 else w)
    else if 0x5030 ≤ id ∧ id < 0x5040 then s.fwHash[Fin.ofNat 16 (id - 0x5030)]
    else if 0x5040 ≤ id ∧ id < 0x5050 then s.cfgHash[Fin.ofNat 16 (id - 0x5040)]
    else 0

/-- Management, built-in test, counters and execution (R105 to R108, R544 to R546). -/
def Channel.viewMg (c : Channel) (id : Nat) : Word :=
  let e := c.exe
  match id with
  | 0x5802 => put 0 c.nv.ringHead.toNat ||| put 11 c.nv.freeze.length ||| put 24 c.log.lost.toNat
  | 0x5C00 => c.mg.unusable.setWidth 32
  | 0x5C02 => c.mg.powerup
  | 0x6003 => put 0 c.pct.wrap.toNat ||| flag 12 c.pct.full ||| flag 13 c.pct.enChange ||| put 16 (c.pct.snapIdx.toNat % 65536)
  | 0x7000 => flag 0 e.mismatch ||| put 1 e.kind.toNat ||| flag 5 e.tBusy ||| flag 6 e.selfFail |||
      put 8 e.stFrame.toNat ||| put 16 e.stSeq.toNat ||| put 25 e.stLoop.toNat
  | 0x7001 => e.addr
  | 0x7002 => e.dataP
  | 0x7003 => e.dataT
  | 0x7004 => put 0 e.peakP.toNat ||| put 16 e.peakT.toNat
  | 0x7005 => put 0 e.peakW.toNat ||| put 10 e.peakS.toNat
  | _ => 0

/-- What the RO and W1C fields of a parameter show. -/
def Channel.statusView (c : Channel) (t id : Nat) : Word :=
  if id < 0x1000 then c.viewPlatform t id
  else if id < 0x2000 then c.viewNet t id
  else if id < 0x2800 then c.viewCe id
  else if id < 0x3800 then c.viewDrive t id
  else if id < 0x3C00 then c.viewGate id
  else if id < 0x4000 then c.viewFb t id
  else if id < 0x4800 then c.viewRd t id
  else if id < 0x4C00 then c.viewFcl t id
  else if id < 0x5400 then c.viewSec id
  else c.viewMg id

/-- The value that a read of a parameter returns; none: the ID is not a parameter (R14, R42, R45). A read processed
before a write of its own frame returns the value before it. DEDUCED (unsafe), log entry 147. -/
def Channel.paramRead (c : Channel) (t id : Nat) : Option Word :=
  (pdef id).map fun d => (c.getW id &&& d.wr) ||| (c.statusView t id &&& (d.ro ||| d.w1c))

end Sys2Proof.Machine
end

