-- ==== Sys2Proof/Machine/WriteOps.lean ====
section
/-! DEFINITION. Writing parameters: the checks of a written value by its map, the refusals by state, and what an
accepted write leaves for the commit of its frame (R13 to R15, R39, R43, R44, R130 to R134, R138, R146, R182, R249,
R369, R453, R473, R474, R600, R601). -/

namespace Sys2Proof.Machine

/-- A value as a write takes it: a denormal is a zero of its sign (R10). -/
def PDef.value (d : PDef) (v : Word) : Word := if d.f32 then F32.flush v else v

/-- The working copy after a write: the writable fields change alone (R601). -/
def PDef.merge (d : PDef) (old v : Word) : Word := (old &&& ~~~d.wr) ||| (d.value v &&& d.wr)

/-- What a write by the map refuses with; get: the working copies it is judged against (R13, R14, R42, R600). -/
def writeCheck (get : Nat → Word) (id : Nat) (v : Word) : Option Byte :=
  match pdef id with
  | none => some stBadParam
  | some d =>
    if d.wr ||| d.w1c ||| d.wo == 0 then some stBadParam
    else if v &&& ~~~(d.wr ||| d.w1c ||| d.wo ||| d.ro) != 0 then some stBadParam
    else d.check get (d.value v)

/-- The parameter is persisted: a write of it needs MAINTAINER (R453). -/
def kept (id : Nat) : Bool :=
  match pdef id with
  | some d => d.keep
  | none => false

/-- The semaphore that a write needs (R14, R39). -/
def semOf (id : Nat) : List (Fin 16) :=
  match pdef id with
  | some d => if d.rws then [groupOf id] else []
  | none => []

/-- The session that a command names; SESSION 8 to 15 never get so far (R451). -/
def Channel.sessOf (c : Channel) (h : Hdr) : Sess := (c.port h.port).sess[Fin.ofNat 8 h.session.toNat]

/-- An OEM slot is usable while it is programmed and neither revoked nor damaged (R470, R473). -/
def KeySlot.usable (k : KeySlot) : Bool := k.programmed && !k.revoked && !k.damaged
def Nv.slotUsable (n : Nv) (slot : BitVec 3) : Bool :=
  decide (1 ≤ slot.toNat) && decide (slot.toNat ≤ 4) && (n.keys[keyIdx slot]).usable

/-- BLANK or SCRAPPED (R475). -/
def Channel.lcShut (c : Channel) : Bool := c.nv.lc == 0 || c.nv.lc == 5

def isKeyProgram : Effect → Bool
  | .keyProgram _ => true
  | _ => false

/-- The judgement of SEC_KEY_CTRL.PROGRAM (R473). -/
def Channel.programLock (c : Channel) (h : Hdr) (slot : BitVec 3) : Option Byte :=
  let x := c.sessOf h
  let k := c.nv.keys[keyIdx slot]
  if c.lcShut || x.level < 2 || !(x.slot == 0 || c.nv.slotUsable x.slot) then some stDenied
  else if k.programmed || k.damaged then some stLocked
  else if c.deferring || c.sec.keyBusy.isSome || c.hp.effects.any isKeyProgram then some stBusy
  else none

/-- A revocation of a slot has been accepted in this frame (R474, R489). -/
def Channel.revokes (c : Channel) (slot : BitVec 3) : Bool := c.hp.effects.contains (.keyRevoke slot)

/-- The debug level as the commands accepted so far in the frame will leave it (R474, R484, R489). -/
def Channel.levelAhead (c : Channel) : BitVec 2 :=
  if c.hp.effects.contains .relock || c.revokes c.sec.grantSlot then 0 else c.sec.level

/-- The judgement of SEC_KEY_CTRL.REVOKE, the revocations accepted before it in the frame counted (R474, R489). -/
def Channel.revokeLock (c : Channel) (h : Hdr) (slot : BitVec 3) : Option Byte :=
  let x := c.sessOf h
  let others := ([1, 2, 3, 4] : List (BitVec 3)).any fun k => k != slot && c.nv.slotUsable k && !c.revokes k
  if x.level < 2 || x.slot == slot then some stDenied
  else if !others && x.slot != 0 then some stLocked
  else none

/-- A group's self-test may start: its drive is OFF, FAULT counting as OFF for the auxiliary one (R249). -/
def Channel.testable (c : Channel) (g : Grp) : Bool :=
  match g with
  | .steer => c.sd.st == .off
  | .aux => c.ad.st == .off || c.ad.st == .fault

/-- Refusals of the control engine: a trace unit at work, the fallback set while it is active (R138, R146). -/
def Channel.ceLock (c : Channel) (id : Nat) : Option Byte :=
  let n := (id - 0x2000) / 0x40
  let off := (id - 0x2000) % 0x40
  if n < 4 ∧ 0x30 ≤ off ∧ off < 0x35 then
    let st := (c.ce.trace[Fin.ofNat 4 n]).st
    if st == .filling || st == .armed || st == .post then some stLocked else none
  else if 0x20 ≤ off ∧ off < 0x2E then
    (if (c.ce.slots[Fin.ofNat 32 n]).fallback then some stLocked else none)
  else none

/-- What a write is refused with by the state of the block that it concerns. -/
def Channel.writeLock (c : Channel) (h : Hdr) (id : Nat) (v : Word) : Option Byte :=
  if 0x2000 ≤ id ∧ id < 0x2800 then c.ceLock id
  else if 0x3D00 ≤ id ∧ id < 0x3D10 ∧ id % 4 < 2 then (if c.esOwns then some stLocked else none)
  else match id with
    | 0x3884 => if bit v 0 && !c.testable .steer then some stLocked else none
    | 0x3A84 => if bit v 0 && !c.testable .aux then some stLocked else none

    | 0x5004 =>
      let slot : BitVec 3 := v.setWidth 3
      let p := if bit v 3 then c.programLock h slot else none
      if p.isSome then p else if bit v 4 then c.revokeLock h slot else none
    | _ => none

/-- The slot whose coefficient queue a SAMPLE parameter enters (R130). -/
def Channel.queueSlot (c : Channel) (id : Nat) : Fin 32 :=
  let n := (id - 0x2000) / 0x40
  if (id - 0x2000) % 0x40 < 0x30 then Fin.ofNat 32 n else Fin.ofNat 32 (c.af (rcId (n - 4) 0) 0 5)

/-- A slot's queue as the effects accepted so far in the frame will leave it: whether the slot is live, whether its
fallback set is active, and how many entries its queue holds (R111, R130, R132, R138). -/
structure QueueAhead where
  live     : Bool
  fallback : Bool
  load     : Nat
deriving DecidableEq, Repr

/-- A SAMPLE write enters the queue of its slot (R130, R134, R138). -/
def QueueAhead.takes (a : QueueAhead) (id : Nat) : Bool :=
  let off := (id - 0x2000) % 0x40
  a.live && !(a.fallback && decide (0x10 ≤ off) && decide (off ≤ 0x1D))

/-- DEDUCED (unsafe), log entry 38. -/
def QueueAhead.after (n : Fin 32) (a : QueueAhead) (e : Effect) : QueueAhead :=
  match e with
  | .loopStart k => if k = n then { a with live := true, fallback := false } else a
  | .queueSample k id _ => if k = n ∧ a.takes id = true then { a with load := a.load + 1 } else a
  | _ => a

/-- DEDUCED (unsafe), log entry 38. -/
def Channel.queueAhead (c : Channel) (n : Fin 32) : QueueAhead :=
  let x := c.ce.slots[n]
  c.hp.effects.foldl (QueueAhead.after n) ⟨x.live, x.fallback, x.queue.length⟩

/-- What the write-only bits of a parameter start at the commit. -/
def startedBy (id : Nat) (v : Word) : List Effect :=
  let n := (id - 0x2000) / 0x40
  let off := (id - 0x2000) % 0x40
  let on (k : Nat) (e : Effect) : List Effect := if bit v k then [e] else []
  if 0x2000 ≤ id ∧ id < 0x2800 then
    if off = 0x0E then on 0 (.ceReturn (Fin.ofNat 32 n))
    else if off = 0x36 then on 1 (.rcClear (Fin.ofNat 8 (n - 4)))
    else []
  else match id with
    | 0x0302 => on 31 .minVsup
    | 0x1001 => on 0 .clrCnt
    | 0x3884 => on 0 (.gdTest .steer)
    | 0x3A84 => on 0 (.gdTest .aux)
    | 0x4806 => on 31 .fclClear
    | 0x5002 => on 7 .relock
    | 0x5004 => on 3 (.keyProgram (v.setWidth 3)) ++ on 4 (.keyRevoke (v.setWidth 3))
    | 0x6002 => on 0 .sampler
    | 0x7005 => on 31 .exePeak
    | _ => []

/-- What a write leaves for the commit at its parameter's apply point (R15). new: the working copy after it. A SAMPLE
write accepted while it would bypass its slot's queue takes effect at the commit, whatever set is active then (R132,
R134, R138). DEDUCED (unsafe), log entry 38. -/
def Channel.writeEffects (c : Channel) (d : PDef) (id : Nat) (v new : Word) : List Effect :=
  let own : List Effect :=
    if d.wr == 0 then []
    else match d.apply with
      | .imm =>
        if 0x3D00 ≤ id ∧ id < 0x3D20 then [.compare (Fin.ofNat 8 ((id - 0x3D00) / 4)) (id % 4 == 0)]
        else [.inForce id new]
      | .sample =>
        let n := c.queueSlot id
        [if (c.queueAhead n).takes id then .queueSample n id new else .inForce id new]
      | .mark | .restart => []
  let cleared : List Effect := if v &&& d.w1c != 0 then [.clearBits id (v &&& d.w1c)] else []
  own ++ cleared ++ startedBy id v

def Channel.push (c : Channel) (es : List Effect) : Channel := { c with hp := { c.hp with effects := c.hp.effects ++ es } }

/-- An accepted write: the working copy at once, the rest at the commit (R44, R91). BI_ARM holds its value from the
session that wrote it (R535). -/
def Channel.writeDone (c : Channel) (h : Hdr) (d : PDef) (id : Nat) (v : Word) : Channel :=
  let new := d.merge (c.getW id) v
  let es := c.writeEffects d id v new
  let c := (c.putW id new).push es
  if id = 0x5C01 then { c with mg := { c.mg with arm := some (v, h.port, h.session, h.loc.t) } } else c

/-- The queue that a write of a parameter would enter is full (R132). -/
def Channel.queueFull (c : Channel) (d : PDef) (id : Nat) : Bool :=
  let a := c.queueAhead (c.queueSlot id)
  d.apply == .sample && d.wr != 0 && a.takes id && decide (16 ≤ a.load)

/-- One write, judged against what the writes before it left; a full queue is BUSY (R132, R602).
DEDUCED (unsafe), log entry 38. -/
def Channel.writeOne (c : Channel) (h : Hdr) (id : Nat) (v : Word) : Except Byte Channel :=
  match writeCheck c.getW id v with
  | some st => .error st
  | none =>
    match c.writeLock h id v, pdef id with
    | some st, _ => .error st
    | none, none => .error stBadParam
    | none, some d => if c.queueFull d id then .error stBusy else .ok (c.writeDone h d id v)

/-- Writes in order; the first refusal refuses them all (R43, R44). -/
def Channel.writeSet (h : Hdr) : List (Nat × Word) → Channel → Except Byte Channel
  | [], c => .ok c
  | (id, v) :: r, c =>
    match c.writeOne h id v with
    | .error st => .error st
    | .ok c => Channel.writeSet h r c

/-- The entries of PARAM_WRITE_SET: pairs of ID and value (R455). -/
def setEntries : List Word → List (Nat × Word)
  | a :: v :: r => (fld a 0 16, v) :: setEntries r
  | _ => []

end Sys2Proof.Machine
end

