-- ==== Sys2Proof/Machine/SecOps.lean ====
section
/-! DEFINITION. Operations of the security unit: key slots, signed messages, firmware and configuration images, and the
life cycle (spec file 15). -/

namespace Sys2Proof.Machine

def zeroBytes (n : Nat) : List Byte := List.replicate n 0
/-- DESIGN CHOICE (safe), log entry 13. -/
def hash (bs : List Byte) : List Byte := (Config.shake256 bs).toList
/-- The serial number as in IDENTIFY words 2 and 3, most significant byte first (R456, R477). -/
def serialBytes (ch : Ch) : List Byte := natBytes 8 (Config.serial ch).toNat
def idPubBytes (ch : Ch) : List Byte := (bytesOf (Config.idPub ch).toList).take 57
def chByte (ch : Ch) : Byte := ch.code.setWidth 8

/-- The 262 bytes of a firmware header (R490). -/
def headerBytes (ws : List Word) : List Byte := (bytesOf ws).take 262
def rootKeyOf (ws : List Word) : List Byte := ((headerBytes ws).drop 88).take 57
def headerSig (ws : List Word) : List Byte := (headerBytes ws).drop 148
/-- The root key in a header is the fused one (R470). -/
def Nv.rootKeyGood (n : Nv) (ws : List Word) : Bool := n.rootOk && hash (rootKeyOf ws) == Config.rootHash.toList

/-- The public key of a slot (R470). -/
def Channel.slotKey (c : Channel) (slot : BitVec 3) : List Byte :=
  if slot = 0 then rootKeyOf (c.nv.bank c.sec.booted).header else (bytesOf (c.nv.keys[keyIdx slot]).pub).take 57

/-- A slot may be used: slot 0 with the root key in the booted header, an OEM slot while usable (R470). -/
def Channel.slotGood (c : Channel) (slot : BitVec 3) : Bool :=
  if slot = 0 then c.nv.rootKeyGood (c.nv.bank c.sec.booted).header else c.nv.slotUsable slot

/-- A signature verifies under a slot in a context (R469, R470). -/
def Channel.verify (c : Channel) (slot : BitVec 3) (context : String) (msg sig : List Byte) : Bool :=
  c.slotGood slot && Config.ed448Verify (c.slotKey slot) context msg sig

/-- The next 32 bytes of the TRNG (R472). -/
def Channel.trng (c : Channel) : List Word × Channel :=
  ((Config.trng c.id c.sec.trngCnt).toList, { c with sec := { c.sec with trngCnt := c.sec.trngCnt + 1 } })

/-- The message signed to open a session (R478). DESIGN CHOICE (safe), log entry 13. -/
def sessionMsg (ch : Ch) (challenge : List Word) (p : Port) (k : Fin 8) (level : BitVec 2) (slot : BitVec 3) : List Byte :=
  bytesOf challenge ++ serialBytes ch ++
    [chByte ch, if p = .hp0 then 0 else 1, BitVec.ofNat 8 k.val, level.setWidth 8, slot.setWidth 8]

/-- The message signed for a debug grant (R483). DESIGN CHOICE (safe), log entry 13. -/
def debugMsg (ch : Ch) (x : DbgCh) (lc : BitVec 3) : List Byte :=
  bytesOf x.bytes ++ serialBytes ch ++
    [chByte ch, x.level.setWidth 8, if x.persist then 1 else 0, lc.setWidth 8]

/-- The life-cycle message, 76 bytes (R477). DESIGN CHOICE (safe), log entry 13. -/
def lifecycleMsg (ch : Ch) (now target : BitVec 3) (count : BitVec 16) : List Byte :=
  serialBytes ch ++ [chByte ch, now.setWidth 8, target.setWidth 8, 0] ++ natBytes 2 count.toNat ++ zeroBytes 2 ++
    idPubBytes ch ++ zeroBytes 3

/-- The attestation report, its signature and the certificate, 564 bytes (R479). DESIGN CHOICE (safe), log entry 13. -/
def Channel.attestation (c : Channel) (t : Nat) (nonce : List Word) : List Word :=
  let lcCount := natBytes 4 c.nv.lcCount.toNat
  let body := (bytesOf nonce).take 32 ++ serialBytes c.id ++
    [chByte c.id, c.nv.lc.setWidth 8, c.sec.level.setWidth 8, if c.sec.policy then 1 else 0] ++ lcCount ++
    natBytes 8 c.nv.rollback.toNat ++ bytesOf c.sec.fwHash.toList ++ bytesOf c.sec.cfgHash.toList ++ c.nv.digest ++
    wordBytes (c.nt32 t) ++ zeroBytes 4
  let cert := match c.nv.cert with
    | some p => (bytesOf p.1).take 76 ++ (bytesOf p.2).take 114
    | none => zeroBytes 190
  packWords (body ++ (Config.ed448Sign c.id "SP9430 ATTEST" body).toList ++ zeroBytes 2 ++ cert ++ zeroBytes 2)

/-- The header of an image that IMAGE_BEGIN accepts; else its refusal (R493). -/
def Nv.headerCheck (n : Nv) (ws : List Word) : Option Byte :=
  let w (k : Nat) := ws.getD k 0
  if w 0 != 0x53504657 || w 1 != 1 || w 4 == 0 || 1024 < (w 4).toNat then some stBadParam
  else if !n.rootKeyGood ws || versionOf ws < n.rollback then some stDenied
  else none

/-- The blocks of a body in order. -/
def Bank.bytes (b : Bank) : List Byte := bytesOf (b.body.flatMap (·.2))

/-- SIGNATURE and BODY_HASH of a bank hold, the signature under the root key in its own header (R490, R493, R496). -/
def Nv.imageGood (n : Nv) (b : Bank) : Bool :=
  let h := headerBytes b.header
  n.rootKeyGood b.header && Config.ed448Verify (rootKeyOf b.header) "SP9430 FIRMWARE" (h.take 148) (headerSig b.header) &&
    hash b.bytes == (h.drop 24).take 64

/-- A bank passes boot verification (R496). -/
def Nv.bankGood (n : Nv) (b : Bank) : Bool := n.imageGood b && !(versionOf b.header < n.rollback)

/-- A chunk of a configuration slot (R491). -/
def chunkOf (xs : List (Nat × List Word)) (k : Nat) : List Word :=
  match xs.find? fun p => p.1 == k with
  | some p => p.2
  | none => []
/-- An entry of an ascending list of numbered pieces replaced or added. -/
def putPiece (xs : List (Nat × List Word)) (k : Nat) (ws : List Word) : List (Nat × List Word) :=
  match xs with
  | [] => [(k, ws)]
  | p :: r => if k < p.1 then (k, ws) :: p :: r else if k = p.1 then (k, ws) :: r else p :: putPiece r k ws

/-- CHUNKS is 1 to 511, and every chunk up to it is stored (R491). DEDUCED (unsafe), log entry 106. -/
def cfgWhole (xs : List (Nat × List Word)) : Bool :=
  let n := ((chunkOf xs 0).getD 4 0).toNat
  decide (1 ≤ n) && decide (n ≤ 511) && (List.range n).all fun k => xs.any fun p => p.1 == k + 1

/-- The body of a configuration image: chunks 1 to CHUNKS (R491). -/
def cfgBody (xs : List (Nat × List Word)) : List Word :=
  let n := ((chunkOf xs 0).getD 4 0).toNat
  (xs.filter fun p => decide (1 ≤ p.1) && decide (p.1 ≤ n)).flatMap (·.2)
def cfgVersion (xs : List (Nat × List Word)) : BitVec 64 := versionOf (chunkOf xs 0)
def cfgHashOf (xs : List (Nat × List Word)) : List Word := packWords (hash ((bytesOf (chunkOf xs 0)).take 210))
/-- The signing slot of an image (R491). -/
def cfgSigner (xs : List (Nat × List Word)) : BitVec 8 := ((chunkOf xs 0).getD 5 0 >>> 16).setWidth 8

/-- MAGIC, FORMAT, CHANNEL and SERIAL (R491). -/
def Channel.cfgHeaderGood (c : Channel) (xs : List (Nat × List Word)) : Bool :=
  let h := chunkOf xs 0
  let w (k : Nat) := h.getD k 0
  w 0 == 0x53504346 && w 1 == 1 && (w 5 >>> 24).setWidth 8 == chByte c.id &&
    ((w 6 == 0 && w 7 == 0) || wordBytes (w 6) ++ wordBytes (w 7) == serialBytes c.id)

/-- SLOT, signature and BODY_HASH (R491). -/
def Channel.cfgSigned (c : Channel) (xs : List (Nat × List Word)) : Bool :=
  let b := bytesOf (chunkOf xs 0)
  let s := cfgSigner xs
  let slot : BitVec 3 := s.setWidth 3
  let allowed := if s == 0 then c.nv.lc == 1 || c.nv.lc == 4 else decide (s.toNat ≤ 4)
  allowed && c.verify slot "SP9430 CONFIG" (b.take 96) ((b.drop 96).take 114) && cfgWhole xs &&
    hash (bytesOf (cfgBody xs)) == (b.drop 32).take 64

/-- The words of the loop programs of an image as parameters (R454, R491). -/
def loopParams (ls : List (Fin 32 × List Word)) : List (Nat × Word) :=
  ls.flatMap fun x => ((x.2.take 0x2E).mapIdx fun off v => (loopId x.1.val off, v)).filter fun p => kept p.1

/-- Every parameter value of an image (R491). DESIGN CHOICE (safe), log entry 15. -/
def imageValues (body : List Word) : List (Nat × Word) := Config.imageParams body ++ loopParams (Config.imageLoops body)

/-- The first parameter of an image that a write by its map refuses; the image as a whole is the working copy
(R491). DEDUCED (unsafe), log entry 106. -/
def cfgBadParam (ps : List (Nat × Word)) : Option Nat :=
  let get (id : Nat) : Word :=
    match ps.find? fun p => p.1 == id with
    | some p => p.2
    | none => resetOf id
  (ps.find? fun p => (writeCheck get p.1 p.2).isSome).map (·.1)

/-- The checks of CONFIG_ACTIVATE; none: they pass (R491). -/
def Channel.cfgCheck (c : Channel) (slot : Bool) : Option (Byte × Option Word) :=
  let xs := c.nv.cfg slot
  if !c.cfgHeaderGood xs then some (stBadParam, none)
  else if !c.cfgSigned xs || cfgVersion xs < cfgVersion (c.nv.cfg c.nv.cfgActive) then some (stDenied, none)
  else match cfgBadParam (imageValues (cfgBody xs)) with
    | some id => some (stBadParam, some (BitVec.ofNat 32 id))
    | none => none

/-- A slot passes at boot (R496). -/
def Channel.cfgBoots (c : Channel) (slot : Bool) : Bool :=
  let xs := c.nv.cfg slot
  c.cfgHeaderGood xs && c.cfgSigned xs && (cfgBadParam (imageValues (cfgBody xs))).isNone

/-- The persisted parameters of an image in the form of the working copy (R16). -/
def imageStore (ps : List (Nat × Word)) : Words :=
  ps.foldl (fun m p =>
    match pdef p.1 with
    | some d => if d.keep then storeD m p.1 (d.merge d.reset p.2) d.reset else m
    | none => m) []

/-- The life-cycle pairs of R476: the slots that a session may have, or none where the pair is not listed. -/
def lcPair (old new : BitVec 3) : Option (BitVec 3 → Bool) :=
  let root (s : BitVec 3) : Bool := s == 0
  let oem (s : BitVec 3) : Bool := s != 0
  match old.toNat, new.toNat with
  | 1, 2 => some root
  | 2, 3 | 3, 2 => some oem
  | 2, 4 | 3, 4 => some root
  | 1, 5 | 2, 5 | 3, 5 | 4, 5 => some fun _ => true
  | _, _ => none

/-- Configuration slots and persistent data erased (R476). -/
def Nv.erased (n : Nv) : Nv :=
  { n with cfg0 := [], cfg1 := [], curve := none, comb := none, loops := Vector.replicate 32 none, latch := false }

/-- What an accepted advance does to fuses and stores; the OEM slots of a scrapped channel are revoked one by one, as
by command (R474, R476, R477). DEDUCED (unsafe), log entry 115. -/
def Nv.advanced (n : Nv) (ch : Ch) (target : BitVec 3) (sig : List Byte) : Nv :=
  let msg := lifecycleMsg ch n.lc target n.lcCount
  let n' := { n with lcCount := n.lcCount + 1, lcNext := some target }
  if n.lc = 1 ∧ target = 2 then { n' with cert := some (packWords msg, packWords sig) }
  else if target = 4 then n'.erased
  else if target = 5 then { n'.erased with idKey := false }
  else n'

/-- Sessions of either port that p names close (R474, R476, R478). -/
def Channel.closeSessions (c : Channel) (p : Sess → Bool) : Channel :=
  let one (x : HPort) : HPort := { x with sess := x.sess.map fun s => if p s then ({} : Sess) else s }
  { c with hp := { c.hp with ports := c.hp.ports.map one } }

/-- The debug level returns to CLOSED; a PERSIST grant is cleared; logged where there was one (R484, R530). -/
def Channel.relock (c : Channel) (t : Nat) : Channel :=
  let s := c.sec
  let had := s.level != 0 || c.nv.grant.isSome
  let c := { c with sec := { s with level := 0, scope := false, grantSlot := 0 }, nv := { c.nv with grant := none } }
  if had then c.logEv t 6 3 [put 24 s.level.toNat ||| put 16 (b2n s.scope) ||| put 8 s.grantSlot.toNat] else c

/-- A debug grant (R483, R530). -/
def Channel.grantDebug (c : Channel) (t : Nat) (level : BitVec 2) (persist : Bool) (slot : BitVec 3) : Channel :=
  let c := { c with sec := { c.sec with level := level, scope := persist, grantSlot := slot } }
  let c := if persist then { c with nv := { c.nv with grant := some (level, slot) } } else c
  c.logEv t 6 2 [put 24 level.toNat ||| put 16 (b2n persist) ||| put 8 slot.toNat]

/-- SEC_KEY_CTRL.PROGRAM takes effect: the stage words go into the fuses of the slot (R473).
DEDUCED (safe), log entry 120. -/
def Channel.keyProgram (c : Channel) (slot : BitVec 3) : Channel :=
  let pub := (List.range 15).map fun i => c.getW (0x5010 + i)
  let k := c.nv.keys[keyIdx slot]
  { c with sec := { c.sec with keyBusy := some slot },
           nv := { c.nv with keys := c.nv.keys.set (keyIdx slot) { k with pub := pub } } }

/-- The grant in force and the PERSIST grant are dropped where a slot made them; logged where one was (R474, R484,
R530). DEDUCED (unsafe), log entry 118. -/
def Channel.dropGrant (c : Channel) (t : Nat) (slot : BitVec 3) : Channel :=
  let s := c.sec
  let live := s.level != 0 && s.grantSlot == slot
  let c := if live then { c with sec := { s with level := 0, scope := false, grantSlot := 0 } } else c
  match c.nv.grant with
  | some (level, k) =>
    if k = slot then
      let c := { c with nv := { c.nv with grant := none } }
      c.logEv t 6 3 [put 24 (if live then s.level else level).toNat ||| put 16 (b2n (s.scope || !live)) ||| put 8 slot.toNat]
    else if live then c.logEv t 6 3 [put 24 s.level.toNat ||| put 16 (b2n s.scope) ||| put 8 slot.toNat]
    else c
  | none => if live then c.logEv t 6 3 [put 24 s.level.toNat ||| put 16 (b2n s.scope) ||| put 8 slot.toNat] else c

/-- A slot is revoked: by SEC_KEY_CTRL.REVOKE, or as the channel is scrapped (R474, R476). -/
def Channel.keyRevoke (c : Channel) (t : Nat) (slot : BitVec 3) : Channel :=
  let k := c.nv.keys[keyIdx slot]
  let c := { c with nv := { c.nv with keys := c.nv.keys.set (keyIdx slot) { k with revoked := true } } }
  let c := c.closeSessions fun s => s.st == .opened && decide (2 ≤ s.level) && s.slot == slot
  (c.logEv t 6 6 [put 24 slot.toNat]).dropGrant t slot

/-- Every OEM slot that is not revoked yet is (R476). -/
def Channel.revokeAll (c : Channel) (t : Nat) : Channel :=
  ([1, 2, 3, 4] : List (BitVec 3)).foldl (fun c k => if (c.nv.keys[keyIdx k]).revoked then c else c.keyRevoke t k) c

end Sys2Proof.Machine
end

