-- ==== Sys2Proof/Machine/EffectOps.lean ====
section
/-! DEFINITION. What processed commands do when their frame commits, and how pending work begins and ends (R86, R98,
R449, R450, R455, R464). -/

namespace Sys2Proof.Machine

/-- What a command answers; result none: the spec states no RESULT for it (R442, R455). -/
structure Ans where
  status  : Byte
  result  : Option Word := none
  payload : List Word := []
deriving DecidableEq, Repr

/-- DESIGN CHOICE (safe), log entry 20. -/
def okAns : Ans := { status := stOk }
def okVal (v : Word) : Ans := { status := stOk, result := some v }
def okData (ws : List Word) : Ans := { status := stOk, payload := ws }
/-- DESIGN CHOICE (safe), log entry 20. -/
def refuseAns (st : Byte) : Ans := { status := st }
/-- ACCEPTED_PENDING with RESULT = k (R449). -/
def pendAns (k : Nat) : Ans := { status := stPending, result := some (BitVec.ofNat 32 k) }

/-- A reply packet of an answer; a pending one is not final (R442, R445, R449). DESIGN CHOICE (safe), log entry 20. -/
def Channel.replyOf (c : Channel) (t : Nat) (p : Port) (tag : BitVec 8) (session : BitVec 4) (a : Ans) : Reply :=
  { port := p, tag := tag, session := session, status := a.status,
    result := a.result.getD (Config.noResult c.id t tag), len := 4 * a.payload.length, payload := a.payload,
    final := a.status != stPending, violation := false }

/-- Pending work ends: its completion waits for the next publication (R449). -/
def Channel.complete (c : Channel) (t : Nat) (w : Work) (a : Ans) : Channel :=
  { c with hp := { c.hp with done := c.hp.done ++ [c.replyOf t w.port w.tag w.session a] } }

/-- The checks of a whole Comb (R404), against CB_CFG as last written (R602). -/
def Channel.combGood (c : Channel) (es : List Word) : Bool :=
  let cells := c.wf 0x1800 0 8
  decide (es.length = 2 ^ c.wf 0x1800 8 3 * cells) &&
    (List.range es.length).all fun i =>
      let v := es.getD i 0
      fld v 21 11 == 0 && decide (fld v 14 7 ≤ 64) && (decide (2 ≤ i % cells) || v == 0)

/-- The LAST packet of COMB_LOAD: the checks, then the MRAM write. In warning the write is deferred, and the result is
that of the checks (R404, R454, R459). DEDUCED (unsafe), log entry 107. -/
def Channel.combLast (c : Channel) (t : Nat) (w : Work) (es : List Word) : Channel :=
  if !c.combGood es then c.complete t w (refuseAns stBadParam)
  else
    let c := { c with net := { c.net with loaded := some es } }
    if c.deferring then (c.mram (.comb es)).complete t w okAns else c.mram (.comb es) (some w)

/-- LOG_FREEZE_CLEAR at its commit (R532). -/
def Channel.freezeClear (c : Channel) (t : Nat) (w : Work) : Channel :=
  ({ c with nv := { c.nv with freeze := [], freezeFrom := c.nv.seq } }.mram .freezeErase (some w)).logEv t 9 1 []

/-- Pending work begins at the commit of its frame: signature checks wait in hp.work, MRAM writes join the writer
(R449, R464, R493, R494). DEDUCED (unsafe), log entry 112. -/
def Channel.startWork (c : Channel) (t : Nat) (w : Work) : Channel :=
  match w.kind with
  | .sessionSig _ _ | .configActivate _ | .imageCommit | .attest _ | .debugResponse _ | .lifecycle _ _ =>
    { c with hp := { c.hp with work := c.hp.work ++ [w] } }
  | .configLoad slot k ws => c.mram (.configChunk slot k ws) (some w)
  | .comb es => c.combLast t w es
  | .freezeClear => c.freezeClear t w
  | .imageBegin ws =>
    let c := { c with sec := { c.sec with staged := none } }
    if c.deferring then (c.mram (.imageHeader ws)).complete t w okAns else c.mram (.imageHeader ws) (some w)
  | .imageStage => c.complete t w okAns
  | .imageBlock b ws => c.mram (.imageBlock b ws) (some w)

/-- The words of an event-log entry; EMPTY where there is none (R528, R529). -/
def entryWords (e : Option LogEntry) : List Word :=
  match e with
  | some e => [e.seq, e.time, e.cycle, e.head, e.d0, e.d1, e.d2, e.d3]
  | none => List.replicate 8 0

/-- Live counters of a block, 8 bytes each (R541). -/
def Pct.blockWords (p : Pct) (b : Nat) : List Word :=
  let r := pctBase b
  (List.range r.2).flatMap fun i =>
    let v := p.cnt[Fin.ofNat 64 (r.1 + i)]
    [(v >>> 32).setWidth 32, v.setWidth 32]

/-- A snapshot as 512 bytes (R540). -/
def Snap.words (x : Snap) : List Word :=
  padTo 128 ([x.cycle, x.idx] ++ packWords (x.vals.toList.flatMap fun v => natBytes 6 v.toNat))

/-- The reads of a payload meet an uncorrectable word (R35). DESIGN CHOICE (safe), log entry 83. -/
def Channel.fillFails (c : Channel) (t : Nat) : Fill → Bool
  | .log _ first count => (List.range count).any fun i => Config.mramFails c.id t (first + i)
  | .counters _ | .snapshot _ => false

/-- A payload that is taken at the commit instant (R533, R541). -/
def Channel.fillWords (c : Channel) : Fill → List Word
  | .log fz first count =>
    let xs := if fz then c.nv.freeze else c.nv.ring
    (List.range count).flatMap fun i => entryWords xs[first + i]?
  | .counters b => c.pct.blockWords b
  | .snapshot age =>
    match c.pct.snaps[age]? with
    | some x => x.words
    | none => List.replicate 128 0

/-- The reply with an index takes its payload; one whose MRAM read fails is INTERNAL_FAULT, and ECC_MRAM is raised (R35,
R448, R533, R541). -/
def Channel.fill (c : Channel) (t : Nat) (i : Nat) (f : Fill) : Channel :=
  if c.fillFails t f then
    let bad (r : Reply) : Reply :=
      { r with status := stInternal, result := Config.noResult c.id t r.tag, payload := [], len := 0 }
    { c.raise 8 with hp := { c.hp with results := c.hp.results.modify i bad } }
  else
    let ws := c.fillWords f
    { c with hp := { c.hp with results := c.hp.results.modify i fun r => { r with payload := ws, len := 4 * ws.length } } }

/-- The stored image of a configuration slot meets an uncorrectable word when it is read (R35).
DESIGN CHOICE (safe), log entry 83. -/
def Channel.cfgLost (c : Channel) (t : Nat) (slot : Bool) : Bool :=
  !(c.nv.cfg slot).isEmpty && Config.mramFails c.id t (if slot then 0x10011 else 0x10010)
/-- The stored image of a firmware bank meets an uncorrectable word when it is read (R35).
DESIGN CHOICE (safe), log entry 83. -/
def Channel.bankLost (c : Channel) (t : Nat) (b : Bool) : Bool :=
  !(c.nv.bank b).header.isEmpty && Config.mramFails c.id t (if b then 0x10001 else 0x10000)

/-- W1C bits cleared (R14 and the map rules). -/
def Channel.clearBits (c : Channel) (t id : Nat) (v : Word) : Channel :=
  let o := id - 0x3C00
  if 0x2000 ≤ id ∧ id < 0x2800 then
    let n := Fin.ofNat 32 ((id - 0x2000) / 0x40)
    let x := c.ce.slots[n]
    c.setSlot n { x with oscTrip := x.oscTrip && !bit v 5, noInput := x.noInput && !bit v 6,
                         trackLost := x.trackLost && !bit v 7 }
  else if 0x1010 ≤ id ∧ id < 0x1020 then
    let p : OPort := if id < 0x1014 then .xUp else if id < 0x1018 then .xDn else if id < 0x101C then .yUp else .yDn
    let x := c.ol p
    c.setOl p { x with underrun := x.underrun && !bit v 3, overflow := x.overflow && !bit v 4,
                       conflict := x.conflict && !bit v 5 }
  else if id = 0x4800 then { c with fcl := { c.fcl with status := c.fcl.status &&& ~~~v.setWidth 64 } }
  else if id = 0x4801 then { c with fcl := { c.fcl with status := c.fcl.status &&& ~~~(v.setWidth 64 <<< 32) } }
  else if id = 0x6003 then
    { c with pct := { c.pct with wrap := c.pct.wrap &&& ~~~v.setWidth 12, enChange := c.pct.enChange && !bit v 13 } }
  else if id < 0x3C00 then c
  else if o < 0x20 then
    let n := Fin.ofNat 2 (o / 0x10)
    c.setEnc n { c.fb.enc[n] with dirchg := (c.fb.enc[n]).dirchg && !bit v 2 }
  else if o < 0x40 then
    let n := Fin.ofNat 2 (o / 0x10 - 2)
    c.setHall n { c.fb.hall[n] with dirchg := (c.fb.hall[n]).dirchg && !bit v 1 }
  else if o < 0x60 then
    let n := Fin.ofNat 2 (o / 0x10 - 4)
    let c := c.sentSettle t n
    c.setSent n { c.fb.sent[n] with smNew := (c.fb.sent[n]).smNew && !bit v 25 }
  else if o = 0xE0 then
    { c with fb := { c.fb with ainLim := Vector.ofFn fun k : Fin 8 => c.fb.ainLim[k] && !bit v (8 + k.val) } }
  else if 0x100 ≤ o ∧ o < 0x120 then
    let k := Fin.ofNat 8 ((o - 0x100) / 4)
    let x := c.fb.cmp[k]
    let now := match x.firedAt with
      | some f => f / 5 == t / 5
      | none => false
    c.setCmp k { x with fired := x.fired && (!bit v 2 || now) }
  else c

/-- OL_CTRL.CLR_CNT clears every count of file 12 (R397 to R399). -/
def Channel.clearCounts (c : Channel) : Channel :=
  let one (x : OlPort) : OlPort :=
    { x with fwdBusy := 0, hdrErr := 0, crcErr := 0, codeErr := 0, abortRx := 0, fwd := 0, abortTx := 0, accepted := 0
             dup := 0, old := 0 }
  { c with net := { c.net with ports := c.net.ports.map one, creditViol := 0, txBusy := 0, collision := 0 } }

/-- PWR_CFG and other IMMEDIATE parameters come into force. -/
def Channel.inForce (c : Channel) (id : Nat) (v : Word) : Channel := c.putA id v

/-- CE_CTRL.RETURN while the fallback set is active (R138). -/
def Channel.ceReturn (c : Channel) (n : Fin 32) : Channel :=
  let x := c.ce.slots[n]
  if x.fallback then c.setSlot n { x with returnPending := true } else c

/-- The words of a loop program as its parameters store them: a denormal coefficient is a zero of its sign (R114). -/
def storedProg (n : Nat) (prog : List Word) : List Word :=
  prog.mapIdx fun off v =>
    match pdef (loopId n off) with
    | some d => d.value v
    | none => v

/-- LOOP_LOAD at its commit (R111, R114, R454, R458). prog holds the words of offsets 0x00 to 0x2D. -/
def Channel.loopLoad (c : Channel) (n : Fin 32) (prog : List Word) : Channel :=
  let c := (List.range prog.length).foldl (fun c off =>
    let id := loopId n.val off
    if kept id then c.putA id (c.getW id) else c) c
  let x := c.ce.slots[n]
  let c := c.setSlot n { x with st := if x.st = .empty then .stopped else x.st }
  c.mram (.loop n (storedProg n.val prog))

/-- LOOP_STOP at its commit: a RUNNING or HOLD slot stops at its next boundary (R111). -/
def Channel.loopStop (c : Channel) (n : Fin 32) : Channel :=
  let x := c.ce.slots[n]
  if x.live then c.setSlot n { x with stopReq := true } else c

/-- DRIVE_ENABLE at its commit; a channel that has left its role by then, or stops, starts no drive (R177, R178, R193,
R206, R209). -/
def Channel.driveEnable (c : Channel) (t : Nat) (g : Grp) : Channel :=
  let runs := (c.rd.role == .resync || c.rd.role == .standby || c.rd.role == .lead) && !c.exe.stopping && !c.exe.stopped
  if !runs then c
  else match g with
    | .steer =>
      if c.rd.role = .resync then { c with sd := { c.sd with pendEnable := true, withdrawn := false } } else c.sdStart t
    | .aux => c.adStart t

/-- DRIVE_DISABLE at its commit; in RESYNC it withdraws a pending enable, in OFF it has no other effect (R177, R178,
R206). DEDUCED (unsafe), log entry 47. -/
def Channel.driveDisable (c : Channel) (t : Nat) (g : Grp) : Channel :=
  match g with
  | .steer =>
    let c := if c.rd.role = .resync then { c with sd := { c.sd with pendEnable := false, withdrawn := true } } else c
    if (c.sd.st = .closing || c.sd.st = .run) && c.sd.leaveCyc.isNone then c.announce t (.leave 2) else c
  | .aux =>
    let c := c.adTakeBack t
    if c.ad.st = .off then { c with ad := { c.ad with pendEnable := false } } else c.adOff t

/-- A curve of 64 words in the order x0, n0 to x31, n31 (R216). -/
def curveOf (ws : List Word) : Vector F32 64 := Vector.ofFn fun k => ws.getD k.val 0

/-- DEDUCED (unsafe), log entry 52. -/
def Channel.curveLoad (c : Channel) (ws : List Word) : Channel :=
  { c with ad := { c.ad with curvePend := some (curveOf ws) } }.mram (.curve ws)

/-- TRACE_ARM at its commit (R146, R154). -/
def Channel.traceArm (c : Channel) (u : Fin 4) : Channel :=
  let g (off : Nat) : Word := c.getA (trId u.val off)
  let st : TraceSt := if fld (g 0) 13 11 = 0 then .armed else .filling
  c.setTrace u { TraceUnit.reset with st := st, cfg := g 0, sel0 := g 1, sel1 := g 2, trig := g 3, level := g 4 }

/-- RST_REQ stands in 100 claim words (R317). -/
def Channel.lockoutReq (c : Channel) (w1 w2 : Bool) : Channel :=
  let c := if w1 then { c with wi1 := { c.wi1 with rstLeft := 100 } } else c
  if w2 then { c with wi2 := { c.wi2 with rstLeft := 100 } } else c

/-- OFFLINE by a power entry or a test: role, slots and drives (R504, R535). -/
def Channel.goOffline (c : Channel) (t : Nat) : Channel :=
  let c := (List.finRange 32).foldl Channel.loopStop (c.enterOffline t)
  { c with ad := { c.ad with pendEnable := false } }

/-- A granted power entry at its commit; from here on a queued frame that is skipped no longer delays it (R478, R504,
R507, R508). -/
def Channel.powerEntry (c : Channel) (t : Nat) : Channel :=
  let fs : Vector Flow 256 := c.net.flows.map fun f : Flow => { f with passed := false }
  let c := { c with net := { c.net with flows := fs } }
  (c.goOffline t).closeSessions fun s => s.st != .closed && decide (2 ≤ s.level)

/-- The chain and enable bits of counters, and their clears (R539). -/
def Pct.config (p : Pct) (block : Nat) (clearAll : Bool) (cfg : List Word) : Pct :=
  let r := pctBase block
  (List.range r.2).foldl (fun p i =>
    let k := r.1 + i
    let w := cfg.getD i 0
    let changed := p.en.getLsbD k != bit w 0 || p.chain.getLsbD k != bit w 1
    { p with en := setBit p.en k (bit w 0), chain := setBit p.chain k (bit w 1), enChange := p.enChange || changed,
             cnt := if clearAll || bit w 2 then p.cnt.set (Fin.ofNat 64 k) 0 else p.cnt }) p

/-- A test starts at the commit (R249, R535, R536). -/
def Channel.bistStart (c : Channel) (t : Nat) (test : BitVec 8) (p : Port) (session : BitVec 4) : Channel :=
  let c := { c with mg := { c.mg with bist := some (test, p, session) } }.setResult test (bistWord test 1 0)
  let c := if bistOffline test then { c.goOffline t with mg := { c.mg with arm := none } } else c
  if test = 2 then (c.gdTestStart t .steer).gdTestStart t .aux else c

/-- The reset that a command asks for, at the start of the third frame after the one that processes it (R457). -/
def Channel.resetAfter (c : Channel) (frames : Nat) (p : Port) : Channel :=
  { c with hp := { c.hp with cmdReset := some (c.exe.seq + frames, p) } }

/-- A bank is in TRIAL, or will be at the commit of the frame: every IMAGE_ opcode is refused (R489, R492). -/
def Channel.inTrial (c : Channel) : Bool :=
  (c.nv.bankIn 4).isSome || c.hp.effects.any fun e => match e with
    | .trial _ => true
    | _ => false

/-- IMAGE_ACTIVATE: the VALID inactive bank becomes TRIAL (R493). -/
def Channel.trial (c : Channel) (p : Port) : Channel :=
  match c.nv.bankIn 2 with
  | some b => { c with nv := c.nv.setBank b { c.nv.bank b with st := 4 } }.resetAfter 3 p
  | none => c

/-- FCL_LATCH.CLEAR (R363, R369). DEDUCED (unsafe), log entry 85. -/
def Channel.fclClear (c : Channel) : Channel := { c with fcl := { c.fcl with latched := false } }.mram (.latch false)

/-- What stands in the effects of a frame, at its commit (R86, R98). -/
def Channel.applyEffect (t : Nat) (c : Channel) (e : Effect) : Channel :=
  match e with
  | .inForce id v => c.inForce id v
  | .queueSample n id v => c.sampleWrite t n id v
  | .clearBits id v => c.clearBits t id v
  | .compare k _ => c.cmpApply t k
  | .ceReturn n => c.ceReturn n
  | .rcClear m => c.setRc m { c.ce.rc[m] with clearReq := true }
  | .gdTest g => c.gdTestStart t g
  | .minVsup => { c with sup := { c.sup with minMv := 0xFFFF } }
  | .exePeak => { c with exe := { c.exe with peakP := 0, peakT := 0, peakW := 0, peakS := 0 } }
  | .fclClear => c.fclClear
  | .keyProgram slot => c.keyProgram slot
  | .keyRevoke slot => c.keyRevoke t slot
  | .relock => c.relock t
  | .clrCnt => c.clearCounts
  | .sampler => { c with pct := { c.pct with samples := [], full := false } }
  | .loopLoad n prog => c.loopLoad n prog
  | .loopStart n => c.loopStart t n
  | .loopStop n => c.loopStop n
  | .driveEnable g => c.driveEnable t g
  | .driveDisable g => c.driveDisable t g
  | .curveLoad ws => c.curveLoad ws
  | .traceArm u => c.traceArm u
  | .netStart => c.netStart t
  | .netStop => c.netStop t
  | .lockoutReq w1 w2 => c.lockoutReq w1 w2
  | .powerEntry _ => c.powerEntry t
  | .pctConfig b clearAll cfg => { c with pct := c.pct.config b clearAll cfg }
  | .handover => c.announce t .handover
  | .withdraw => c.beginIsolate t
  | .level l => c.announce t (.level l)
  | .reset p => c.resetAfter 3 p
  | .trial p => c.trial p
  | .bist test p session => c.bistStart t test p session
  | .work w => c.startWork t w
  | .fill i f => c.fill t i f

/-- Every effect of the frame, in the order of its commands (R98, R489). -/
def Channel.applyEffects (c : Channel) (t : Nat) : Channel :=
  let es := c.hp.effects
  es.foldl (Channel.applyEffect t) { c with hp := { c.hp with effects := [] } }

end Sys2Proof.Machine
end

