-- ==== Sys2Proof/Machine/CmdOps.lean ====
section
/-! DEFINITION. How a frame processes a command packet: the checks of R448 from the fifth on, the body of the opcode,
and its reply (R52, R90, R103, R363, R448, R449, R452, R483, R486, R496, R507, R512). -/

namespace Sys2Proof.Machine

/-- What an opcode asks for before its own checks. level: the least session level; sems: semaphores; len: the LENGTH it
takes; iso: answered after a mismatch (R103); latch: answered too while the recovery latch holds the channel (R363);
boot: answered in RECOVERY (R496); doze: served in DOZE (R512); entry: answered during a power entry (R507); warn: BUSY
in warning (R52); tm: answered with x_TM high (R572). -/
structure CmdSpec where
  level : BitVec 2 := 0
  sems  : List (Fin 16) := []
  len   : Nat → Bool := fun n => n == 0
  iso   : Bool := false
  latch : Bool := false
  boot  : Bool := false
  doze  : Bool := false
  entry : Bool := false
  warn  : Bool := false
  tm    : Bool := false

/-- Rule G5 of R486 applies to an opcode. -/
def Channel.g5 (c : Channel) (op : Byte) : Bool :=
  !c.sec.policy && c.nv.lc != 0 && (op == 0x91 || op == 0x92) && (c.pwr.doze || c.pwr.entry.isSome)

/-- The sixth check and its like: the opcodes that a state of the channel answers (R103, R363, R486, R496, R507,
R512). DEDUCED (unsafe), log entry 109. DEDUCED (unsafe), log entry 124. -/
def Channel.stateStop (c : Channel) (op : Byte) (k : CmdSpec) : Option Byte :=
  if c.rst.tm && !k.tm then some stLocked
  else if c.exe.stopped then (if k.iso || (k.latch && c.fcl.held) then none else some stLocked)
  else if c.sec.recovery then (if k.boot then none else some stLocked)
  else if c.g5 op then some stMode
  else if c.pwr.entry.isSome then (if k.entry then none else some stBusy)
  else if c.pwr.doze && !k.doze then some stLocked
  else none

/-- Checks 5 to 10 of R448; none: all pass. -/
def Channel.judge (c : Channel) (h : Hdr) (op : Byte) (k : CmdSpec) (len : Nat) : Option Byte :=
  let x := c.sessOf h
  if 8 ≤ h.session.toNat || x.st != .opened then some stBadParam
  else match c.stateStop op k with
    | some st => some st
    | none =>
      if x.level < k.level then some stDenied
      else if k.sems.any fun i => c.hp.semSnap[i] != some h.port then some stNotOwner
      else if !k.len len then some stBadLength
      else if k.warn && c.deferring then some stBusy
      else none

def samePacket (h : Hdr) (op : Byte) (p : Packet) : Bool :=
  p.opcode == op && p.tag == h.tag && p.session == h.session

/-- The port whose commands a frame processes first: HP0 in even frames (R431). -/
def Channel.firstPort (c : Channel) : Port := if c.exe.frame % 2 = 0 then .hp0 else .hp1

/-- A sampled packet that fails one of the checks 1 to 4 is answered (R448).
DESIGN CHOICE (safe), log entry 33. DEDUCED (unsafe), log entry 35. -/
def Channel.answerEarly (t : Nat) (c : Channel) (e : Packet × Option Byte) : Channel :=
  match e.2 with
  | none => c
  | some st =>
    let x := c.port e.1.port
    let c := c.setPort e.1.port { x with staleCnt := if st = stStaleTag then satInc x.staleCnt else x.staleCnt }
    let r := { c.replyOf t e.1.port e.1.tag e.1.session (refuseAns st) with iso := true }
    { c with hp := { c.hp with results := c.hp.results ++ [r] } }

/-- The failed packets at the head of a port's queue are answered in their turn (R431). -/
def Channel.flushLead (c : Channel) (t : Nat) (p : Port) : Channel :=
  let x := c.port p
  let lead := x.sampled.takeWhile fun e => e.2.isSome
  lead.foldl (Channel.answerEarly t) (c.setPort p { x with sampled := x.sampled.drop lead.length })

/-- The failed packets whose turn has come are answered (R431). -/
def Channel.flushEarly (c : Channel) (t : Nat) : Channel :=
  let p := c.firstPort
  let c := c.flushLead t p
  if (c.port p).sampled.isEmpty then c.flushLead t (if p = .hp0 then .hp1 else .hp0) else c

/-- The packets that no command of the frame carried out leave; those that failed are answered. -/
def Channel.flushAll (c : Channel) (t : Nat) : Channel :=
  let drop (c : Channel) (p : Port) : Channel :=
    let x := c.port p
    x.sampled.foldl (Channel.answerEarly t) (c.setPort p { x with sampled := [] })
  drop (drop c c.firstPort) (if c.firstPort = .hp0 then .hp1 else .hp0)

/-- The packet of a command has its turn: it is not among the sampled ones, or is the oldest good one of its port, with
none good left on the port that the frame serves first (R431). DESIGN CHOICE (safe), log entry 33. -/
def Channel.turn (c : Channel) (h : Hdr) (op : Byte) : Bool :=
  let good := (c.port h.port).sampled.filter fun e => e.2.isNone
  !(good.any fun e => samePacket h op e.1) ||
    ((good.head?.map fun e => samePacket h op e.1).getD false &&
      (h.port == c.firstPort || (c.port c.firstPort).sampled.all fun e => e.2.isSome))

/-- The sampled packet that a command carries out, behind the failed ones ahead of it.
DESIGN CHOICE (safe), log entry 33. -/
def Channel.takeSampled (c : Channel) (h : Hdr) (op : Byte) : Channel :=
  let c := c.flushEarly h.loc.t
  let x := c.port h.port
  c.setPort h.port { x with sampled := x.sampled.eraseP fun e => e.2.isNone && samePacket h op e.1 }

def Channel.setSess (c : Channel) (p : Port) (k : Fin 8) (x : Sess) : Channel :=
  c.setPort p { c.port p with sess := (c.port p).sess.set k x }

/-- A session that waits for the answer to its challenge. -/
def Sess.waits (x : Sess) : Bool := x.st == .challenged && !x.challenge.isEmpty

/-- A challenge expires at another command of its session; an open session was last used now (R451, R452, R483). -/
def Channel.useSession (c : Channel) (h : Hdr) (op : Byte) : Channel :=
  let k := Fin.ofNat 8 h.session.toNat
  let x := c.sessOf h
  let c := if 8 ≤ h.session.toNat then c
    else if x.waits then c.setSess h.port k {}
    else if x.st = .opened then c.setSess h.port k { x with idleAt := h.loc.t } else c
  match c.sec.challenge with
  | some y =>
    if y.port = h.port ∧ y.session = h.session ∧ op ≠ 0x92 then { c with sec := { c.sec with challenge := none } } else c
  | none => c

/-- The core works in frames; else the management core or the boot ROM answers, whose effects come at once.
DESIGN CHOICE (safe), log entry 33. -/
def Channel.framed (c : Channel) : Bool := c.running

/-- The instant at which packets are processed: in frames the instant of the snapshot, since the core sees nothing later
(R86, R88, R91). DESIGN CHOICE (safe), log entry 33. -/
def Channel.inFrame (c : Channel) (t : Nat) : Bool := !c.framed || decide (t = c.exe.startAt)

/-- A command packet is processed in its turn (R86, R88, R89, R431, R448). body: the opcode's own checks and effects.
DESIGN CHOICE (safe), log entry 33. -/
def Channel.command (c : Channel) (q : Req) (op : Byte) (k : CmdSpec) (body : Channel → Channel × Ans) : Channel :=
  if !(c.alive && c.inFrame q.hdr.loc.t && c.turn q.hdr op) then c
  else
    let h := q.hdr
    let c := (c.takeSampled h op).useSession h op
    let r := match c.judge h op k q.len with
      | some st => (c, refuseAns st)
      | none => body c
    let rep := { r.1.replyOf h.loc.t h.port h.tag h.session r.2 with iso := k.iso }
    let c := { r.1 with hp := { r.1.hp with results := r.1.hp.results ++ [rep] } }
    if c.framed then c else c.applyEffects h.loc.t

/-- The pending work of a command, begun at the commit. -/
def workOf (q : Req) (kind : WorkKind) : Work :=
  { kind := kind, port := q.hdr.port, tag := q.hdr.tag, session := q.hdr.session, sig := (bytesOf q.payload).take 114 }

/-- OK without a RESULT, with effects at the commit. -/
def Channel.does (c : Channel) (es : List Effect) : Channel × Ans := (c.push es, okAns)
def Channel.refuse (c : Channel) (st : Byte) : Channel × Ans := (c, refuseAns st)
/-- ACCEPTED_PENDING, the work beginning at the commit (R449). -/
def Channel.pends (c : Channel) (q : Req) (k : Nat) (kind : WorkKind) : Channel × Ans :=
  (c.push [.work (workOf q kind)], pendAns k)

/-- f on the channel that a command names. DESIGN CHOICE (safe), log entry 33. -/
def cmd (q : Req) (s : State) (op : Byte) (k : Channel → CmdSpec) (body : Channel → Channel × Ans) : Out :=
  onCh q.hdr.loc.ch s fun c => c.command q op (k c) body

end Sys2Proof.Machine
end

