-- ==== Sys2Proof/Machine/PowerOps.lean ====
section
/-! DEFINITION. A power entry between its grant and its end, and the TCM image (R507 to R517). -/

namespace Sys2Proof.Machine

/-- An entry ends with a completion that waits for the next publication (R510, R516). -/
def Channel.entryDone (c : Channel) (t : Nat) (e : Entry) (a : Ans) : Channel :=
  { c with pwr := { c.pwr with entry := none }
           hp := { c.hp with done := c.hp.done ++ [c.replyOf t e.port e.tag e.session a] } }

/-- What aborts an entry before its completion: a CHANNEL_FATAL line, another wake source in DOZE, or warning once the
block write in progress has ended (R513, R516). DEDUCED (unsafe), log entry 124. -/
def Channel.entryAbort (c : Channel) (e : Entry) : Option Byte :=
  if c.halted || (c.pwr.waking && c.pwr.lastWake.getLsbD 3) then some stLocked
  else if c.pwr.waking || (e.abort && !c.nv.busy) then some stBusy
  else none

def Channel.entryDrop (c : Channel) : Channel := { c with pwr := { c.pwr with entry := none } }

/-- The clocks of DOZE stop: the entry is counted, TCM is powered down (R503, R510, R530). -/
def Channel.dozeNow (c : Channel) (t : Nat) : Channel :=
  { c with pwr := { c.pwr with entry := none, doze := true, dozes := satInc c.pwr.dozes },
           exe := { c.exe with tcm := [] } }.logEv t 4 1 []

/-- An entry at a frame start: aborted, or DOZE at the end of the frame that published its completion (R510, R516).
DEDUCED (unsafe), log entry 124. -/
def Channel.entryStep (c : Channel) (t : Nat) : Channel :=
  match c.pwr.entry with
  | none => c
  | some e =>
    if e.published.isNone then
      match c.entryAbort e with
      | some st => c.entryDone t e (refuseAns st)
      | none => c
    else if c.halted || c.pwr.waking then c.entryDrop
    else if e.target = 1 then c.dozeNow t
    else c

/-- A byte of TCM. DESIGN CHOICE (unsafe), log entry 9. -/
def Memory.read (m : List Host.Cell) (a : Nat) : Byte :=
  match m.find? fun p => p.1 == a with
  | some p => p.2
  | none => 0

/-- One 4 KiB block of TCM (R509). -/
def tcmBlock (m : List Host.Cell) (k : Nat) : List Host.Cell := m.filter fun p => p.1 / 4096 == k

/-- The plain half of TCM, block by block (R92, R509). -/
def plainHalf (m : List Host.Cell) : List Host.Cell := (List.range 128).flatMap (tcmBlock m)

/-- Every block of a write-back is verified, at its first attempt or at its retry (R509). -/
def verified (x : WriteBack) : Bool := x.fail1 &&& x.fail2 == 0

/-- The attempts of a write-back: one for each block, and one more for each that failed (R509). -/
def writeTries (x : WriteBack) : Nat := 128 + ((List.range 128).filter fun k => x.fail1.getLsbD k).length

/-- PWR_TIMES.WRITEBACK, in 50 µs: an attempt takes at most 70 µs (R509, R522). DEDUCED (unsafe), log entry 125. -/
def writeUnits (x : WriteBack) : BitVec 10 := BitVec.ofNat 10 (min x.span (70000 * writeTries x) / 50000)

/-- H of a TCM image: its 512 KiB in the order of addresses (R469, R509). DEDUCED (unsafe), log entry 125. -/
def imageHash (cells : List Host.Cell) : List Byte := hash ((List.range 0x80000).map (Memory.read cells))

/-- The image read back matches its stored H (R509, R515, R517). -/
def TcmImage.whole (i : TcmImage) : Bool := i.digest == imageHash i.cells

/-- An image restored into both halves (R92, R515). -/
def bothHalves (m : List Host.Cell) : List Host.Cell :=
  m.foldl (fun m p => storeD (storeD m p.1 p.2 0) (0x80000 + (p.1 ^^^ 0x7FFF)) p.2 0) []

/-- NET_START is in force (R415). -/
def Channel.netUp (c : Channel) : Bool := c.net.nt.st != .down

/-- The write-back of TCM (R91, R509). DEDUCED (unsafe), log entry 125. -/
def Channel.writeBack (c : Channel) (shelf : Bool) : Channel :=
  let cells := plainHalf c.exe.tcm
  let img : TcmImage :=
    { shelf := shelf, cells := cells, params := c.params, net := c.netUp, digest := imageHash cells }
  { c with nv := { c.nv with image := some img } }

/-- The image of a DOZE becomes one of SHELF (R506). -/
def Channel.markShelf (c : Channel) : Channel :=
  { c with nv := { c.nv with image := c.nv.image.map fun i => { i with shelf := true } } }

end Sys2Proof.Machine
end

