-- ==== Sys2Proof/Machine/Frames.lean ====
section
/-! DEFINITION. The execution frame: the sample of commands, the two passes, the comparator, the commit, and the
watchdog (spec file 03; R442 to R450, R460, R461, R523, R524, R538). -/

namespace Sys2Proof.Machine

/-- The opcodes of R455. -/
def opcodeKnown (op : Byte) : Bool :=
  (([0x00, 0x01, 0x02, 0x03, 0x04, 0x10, 0x11, 0x12, 0x13, 0x18, 0x19, 0x20, 0x21, 0x22, 0x30, 0x31, 0x34, 0x40, 0x41,
     0x42, 0x48, 0x49, 0x50, 0x51, 0x52, 0x60, 0x61, 0x70, 0x71, 0x72, 0x80, 0x81, 0x82, 0x83, 0x84, 0x90, 0x91, 0x92,
     0x93, 0xA0, 0xA1, 0xB0, 0xB1, 0xB2] : List Byte)).contains op

/-- A packet that fails one of the checks 1 to 4 of R448; none: all pass. -/
def HPort.early (x : HPort) (pk : Packet) (st : Option Byte) : Option Byte :=
  match st with
  | some e => some e
  | none =>
    if (pk.tag >>> 6).setWidth 2 != x.epoch then some stStaleTag
    else if !opcodeKnown pk.opcode then some stBadOpcode
    else none

/-- The packets whose CRC check completed before the frame start are taken in arrival order; one that fails a check is
answered in its turn (R86, R89, R431, R448). -/
def Channel.samplePort (c : Channel) (t : Nat) (p : Port) : Channel :=
  let x := c.port p
  let taken := x.cmds.filter fun e => decide (e.1 < t)
  c.setPort p { x with cmds := x.cmds.filter fun e => !decide (e.1 < t)
                       sampled := taken.map fun e => (e.2.1, x.early e.2.1 e.2.2) }

/-- The canonical form of TCM: addresses strictly rising, and no byte listed that is 0, which an unlisted one reads
as. DESIGN CHOICE (unsafe), log entry 9. -/
def Memory.wf : List Host.Cell → Bool
  | [] => true
  | p :: r => p.2 != 0 && r.all (fun q => decide (p.1 < q.1)) && Memory.wf r

/-- The four bytes of a plain word in the plain half, or in the mirrored half (R9, R92). The most significant byte lies
at the lowest address of the plain half. DESIGN CHOICE (unsafe), log entries 9 and 142.
DESIGN CHOICE (unsafe), log entry 9. DESIGN CHOICE (unsafe), log entry 142. -/
def storeWord (m : List Host.Cell) (mirrored : Bool) (a : Nat) (v : Word) : List Host.Cell :=
  let base := a / 4 * 4
  let place (i : Nat) : Nat := if mirrored then 0x80000 + ((base + i) ^^^ 0x7FFF) else base + i
  let byte (i : Nat) : Byte := (v >>> (8 * (3 - i))).setWidth 8
  let m := storeD m (place 0) (byte 0) 0
  let m := storeD m (place 1) (byte 1) 0
  let m := storeD m (place 2) (byte 2) 0
  storeD m (place 3) (byte 3) 0

/-- A register of pass T holds a valid transformed value (R93). -/
def formOk (d : BitVec 40) : Bool :=
  d.extractLsb' 0 3 == 0 && d.extractLsb' 35 5 == (if d.getLsbD 34 then 0x1F#5 else 0)

/-- The transform undone (R96). -/
def undoT (d : BitVec 40) : BitVec 40 := d.sshiftRight 3

/-- The signature of a pass over its TCM writes, as plain address and plain data, each fed most significant byte first
(R97). DESIGN CHOICE (unsafe), log entry 142. -/
def signature (ws : List (Word × Word)) : Word := crc32c (ws.flatMap fun p => wordBytes p.1 ++ wordBytes p.2)


/-- A frame whose commit did not take place: nothing of it takes effect, and the watchdog counts it unless a mismatch
ended it (R98, R524). DEDUCED (safe), log entry 32. -/
def Channel.frameLost (c : Channel) : Channel :=
  let e := c.exe
  if c.framed && e.ph != .done && e.ph != .idle then
    { c with exe := { e with wdg := if e.wdgArmed && !e.bad then e.wdg + 1 else e.wdg },
             hp := { c.hp with results := [], effects := [] } }
  else c

/-- The receive flows that are not STALE and have committed since NET_START (R117, R394). -/
def liveFlows (fs : Vector Flow 256) : List (Fin 256) :=
  (List.finRange 256).filter fun f => !(fs[f]).stale && (fs[f]).committed

/-- The frame counts of the start, and what the snapshot of the frame takes of ownership and flows (R84, R86, R88,
R90). -/
def Channel.openFrame (c : Channel) (t : Nat) : Channel :=
  { c with exe := { c.exe with frame := (c.net.nt.gridAt t).getD 0, seq := c.exe.seq + 1, startAt := t,
                               pubDone := false, bad := false, ph := .done,
                               held := [], drain := [] },
           hp := { c.hp with semSnap := c.hp.sem },
           net := { c.net with live := liveFlows c.net.flows } }

/-- The replies of a frame are published with the next ones; so are those of a management core that answers outside the
passes (R89, R103, R512). -/
def Channel.seal (c : Channel) : Channel :=
  let c := c.flushAll c.exe.startAt
  { c with hp := { c.hp with publish := c.hp.publish ++ c.hp.results, results := [] } }

/-- The peak loads of pass P (R107, R108). -/
def Exe.peaks (e : Exe) (run : PassRun) : Exe :=
  { e with peakP := BitVec.ofNat 16 (max e.peakP.toNat (min run.used 11000)),
           peakW := BitVec.ofNat 10 (max e.peakW.toNat (min run.writes.length 512)),
           peakS := BitVec.ofNat 11 (max e.peakS.toNat (min run.reads.length 1024)) }

/-- What pass P leaves: the held writes, the snapshot bank, the TCM and the signature (R92, R94, R96, R97). -/
def Exe.runP (e : Exe) (run : PassRun) : Exe :=
  let snap := run.reads.take 1024
  let sel := !e.bankSel
  let stores := run.tcm.map fun x => ((x.addr.toNat, x.data.setWidth 32) : Nat × Word)
  let e := e.peaks run
  { e with ph := .passP, bankSel := sel, bank0 := if sel then e.bank0 else snap, bank1 := if sel then snap else e.bank1,
           held := run.writes.take 512, usedP := run.used, usedT := 0, tSeq := 0, tReads := 0, sigT := 0,
           sigP := signature (stores.map fun x => (BitVec.ofNat 32 x.1, x.2)),
           tcm := stores.foldl (fun m x => storeWord m false x.1 x.2) e.tcm }

/-- What the counters see of either pass: bus writes, TCM reads and writes, bus stalls, corrections with their line
(R35, R538). DEDUCED, log entry 131: a counter that names no pass counts both. -/
def Channel.countPass (c : Channel) (run : PassRun) : Channel :=
  let c := if 0 < run.fixes then c.raise 4 else c
  let c := (c.bump 0 3 run.writes.length).bump 0 5 run.loads
  let c := (c.bump 0 6 run.tcm.length).bump 0 7 run.stall
  c.bump 1 2 run.fixes

/-- What the core's counters see of pass P (R538). DEDUCED (unsafe), log entry 131. -/
def Channel.countP (c : Channel) (run : PassRun) : Channel :=
  let c := (c.bump 0 0).bump 0 1 run.used
  (c.bump 0 4 run.reads.length).countPass run

/-- Which of the 513th write and the 1,025th read an order of accesses reaches first (R95, R96, R105). -/
def firstOver : List Acc → Nat → Nat → Option Acc
  | .write :: _, 0, _ => some .write
  | .read :: _, _, 0 => some .read
  | .write :: o, w + 1, r => firstOver o w r
  | .read :: o, w, r + 1 => firstOver o w r
  | .store :: o, w, r => firstOver o w r
  | [], _, _ => none

/-- The access at which pass P overflows a buffer, the first in time (R95, R96, R105). -/
def passOver (run : PassRun) : Option Acc :=
  let w := decide (512 < run.writes.length)
  let r := decide (1024 < run.reads.length)
  if w && r then some ((firstOver run.order 512 1024).getD .write)
  else if w then some .write
  else if r then some .read
  else none

/-- Frames in a row whose snapshot holds no management heartbeat; the fourth raises MG_CORE (R523). -/
def Channel.heartbeat (c : Channel) (beat : Bool) : Channel :=
  let n := if beat then 0 else c.exe.noBeat + 1
  let c := { c with exe := { c.exe with noBeat := n } }
  if n = 4 then c.raise 56 else c

/-- Pass P: a 513th write or a 1,025th read is OVERFLOW (R95, R96, R105, R523).
DESIGN CHOICE (safe), log entry 30. DESIGN CHOICE (unsafe), log entry 31. DESIGN CHOICE (unsafe), log entry 143. -/
def Channel.passP (c : Channel) (t : Nat) (run : PassRun) : Channel :=
  let c := { c with exe := c.exe.runP run }.heartbeat run.beat
  let c := ((c.relaySnap .hp0).relaySnap .hp1).countP run
  match passOver run with
  | some .write =>
    let w := run.writes.getD 512 ⟨0, 0, 0⟩
    c.tdx t 0 5 0 512 w.addr (w.data.setWidth 32) 0
  | some .read =>
    let r := run.reads.getD 1024 (0, 0)
    c.tdx t 0 5 0 0 r.1 r.2 0
  | _ => c

/-- A frame begins: on the grid of the present cycle, where frame 0 is that of the cycle start (R84, R85).
DEDUCED (safe), log entry 32. -/
def Channel.frameDue (c : Channel) (t : Nat) : Bool :=
  c.alive && (c.net.nt.gridAt t).isSome && (c.exe.seq == 0 || decide (c.exe.startAt < t))

/-- The sample of a frame; the failed packets whose turn has come are answered (R86, R431, R446). -/
def Channel.sampleCmds (c : Channel) (t : Nat) : Channel := ((c.samplePort t .hp0).samplePort t .hp1).flushEarly t

/-- The start of a frame (R84 to R86, R89, R102, R482, R510). -/
def Channel.frameStart (c : Channel) (t : Nat) (run : PassRun) : Channel :=
  let c := (if c.exe.stopping then c.isolateNow t else c.sentSettleAll t).entryStep t
  let c := (c.frameLost.netSettle t).openFrame t
  let c := (if c.framed then c else c.seal).sampleCmds t
  if c.framed && !c.sec.halted then c.passP t run else c

/-- FRAME_START (R84 to R91, R94 to R97). -/
def execFrameStart (l : At) (passP : PassRun) (s : State) : Out :=
  let c := s.ch l.ch
  onCh l.ch s (when (c.frameDue l.t) fun c => c.frameStart l.t passP)

/-- A completion whose tag epoch is outdated carries STALE_TAG (R450). DEDUCED (unsafe), log entry 35. -/
def Channel.staled (c : Channel) (r : Reply) : Reply × Channel :=
  let x := c.port r.port
  if (r.tag >>> 6).setWidth 2 == x.epoch then (r, c)
  else
    ({ r with status := stStaleTag, result := 0, len := 0, payload := [] },
     c.setPort r.port { x with staleCnt := satInc x.staleCnt })

/-- A reply enters its port's reply FIFO (R89, R538). -/
def Channel.deliver (t : Nat) (c : Channel) (r : Reply) : Channel :=
  let x := c.port r.port
  (c.setPort r.port { x with replies := x.replies ++ [{ r with pubAt := t }] }).bump 10 2

/-- A completion is published (R449, R450). -/
def Channel.deliverDone (t : Nat) (c : Channel) (r : Reply) : Channel :=
  let x := c.staled r
  x.2.deliver t x.1

/-- Replies and completions are published together (R89, R449). -/
def Channel.publishAll (c : Channel) (t : Nat) : Channel :=
  let rs := c.hp.publish
  let ds := c.hp.done
  let c := { c with exe := { c.exe with pubDone := true }, hp := { c.hp with publish := [], done := [] } }
  ds.foldl (Channel.deliverDone t) (rs.foldl (Channel.deliver t) c)

/-- REPLY_PUBLISH at CCLK 1,240 (R86, R89, R449, R450). -/
def execReplyPublish (l : At) (s : State) : Out :=
  let c := s.ch l.ch
  let due := c.alive && c.exe.seq != 0 && !c.exe.pubDone && decide (c.exe.startAt + 2480 ≤ l.t)
  onCh l.ch s (when due fun c => c.publishAll l.t)

/-- The first bus write of pass T that disagrees with the held one of its number: its kind and number (R93, R96).
DESIGN CHOICE (unsafe), log entry 31. -/
def firstBad : Nat → List BusWrite → List BusWrite → Option (BitVec 4 × Nat × BusWrite × BusWrite)
  | n, p :: ps, q :: qs =>
    if !formOk q.data then some (3, n, p, q)
    else if q.addr != p.addr then some (2, n, p, q)
    else if undoT q.data != p.data || q.be != p.be then some (1, n, p, q)
    else firstBad (n + 1) ps qs
  | _, _, _ => none

/-- The snapshot that pass T replays (R94). -/
def Exe.bank (e : Exe) : List (Word × Word) := if e.bankSel then e.bank1 else e.bank0

/-- The first read of pass T whose address is not that of its entry (R95). -/
def replayBad : List (Word × Word) → List (Word × Word) → Option (Word × Word)
  | _, [] => none
  | [], r :: _ => some r
  | e :: es, r :: rs => if e.1 != r.1 then some r else replayBad es rs

/-- The plain value of a transformed register (R92). -/
def plainOf (d : BitVec 40) : Word := (undoT d).setWidth 32

/-- What pass T leaves: the mirrored half of the TCM, counts and signature; a store that fails the form check is not
written (R92, R93, R97). -/
def Exe.runT (e : Exe) (run : PassRun) : Exe :=
  let stores := (run.tcm.filter fun x => formOk x.data).map fun x => ((x.addr.toNat, plainOf x.data) : Nat × Word)
  { e with ph := .passT, tSeq := run.writes.length, tReads := run.reads.length, usedT := run.used,
           peakT := BitVec.ofNat 16 (max e.peakT.toNat (min run.used 11000)),
           sigT := signature (stores.map fun x => (BitVec.ofNat 32 x.1, x.2)),
           tcm := stores.foldl (fun m x => storeWord m true x.1 x.2) e.tcm }

/-- What TDX_STATUS latches of a mismatch in pass T (R105, R106). -/
structure Mis where
  kind : BitVec 4
  seq  : Nat
  addr : Word
  p    : Word
  t    : Word
deriving DecidableEq, Repr

/-- A read of pass T that is not its entry (R95, R106). DESIGN CHOICE (unsafe), log entry 143. -/
def misRead (bank : List (Word × Word)) (reads : List (Word × Word)) : Option Mis :=
  (replayBad bank reads).map fun r => ⟨4, 0, r.1, 0, r.2⟩

/-- A write of pass T that is not the held one of its number (R93, R96, R106). -/
def misWrite (n : Nat) (held ws : List BusWrite) : Option Mis :=
  (firstBad n held ws).map fun x => ⟨x.1, x.2.1, x.2.2.2.addr, x.2.2.1.data.setWidth 32, plainOf x.2.2.2.data⟩

/-- A store of pass T that fails the form check (R93, R106). DESIGN CHOICE (unsafe), log entry 143. -/
def misStore (xs : List TcmStore) : Option Mis :=
  (xs.find? fun x => !formOk x.data).map fun x => ⟨3, 0, x.addr.setWidth 32, 0, plainOf x.data⟩

/-- The first mismatch of pass T in time (R105): by the order of its accesses; those that the order does not place
follow, reads before writes before stores. DESIGN CHOICE (safe), log entry 30. -/
def firstMis : List Acc → List (Word × Word) → Nat → List BusWrite → List (Word × Word) → List BusWrite →
    List TcmStore → Option Mis
  | [], bank, n, held, rs, ws, xs => (misRead bank rs).or ((misWrite n held ws).or (misStore xs))
  | .read :: o, bank, n, held, rs, ws, xs =>
    (misRead (bank.take 1) (rs.take 1)).or (firstMis o (bank.drop 1) n held (rs.drop 1) ws xs)
  | .write :: o, bank, n, held, rs, ws, xs =>
    (misWrite n (held.take 1) (ws.take 1)).or (firstMis o bank (n + 1) (held.drop 1) rs (ws.drop 1) xs)
  | .store :: o, bank, n, held, rs, ws, xs => (misStore (xs.take 1)).or (firstMis o bank n held rs ws (xs.drop 1))

/-- The comparator over pass T (R93, R95, R96, R105).
DESIGN CHOICE (safe), log entry 30. DESIGN CHOICE (unsafe), log entry 31. -/
def Channel.compareT (c : Channel) (t : Nat) (run : PassRun) : Channel :=
  match firstMis run.order c.exe.bank 0 c.exe.held run.reads run.writes run.tcm with
  | some x => c.tdx t 0 x.kind 0 x.seq x.addr x.p x.t
  | none => c

/-- Pass P has not finished by its budget end, before pass T begins (R87, R105). -/
def Channel.budgetP (c : Channel) (t : Nat) : Channel :=
  if 11000 < c.exe.usedP then c.tdx t 0 8 0 0 0 0 0 else c

/-- PASS_T: pass T from CCLK 11,000 on (R86, R87, R92 to R96). DEDUCED (unsafe), log entry 131. -/
def Channel.passT (c : Channel) (t : Nat) (run : PassRun) : Channel :=
  let c := c.budgetP t
  (({ c with exe := c.exe.runT run }.compareT t run).bump 0 2 run.used).countPass run

def execPassT (l : At) (run : PassRun) (s : State) : Out :=
  let c := s.ch l.ch
  let due := c.framed && c.exe.ph == .passP && decide (c.exe.startAt + 22000 ≤ l.t)
  onCh l.ch s (when due fun c => c.passT l.t run)

/-- Pass T has not finished by its budget end, at which it runs (R87, R105). -/
def Channel.budgetT (c : Channel) (t : Nat) : Channel :=
  if 11000 < c.exe.usedT then c.tdx t 0 8 0 0 0 0 0 else c

/-- The frame-end checks; the commit drain begins (R86, R87, R97, R98). Where the signatures differ and a count differs
too, SIGNATURE is latched. DESIGN CHOICE (unsafe), log entry 31. DESIGN CHOICE (unsafe), log entry 143. -/
def Channel.passesEnd (c : Channel) (t : Nat) : Channel :=
  let e := c.exe
  let c := c.budgetT t
  let c := { c with exe := { c.exe with ph := .checked } }
  let c := if 11000 < e.usedT then c
    else if e.sigP != e.sigT then c.tdx t 0 7 0 0 0 e.sigP e.sigT
    else if e.held.length != e.tSeq || e.bank.length != e.tReads then c.tdx t 0 6 0 0 0 0 0
    else c
  if c.exe.bad then c
  else { c with exe := { c.exe with drain := e.held } }.bump 1 0 e.held.length

def execPassTEnd (l : At) (s : State) : Out :=
  let c := s.ch l.ch
  let due := c.framed && c.exe.ph == .passT && decide (c.exe.startAt + 44000 ≤ l.t)
  onCh l.ch s (when due fun c => c.passesEnd l.t)

/-- A receive flow that feeds a demand register is STALE, or has not committed since NET_START, as the snapshot of the
frame shows it to the core (R88, R117). DESIGN CHOICE (safe), log entry 15. -/
def Channel.demandStarved (c : Channel) (r : Fin 64) : Bool :=
  let cfg := c.nv.cfg c.nv.cfgActive
  (List.finRange 256).any fun f => Config.demandFlow cfg f r && !c.net.live.contains f

/-- A write of the firmware to an engine takes effect; what a receive flow feeds is invalid while that flow is not
live; SAFE_STOP and HELD ignore some demands (R117, R343, R346, R395). -/
def Channel.coreWrite (c : Channel) (w : CoreWrite) : Channel :=
  match w with
  | .demand r v ok => if c.demandIgnored r then c else c.writeDemand r v (ok && !c.demandStarved r)
  | .flow f ws => c.flowWrite f ws
  | .reqDemand w bits =>
    let x := c.wi w
    c.setWi w { x with dem := bits }

/-- The frame commits (R86, R91, R98, R460, R461, R538). DESIGN CHOICE (safe), log entry 30. -/
def Channel.commitFrame (c : Channel) (t : Nat) (ws : List CoreWrite) : Channel :=
  let c := ws.foldl Channel.coreWrite (c.applyEffects t)
  let c := c.seal.relayAll
  let c := if c.exe.drain.isEmpty then (c.bump 1 1).bump 1 3 else c.bump 1 1
  { c with exe := { c.exe with ph := .done, wdg := 0, last := c.exe.drain, drain := [] } }

/-- What the management core still does for a command of a mismatched frame (R103). DEDUCED (unsafe), log entry 34. -/
def isoEffect : Effect → Bool
  | .reset _ | .fill _ _ => true
  | _ => false

/-- A reply of a mismatched frame: the management core answers, and refuses what R103 does not name.
DEDUCED (unsafe), log entry 34. -/
def isoReply (r : Reply) : Reply :=
  if r.iso then r else { r with status := stLocked, len := 0, payload := [], final := true }

/-- A frame that ends in a mismatch takes no effect (R98, R103). DEDUCED (unsafe), log entry 34. -/
def Channel.dropFrame (c : Channel) (t : Nat) : Channel :=
  let c := { c with hp := { c.hp with effects := c.hp.effects.filter isoEffect } }.applyEffects t
  let c := { c with hp := { c.hp with results := c.hp.results.map isoReply } }.seal
  { c with exe := { c.exe with ph := .done, drain := [] } }

/-- FRAME_COMMIT at CCLK 22,520; a reaction ISOLATE blocks the commit of its frame (R86, R89, R98, R102, R358). -/
def execFrameCommit (l : At) (ws : List CoreWrite) (s : State) : Out :=
  let c := s.ch l.ch
  let stop := c.exe.bad || c.exe.stopping
  let due := c.framed && (c.exe.ph == .checked || (stop && c.exe.ph != .done && c.exe.ph != .idle)) &&
    decide (c.exe.startAt + 45040 ≤ l.t)
  onCh l.ch s (when due fun c => if stop then c.dropFrame l.t else c.commitFrame l.t ws)

/-- WATCHDOG_EXPIRY: LIMIT frames in a row without a commit (R524). DEDUCED (unsafe), log entry 36. -/
def execWatchdogExpiry (l : At) (s : State) : Out :=
  let c := s.ch l.ch
  let due := c.framed && c.exe.wdgArmed && !c.halted && decide (c.af 0x5801 0 5 ≤ c.exe.wdg) && decide (0 < c.exe.wdg)
  onCh l.ch s (when due fun c => c.requestReset ⟨.watchdog, false, none, 0⟩)

/-- MG_CORE_MISMATCH (R523). -/
def execMgCoreMismatch (l : At) (s : State) : Out := onCh l.ch s (when (s.ch l.ch).alive fun c => c.raise 56)

end Sys2Proof.Machine
end

