-- ==== Sys2Proof/WellFormed.lean ====
section
/-! DEFINITION. Which commands the outside world can send: the bounds that the spec puts on a command's operands
beyond their types. exec has a meaning for the others too. -/

namespace Sys2Proof

/-- A packet that reaches a frame with its payload: LENGTH at most 2,048 bytes, padded to whole words (R442, R443). -/
def Req.wf (q : Req) : Bool := decide (q.len ≤ 2048) && q.payload.length == (q.len + 3) / 4

/-- The bytes of a mailbox segment: its head, and 16 more for DATA (R463). -/
def MbSeg.bytes (g : MbSeg) : Nat := if g.kind = 0 then 20 else 4

/-- A block as R329 lays it out: two channels, IDX 0 to 199, at most four tracking records and 28 mailbox bytes, no
reserved kind of segment (R329, R463). -/
def CclBlock.wf (f : CclBlock) : Bool :=
  f.src != f.dst && decide (f.idx.toNat < 200) && decide (f.recs.length ≤ 4) &&
    decide ((f.segs.map MbSeg.bytes).sum ≤ 28) && f.segs.all fun g => g.kind != 3

/-- The bytes of a block (R329, R335, R339, R463). -/
def CclBlock.size (f : CclBlock) : Nat :=
  32 + 44 * f.recs.length + (if f.chunk.isSome then 20 else 0) + (f.segs.map MbSeg.bytes).sum

/-- A frame holds at most 256 bytes ahead of its CRC-32C (R31). -/
def CclFrame.wf (f : CclFrame) : Bool :=
  f.toCclBlock.wf && f.carried.all CclBlock.wf && decide (f.toCclBlock.size + (f.carried.map CclBlock.size).sum ≤ 256)

/-- An access over the Eyelet within the spaces it names: TCM of two halves (R92), 16-bit parameter ids (R455), the
levels CLOSED, AUTH and OPEN (R482). -/
def EyeletAcc.wf : EyeletAcc → Bool
  | .readTcm a | .writeTcm a _ => decide (a < 0x100000)
  | .readParam id | .writeParam id _ => decide (id < 0x10000)
  | .setLevel lvl => decide (lvl.toNat < 3)
  | .ident _ | .readMem _ | .writeMem _ _ | .readStore _ | .halt | .step _ | .resetReq | .fuseRoot => true

/-- A content that the firmware writes to a transmit flow fits a frame (R381). -/
def CoreWrite.wf : CoreWrite → Bool
  | .flow _ ws => decide (ws.length ≤ 64)
  | .demand _ _ _ | .reqDemand _ _ => true

/-- The words of the lanes that end together, one of each lane at most (R299). -/
def lanesWf (xs : List (Ch × ClaimWord)) : Bool :=
  !xs.isEmpty && decide ((xs.map Prod.fst).Nodup)

/-- The operands of a command are within the spec's bounds; a transaction that ends has at least its instruction byte
(R432), a read of REPLY_FIFO at least one word (R437), a waggle a source and no forwarded 63rd hop (R381); the three
phases of a catch window are sampled together (R197). -/
def Instr.wf : Instr → Bool
  | .nop q | .identify q | .reset q | .sessionOpen q | .sessionClose q | .paramRead q | .paramWrite q
  | .paramReadBlock q | .paramWriteSet q | .configLoad q | .configActivate q | .modeRequest q | .roleRequest q
  | .powerRequest q | .driveEnable q | .driveDisable q | .curveLoad q | .loopLoad q | .loopStart q | .loopStop q
  | .traceArm q | .traceRead q | .combLoad q | .netStart q | .netStop q | .lockoutResetReq q | .claimStatus q
  | .logRead q | .logFreezeClear q | .sensorRead q | .imageBegin q | .imageBlock q | .imageCommit q
  | .imageActivate q | .imageResume q | .attest q | .debugChallenge q | .debugResponse q | .lifecycleAdvance q
  | .bistRun q | .bistResult q | .pctConfig q | .pctRead q | .pctSampleRead q => q.wf
  | .spiTransactionEnd _ _ len _ _ _ => decide (8 ≤ len.bits)
  | .replyFifoRead _ _ n => decide (0 < n)
  | .frameCommit _ ws => ws.all CoreWrite.wf
  | .cclFrameReceived _ f => f.wf
  | .errorLineRegister _ xs => !xs.isEmpty
  | .eyeletAccess _ acc => acc.wf
  | .waggleReceived _ _ src hops _ _ => src != 0 && hops != 63
  | .claimWordDecode _ xs => lanesWf xs
  | .catchDecision _ us vs ws => us.length == vs.length && vs.length == ws.length
  | .ceReturn _ _ | .rcClear _ _ _ | .gdTestStart _ _ | .minVsupRestart _ | .exePeakRestart _
  | .fclLatchClear _ | .keyProgram _ _ | .keyRevoke _ _ | .debugRelock _ | .clrCnt _ | .biArm _ _
  | .samplerEnable _ _ | .compareWrite _ _ _ _ | .sideEffectFinal _ _ | .cmdFifoWrite _ _ _ | .rewind _ _
  | .hostReset _ _ | .releaseSem _ _ | .semWrite _ _ _ _ _ | .doorbellRing _ _ _ | .mbDataWrite _ _ _
  | .mbDataRead _ _ | .lockURead _ _ _ | .lockUWrite _ _ _ | .windowRegisterWrite _ _ _ _
  | .sessionIdleTimeout _ _ _ | .challengeExpiry _ _ | .signatureCheckDone _ | .mramWriteAttemptEnd _ _
  | .commandResetEffect _ | .frameStart _ _ | .replyPublish _ | .passT _ _ | .passTEnd _
  | .watchdogExpiry _ | .mgCoreMismatch _ | .sampleBoundary _ _ | .loopResult _ _ _ | .oscWindowEnd _ _
  | .traceRecord _ _ _ | .tracePreFilled _ _ | .tracePostDone _ _ | .cycleStart _ | .mark _
  | .class4khzPeriod _ | .pwmPeriodStart _ _ | .currentSampleReady _ | .ainUpdate _ | .voltageLatch _ _
  | .missedCmdLimit _ | .isumFault _ | .settleElapsed _ | .speedBelowNmax _ | .openTmaxExpiry _
  | .encoderEdge _ _ _ | .zIndex _ _ | .hallEdge _ _ _ | .sentPulse _ _ | .sentTimeout _ _ | .wssEdge _ _
  | .wssWindowEnd _ _ | .wssCurrentTimer _ _ _ | .laneEdge _ _ _ _ | .switchTransition _ _ _ _ _
  | .shortTrip _ _ | .stoHoldEnd _ _ | .doubleShortStep _ | .shortReport _ _ | .gateFault _ _
  | .bootstrapUv _ _ _ | .vgdUndervoltage _ | .pisFault _ _ | .chopperSample _ _ _ | .ascTmaxExpiry _
  | .vlinkAbs _ | .gclkLoss _ | .gdlFrame _ _ | .gdSelftestEnd _ _ _
  | .zeroCrossing _ | .commutation _ | .softRampStep _ | .lossOfSynchronism _ | .brakeTElapsed _
  | .alignTElapsed _ | .startTmaxElapsed _ | .coastElapsed _ | .claimPeriodStart _ | .cclPeriodStart _
  | .xmbAttemptTimeout _ _ | .xmbDeliveryTimeout _ _ | .statusWordReceived _ _ _ | .statusLaneSilence _ _
  | .rotationTimerExpiry _ | .handoverClaimTimeout _ | .healthWindowEnd _ | .faultAbsenceExpiry _ _
  | .standstillHeld _ | .heldPressureRelease _ | .lineSourceEnd _ _ _ | .quietTimerExpiry _ _ _
  | .vsupWarnEnter _ | .vsupWarnExit _ | .rideLimit _ | .rideClear _ | .limitRampEnd _ | .ovCutEnter _
  | .ovCutExit _ | .ovCutTimeout _ | .vsupReset _ | .vsupPorRelease _ _ _ | .vsupOff _ | .railFault _
  | .pinReset _ | .rstnRelease _ _ | .clockFailure _ _ | .xtalOk _ | .pllLock _
  | .interconnectTestEnd _ _ _ | .bootVerificationDone _ _ | .trialTimeout _ | .keyProgramDone _
  | .trngHealthFail _ | .sensorUpdate _ _ _ | .bistTestEnd _ _ _ _ | .samplerRecord _ _
  | .powerEntryComplete _ _ | .powerEntryTimeout _ | .shelfClockStop _ | .wakePin _
  | .wakeAddressMatch _ _ _ | .wakeRestoreDone _ _ | .portActivityStart _ _ | .portActivityEnd _ _
  | .networkHeaderComplete _ _ _ _ | .networkFrameEnd _ _ _ _ _ _ _ | .transmissionStart _ _
  | .txCollision _ _ | .guardianGateClose _ | .forwarderGuardCut _ _ | .delayPingReceived _ _ _
  | .echoReceived _ _ _ _ | .coldstartReceived _ _ | .listenTimeout _ | .coldstartCycle0 _
  | .coldstartBackoffEnd _ | .holdoverTakeover _ | .claimStale _ _ | .claimApply _ | .orphHoldExpiry _
  | .pkrDelayExpiry _ | .weltSettingApply _ | .solPwmPeriodStart _ _ | .solLoopInterval _ _ _
  | .ditherToggle _ | .solShort _ _ | .solOpen _ _ | .pkrFault _ | .siLevelAccepted _ _ _
  | .siDiscrepancy _ _ | .tpPulseStart _ _ _ | .tpPulseEnd _ _ _ _ | .soFault _ _ | .vloadLow _
  | .vloadRecovered _ | .weltPowerUp _ | .weltPowerLoss _ | .weltSelfcheckDone _ _ | .weltClockStop _
  | .weltInternalFault _ | .weltDeliberateReset _ | .weltStatusSend _ | .wrstHigh _ | .wstatAlternate _
  | .trngHealthPass _ | .transmissionEnd _ | .woRegisterRead _ _ _ => true

end Sys2Proof
end

