-- ==== Sys2Proof/Machine/CclOps.lean ====
section
/-! DEFINITION. Cross-channel frames: their layout, how a frame's 256 bytes are shared, and relaying (R31, R32, R329,
R335, R339, R463). -/

namespace Sys2Proof.Machine

def recBytes (r : TrackRec) : List Byte :=
  let x := r.st
  [BitVec.ofNat 8 r.slot.val, 0] ++ natBytes 2 r.samples.toNat ++
    bytesOf [x.r1, x.e1, x.y1, x.i1, x.w1, x.w2, x.q1, x.q2, x.u1, x.v1]

def chunkBytes (k : ResyncChunk) : List Byte :=
  natBytes 2 (k.inst.val * 8192 + k.bin.toNat) ++ [0, 0] ++ bytesOf [k.v0, k.v1, k.v2, k.v3]

def segBytes (g : MbSeg) : List Byte :=
  [BitVec.ofNat 8 (64 * g.kind.toNat + 4 * b2n g.mbu + g.box.val), BitVec.ofNat 8 (16 * g.tag.toNat + g.part.val), 0, 0] ++
    if g.kind = 0 then bytesOf [g.d0, g.d1, g.d2, g.d3] else []

/-- A block as bytes 0 onward of R329, most significant byte of a field first. -/
def blockBytes (b : CclBlock) : List Byte :=
  let recs := b.recs.flatMap recBytes
  let chunk := match b.chunk with
    | some k => chunkBytes k
    | none => []
  let segs := b.segs.flatMap segBytes
  [BitVec.ofNat 8 (64 * b.src.code.toNat + 16 * b.dst.code.toNat + 8 * b2n b.relayed), b.idx] ++ natBytes 2 b.seq.toNat ++
    bytesOf (voteWords b.vote) ++ [BitVec.ofNat 8 b.recs.length, BitVec.ofNat 8 chunk.length] ++ natBytes 2 segs.length ++
    recs ++ chunk ++ segs

/-- The bytes ahead of a frame's CRC: its own block, then the blocks it carries (R329). DESIGN CHOICE (unsafe), log
entry 149. -/
def frameBytes (f : CclFrame) : List Byte := (f.toCclBlock :: f.carried).flatMap blockBytes

/-- A frame is good: it came whole with the CRC-32C of its bytes (R31, R329). -/
def frameGood (f : CclFrame) : Bool := f.good && f.crc == crc32c (frameBytes f)

/-- The CCL to a partner is unusable: failed here, or in the fault set (R32, R332, R537). -/
def Channel.linkDown (c : Channel) (ch : Ch) : Bool := (c.peer ch).failed || bit c.rd.faults (cclBit c.id ch).val

/-- Own blocks with content in the frame to a partner: its own where the link is usable, the third channel's where
that one's link is not (R32). -/
def Channel.ownShare (c : Channel) (ch : Ch) : Nat := b2n (!c.linkDown ch) + b2n (c.linkDown (third c.id ch))

/-- The bytes that the frame to a partner has for more than voting data (R31, R329).
DESIGN CHOICE (unsafe), log entry 149. -/
def Channel.frameRoom (c : Channel) (ch : Ch) : Nat :=
  256 - 32 * (1 + b2n (c.linkDown (third c.id ch)) + b2n (c.peer ch).relay.isSome)

/-- The tracking records of a period: the same in every direction, at most four (R31, R335).
DESIGN CHOICE (unsafe), log entry 149. -/
def Channel.recsNow (c : Channel) : Nat :=
  let fit (ch : Ch) : Nat := if c.ownShare ch = 0 then 4 else c.frameRoom ch / (44 * c.ownShare ch)
  min c.rd.recs.length (min 4 (min (fit c.id.next) (fit c.id.prev)))

/-- A resync chunk fits behind n records in both directions (R31, R339). DESIGN CHOICE (unsafe), log entry 149. -/
def Channel.chunkFits (c : Channel) (n : Nat) : Bool :=
  let fits (ch : Ch) : Bool := decide (c.ownShare ch * (44 * n + 20) ≤ c.frameRoom ch)
  fits c.id.next && fits c.id.prev

/-- The mailbox segments that fit, and those held for the next frame (R31). -/
def takeSegs : Nat → List MbSeg → List MbSeg × List MbSeg
  | _, [] => ([], [])
  | room, g :: r =>
    if g.bytes ≤ room then
      let x := takeSegs (room - g.bytes) r
      (g :: x.1, x.2)
    else ([], g :: r)

/-- The bytes of a frame left for relayed content: behind n own records and the chunk of each own block.
DESIGN CHOICE (unsafe), log entry 149. -/
def Channel.relayRoom (c : Channel) (ch : Ch) (n : Nat) (chunk : Option ResyncChunk) : Nat :=
  c.frameRoom ch - c.ownShare ch * (44 * n + 20 * b2n chunk.isSome)

/-- The learning bins of the chunk at a place in the rotation (R339). -/
def Channel.chunkAt (c : Channel) (pos : Nat) : ResyncChunk :=
  let m : Fin 8 := Fin.ofNat 8 (pos / 1024)
  let b := pos % 1024
  let v (i : Nat) : F32 := lookupD (c.ce.rc[m]).bins (b + i) 0
  { inst := m, bin := BitVec.ofNat 10 b, v0 := v 0, v1 := v 1, v2 := v 2, v3 := v 3 }

/-- The chunk of this period's frames: only the lead sends one, while a channel is in RESYNC and room is left (R31,
R339). -/
def Channel.chunkNow (c : Channel) (n : Nat) : Option ResyncChunk :=
  let joining (ch : Ch) : Bool := roleIn (c.latestOf ch) 1
  if c.rd.role = .lead && !c.halted && (joining c.id.next || joining c.id.prev) && c.chunkFits n then
    some (c.chunkAt c.rd.chunkPos)
  else none

/-- The frame of a period to one partner (R31, R32, R329, R335, R339, R463). o: the channel at the period start, whose
judgement of the links decides what is relayed; n: own records. Voting data first, then records and chunks, own ones
first, then mailbox segments. DESIGN CHOICE (unsafe), log entry 149. DEDUCED (safe), log entry 76. -/
def Channel.sendCcl (o : Channel) (t : Nat) (n : Nat) (chunk : Option ResyncChunk) (c : Channel) (ch : Ch) : Channel :=
  let z := third o.id ch
  let p := o.peer ch
  let v := c.vote t
  let block (dst : Ch) (full : Bool) (segs : List MbSeg) : CclBlock :=
    { src := o.id, dst := dst, relayed := false, idx := o.rd.cclIdx, seq := (o.peer dst).outSeq + 1, vote := v
      recs := if full then o.rd.recs.take n else [], chunk := if full then chunk else none, segs := segs }
  let room := o.relayRoom ch n chunk
  let wait := p.restRecs ++ (match p.relay with
    | some b => b.recs
    | none => [])
  let k := if p.relay.isSome then min 4 (min wait.length (room / 44)) else 0
  let room := room - 44 * k
  let far := match p.relay with
    | some b => if 20 ≤ room then b.chunk else none
    | none => none
  let room := room - 20 * b2n far.isSome
  let g := if o.linkDown ch then ([], c) else c.xmbSegs t (o.isNext ch) (min 28 room)
  let room := room - (g.1.map MbSeg.bytes).sum
  let h := if o.linkDown z then g.2.xmbSegs t (o.isNext z) (min 28 room) else ([], g.2)
  let room := room - (h.1.map MbSeg.bytes).sum
  let r := takeSegs (if p.relay.isSome then min 28 room else 0) (p.restSegs ++ (match p.relay with
    | some b => b.segs
    | none => []))
  let fwd := p.relay.map fun b => { b with recs := wait.take k, chunk := far, segs := r.1 }
  let carried := (if o.linkDown z then [block z true h.1] else []) ++ fwd.toList
  let f : CclFrame := { block ch (!o.linkDown ch) g.1 with carried := carried, crc := 0, good := true }
  let f := { f with crc := crc32c (frameBytes f) }
  let c := h.2.setPeer ch { h.2.peer ch with
    outSeq := p.outSeq + 1, sent := some f, relayed := fwd, relay := none, restRecs := wait.drop k, restSegs := r.2 }
  let c := c.bump 9 0
  if fwd.isSome then c.bump 9 2 else c

end Sys2Proof.Machine
end

