-- ==== Sys2Proof/Machine/Redundancy.lean ====
section
/-! DEFINITION. The commands of the redundancy unit, of the claim and status lanes, of the cross-channel links and of
the mark (spec files 09, 10 and 14). -/

namespace Sys2Proof.Machine

/-- The tracked slots of a channel reported TRACK_LOST in the last 64 cycles (R338). -/
def State.trackBad (s : State) (ch : Ch) : Bool :=
  let c := s.ch ch
  (List.finRange 32).any fun n =>
    bit (c.getA (loopId n.val 0)) 10 && (match (c.ce.slots[n]).trackLostCyc with
      | some k => decide ((c.net.nt.cycle - k).toNat < 64)
      | none => false)

/-- The channels that pass RESYNC at the mark of a cycle: at their own mark of it, or about to (R327).
DEDUCED (unsafe), log entry 71. -/
def State.passing (s : State) (k : Word) (ch : Ch) : Bool :=
  let c := s.ch ch
  c.rd.passCyc == some k || (c.rd.role == .resync && c.rd.healthOk && c.rd.markCyc != k)

/-- The networks that live channels hold, from their latched blocks (R344, R345). -/
def Channel.netsHeld (c : Channel) (lost : Ch → Option Bool) : BitVec 2 :=
  let one (ch : Ch) : BitVec 2 :=
    if ch = c.id then (if c.liveIn ch then c.heldBits else 0)
    else if (lost ch).isSome || !c.liveIn ch then 0
    else match c.latchedOf ch with
      | some v => v.held
      | none => 0
  one .a ||| one .b ||| one .c

/-- The angle latched at the mark (R274, R330). -/
def Channel.latchAngle (c : Channel) : Channel :=
  let s := c.fb.sent[0]
  { c with rd := { c.rd with angle := s.value, angleOk := s.valid } }

/-- The own winding's bit follows the drive (R173, R333). -/
def Channel.ownActive (c : Channel) : Channel :=
  let k := Ch.bit c.id
  let set := setBit c.sd.active k (c.sd.active.getLsbD k && c.sd.st == .run)
  { c with rd := { c.rd with active := set }, sd := { c.sd with active := set } }

/-- The four results of the mark and what follows from them (R327, R332 to R347, R605). -/
def Channel.markVotes (c : Channel) (t : Nat) (trackBad passing : Ch → Bool) : Channel :=
  let me := c.id
  let ln := c.lossOf t me.next
  let lp := c.lossOf t me.prev
  let lost (ch : Ch) : Option Bool := if ch = me.next then ln else if ch = me.prev then lp else none
  let c := (c.takeLoss me.next ln).takeLoss me.prev lp
  let c := (c.clearPeer me.next ln.isSome).clearPeer me.prev lp.isSome
  let f := c.faultSet lost
  let c := { c with rd := { c.rd with faults := f } }.voteAngles
  let c := (c.judgeSilence lost .w1).judgeSilence lost .w2
  let c := c.angleCounts.healthAngle.crossCheck
  let c := { c with rd := { c.rd with rejoined := c.rejoins } }
  let act := c.activeSet lost
  let comp := worse (levelOf f (c.netsHeld lost)) (lcFloor c.nv.lc)
  let c := { c with rd := { c.rd with comp := comp, active := act }, sd := { c.sd with active := act } }
  let held := decide (3 ≤ c.rd.level)
  let c := c.toLevel t (c.moduleLevel t lost)
  let c := ((c.roleMark t lost passing fun ch => held || trackBad ch || !c.standing ch).netOffline t).sdMark t
  let c := (c.ownActive.annMark t trackBad).viewRaise t
  { c with rd := { c.rd with leadCh := c.leadSeen } }

/-- What the mark leaves for the cycle that begins: blocks, counts and the own block (R160, R329, R330, R333). -/
def Channel.markEnd (c : Channel) (t : Nat) : Channel :=
  let c := { c with
    rd := { c.rd with markCyc := c.net.nt.cycle, cclIdx := 0, a := { c.rd.a with latched := none, hears := 0 },
                      b := { c.rd.b with latched := none, hears := 0 }
                      c := { c.rd.c with latched := none, hears := 0 } }
    sd := { c.sd with periodIdx := 0 }
    net := { c.net with nt := { c.net.nt with markAt := some t } } }
  { c with rd := { c.rd with ownLatched := some (c.vote t) } }

/-- MARK (R15, R117, R183, R185, R216, R251, R274, R327, R333 to R347, R540, R605).
DESIGN CHOICE (safe), log entry 23. -/
def Channel.markStep (c : Channel) (t : Nat) (trackBad passing : Ch → Bool) : Channel :=
  let c := (c.sentSettleAll t).markParams.latchAngle
  let c := if c.halted then c else c.markVotes t trackBad passing
  let c := c.esMark c.votedAngle
  (c.swapDemands.pctSnapshot).markEnd t

def execMark (l : At) (s : State) : Out :=
  let bad := s.trackBad
  let c := s.ch l.ch
  let passing := s.passing c.net.nt.cycle
  onCh l.ch s (when (c.released && !c.pwr.doze && c.markDue l.t) fun c => c.markStep l.t bad passing)

/-- CLASS_4KHZ_PERIOD: the pump's speed command and regulator, and the demands of SAFE_STOP (R217, R218, R346). -/
def Channel.class4k (c : Channel) (t : Nat) : Channel :=
  let c := c.adClass4k t
  let v := c.meanSpeed t
  let c := c.stillStep t v
  if c.halted then c else c.stopStep v

/-- CLASS_4KHZ_PERIOD; a disagreement of the two evaluations raises AD_CMP, and the reaction of R102 follows (R125,
R196). -/
def execClass4khzPeriod (l : Judged) (s : State) : Out :=
  let c := s.ch l.ch
  let due := c.ce.clsAt[1] == some l.t && c.ce.at4k != some l.t
  onCh l.ch s (when (c.released && !c.pwr.doze && due) fun c =>
    if l.upset then (c.raise 17).beginIsolate l.t else { c with ce := { c.ce with at4k := some l.t } }.class4k l.t)

/-- A claim period: a lead that saw a higher LEAD claim becomes STANDBY; both lanes send (R294, R327). -/
def Channel.claimPeriod (c : Channel) (t : Nat) : Channel :=
  let c := if c.rd.demote && c.rd.role == .lead && !c.halted then c.takeRole t .standby else c
  let c := (c.judgeLane t .w1).judgeLane t .w2
  (c.sendClaim t .w1).sendClaim t .w2

/-- CLAIM_PERIOD_START at a start of the grid, once (R294, R412, R416). -/
def execClaimPeriodStart (l : At) (s : State) : Out :=
  let c := s.ch l.ch
  onCh l.ch s (when (c.alive && !c.linksOut && c.periodAt l.t && c.rd.claimAt != some l.t) fun c =>
    { c with rd := { c.rd with claimAt := some l.t } }.claimPeriod l.t)

/-- A direct link is judged at a period start (R332). -/
def Channel.judgeLink (c : Channel) (t : Nat) (ch : Ch) : Channel :=
  let p := c.peer ch
  match p.judgeAt with
  | none => c
  | some j =>
    if p.failed || t < max j (p.goodAt.getD 0) + threePeriods then c
    else ((c.setPeer ch { p with failed := true }).enterView (cclBit c.id ch)).raise 45

/-- The cut-off of R332: with a third channel live the channel goes ISOLATED. -/
def Channel.judgeCutOff (c : Channel) (t : Nat) : Channel :=
  let up := c.rd.role == .resync || c.rd.role == .standby || c.rd.role == .lead
  if up && !c.halted && c.cutOff t && c.liveIn c.id.next && c.liveIn c.id.prev then
    ((c.enterView (Fin.ofNat 24 (Ch.bit c.id))).raise 47).beginIsolate t
  else c

/-- CCL frames go out and are taken: not by a channel in DOZE or RECOVERY, of which the spec does not say whether it
sends them (R31, R326, R329, R496, R503), and not while the links are under test (R534).
DESIGN CHOICE (unsafe), log entry 153. DEDUCED (unsafe), log entry 152. -/
def Channel.linksUp (c : Channel) : Bool := c.released && !c.pwr.doze && !c.linksOut

/-- A CCL period: the links are judged, and a frame goes out in each direction (R329, R332). A link judged failed here
is relayed from the next period on. -/
def Channel.cclPeriod (c : Channel) (t : Nat) : Channel :=
  let n := c.recsNow
  let j := ((c.judgeLink t c.id.next).judgeLink t c.id.prev).judgeCutOff t
  let chunk := if j.halted then none else c.chunkNow n
  let d := c.sendCcl t n chunk (c.sendCcl t n chunk j c.id.next) c.id.prev
  { d with rd := { d.rd with
      recs := d.rd.recs.drop n, cclIdx := d.rd.cclIdx + 1
      chunkPos := if chunk.isSome then (d.rd.chunkPos + 4) % 8192 else d.rd.chunkPos } }

/-- CCL_PERIOD_START at a start of the grid, once (R329, R412, R416). -/
def execCclPeriodStart (l : At) (s : State) : Out :=
  let c := s.ch l.ch
  onCh l.ch s (when (c.linksUp && c.periodAt l.t && c.rd.cclAt != some l.t) fun c =>
    { c with rd := { c.rd with cclAt := some l.t } }.cclPeriod l.t)

/-- A tracked output against the lead's in the health window (R339). DEDUCED (unsafe), log entry 80. -/
def Channel.healthRec (c : Channel) (r : TrackRec) : Channel :=
  let x := c.ce.slots[r.slot]
  let route := c.getA (loopId r.slot.val 3)
  let pos := fld route 8 8 == 3 || fld route 16 8 == 3
  let tol := if pos then c.getA 0x4408 else F32.mul (F32.ofFrac 5 100) (F32.abs (c.coef r.slot 0))
  let far := F32.lt tol (F32.abs (F32.sub x.state.u1 r.st.u1))
  if c.rd.health.isSome && x.st == .running && bit (c.getA (loopId r.slot.val 0)) 10 && far then
    { c with rd := { c.rd with healthBad := true } }
  else c

/-- A tracking record from the lead (R144, R335). -/
def Channel.takeRec (c : Channel) (r : TrackRec) : Channel :=
  let c := c.healthRec r
  c.setSlot r.slot { c.ce.slots[r.slot] with leadRec := some r.st }

/-- A resync chunk in RESYNC (R339). -/
def Channel.takeChunk (c : Channel) (k : ResyncChunk) : Channel :=
  let x := c.ce.rc[k.inst]
  let b := k.bin.toNat
  let put1 (m : Words × List Nat) (i : Nat) (v : F32) : Words × List Nat :=
    if b + i < 1024 then (storeD m.1 (b + i) v 0, insAsc (b + i) m.2) else m
  let m := put1 (put1 (put1 (put1 (x.bins, x.received) 0 k.v0) 1 k.v1) 2 k.v2) 3 k.v3
  c.setRc k.inst { x with bins := m.1, received := m.2 }

/-- The voting block taken from a partner (R330, R332, R333). From the fourth frame of a cycle on, its three periods of
HEARD lie within the cycle. DEDUCED (unsafe), log entry 68. -/
def Channel.takeVote (c : Channel) (t : Nat) (f : CclBlock) : Channel :=
  let p := c.peer f.src
  let now := f.vote.cyc == c.rd.markCyc
  c.setPeer f.src { p with
    heardAt := some t, goodAt := if f.relayed then p.goodAt else some t
    judgeAt := match p.judgeAt with
      | some j => some j
      | none => some t
    latest := some f.vote, leadReq := if f.vote.role = 3 then some (f.vote.req1, f.vote.req2) else p.leadReq
    latched := if p.latched.isNone && now then some f.vote else p.latched
    hears := if now && 3 ≤ f.idx.toNat then p.hears ||| f.vote.direct else p.hears
    supLast := f.vote.supLow }

/-- A LEAD of higher rank seen in a block (R327). DEDUCED (unsafe), log entry 73. -/
def Channel.sawLead (c : Channel) (t : Nat) (ch : Ch) : Channel :=
  let out := match c.rd.ho with
    | some h => h.out == ch && decide (t < h.at_ + usec 80)
    | none => false
  if c.rd.role = .lead && c.rankOf c.id < c.rankOf ch && !out then { c with rd := { c.rd with demote := true } } else c

/-- A block for this channel: its vote, records, chunk and mailbox segments (R144, R330 to R333, R339, R463). -/
def Channel.takeBlock (c : Channel) (t : Nat) (f : CclBlock) : Channel :=
  let p := c.peer f.src
  let back := match p.heardAt with
    | some h => decide (h + threePeriods ≤ t)
    | none => false
  let next := c.isNext f.src
  let c := if back then c.xmbReset next else c
  let c := c.takeVote t f
  let lead := f.vote.role == 3
  let c := if lead && c.rd.role != .lead then f.recs.foldl Channel.takeRec c else c
  let c := match f.chunk with
    | some k => if lead && c.rd.role = .resync then c.takeChunk k else c
    | none => c
  let c := f.segs.foldl (fun c g => c.xmbSeg next g) c
  if lead && f.vote.cyc == c.rd.markCyc then c.sawLead t f.src else c

/-- A block for a third channel waits for the next frame to it; the content of one that waits already goes along (R31,
R32). DEDUCED (safe), log entry 76. -/
def Channel.queueRelay (c : Channel) (b : CclBlock) : Channel :=
  let p := c.peer b.dst
  let old := match p.relay with
    | some o => (o.recs, o.segs)
    | none => ([], [])
  c.setPeer b.dst { p with relay := some { b with relayed := true }, restRecs := p.restRecs ++ old.1,
                           restSegs := p.restSegs ++ old.2 }

/-- One block of a good frame: for this channel, or to be relayed once (R32, R329). DEDUCED (safe), log entry 76. -/
def Channel.cclBlock (t : Nat) (c : Channel) (b : CclBlock) : Channel :=
  if b.src = c.id then c
  else if b.dst = c.id then c.takeBlock t b
  else if b.relayed || b.dst = b.src then c
  else c.queueRelay b

/-- CCL_FRAME_RECEIVED: the blocks of a good frame, one after the other (R31, R32, R329).
DEDUCED (safe), log entry 76. -/
def Channel.cclFrame (c : Channel) (t : Nat) (f : CclFrame) : Channel :=
  if !frameGood f || f.src = c.id then c
  else ((f.toCclBlock :: f.carried).foldl (Channel.cclBlock t) c).bump 9 1

def execCclFrameReceived (l : At) (f : CclFrame) (s : State) : Out :=
  onCh l.ch s (when ((s.ch l.ch).linksUp) fun c => c.cclFrame l.t f)

/-- XMB_ATTEMPT_TIMEOUT: 16,000 TCLK from an attempt's first part (R463). -/
def execXmbAttemptTimeout (l : At) (toNext : Bool) (s : State) : Out :=
  let c := s.ch l.ch
  let due := match (c.xp toNext).cur with
    | some d => (match d.tryAt with
      | some a => decide (a + tclk 16000 ≤ l.t)
      | none => false)
    | none => false
  onCh l.ch s (when (c.released && !c.pwr.doze && due) fun c => c.xmbRetry toNext)

/-- XMB_DELIVERY_TIMEOUT: XMB_CFG.TMO from the first attempt (R463, R467). -/
def execXmbDeliveryTimeout (l : At) (toNext : Bool) (s : State) : Out :=
  let c := s.ch l.ch
  let due := match (c.xp toNext).cur with
    | some d => decide (d.firstAt + usec (10 * c.af 0x0801 8 10) ≤ l.t)
    | none => false
  onCh l.ch s (when (c.released && !c.pwr.doze && due) fun c => c.xmbEnd toNext true)

/-- A status word is good (R297, R319). -/
def statusGood (x : StatusWord) : Bool := x.sync == 0xA && x.symOk && x.check == crc8 (statusBits x)

/-- The claim lane judged at a good status word, which then counts in its status period (R319, R341).
DEDUCED (unsafe), log entry 79. -/
def Channel.judgeClaim (c : Channel) (t : Nat) (w : Wid) (sw : StatusWord) : Channel :=
  let c := c.judgeLane t w
  let x := c.wi w
  let idx := some ((t - x.kAt) / statPeriod)
  if x.claim = 0 then c
  else c.setWi w (if sw.accClaim < x.claim then { x with lowIdx := idx } else { x with highIdx := idx })

/-- ACC_CLAIM as a LEAD claim of another channel, and as the claim of an incoming lead (R302, R327, R338).
DEDUCED (unsafe), log entry 73. -/
def Channel.seeClaim (c : Channel) (t : Nat) (w : Wid) (a : BitVec 8) : Channel :=
  let who := [Ch.a, .b, .c].find? fun ch => ch.code == a.setWidth 2
  match who with
  | some ch =>
    if !isLead a then c
    else
      let k := if w = .w1 then 0 else 1
      let c := match c.rd.ho with
        | some h => if h.inc = ch then { c with rd := { c.rd with ho := some { h with seen := setBit h.seen k true } } } else c
        | none => c
      if ch = c.id then c else c.sawLead t ch
  | none => c

/-- A good status word is copied, with what it shows (R319, R325, R340, R341). -/
def Channel.takeStatus (c : Channel) (t : Nat) (w : Wid) (sw : StatusWord) : Channel :=
  let x := c.wi w
  let more : Nat := match x.stat with
    | some o => (sw.rstr - o.rstr).toNat
    | none => 0
  let locked := sw.state == 3 && !(match x.stat with
    | some o => o.state == 3
    | none => false)
  let c := c.setWi w { x with stat := some sw, lastGood := t, silent := false, refused := satAdd x.refused more,
                              missed := c.missedNow t w, pkrOffAt := if sw.out.getLsbD 0 then x.pkrOffAt else some t }
  let c := if sw.flags.getLsbD 2 then c.raise 39 else c
  let c := if locked then c.raise 40 else c
  ((c.judgeClaim t w sw).seeClaim t w sw.accClaim).viewRaise t

/-- STATUS_WORD_RECEIVED (R319). -/
def execStatusWordReceived (l : At) (w : Wid) (sw : StatusWord) (s : State) : Out :=
  onCh l.ch s (when ((s.ch l.ch).released && !(s.ch l.ch).linksOut) fun c =>
    if statusGood sw then c.takeStatus l.t w sw
    else c.setWi w { c.wi w with bad := satInc (c.wi w).bad })

/-- STATUS_LANE_SILENCE: 6,180 TCLK without a good word (R319). -/
def execStatusLaneSilence (l : At) (w : Wid) (s : State) : Out :=
  let c := s.ch l.ch
  let x := c.wi w
  onCh l.ch s (when (c.released && !c.linksOut && !x.silent && decide (x.lastGood + tclk 6180 ≤ l.t)) fun c =>
    (c.setWi w { c.wi w with silent := true, silentAt := l.t }).raise 38)

/-- ROTATION_TIMER_EXPIRY: the lead announces HANDOVER, or waits for a mark that allows it (R337, R338).
DEDUCED (unsafe), log entry 78. -/
def execRotationTimerExpiry (l : At) (s : State) : Out :=
  let c := s.ch l.ch
  let bad := s.trackBad
  let due := c.running && !c.halted && c.rd.role == .lead && !c.rd.rotExp &&
    decide (c.rd.rotAt + 60000000000 * c.af 0x4401 0 11 ≤ l.t)
  onCh l.ch s (when due fun c =>
    if c.swapForbidden bad || c.rd.ann.isSome then { c with rd := { c.rd with rotExp := true } }
    else c.announce l.t .handover)

/-- HANDOVER_CLAIM_TIMEOUT: 6,180 TCLK after M + 10 µs a Welt has not accepted the incoming lead (R338).
DEDUCED (unsafe), log entry 73. -/
def execHandoverClaimTimeout (l : At) (s : State) : Out :=
  let c := s.ch l.ch
  match c.rd.ho with
  | some h =>
    let due := c.running && decide (h.at_ + usec 10 + tclk 6180 ≤ l.t) && h.seen != 3
    onCh l.ch s (when due fun c =>
      let c := c.enterView (Fin.ofNat 24 (Ch.bit h.inc))
      let c := { c with rd := { c.rd with ho := none } }
      if h.inc = c.id then c else c.raise 44 (h.inc.code.setWidth 16))
  | none => .next s

/-- HEALTH_WINDOW_END: after 2 s the window has passed, or the channel goes ISOLATED (R327, R339).
DEDUCED (unsafe), log entry 80. -/
def execHealthWindowEnd (l : At) (s : State) : Out :=
  let c := s.ch l.ch
  let due := c.running && c.rd.role == .resync && !c.rd.healthOk && (match c.rd.health with
    | some h => decide (h + msec 2000 ≤ l.t)
    | none => false)
  onCh l.ch s (when due fun c =>
    if c.rd.healthBad || c.snsCond then (c.raise 48).beginIsolate l.t
    else { c with rd := { c.rd with healthOk := true } })

/-- STANDSTILL_HELD: below RD_SS_VSTILL for 1 s in SAFE_STOP (R346). -/
def execStandstillHeld (l : At) (s : State) : Out :=
  let c := s.ch l.ch
  let low := match c.rd.still with
    | some a => decide (a + msec 1000 ≤ l.t)
    | none => false
  let active := c.rd.role == .standby || c.rd.role == .lead
  onCh l.ch s (when (c.running && active && c.rd.level == 3 && c.rd.stop.isSome && low) fun c => c.toLevel l.t 4)

/-- HELD_PRESSURE_RELEASE: 500 ms after HELD the pressure demands fall to 0 (R346). -/
def Channel.releasePressure (c : Channel) (x : SafeStop) : Channel :=
  let c := c.writeDemand (Fin.ofNat 64 (c.af 0x4402 6 6)) 0 true
  let c := c.writeDemand (Fin.ofNat 64 (c.af 0x4402 12 6)) 0 true
  { c with rd := { c.rd with stop := some { x with zeroed := true } } }

def execHeldPressureRelease (l : At) (s : State) : Out :=
  let c := s.ch l.ch
  match c.rd.stop with
  | some x =>
    let due := c.running && !x.zeroed && (match x.heldAt with
      | some h => decide (h + msec 500 ≤ l.t)
      | none => false)
    onCh l.ch s (when due fun c => c.releasePressure x)
  | none => .next s

end Sys2Proof.Machine
end

