-- ==== Sys2Proof/Machine/HostCommands.lean ====
section
/-! DEFINITION. The general opcodes: sessions, parameters, configuration, levels, roles and power (R455). -/

namespace Sys2Proof.Machine

/-- NOP: RESULT = ARG (R455). -/
def execNop (q : Req) (s : State) : Out :=
  cmd q s 0x00 (fun _ => { doze := true, entry := true }) fun c => (c, okVal q.arg)

/-- The eight words of IDENTIFY (R456). -/
def Channel.identity (c : Channel) : List Word :=
  let ser := Config.serial c.id
  [0x9430,
   put 24 c.id.code.toNat ||| put 16 (Config.dieRev 0).toNat ||| put 8 (Config.dieRev 1).toNat |||
     put 0 (Config.dieRev 2).toNat,
   (ser >>> 32).setWidth 32, ser.setWidth 32, Config.fwVersion (c.nv.bank c.sec.booted).header, put 0 c.nv.lc.toNat,
   c.getW 0x1801, c.sec.cfgHash[0]]

/-- IDENTIFY (R456). -/
def execIdentify (q : Req) (s : State) : Out :=
  cmd q s 0x01 (fun _ => { iso := true, boot := true, doze := true, entry := true, tm := true }) fun c => (c, okData c.identity)

/-- RESET (R455, R457). -/
def execReset (q : Req) (s : State) : Out :=
  cmd q s 0x02 (fun _ => { level := 1, iso := true }) fun c =>
    if q.arg != 0xA55A then c.refuse stBadParam else c.does [.reset q.hdr.port]

/-- The keys and life-cycle states that a raised session may be opened with (R452, R475, R478). -/
def Channel.sessionAllowed (c : Channel) (level : BitVec 2) (slot : BitVec 3) : Bool :=
  let lc := c.nv.lc
  if level = 3 then (lc == 1 || lc == 4) && slot == 0
  else if lc = 5 then slot == 0
  else decide (1 ≤ lc.toNat) && decide (lc.toNat ≤ 4) && (slot == 0 || c.nv.slotUsable slot)

/-- Step 1 of SESSION_OPEN, or the opening at OBSERVER and OPERATOR (R452, R472, R485, R512).
DEDUCED (unsafe), log entry 104. -/
def Channel.sessionBegin (c : Channel) (q : Req) (k : Fin 8) (level : BitVec 2) (slot : BitVec 3) : Channel × Ans :=
  let p := q.hdr.port
  let t := q.hdr.loc.t
  if ((c.port p).sess[k]).st != .closed then c.refuse stLocked
  else if q.len = 114 then c.refuse stBadParam
  else if level < 2 then
    (c.setSess p k { st := .opened, level := level, slot := slot, idleAt := t }, okAns)
  else if c.pwr.doze then c.refuse stLocked
  else if !c.sessionAllowed level slot then c.refuse stDenied
  else if c.sec.trngBad then c.refuse stInternal
  else
    let r := c.trng
    (r.2.setSess p k { st := .challenged, level := level, slot := slot, challenge := r.1, chAt := t }, okData r.1)

/-- SESSION_OPEN (R452): step 2 waits for the signature check; any other command to the session ends its challenge.
DEDUCED (unsafe), log entry 104. -/
def Channel.sessionOpen (c : Channel) (q : Req) : Channel × Ans :=
  let n := fld q.arg 0 4
  let level : BitVec 2 := (q.arg >>> 4).setWidth 2
  let slot : BitVec 3 := (q.arg >>> 6).setWidth 3
  if n = 0 || 8 ≤ n then c.refuse stBadParam
  else
    let k := Fin.ofNat 8 n
    let x := (c.port q.hdr.port).sess[k]
    if x.waits && q.len == 114 && x.level == level && x.slot == slot then
      (c.setSess q.hdr.port k { x with challenge := [] }).pends q 200 (.sessionSig k x.challenge)
    else
      let c := if x.waits then c.setSess q.hdr.port k {} else c
      c.sessionBegin q k level slot

def execSessionOpen (q : Req) (s : State) : Out :=
  cmd q s 0x03 (fun _ => { len := fun n => n == 0 || n == 114, latch := true, boot := true, doze := true })
    fun c => c.sessionOpen q

/-- SESSION_CLOSE (R451). -/
def execSessionClose (q : Req) (s : State) : Out :=
  cmd q s 0x04 (fun _ => { latch := true, boot := true, doze := true }) fun c =>
    let n := fld q.arg 0 4
    if n = 0 || 8 ≤ n then c.refuse stBadParam else (c.setSess q.hdr.port (Fin.ofNat 8 n) {}, okAns)

/-- PARAM_READ (R45, R103, R455, R496). -/
def execParamRead (q : Req) (s : State) : Out :=
  let id := fld q.arg 0 16
  cmd q s 0x10 (fun _ => { iso := decide (0x7000 ≤ id) && decide (id ≤ 0x7005), doze := true, entry := true,
                           boot := decide (0x5000 ≤ id) && decide (id ≤ 0x504F) }) fun c =>
    match c.paramRead q.hdr.loc.t id with
    | some v => (c, okVal v)
    | none => c.refuse stBadParam

/-- The privilege level of a write: MAINTAINER for a persisted parameter and for FCL_LATCH.CLEAR, else OPERATOR (R369,
R453). -/
def writeLevel (id : Nat) (v : Word) : BitVec 2 := if kept id || (id == 0x4806 && bit v 31) then 2 else 1

/-- What PARAM_WRITE of a value to an ID asks for (R39, R363, R453). -/
def writeSpec (id : Nat) (v : Word) : CmdSpec :=
  { level := writeLevel id v, sems := semOf id, len := fun n => n == 4
    latch := id == 0x4806 && bit v 31 }

/-- The body of PARAM_WRITE: RESULT is the value as it then reads (R453). -/
def Channel.paramWrite (c : Channel) (h : Hdr) (id : Nat) (v : Word) : Channel × Ans :=
  match c.writeOne h id v with
  | .error st => c.refuse st
  | .ok c => (c, { status := stOk, result := c.paramRead h.loc.t id })

/-- PARAM_WRITE (R13 to R15, R453, R600, R601). -/
def execParamWrite (q : Req) (s : State) : Out :=
  let id := fld q.arg 0 16
  let v := q.payload.getD 0 0
  cmd q s 0x11 (fun _ => writeSpec id v) fun c => c.paramWrite q.hdr id v

/-- PARAM_READ_BLOCK (R455). -/
def execParamReadBlock (q : Req) (s : State) : Out :=
  let first := fld q.arg 0 16
  let n := fld q.arg 16 9
  cmd q s 0x12 (fun _ => { doze := true, entry := true }) fun c =>
    if n = 0 || 512 < n then c.refuse stBadParam
    else
      let ids := (List.range n).map (first + ·)
      match ids.find? fun id => (pdef id).isNone with
      | some id => (c, { status := stBadParam, result := some (BitVec.ofNat 32 id) })
      | none => (c, okData (ids.filterMap fun id => c.paramRead q.hdr.loc.t id))

/-- PARAM_WRITE_SET (R43, R44, R453). -/
def execParamWriteSet (q : Req) (s : State) : Out :=
  let n := fld q.arg 0 9
  let es := setEntries q.payload
  cmd q s 0x13 (fun _ => { level := if es.any fun e => writeLevel e.1 e.2 == 2 then 2 else 1, sems := es.flatMap fun e => semOf e.1,
                           len := fun k => n == 0 || decide (256 < n) || k == 8 * n }) fun c =>
    if n = 0 || 256 < n then c.refuse stBadParam
    else match Channel.writeSet q.hdr es c with
      | .error st => c.refuse st
      | .ok c => (c, okVal (BitVec.ofNat 32 n))

/-- CONFIG_LOAD (R459). -/
def execConfigLoad (q : Req) (s : State) : Out :=
  let slot := bit q.arg 16
  cmd q s 0x18 (fun _ => { level := 2, len := fun n => decide (4 ≤ n) && decide (n ≤ 2048), warn := true }) fun c =>
    if slot == c.nv.cfgActive then c.refuse stLocked
    else c.pends q 40 (.configLoad slot (fld q.arg 0 9) (padTo 512 q.payload))

/-- CONFIG_ACTIVATE (R459, R491). -/
def execConfigActivate (q : Req) (s : State) : Out :=
  cmd q s 0x19 (fun _ => { level := 2, warn := true }) fun c =>
    if c.rd.level != 4 then c.refuse stMode else c.pends q 800 (.configActivate (bit q.arg 0))

def isLevelEffect : Effect → Bool
  | .level _ | .handover => true
  | _ => false

/-- The module is at standstill: the mean of valid speeds below VSTILL for 1 s (R347). -/
def Channel.standstill (c : Channel) (t : Nat) : Bool :=
  match c.rd.still with
  | some since => decide (since + msec 1000 ≤ t)
  | none => false

/-- MODE_REQUEST (R347). DEDUCED (unsafe), log entry 105. -/
def Channel.modeRequest (c : Channel) (q : Req) : Channel × Ans :=
  let n := fld q.arg 0 3
  let l : BitVec 3 := BitVec.ofNat 3 n
  let inForce := put 0 c.rd.level.toNat
  if 5 ≤ n then c.refuse stBadParam
  else if c.rd.role != .standby && c.rd.role != .lead then (c, { status := stMode, result := some inForce })
  else if c.rd.ann.isSome || c.hp.effects.any isLevelEffect then c.refuse stBusy
  else if c.standstill q.hdr.loc.t && decide (c.rd.comp ≤ l) then (c.push [.level l], okVal (put 0 n))
  else (c, { status := stMode, result := some inForce })

def execModeRequest (q : Req) (s : State) : Out :=
  cmd q s 0x20 (fun _ => { level := 1 }) fun c => c.modeRequest q

/-- ROLE_REQUEST (R327, R337, R338). -/
def execRoleRequest (q : Req) (s : State) : Out :=
  let bad := s.trackBad
  cmd q s 0x21 (fun _ => { level := 1, sems := [11] }) fun c =>
    match fld q.arg 0 2 with
    | 1 =>
      if c.rd.role != .lead then c.refuse stLocked
      else if c.swapForbidden bad then c.refuse stMode
      else c.does [.handover]
    | 2 => c.does [.withdraw]
    | _ => c.refuse stBadParam

/-- No good status word of the Welt within the last three status periods shows its PKR half off, and it is not WLOST
(R340, R506). -/
def Channel.weltRefuses (c : Channel) (t : Nat) (w : Wid) : Bool :=
  let k := if w = .w1 then 8 else 9
  let off := match (c.wi w).pkrOffAt with
    | some a => decide (t < a + 3 * statPeriod)
    | none => false
  !off && !bit c.rd.view k && !bit c.rd.faults k

/-- A receive flow that feeds a demand register named in RD_MAP is not STALE, by the values last committed (R506, R602).
DESIGN CHOICE (safe), log entry 15. -/
def Channel.demandLive (c : Channel) : Bool :=
  let cfg := c.nv.cfg c.nv.cfgActive
  let regs := [c.wf 0x4402 0 6, c.wf 0x4402 6 6, c.wf 0x4402 12 6]
  (List.finRange 256).any fun f =>
    let w := c.getW (0x1C00 + 4 * f.val)
    bit w 11 && !bit w 6 && !(c.net.flows[f]).stale && regs.any fun r => Config.demandFlow cfg f (Fin.ofNat 64 r)

/-- The first block that refuses a power entry (R506). -/
def Channel.refuser (c : Channel) (t : Nat) (shelf : Bool) : Option (BitVec 4) :=
  if c.sd.st != .off then some 1
  else if c.ad.st != .off && c.ad.st != .fault then some 2
  else if c.weltRefuses t .w1 || c.weltRefuses t .w2 then some 3
  else if c.rd.role == .lead && c.demandLive then some 4
  else if shelf && c.net.nt.st == .reference && decide (c.net.nt.dataAge < 8) then some 5
  else if c.sup.warn || c.rst.hold || c.sup.ov then some 6
  else if c.inTrial || c.hp.work.any (fun w => w.kind == .imageCommit) ||
      c.hp.effects.any (fun e => match e with
        | .work w => w.kind == .imageCommit
        | _ => false) then some 7
  else if !c.sec.policy && (c.nv.lc == 2 || c.nv.lc == 3) && c.levelAhead != 0 then some 8
  else if c.mg.bist.isSome then some 9
  else none

/-- POWER_REQUEST for DOZE or SHELF (R506, R507, R510). -/
def Channel.powerAsk (c : Channel) (q : Req) (target : BitVec 2) : Channel × Ans :=
  match c.refuser q.hdr.loc.t (target == 2) with
  | some k =>
    ({ c with pwr := { c.pwr with refuser := k, refused := satInc c.pwr.refused } },
     { status := stMode, result := some (put 0 k.toNat) })
  | none =>
    let e : Entry :=
      { target := target, port := q.hdr.port, tag := q.hdr.tag, session := q.hdr.session, frame := c.exe.seq,
        at_ := q.hdr.loc.t, published := none }
    (({ c with pwr := { c.pwr with entry := some e } }).push [.powerEntry target], pendAns 400)

/-- POWER_REQUEST (R506, R512, R513). -/
def Channel.powerRequest (c : Channel) (q : Req) : Channel × Ans :=
  match fld q.arg 0 2 with
  | 0 =>
    if !c.pwr.doze then (c, okAns)
    else
      let c := { c with pwr := { c.pwr with wakeReq := c.pwr.wakeReq ++ [(q.hdr.port, q.hdr.tag, q.hdr.session)] } }
      (c.wakeDoze q.hdr.loc.t 0, pendAns 400)
  | 1 => if c.pwr.doze then (c, okAns) else c.powerAsk q 1
  | 2 => c.powerAsk q 2
  | _ => c.refuse stBadParam

def execPowerRequest (q : Req) (s : State) : Out :=
  cmd q s 0x22 (fun _ => { level := 1, sems := [0], doze := true }) fun c => c.powerRequest q

end Sys2Proof.Machine
end

