-- ==== Sys2Proof/Machine/EngineCommands.lean ====
section
/-! DEFINITION. The opcodes of the drives, the control engine and the network, and the parameter writes of these blocks
that act by themselves (R455). -/

namespace Sys2Proof.Machine

/-- The end stops do not lie in order (R183). DEDUCED (unsafe), log entry 46. -/
def Channel.stopsBad (c : Channel) : Bool :=
  let lS := c.getW 0x300C
  let lH := c.getW 0x300D
  let rS := c.getW 0x300E
  let rH := c.getW 0x300F
  let mid := F32.mul (F32.add lH rH) 0x3F000000
  !F32.lt lH rH || !(F32.lt lH lS && F32.lt lS mid) || !(F32.lt mid rS && F32.lt rS rH)

/-- The judgement of DRIVE_ENABLE for the steering drive; the end stops count with ES_EN = 1 (R178, R183, R475,
R602). DEDUCED (unsafe), log entry 46. DEDUCED (unsafe), log entry 108. -/
def Channel.steerCheck (c : Channel) : Option Byte :=
  let es := bit (c.getW 0x3000) 5
  let away := c.rd.role == .offline || c.rd.role == .isolated
  if c.sd.st == .opening || c.sd.st == .asc || away || c.lcShut then some stLocked
  else if c.sd.st != .off then none
  else if F32.isZero (c.getW 0x3008) || F32.isZero (c.getW 0x3009) then some stBadParam
  else if es && (F32.isZero (c.getW 0x300B) || c.stopsBad) then some stBadParam
  else none

/-- The judgement of DRIVE_ENABLE for the auxiliary drive; where both apply, LOCKED_BY_STATE is judged before BAD_PARAM
(R209, R475, R602).
DEDUCED (unsafe), log entry 52. DEDUCED (unsafe), log entry 108. -/
def Channel.auxCheck (c : Channel) : Option Byte :=
  let nmax := c.wf 0x3401 0 16
  let nmin := c.wf 0x3401 16 16
  let away := c.rd.role == .offline || c.rd.role == .isolated
  let zero := F32.isZero (c.getW 0x3408) || F32.isZero (c.getW 0x3409) || F32.isZero (c.getW 0x340B)
  let slow := decide (2500000 < c.wf 0x3400 8 7 * (nmax * c.wf 0x3400 0 4))
  if away || c.ad.st == .fault || c.lcShut then some stLocked
  else if c.ad.st != .off then none
  else if zero || decide (100 * nmin < 8 * nmax) || !F32.lt (c.getW 0x3411) (c.getW 0x3410) ||
      !curveValid (c.ad.curvePend.getD c.ad.curve) || slow then some stBadParam
  else none

def grpArg (a : Word) : Grp := if bit a 0 then .aux else .steer
def grpSem (g : Grp) : Fin 16 := if g = .aux then 7 else 6

/-- DRIVE_ENABLE (R178, R183, R209). -/
def execDriveEnable (q : Req) (s : State) : Out :=
  let g := grpArg q.arg
  cmd q s 0x30 (fun _ => { level := 1, sems := [grpSem g] }) fun c =>
    match (if g = .steer then c.steerCheck else c.auxCheck) with
    | some st => c.refuse st
    | none => c.does [.driveEnable g]

/-- DRIVE_DISABLE (R178, R209). -/
def execDriveDisable (q : Req) (s : State) : Out :=
  let g := grpArg q.arg
  cmd q s 0x31 (fun _ => { level := 1, sems := [grpSem g] }) fun c => c.does [.driveDisable g]

/-- The judgement of a Last curve; of several refusals, a value that is not finite comes first, then the order of the x,
then the range of the n (R216). DEDUCED (unsafe), log entry 52. -/
def Channel.curveCheck (c : Channel) (ws : List Word) : Option Byte :=
  let v := curveOf ws
  let top := F32.ofInt (c.wf 0x3401 0 16)
  let inside (k : Fin 32) : Bool := F32.le 0 v[2 * k.val + 1] && F32.le v[2 * k.val + 1] top
  if !v.all F32.finite then some stRange
  else if !curveValid v then some stBadParam
  else if !(List.finRange 32).all inside then some stRange
  else none

/-- CURVE_LOAD (R216). -/
def execCurveLoad (q : Req) (s : State) : Out :=
  cmd q s 0x34 (fun _ => { level := 2, sems := [7], len := fun n => n == 256 }) fun c =>
    let ws := q.payload.map F32.flush
    match c.curveCheck ws with
    | some st => c.refuse st
    | none => c.does [.curveLoad ws]

/-- The semaphore of a slot's group (R39). -/
def slotSem (n : Nat) : Fin 16 := if n < 16 then 3 else 4

/-- The first word of a program that is refused, with its offset (R458); a word of a persisted parameter is checked
against the program itself. DEDUCED (unsafe), log entry 106. -/
def Channel.progCheck (c : Channel) (n : Nat) (ws : List Word) : Option (Nat × Byte) :=
  let get (id : Nat) : Word :=
    let off := id - loopId n 0
    if loopId n 0 ≤ id ∧ off < 0x2E ∧ kept id then ws.getD off 0 else c.getW id
  (List.range 0x2E).findSome? fun off =>
    let id := loopId n off
    if kept id then (writeCheck get id (ws.getD off 0)).map fun st => (off, st) else none

/-- The working copies of a program (R91, R458). -/
def Channel.putProg (c : Channel) (n : Nat) (ws : List Word) : Channel :=
  (List.range 0x2E).foldl (fun c off =>
    let id := loopId n off
    match pdef id with
    | some d => if d.keep then c.putW id (d.merge (c.getW id) (ws.getD off 0)) else c
    | none => c) c

/-- LOOP_LOAD (R111, R458). -/
def execLoopLoad (q : Req) (s : State) : Out :=
  let n : Fin 32 := Fin.ofNat 32 (fld q.arg 0 5)
  cmd q s 0x40 (fun _ => { level := 2, sems := [slotSem n.val], len := fun k => k == 184 }) fun c =>
    if (c.ce.slots[n]).live || c.starting n then c.refuse stLocked
    else match c.progCheck n.val q.payload with
      | some (off, st) => (c, { status := st, result := some (put 0 off) })
      | none => ((c.putProg n.val q.payload).push [.loopLoad n q.payload], okVal 0)

/-- LOOP_START (R111, R128, R475). -/
def execLoopStart (q : Req) (s : State) : Out :=
  let n : Fin 32 := Fin.ofNat 32 (fld q.arg 0 5)
  cmd q s 0x41 (fun _ => { level := 1, sems := [slotSem n.val] }) fun c =>
    match (if c.lcShut then some stLocked else c.loopStartCheck n) with
    | some st => c.refuse st
    | none => c.does [.loopStart n]

/-- LOOP_STOP (R111). -/
def execLoopStop (q : Req) (s : State) : Out :=
  let n : Fin 32 := Fin.ofNat 32 (fld q.arg 0 5)
  cmd q s 0x42 (fun _ => { level := 1, sems := [slotSem n.val] }) fun c => c.does [.loopStop n]

/-- TRACE_ARM (R146). -/
def execTraceArm (q : Req) (s : State) : Out :=
  let u : Fin 4 := Fin.ofNat 4 (fld q.arg 0 2)
  cmd q s 0x48 (fun _ => { level := 1, sems := [5] }) fun c =>
    let st := (c.ce.trace[u]).st
    if st == .filling || st == .armed || st == .post then c.refuse stBusy else c.does [.traceArm u]

/-- Records of a unit, oldest first, from a first one on. -/
def Channel.traceWords (c : Channel) (t : Nat) (u : Fin 4) (first n : Nat) : List Word :=
  let rs := (c.ce.trace[u]).recs.reverse
  (List.range n).flatMap fun i =>
    match rs[first + i]? with
    | some r => r.vals.toList
    | none => (List.range 8).map fun j => Config.openWord c.id t (8 * i + j)

/-- TRACE_READ (R146). -/
def execTraceRead (q : Req) (s : State) : Out :=
  let u : Fin 4 := Fin.ofNat 4 (fld q.arg 0 2)
  let first := fld q.arg 2 11
  let n := fld q.arg 13 7
  cmd q s 0x49 (fun _ => {}) fun c =>
    if n = 0 || 64 < n then c.refuse stBadParam
    else if (c.ce.trace[u]).st != .done then c.refuse stBusy
    else if 2048 < first + n then c.refuse stRange
    else (c, okData (c.traceWords q.hdr.loc.t u first n))

/-- COMB_LOAD (R404, R459). DEDUCED (unsafe), log entry 107. -/
def Channel.combLoad (c : Channel) (q : Req) : Channel × Ans :=
  let first := fld q.arg 0 14
  let have_ := if first = 0 then [] else c.net.staging.getD []
  let inOrder := first = 0 || (c.net.staging.isSome && have_.length == first)
  if c.net.nt.st != .down then c.refuse stLocked
  else if !inOrder then ({ c with net := { c.net with staging := none } }, refuseAns stBadParam)
  else
    let es := have_ ++ q.payload
    if bit q.arg 31 then ({ c with net := { c.net with staging := none } }).pends q 200 (.comb es)
    else ({ c with net := { c.net with staging := some es } }, okAns)

def execCombLoad (q : Req) (s : State) : Out :=
  cmd q s 0x50 (fun _ => { level := 2, sems := [2], len := fun n => decide (4 ≤ n) && decide (n ≤ 2048) && n % 4 == 0 })
    fun c => c.combLoad q

/-- The judgement of NET_START (R129, R396, R404, R415, R425, R475, R602). DEDUCED (unsafe), log entry 95. -/
def Channel.netCheck (c : Channel) : Option Byte :=
  let cfg := c.getW 0x1040
  let working := (List.finRange 32).any fun k => (c.ce.slots[k]).live || c.starting k
  if c.net.nt.st != .down || c.lcShut then some stLocked
  else if working && cycleMt cfg != cycleMt (c.getA 0x1040) then some stLocked
  else if fld (c.getW 0x1000) 0 6 == 0 || (bit cfg 16 && fld cfg 17 6 == 0) || c.net.loaded.isNone then some stBadParam
  else none

/-- NET_START (R415, R425). -/
def execNetStart (q : Req) (s : State) : Out :=
  cmd q s 0x51 (fun _ => { level := 1, sems := [1] }) fun c =>
    match c.netCheck with
    | some st => c.refuse st
    | none => c.does [.netStart]

/-- NET_STOP (R415). -/
def execNetStop (q : Req) (s : State) : Out :=
  cmd q s 0x52 (fun _ => { level := 1, sems := [1] }) fun c => c.does [.netStop]

/-- LOCKOUT_RESET_REQ (R317, R456). -/
def execLockoutResetReq (q : Req) (s : State) : Out :=
  cmd q s 0x60 (fun _ => { level := 1 }) fun c =>
    if fld q.arg 0 2 = 0 then c.refuse stBadParam else c.does [.lockoutReq (bit q.arg 0) (bit q.arg 1)]

/-- RESULT of CLAIM_STATUS (R456). -/
def Channel.claimStatus (c : Channel) : Word :=
  let sent (x : Wi) : Nat := match x.sent with
    | some w => w.claim.toNat
    | none => 0
  let acc (x : Wi) : Nat := match x.stat with
    | some w => w.accClaim.toNat
    | none => 0
  put 0 (sent c.wi1) ||| put 8 (sent c.wi2) ||| put 16 (acc c.wi1) ||| put 24 (acc c.wi2)

/-- CLAIM_STATUS (R456). -/
def execClaimStatus (q : Req) (s : State) : Out :=
  cmd q s 0x61 (fun _ => { iso := true, doze := true, entry := true }) fun c => (c, okVal c.claimStatus)

/-- A PARAM_WRITE that acts by its write-only bits or by its commit: one value to one ID (R455). -/
def paramCmd (h : Hdr) (s : State) (id : Nat) (v : Word) : Out :=
  cmd ⟨h, put 0 id, 4, [v]⟩ s 0x11 (fun _ => writeSpec id v) fun c => c.paramWrite h id v

/-- CE_RETURN: 1 to CE_CTRL.RETURN of a slot (R138, R152). -/
def execCeReturn (h : Hdr) (slot : Fin 32) (s : State) : Out := paramCmd h s (loopId slot.val 0x0E) 1

/-- RC_CLEAR: 1 to RC_CTRL.CLEAR with FREEZE (R143, R155). -/
def execRcClear (h : Hdr) (inst : Fin 8) (freeze : Bool) (s : State) : Out :=
  paramCmd h s (rcId inst.val 6) (2 ||| flag 0 freeze)

/-- GD_TEST_START: 1 to GD_TEST.START of a group (R249, R256). -/
def execGdTestStart (h : Hdr) (g : Grp) (s : State) : Out := paramCmd h s (grpBase g + 4) 1

/-- MIN_VSUP_RESTART: 1 to SUP_MIN_VSUP.RESTART (R81). -/
def execMinVsupRestart (h : Hdr) (s : State) : Out := paramCmd h s 0x0302 0x80000000

/-- EXE_PEAK_RESTART: 1 to EXE_PEAK.RESTART (R108). -/
def execExePeakRestart (h : Hdr) (s : State) : Out := paramCmd h s 0x7005 0x80000000

/-- FCL_LATCH_CLEAR: 1 to FCL_LATCH.CLEAR (R363, R369). -/
def execFclLatchClear (h : Hdr) (s : State) : Out := paramCmd h s 0x4806 0x80000000

/-- CLR_CNT: 1 to OL_CTRL.CLR_CNT (R397). -/
def execClrCnt (h : Hdr) (s : State) : Out := paramCmd h s 0x1001 1

/-- COMPARE_WRITE: FB_CMP_VALUE or FB_CMP_CFG of a compare channel (R182, R283). -/
def execCompareWrite (h : Hdr) (k : Fin 8) (isValue : Bool) (v : Word) (s : State) : Out :=
  paramCmd h s (0x3D00 + 4 * k.val + (if isValue then 1 else 0)) v

end Sys2Proof.Machine
end

