-- ==== Sys2Proof/Machine/SecurityCommands.lean ====
section
/-! DEFINITION. The opcodes and parameter writes of update, attestation, debug, life cycle and key slots (R455). -/

namespace Sys2Proof.Machine


/-- IMAGE_BEGIN (R490, R492 to R494). -/
def execImageBegin (q : Req) (s : State) : Out :=
  cmd q s 0x80 (fun _ => { level := 2, len := fun n => n == 262, boot := true }) fun c =>
    if c.inTrial then c.refuse stLocked
    else match c.nv.headerCheck q.payload with
      | some st => c.refuse st
      | none => c.pends q 40 (.imageBegin q.payload)

/-- IMAGE_BLOCK (R493). DEDUCED (unsafe), log entry 112. -/
def Channel.imageBlock (c : Channel) (q : Req) : Channel × Ans :=
  let b := fld q.arg 0 10
  match c.nv.partialBank with
  | none => c.refuse stLocked
  | some k =>
    if c.inTrial then c.refuse stLocked
    else if (c.nv.bank k).blocks ≤ b then c.refuse stRange
    else if !bit q.arg 16 then ({ c with sec := { c.sec with staged := some (b, q.payload) } }).pends q 40 .imageStage
    else match c.sec.staged with
      | some (b', ws) =>
        if b' = b then ({ c with sec := { c.sec with staged := none } }).pends q 40 (.imageBlock b (ws ++ q.payload))
        else c.refuse stBadParam
      | none => c.refuse stBadParam

def execImageBlock (q : Req) (s : State) : Out :=
  cmd q s 0x81 (fun _ => { level := 2, len := fun n => n == 2048, boot := true, warn := true }) fun c => c.imageBlock q

/-- IMAGE_COMMIT (R493). DEDUCED (unsafe), log entry 112. -/
def Channel.imageCommit (c : Channel) (q : Req) : Channel × Ans :=
  match c.nv.partialBank with
  | none => c.refuse stLocked
  | some k =>
    let n := (c.nv.bank k).missing.length
    if c.inTrial then c.refuse stLocked
    else if n != 0 then (c, { status := stBadParam, result := some (put 0 n) })
    else c.pends q 3200 .imageCommit

def execImageCommit (q : Req) (s : State) : Out :=
  cmd q s 0x82 (fun _ => { level := 2, boot := true, warn := true }) fun c => c.imageCommit q

/-- A partner says OFFLINE or RESYNC in its newest voting block (R493). -/
def Channel.partnerBusy (c : Channel) : Bool :=
  [c.id.next, c.id.prev].any fun ch =>
    match c.latestOf ch with
    | some v => v.role == 0 || v.role == 1
    | none => false

/-- A new header waits for MRAM: the content of the inactive bank is abandoned (R493). -/
def Channel.headerWaits (c : Channel) : Bool :=
  c.hp.effects.any (fun e => match e with
    | .work w => (match w.kind with
      | .imageBegin _ => true
      | _ => false)
    | _ => false) ||
  c.nv.jobs.any fun j => match j.data with
    | .imageHeader _ => true
    | _ => false

/-- IMAGE_ACTIVATE (R457, R493, R496). DEDUCED (unsafe), log entry 112. -/
def Channel.imageActivate (c : Channel) (q : Req) : Channel × Ans :=
  if c.inTrial || (c.nv.bankIn 2).isNone || c.headerWaits then c.refuse stLocked
  else if !c.sec.recovery && c.rd.level != 4 then c.refuse stMode
  else if c.partnerBusy then c.refuse stBusy
  else c.does [.trial q.hdr.port]

def execImageActivate (q : Req) (s : State) : Out :=
  cmd q s 0x83 (fun _ => { level := 2, boot := true, warn := true }) fun c => c.imageActivate q

/-- The bitmap of missing blocks: bit b mod 8 of byte b / 8 (R493). DEDUCED (unsafe), log entry 113. -/
def bitmapWords (missing : List Nat) : List Word :=
  packWords ((List.range 128).map fun i =>
    (List.range 8).foldl (fun (a : Byte) k => setBit a k (missing.contains (8 * i + k))) 0)

/-- IMAGE_RESUME (R493); a read of the update state that fails is INTERNAL_FAULT (R35, R448).
DESIGN CHOICE (safe), log entry 83. -/
def execImageResume (q : Req) (s : State) : Out :=
  cmd q s 0x84 (fun _ => { level := 2, boot := true, warn := true }) fun c =>
    match c.nv.partialBank with
    | none => c.refuse stLocked
    | some k =>
      if c.inTrial then c.refuse stLocked
      else if Config.mramFails c.id q.hdr.loc.t 0x10050 then (c.raise 8).refuse stInternal
      else (c, okData (bitmapWords (c.nv.bank k).missing))

/-- ATTEST (R479). -/
def execAttest (q : Req) (s : State) : Out :=
  cmd q s 0x90 (fun _ => { len := fun n => n == 32, boot := true }) fun c =>
    if c.nv.lc == 0 || (c.nv.lc == 1 && c.nv.cert.isNone) || c.nv.lc == 5 then c.refuse stLocked
    else c.pends q 200 (.attest q.payload)

/-- DEBUG_CHALLENGE (R472, R483, R486). DEDUCED (unsafe), log entry 114. -/
def Channel.debugChallenge (c : Channel) (q : Req) : Channel × Ans :=
  let level : BitVec 2 := q.arg.setWidth 2
  let slot := (c.sessOf q.hdr).slot
  let persist := bit (c.getW 0x5002) 3
  let lc := c.nv.lc
  let guarded := !c.sec.policy && lc != 0
  if level = 0 || level = 3 then c.refuse stBadParam
  else if guarded && level == 2 && (lc == 2 || lc == 3) then c.refuse stMode
  else if guarded && persist && (lc == 2 || lc == 3) then c.refuse stMode
  else if lc == 0 || (level == 2 && slot != 0) || !c.slotGood slot then c.refuse stDenied
  else if c.sec.trngBad then c.refuse stInternal
  else
    let r := c.trng
    let x : DbgCh := ⟨level, q.hdr.port, q.hdr.session, slot, persist, r.1, q.hdr.loc.t⟩
    ({ r.2 with sec := { r.2.sec with challenge := some x } }, okData r.1)

def execDebugChallenge (q : Req) (s : State) : Out :=
  cmd q s 0x91 (fun _ => { level := 2 }) fun c => c.debugChallenge q

/-- DEBUG_RESPONSE (R483). DEDUCED (unsafe), log entry 114. -/
def Channel.debugResponse (c : Channel) (q : Req) : Channel × Ans :=
  match c.sec.challenge with
  | none => c.refuse stLocked
  | some x =>
    if x.port ≠ q.hdr.port ∨ x.session ≠ q.hdr.session then c.refuse stLocked
    else if x.persist && c.deferring then c.refuse stBusy
    else ({ c with sec := { c.sec with challenge := none } }).pends q 200 (.debugResponse x)

def execDebugResponse (q : Req) (s : State) : Out :=
  cmd q s 0x92 (fun _ => { level := 2, len := fun n => n == 114 }) fun c => c.debugResponse q

/-- LIFECYCLE_ADVANCE (R476, R486). DEDUCED (unsafe), log entry 115. -/
def Channel.lifecycle (c : Channel) (q : Req) : Channel × Ans :=
  let target : BitVec 3 := q.arg.setWidth 3
  match lcPair c.nv.lc target with
  | none => c.refuse stBadParam
  | some slots =>
    if c.rd.level != 4 then c.refuse stMode
    else if !c.sec.policy && c.levelAhead != 0 then c.refuse stMode
    else if !slots (c.sessOf q.hdr).slot then c.refuse stDenied
    else c.pends q 400 (.lifecycle target (c.sessOf q.hdr).slot)

def execLifecycleAdvance (q : Req) (s : State) : Out :=
  cmd q s 0x93 (fun _ => { level := 2, len := fun n => n == 114, warn := true }) fun c => c.lifecycle q

/-- KEY_PROGRAM: SEC_KEY_CTRL with SLOT and PROGRAM (R473, R500). -/
def execKeyProgram (h : Hdr) (slot : BitVec 3) (s : State) : Out := paramCmd h s 0x5004 (put 0 slot.toNat ||| 8)

/-- KEY_REVOKE: SEC_KEY_CTRL with SLOT and REVOKE (R474, R500). -/
def execKeyRevoke (h : Hdr) (slot : BitVec 3) (s : State) : Out := paramCmd h s 0x5004 (put 0 slot.toNat ||| 16)

/-- DEBUG_RELOCK: 1 to SEC_DEBUG.RELOCK, PERSIST_REQ as it stands (R484, R499). -/
def execDebugRelock (h : Hdr) (s : State) : Out :=
  let old := (s.ch h.loc.ch).getW 0x5002 &&& 8
  paramCmd h s 0x5002 (old ||| 0x80)

end Sys2Proof.Machine
end

