-- ==== Sys2Proof/Machine/Completions.lean ====
section
/-! DEFINITION. The end of pending work: signature checks, MRAM block writes, and the resets that commands ask for
(R61, R449, R450, R452, R457, R464, R476, R481, R483, R491, R493, R528 to R532). -/

namespace Sys2Proof.Machine

def portNum (p : Port) : Nat := if p = .hp0 then 0 else 1

/-- A pending session stays closed: SEC_DENIED (R452). -/
def Channel.sessRefuse (c : Channel) (t : Nat) (w : Work) (k : Fin 8) : Channel :=
  let x := (c.port w.port).sess[k]
  let c := if x.st = .challenged && x.challenge.isEmpty then c.setSess w.port k {} else c
  (c.raise 59).complete t w (refuseAns stDenied)

/-- A pending session opens, logged (R452, R530). -/
def Channel.sessAccept (c : Channel) (t : Nat) (w : Work) (k : Fin 8) : Channel :=
  let x := (c.port w.port).sess[k]
  let c := c.setSess w.port k { x with st := .opened, challenge := [], idleAt := t }
  let d := put 24 (portNum w.port) ||| put 16 k.val ||| put 8 x.level.toNat ||| put 0 x.slot.toNat
  (c.logEv t 6 1 [d]).complete t w okAns

/-- The signature of step 2 is checked (R452, R478). DEDUCED (unsafe), log entry 104. -/
def Channel.sessCheck (c : Channel) (t : Nat) (w : Work) (k : Fin 8) (challenge : List Word) : Channel :=
  let x := (c.port w.port).sess[k]
  let waits := x.st == .challenged && x.challenge.isEmpty
  let msg := sessionMsg c.id challenge w.port k x.level x.slot
  if waits && c.verify x.slot "SP9430 SESSION" msg w.sig then c.sessAccept t w k else c.sessRefuse t w k

/-- CONFIG_ACTIVATE ends: the slot is active from the next reset, and every copy of R454 is cleared (R454, R459,
R491); a read that fails is INTERNAL_FAULT (R35, R448). -/
def Channel.configDone (c : Channel) (t : Nat) (w : Work) (slot : Bool) : Channel :=
  if c.cfgLost t slot then (c.raise 8).complete t w (refuseAns stInternal)
  else match c.cfgCheck slot with
  | some (st, r) => c.complete t w { status := st, result := r }
  | none =>
    { c with nv := { c.nv with cfgNext := slot, curve := none, comb := none, loops := Vector.replicate 32 none } }.complete
      t w okAns

/-- IMAGE_COMMIT ends: the bank is VALID, or REJECTED and logged (R493, R530); a read that fails is INTERNAL_FAULT,
and the bank stays PARTIAL (R35, R448). -/
def Channel.imageDone (c : Channel) (t : Nat) (w : Work) : Channel :=
  match c.nv.partialBank with
  | none => c.complete t w (refuseAns stLocked)
  | some k =>
    let b := c.nv.bank k
    if c.bankLost t k then (c.raise 8).complete t w (refuseAns stInternal)
    else if c.nv.imageGood b then
      { c with nv := c.nv.setBank k { b with st := 2 } }.complete t w okAns
    else
      let c := { c with nv := c.nv.setBank k { b with st := 5 } }
      (c.logEv t 5 3 [b.header.getD 2 0, b.header.getD 3 0]).complete t w (refuseAns stDenied)

/-- The frame that publishes what ends now (R449). -/
def Channel.publishing (c : Channel) : Nat := if c.exe.pubDone || c.exe.seq = 0 then c.exe.seq + 1 else c.exe.seq

/-- LIFECYCLE_ADVANCE is accepted: fuses and stores, and the reset (R457, R476, R530). -/
def Channel.lcAccept (c : Channel) (t : Nat) (w : Work) (target : BitVec 3) : Channel :=
  let old := c.nv.lc
  let c := { c with nv := c.nv.advanced c.id target w.sig }
  let c := if old = 1 ∧ target = 2 then c.closeSessions fun s => s.st != .closed && s.level == 3 else c
  let c := c.logEv t 6 4 [put 24 old.toNat ||| put 16 target.toNat]
  let c := if target = 5 then c.revokeAll t else c
  let c := { c with hp := { c.hp with cmdReset := some (c.publishing + 2, w.port) } }
  c.complete t w okAns

/-- The life-cycle message is checked under the slot of the session (R476, R477). -/
def Channel.lcCheck (c : Channel) (t : Nat) (w : Work) (target slot : BitVec 3) : Channel :=
  let msg := lifecycleMsg c.id c.nv.lc target c.nv.lcCount
  if c.verify slot "SP9430 LIFECYCLE" msg w.sig then c.lcAccept t w target
  else c.complete t w (refuseAns stDenied)

/-- A debug response is checked; one that rule G5 refuses by then makes no grant, so that no cell which R487 rules out
is reached (R483, R486, R487). DEDUCED (unsafe), log entry 114. -/
def Channel.debugCheck (c : Channel) (t : Nat) (w : Work) (x : DbgCh) : Channel :=
  if c.g5 0x92 then c.complete t w (refuseAns stMode)
  else if c.verify x.slot "SP9430 DEBUG" (debugMsg c.id x c.nv.lc) w.sig then
    (c.grantDebug t x.level x.persist x.slot).complete t w okAns
  else c.complete t w (refuseAns stDenied)

/-- A signature check ends (R449). -/
def Channel.checkDone (c : Channel) (t : Nat) (w : Work) : Channel :=
  match w.kind with
  | .sessionSig k challenge => c.sessCheck t w k challenge
  | .configActivate slot => c.configDone t w slot
  | .imageCommit => c.imageDone t w
  | .attest nonce => c.complete t w (okData (c.attestation t nonce))
  | .debugResponse x => c.debugCheck t w x
  | .lifecycle target slot => c.lcCheck t w target slot
  | .configLoad _ _ _ | .comb _ | .freezeClear | .imageBegin _ | .imageStage | .imageBlock _ _ => c.complete t w okAns

/-- SIGNATURE_CHECK_DONE: the oldest pending check ends (R449). -/
def Channel.signatureDone (c : Channel) (t : Nat) : Channel :=
  match c.hp.work with
  | [] => c
  | w :: r => { c with hp := { c.hp with work := r } }.checkDone t w

def execSignatureCheckDone (l : At) (s : State) : Out :=
  onCh l.ch s (when (s.ch l.ch).alive fun c => c.signatureDone l.t)

/-- An erase of the freeze region waits (R532). DEDUCED (unsafe), log entry 122. -/
def eraseWaits (js : List MramJob) : Bool := js.any fun j => j.data == .freezeErase

/-- An entry that the freeze region takes: source FAULT with class RECOVERABLE or above, or source RESET (R532). -/
def freezes (e : LogEntry) : Bool :=
  (fld e.head 24 8 == 1 && fld e.d0 24 8 != 0) || fld e.head 24 8 == 3

/-- The slot of the ring after the newest entry's (R528). -/
def Nv.nextSlot (n : Nv) : BitVec 11 := if n.ring.isEmpty || n.ringHead == 2047 then 64 else n.ringHead + 1

/-- An entry is written: into the ring, into the freeze region where it was created since its last clear, and into the
digest (R481, R528 to R532).
DEDUCED (unsafe), log entry 121. DEDUCED (unsafe), log entry 122. -/
def Nv.putLog (n : Nv) (e : LogEntry) : Nv :=
  let late := decide (0 < (e.seq - n.freezeFrom).toNat) && !(e.seq - n.freezeFrom).getLsbD 31
  let copy := freezes e && late && decide (n.freeze.length < 64) && !eraseWaits n.jobs
  let e := if copy then { e with head := e.head ||| put 14 1 } else e
  { n with ring := (e :: n.ring).take 1984, ringHead := n.nextSlot, freeze := if copy then n.freeze ++ [e] else n.freeze,
           digest := hash (n.digest ++ bytesOf (entryWords (some e))) }

/-- A new header: the inactive bank is PARTIAL with every block missing (R493). -/
def Nv.putHeader (n : Nv) (ws : List Word) : Nv :=
  let k := (ws.getD 4 0).toNat
  n.setBank n.inactive { st := 1, header := ws, blocks := k, missing := List.range k, body := [] }

/-- A block of the PARTIAL bank (R493). -/
def Nv.putBlock (n : Nv) (b : Nat) (ws : List Word) : Nv :=
  match n.partialBank with
  | none => n
  | some k =>
    let x := n.bank k
    n.setBank k { x with body := putPiece x.body b ws, missing := x.missing.filter fun i => i != b }

/-- What a block write that has committed leaves in MRAM (R61, R454, R459, R464, R493, R528, R532). -/
def Nv.store (n : Nv) (d : MramData) : Nv :=
  match d with
  | .log e => n.putLog e
  | .latch on => { n with latch := on }
  | .curve pts => { n with curve := some pts }
  | .comb es => { n with comb := some es }
  | .loop slot prog => { n with loops := n.loops.set slot (some prog) }
  | .configChunk slot k ws => n.setCfg slot (putPiece (n.cfg slot) k ws)
  | .imageHeader ws => n.putHeader ws
  | .imageBlock b ws => n.putBlock b ws
  | .freezeErase => { n with freeze := [] }

/-- The command of a block write ends (R449). -/
def Channel.jobDone (c : Channel) (t : Nat) (w : Option Work) (a : Ans) : Channel :=
  match w with
  | some w => c.complete t w a
  | none => c

/-- The attempts of other work ahead of the oldest waiting command after one more attempt (R464). -/
def Nv.passedBy (n : Nv) (j : MramJob) (left : List MramJob) : Nat :=
  if j.work.isNone && left.any fun x => x.work.isSome then n.passed + 1 else 0

/-- The writer goes on to the next block write after an attempt at j, unless writes are deferred (R52, R464). -/
def Channel.nextJob (c : Channel) (j : MramJob) (left : List MramJob) : Channel :=
  let k := c.nv.passedBy j left
  { c with nv := { c.nv with jobs := pickJob k left, passed := k, busy := !left.isEmpty && !c.deferring } }

/-- The first job's attempt ends: commit, retry, or failure after two retries, which leaves the block unwritten (R61,
R448, R464, R538). -/
def Channel.attemptEnd (c : Channel) (t : Nat) (ok : Bool) (j : MramJob) (rest : List MramJob) : Channel :=
  if ok then
    let c := (c.nextJob j rest).bump 11 0
    { c with nv := c.nv.store j.data }.jobDone t j.work okAns
  else if j.tries < 2 then
    let c := c.nextJob j ({ j with tries := j.tries + 1 } :: rest)
    { c with nv := { c.nv with busy := true } }.bump 11 1
  else
    let c := c.nextJob j rest
    { c with nv := c.nv.unwritten j.data }.jobDone t j.work (refuseAns stInternal)

/-- MRAM_WRITE_ATTEMPT_END; a reset that waited takes effect now, before any other attempt starts: a retry that would
have followed is abandoned, and its block is unwritten (R61, R464). -/
def Channel.mramEnd (c : Channel) (t : Nat) (ok : Bool) : Channel :=
  match c.nv.jobs with
  | [] => c
  | j :: rest =>
    let c := c.attemptEnd t ok j rest
    if c.rst.pend.isEmpty then c
    else
      let n := if !ok && j.tries < 2 then c.nv.unwritten j.data else c.nv
      { c with nv := { n with busy := false } }.pendingReset

def execMramWriteAttemptEnd (l : At) (ok : Bool) (s : State) : Out :=
  let c := s.ch l.ch
  onCh l.ch s (when ((c.alive || c.rst.phase == .verify) && c.nv.busy) fun c => c.mramEnd l.t ok)

/-- COMMAND_RESET_EFFECT: at the start of the frame that R457 names. -/
def Channel.commandReset (c : Channel) : Channel :=
  match c.hp.cmdReset with
  | none => c
  | some (n, p) =>
    let due := decide (n ≤ c.exe.seq) || (decide (n = c.exe.seq + 1) && c.exe.ph == .done)
    if !due then c
    else
      { c with hp := { c.hp with cmdReset := none } }.requestReset ⟨.command, false, none, Port.num p⟩

def execCommandResetEffect (l : At) (s : State) : Out :=
  onCh l.ch s (when (s.ch l.ch).alive Channel.commandReset)

end Sys2Proof.Machine
end

