-- ==== Sys2Proof/Machine/ControlEngine.lean ====
section
/-! DEFINITION. The control-engine commands (spec file 04). -/

namespace Sys2Proof.Machine

/-- Bound learning units with a CLEAR pending are cleared at the slot's boundary (R143). -/
def Channel.rcClears (c : Channel) (n : Fin 32) : Channel :=
  c.mapRc fun m r => if r.clearReq && c.af (rcId m.val 0) 0 5 == n.val then { r with bins := [], clearReq := false } else r

/-- The coefficient work of a boundary: fallback switch, head entry, return (R131, R137, R138).
DEDUCED (unsafe), log entry 41. -/
def Channel.boundaryQueue (c : Channel) (t : Nat) (n : Fin 32) : Channel :=
  let c := if (c.ce.slots[n]).oscFallback then
      let c := c.drainQueue n
      c.setSlot n { c.ce.slots[n] with fallback := true, oscFallback := false }
    else c.headEntry t n
  let x := c.ce.slots[n]
  if x.returnPending && x.queue.isEmpty then c.setSlot n { x with fallback := false, returnPending := false } else c

/-- A discontinuity reported before a sample is that sample's: the next report is the next sample's (R142, R143). -/
def Channel.gapTaken (c : Channel) (m : Option (Fin 8)) : Channel :=
  match m with
  | some m => c.setRc m { c.ce.rc[m] with gap := false }
  | none => c

/-- A record received before a boundary serves no later one; the first sample after LOOP_START takes any received since
(R144). -/
def Channel.recPast (c : Channel) (n : Fin 32) : Channel :=
  let x := c.ce.slots[n]
  if x.st = .hold && x.first then c else c.setSlot n { x with leadRec := none }

/-- A tracking slot of a channel that is not LEAD loads the lead's record, or reports its loss (R144). -/
def Channel.track (c : Channel) (n : Fin 32) : Channel :=
  let x := c.ce.slots[n]
  if !bit (c.getA (loopId n.val 0)) 10 || c.rd.role = .lead then c
  else match x.leadRec with
    | some r => c.setSlot n { x with state := r, first := false }
    | none => (c.setSlot n { x with trackLost := true, trackLostCyc := some c.net.nt.cycle }).raise 13

/-- A sample at a boundary: its inputs latched, its passes begun (R120, R127, R144). -/
def Channel.latchSample (c : Channel) (t : Nat) (n : Fin 32) (y r : F32) : Channel :=
  let c := c.track n
  let p := c.evalSample t n y r
  let c := c.gapTaken p.unit
  (c.setSlot n { c.ce.slots[n] with st := .running, pend := some p }).recPast n

/-- A boundary without the inputs that a slot needs (R121, R151). -/
def Channel.holdSample (c : Channel) (n : Fin 32) : Channel :=
  let x := c.ce.slots[n]
  let c := if x.st = .hold then c else (c.setSlot n { x with st := .hold, noInput := true, pend := none }).raise 10
  (c.recPast n).bump 2 1

/-- A sample boundary of a slot that runs or holds (R111, R127). DEDUCED (unsafe), log entry 37. -/
def Channel.boundary (c : Channel) (t : Nat) (n : Fin 32) : Channel :=
  let x := c.ce.slots[n]
  if !x.live || t < x.startAt + eclk 8 then c
  else if x.stopReq then
    let c := c.drainQueue n
    c.setSlot n { c.ce.slots[n] with st := .stopped, stopReq := false, oscFallback := false, pend := none }
  else
    let c := c.setSlot n { x with bAt := some t }
    let c := (c.boundaryQueue t n).rcClears n
    let y := selectInput (c.af (loopId n.val 0) 2 3) [c.input t n 0, c.input t n 1, c.input t n 2, c.input t n 3]
    match y, c.refIn t n with
    | some y, some r => c.latchSample t n y r
    | _, _ => c.holdSample n

/-- SAMPLE_BOUNDARY: the window of a slot starts (R126, R127). -/
def execSampleBoundary (l : At) (slot : Fin 32) (s : State) : Out :=
  let c := s.ch l.ch
  onCh l.ch s (when (c.released && !c.pwr.doze && c.windowDue l.t slot) fun c => c.boundary l.t slot)

/-- The output goes to both routes (R119). -/
def Channel.routeBoth (c : Channel) (t : Nat) (n : Fin 32) (u : F32) : Channel :=
  (c.routeOne t (c.af (loopId n.val 3) 8 8) u).routeOne t (c.af (loopId n.val 3) 16 8) u

/-- The slot routes a torque demand, which the drive engine shares (R119, R174). -/
def Channel.routesTorque (c : Channel) (n : Fin 32) : Bool :=
  c.af (loopId n.val 3) 8 8 == 3 || c.af (loopId n.val 3) 16 8 == 3

/-- A matching sample commits: states, output, learning, detector and traces (R101, R120, R122, R127, R335). -/
def Channel.commitSample (c : Channel) (t : Nat) (n : Fin 32) (p : Sample) : Channel :=
  let x := c.ce.slots[n]
  let rose := x.queueRose
  let halted := c.exe.stopping || c.exe.stopped
  let u := p.st.u1
  let x := { x with pend := none, first := false, state := p.st, nodes := p.nodes, err := p.st.e1, int := p.st.i1,
                    samples := x.samples + 1, out := if halted then x.out else u, queueRose := false }
  let o := c.oscStep n x p.st.e1
  let c := c.setSlot n o.1
  let c := if o.2 then c.oscTrip n o.1 else c
  let c := match p.unit with
    | some m => c.rcCommit m p
    | none => c
  let c := (c.bump 2 0).bump 2 7 p.span
  let c := if p.mixed then c.bump 2 3 else c
  let c := if halted then c else c.routeBoth t n u
  let c := if c.rd.role = .lead && bit (c.getA (loopId n.val 0)) 10 then
      { c with rd := { c.rd with recs := c.rd.recs ++ [⟨n, x.samples.setWidth 16, p.st⟩] } }
    else c
  (List.finRange 4).foldl (fun c k => c.traceSample t n o.2 rose k) c

/-- LOOP_RESULT: 2c + 2 ECLK after the boundary the sample is compared (R101, R122, R127); a difference or a NaN is a
mismatch of kind CE, whose pass-T value the spec leaves open (R106, R115). A disagreement in the sharing of a torque
that it routes raises SD_CMP, and the reaction of R102 follows (R159). DESIGN CHOICE (safe), log entry 39. -/
def execLoopResult (l : At) (slot : Fin 32) (j : LoopJudge) (s : State) : Out :=
  let c := s.ch l.ch
  match (c.ce.slots[slot]).pend with
  | some p =>
    if c.released && decide (p.at_ + eclk p.span ≤ l.t) then
      if j.upset || p.bad then
        let dt := if j.upset then Config.freeWord s.freeCtr else p.st.u1
        let c := c.setSlot slot { c.ce.slots[slot] with pend := none }
        .next { s.setCh l.ch (c.tdx l.t 1 9 slot.val 0 0 p.st.u1 dt) with
                  freeCtr := if j.upset then s.freeCtr + 1 else s.freeCtr }
      else onCh l.ch s fun c =>
        let c := c.commitSample l.t slot p
        if j.sharing && c.routesTorque slot then (c.raise 14).beginIsolate l.t else c
    else .next s
  | none => .next s

/-- OSC_WINDOW_END: the next window begins; a trip with ACTION ISOLATE raises CE_OSC_FATAL (R136, R137), unless the slot
stopped before the window's end. DEDUCED (safe), log entry 43. DEDUCED (unsafe), log entry 145. -/
def execOscWindowEnd (l : At) (slot : Fin 32) (s : State) : Out :=
  let c := s.ch l.ch
  let x := c.ce.slots[slot]
  let win := c.af (loopId slot.val 0xA) 0 12
  onCh l.ch s (when (c.released && x.live && decide (0 < win) && decide (win ≤ x.oscPos)) fun c =>
    let c' := c.setSlot slot { oscRestart x with oscIsolate := false }
    if x.oscIsolate then c'.raise 12 else c')

/-- A trace unit takes a record (R145, R146). recs is newest first. DESIGN CHOICE (safe), log entry 42. -/
def Channel.traceRecord (c : Channel) (u : Fin 4) (bad : Bool) : Channel :=
  let x := c.ce.trace[u]
  let sel (i : Nat) : F32 :=
    let w := if i < 4 then x.sel0 else x.sel1
    let code := fld w (8 * (i % 4)) 8
    (c.ce.slots[Fin.ofNat 32 (code / 8)]).nodes[Fin.ofNat 8 code]
  let rec_ : TraceRec := ⟨Vector.ofFn fun i => sel i.val, bad⟩
  let pre := fld x.cfg 13 11
  let x : TraceUnit := { x with decim := 0, recs := (rec_ :: x.recs).take 2048, invalid := x.invalid || bad }
  let x : TraceUnit := if x.st = .post then
      { x with postLeft := x.postLeft - 1, trigSeen := false,
               trigIdx := if x.trigSeen then BitVec.ofNat 11 pre else x.trigIdx }
    else x
  let c := c.setTrace u x
  if bad then c.raise 9 else c

/-- DECIM of a unit; 0 stands for 256 (R154). -/
def TraceUnit.every (x : TraceUnit) : Nat := if fld x.cfg 0 8 = 0 then 256 else fld x.cfg 0 8

/-- TRACE_RECORD (R145 to R147). DESIGN CHOICE (safe), log entry 42. -/
def execTraceRecord (l : At) (unit : Fin 4) (parityError : Bool) (s : State) : Out :=
  let c := s.ch l.ch
  let x := c.ce.trace[unit]
  let active := x.st == .filling || x.st == .armed || (x.st == .post && decide (0 < x.postLeft))
  onCh l.ch s (when (c.released && active && decide (x.every ≤ x.decim)) fun c => c.traceRecord unit parityError)

/-- TRACE_PRE_FILLED (R146). -/
def execTracePreFilled (l : At) (unit : Fin 4) (s : State) : Out :=
  let c := s.ch l.ch
  let x := c.ce.trace[unit]
  onCh l.ch s (when (c.released && x.st == .filling && decide (fld x.cfg 13 11 ≤ x.recs.length)) fun c =>
    c.setTrace unit { x with st := .armed, trigSeen := false })

/-- TRACE_POST_DONE (R146). -/
def execTracePostDone (l : At) (unit : Fin 4) (s : State) : Out :=
  let c := s.ch l.ch
  let x := c.ce.trace[unit]
  onCh l.ch s (when (c.released && x.st == .post && x.postLeft == 0) fun c =>
    c.setTrace unit { x with st := .done })

end Sys2Proof.Machine
end

