-- ==== Sys2Proof/Machine/Fault.lean ====
section
/-! DEFINITION. The fault-collector commands (spec file 11). -/

namespace Sys2Proof.Machine

/-- ERROR_LINE_REGISTER: lines register in one TCLK and the most severe class reaction runs (R355 to R358, R364).
DESIGN CHOICE (safe), log entry 83. -/
def execErrorLineRegister (l : At) (lines : List (Fin 62 × BitVec 16)) (s : State) : Out :=
  onCh l.ch s (when (s.ch l.ch).alive fun c => c.registerLines l.t lines)

/-- A source that the channel's own state shows to assert its line still (R327, R341, R334, R526, R527).
DEDUCED (unsafe), log entry 86. -/
def Channel.asserting (c : Channel) (line : Fin 62) : Bool :=
  if line = 38 then c.wi1.silent || c.wi2.silent || c.wi1.fault || c.wi2.fault
  else if line = 43 then c.snsCond
  else if line = 54 then c.mg.tempOn
  else if line = 55 then c.mg.railOn
  else false

/-- LINE_SOURCE_END: INFO clears, RECOVERABLE starts its quiet period; CHANNEL_FATAL never clears, MODULE_SAFETY
clears with its entry (R356 to R360). DEDUCED (unsafe), log entry 86. -/
def Channel.sourceEnd (c : Channel) (t : Nat) (line : Fin 62) (d : BitVec 16) : Channel :=
  if c.asserting line then c
  else
    let cls := lineClass line.val
    if cls = 0 then c.dropLine line d
    else if cls = 1 then
      let regs := c.fcl.regs.map fun r =>
        if r.is line d && r.quietAt.isNone then { r with quietAt := some t } else r
      { c with fcl := { c.fcl with regs := regs } }
    else c

def execLineSourceEnd (l : At) (line : Fin 62) (detail : BitVec 16) (s : State) : Out :=
  onCh l.ch s (when (s.ch l.ch).alive fun c => (c.sourceEnd l.t line detail).viewSync l.t)

/-- The quiet timer of a registration has reached FCL_CFG.QUIET, in 10 ms; a raise in the TCLK of the expiry governs
(R360, R368). -/
def Channel.quietDue (c : Channel) (t : Nat) (line : Fin 62) (d : BitVec 16) : Bool :=
  let again := c.fcl.raised.any fun p => p.1 == line && (!perDetail line || p.2 == d)
  !again && c.fcl.regs.any fun r => r.is line d &&
    match r.quietAt with
    | some q => decide (q + msec (10 * c.af 0x4804 0 10) ≤ t)
    | none => false

/-- QUIET_TIMER_EXPIRY: a recovery is counted; one above the limit latches the channel (R360 to R363). -/
def execQuietTimerExpiry (l : At) (line : Fin 62) (detail : BitVec 16) (s : State) : Out :=
  let c := s.ch l.ch
  onCh l.ch s (when (c.alive && c.quietDue l.t line detail) fun c => c.recover l.t line detail)

/-- MODULE_SAFETY lines whose entries have all left the view (R359). -/
def Channel.viewLines (c : Channel) : Channel :=
  let v := c.rd.view
  let c := if !bit v 6 && !bit v 7 then c.dropLine 41 0 else c
  let c := if !bit v 8 && !bit v 9 then c.dropLine 42 0 else c
  if !bit v 10 && !bit v 11 then c.dropLine 46 0 else c

/-- FAULT_ABSENCE_EXPIRY: an entry other than CH, SUP and CCL leaves the view (R342). -/
def execFaultAbsenceExpiry (l : At) (b : Fin 24) (s : State) : Out :=
  let c := s.ch l.ch
  let gone := match c.rd.absent[b] with
    | some a => decide (a + 2000000000 ≤ l.t)
    | none => false
  let due := c.alive && decide (6 ≤ b.val) && decide (b.val < 21) && bit c.rd.view b.val && !c.viewCond b.val && gone
  onCh l.ch s (when due fun c =>
    { c with rd := { c.rd with view := setBit c.rd.view b.val false,
                               absent := c.rd.absent.set b none } }.viewLines)

end Sys2Proof.Machine
end

