-- ==== Sys2Proof/Machine/Feedback.lean ====
section
/-! DEFINITION. The feedback commands (spec file 08): encoder, hall, SENT, wheel-speed and analog inputs. -/

namespace Sys2Proof.Machine

/-- The direction of an accepted encoder edge, and the reversal that it may be: the history is cleared and the speed is
+0.0 (R270). DEDUCED (unsafe), log entry 59. -/
def encTurn (e : Enc) (t : Nat) (dir : Bool) : Enc :=
  if e.edged && dir != e.dir then
    { e with dir := dir, dirchg := true, dirchgCnt := satInc e.dirchgCnt, hist := []
             speed := lateSet e.speed t (t + tclk 24) 0 }
  else { e with dir := dir, edged := true }

/-- The speed course of an accepted edge of a valid encoder (R268, R270). -/
def encSpeed (e : Enc) (t stamp avg cpr : Nat) (dir : Bool) : Enc :=
  let e' := { encTurn e t dir with last := some stamp }
  if e.edged && dir != e.dir then e'
  else match e.last with
    | none => e'
    | some l =>
      let h := ((stamp - l) :: e.hist).take avg
      { e' with hist := h, speed := lateSet e.speed t (t + tclk 24) (intervalSpeed dir 12000000000 cpr h) }

/-- An accepted edge of A or B of encoder n, or both in one TCLK (R263, R264, R268, R270).
DEDUCED (unsafe), log entry 59. -/
def Channel.encEdge (c : Channel) (t : Nat) (n : Fin 2) (k : EncEdge) : Channel :=
  let e := c.fb.enc[n]
  match k with
  | .both =>
    let c := (c.setEnc n { e with a := !e.a, b := !e.b, illegal := satInc e.illegal, valid := false,
                                  indexed := false, recov := 0, aAt := some t, bAt := some t }).raise 33
    let c := c.cmpValidity n.val
    if n = 0 then c.encFault else c
  | _ =>
    let a := if k = .aEdge then !e.a else e.a
    let b := if k = .bEdge then !e.b else e.b
    let dir := if k = .aEdge then a != b else a == b
    let now := if dir then e.count + 1 else e.count - 1
    let e := if k = .aEdge then { e with aAt := some t } else { e with bAt := some t }
    let e := { e with a := a, b := b, count := now }
    let c := if n = 0 then c.bump 6 0 else c
    if e.valid then
      let stamp := t / 5 - (2 + c.af 0x3DF0 0 8)
      let e' := encSpeed e t stamp (c.encAvg n) (c.encCpr n) dir
      (c.setEnc n e').cmpMove t n.val (if dir then now - 1 else now + 1) now
    else if e.recov + 1 ≥ 256 then
      (c.setEnc n { encTurn e t dir with valid := true, recov := 0, hist := [], last := none, speed := {} }).cmpValidity
        n.val
    else c.setEnc n { encTurn e t dir with recov := e.recov + 1 }

/-- No pulse shorter than FILT is accepted on the lines that an edge is of (R262). -/
def Channel.encLines (c : Channel) (t : Nat) (n : Fin 2) (k : EncEdge) : Bool :=
  let e := c.fb.enc[n]
  let f := c.af 0x3DF0 0 8
  match k with
  | .aEdge => settled e.aAt f 1 t
  | .bEdge => settled e.bAt f 1 t
  | .both => settled e.aAt f 1 t && settled e.bAt f 1 t

/-- ENCODER_EDGE, at its acceptance (R262, R263). -/
def execEncoderEdge (l : At) (n : Fin 2) (e : EncEdge) (s : State) : Out :=
  onCh l.ch s (when ((s.ch l.ch).inputOn n.val && (s.ch l.ch).encLines l.t n e) fun c => c.encEdge l.t n e)

/-- The distance of a difference of counts from the nearest multiple of CPR. -/
def distMod (d : Int) (cpr : Nat) : Nat :=
  let r := (d % (cpr : Int)).toNat
  min r (cpr - r)

/-- A rising edge of Z (R265, R266, R168, R170). -/
def Channel.zEdge (c : Channel) (t : Nat) (n : Fin 2) : Channel :=
  let e := c.fb.enc[n]
  let diff := (e.count - e.nZ).toInt
  let off := decide (distMod diff (c.encCpr n) ≠ 0)
  let dSd := distMod diff (c.af 0x3001 0 20)
  let c := c.setEnc n { e with nZ := e.count, indexed := e.indexed || e.valid, zAt := some t }
  let c := if e.valid && (!e.indexed || off) then c.angleGap n.val else c
  if n = 0 then c.sdZ (if e.indexed then some dSd else none) else c

/-- Z_INDEX, at the acceptance of a rising edge (R262, R265). -/
def execZIndex (l : At) (n : Fin 2) (s : State) : Out :=
  let c := s.ch l.ch
  onCh l.ch s (when (c.inputOn n.val && settled (c.fb.enc[n]).zAt (c.af 0x3DF0 0 8) 2 l.t) fun c => c.zEdge l.t n)

/-- The speed course of a forward or backward hall edge (R268, R270). -/
def hallSpeed (e : Hall) (t stamp avg : Nat) (dir : Bool) : Hall :=
  let turn := e.edged && dir != e.dir
  let e' := { e with dir := dir, edged := true, last := some stamp, dirchg := e.dirchg || turn }
  if turn then { e' with hist := [], speed := lateSet e.speed t (t + tclk 24) 0 }
  else match e.last with
    | none => e'
    | some l =>
      let h := ((stamp - l) :: e.hist).take avg
      { e' with hist := h, speed := lateSet e.speed t (t + tclk 24) (intervalSpeed dir 2000000000 1 h) }

/-- An accepted change of a hall code (R267). DEDUCED (unsafe), log entry 58. -/
def Channel.hallChange (c : Channel) (t : Nat) (n : Fin 2) (code : BitVec 3) : Channel :=
  let e := c.fb.hall[n]
  if e.prev = some code then c
  else match hallIdx code with
    | none =>
      let c := (c.setHall n { e with code := code, prev := some code, valid := false,
                                     invCode := satInc e.invCode }).raise 34
      if n = 0 then c.sdHallBad t else c
    | some i =>
      match e.prev with
      | none => c.setHall n { e with code := code, prev := some code, valid := true }
      | some p =>
        let e := { e with code := code, prev := some code, valid := true }
        let stamp := t / 5 - (2 + c.af 0x3DF0 8 8)
        let avg := c.af (0x3C20 + n.val * 0x10) 0 3
        match hallIdx p with
        | some j =>
          if (j + 1) % 6 = i then
            let c := c.setHall n (hallSpeed e t stamp avg true)
            if n = 0 then c.sdHallEdge t i else c
          else if (i + 1) % 6 = j then
            let c := c.setHall n (hallSpeed e t stamp avg false)
            if n = 0 then c.sdHallEdge t j else c
          else
            let c := (c.setHall n { e with seqErr := satInc e.seqErr, hist := [], speed := lateNow 0 }).raise 34
            if n = 0 then c.sdHallBad t else c
        | none =>
          let c := (c.setHall n { e with seqErr := satInc e.seqErr, hist := [], speed := lateNow 0 }).raise 34
          if n = 0 then c.sdHallBad t else c

/-- The lines of a hall group on which a code differs from the present one (R262, R267). -/
def Hall.moves (e : Hall) (code : BitVec 3) (i : Fin 3) : Bool := (e.code ^^^ code).getLsbD i.val

/-- No pulse shorter than FILT is accepted on the lines that a change of code is of (R262). -/
def Channel.hallLines (c : Channel) (t : Nat) (n : Fin 2) (code : BitVec 3) : Bool :=
  let e := c.fb.hall[n]
  (List.finRange 3).all fun i => !e.moves code i || settled e.lineAt[i] (c.af 0x3DF0 8 8) 1 t

/-- The acceptances of a change of code. -/
def Channel.hallStamp (c : Channel) (t : Nat) (n : Fin 2) (code : BitVec 3) : Channel :=
  let e := c.fb.hall[n]
  c.setHall n { e with lineAt := Vector.ofFn fun i => if e.moves code i then some t else e.lineAt[i] }

/-- HALL_EDGE, at its acceptance (R262, R267). -/
def execHallEdge (l : At) (n : Fin 2) (code : BitVec 3) (s : State) : Out :=
  onCh l.ch s (when ((s.ch l.ch).inputOn (2 + n.val) && (s.ch l.ch).hallLines l.t n code) fun c =>
    (c.hallStamp l.t n code).hallChange l.t n code)

/-- Nibbles, first most significant, as a number (R273). -/
def nibNat (l : List (BitVec 4)) : Nat := l.foldl (fun a x => a * 16 + x.toNat) 0

/-- The judgement of a complete frame: status, data and CRC nibbles (R272, R273).
DESIGN CHOICE (safe), log entry 19. -/
def Channel.sentFrame (c : Channel) (n : Fin 2) (nibs : List (BitVec 4)) : SentRes :=
  let base := 0x3C40 + n.val * 0x10
  let cfg := c.getA base
  let k := fld cfg 0 3
  let st := nibs.headD 0
  let data := (nibs.drop 1).take k
  let crc := (nibs.drop (k + 1)).headD 0
  if Config.sentCrc (bit cfg 7) data != crc then .crc
  else
    let ch1 := nibNat (data.take 3)
    let ch2 := nibNat (data.drop 3).reverse
    let tol := fld cfg 21 7
    let near (x y : Nat) : Bool := decide (x ≤ y + tol) && decide (y ≤ x + tol)
    let dual := fld cfg 3 2 == 1
    let chk2 := if dual && fld cfg 5 2 == 1 then near ch2 ch1
      else if dual && fld cfg 5 2 == 2 then near ch2 (4095 - ch1) else true
    if st.toNat % 4 &&& fld cfg 11 2 != 0 || !chk2 then .chk
    else
      let raw := if dual then ch1 else nibNat data
      .good (F32.add (F32.mul (c.getA (base + 1)) (F32.ofInt raw)) (c.getA (base + 2))) st

/-- A pulse is a sync pulse: pulse / 56 lies in 480 to 720 TCLK (R272). -/
def isSync (p : Nat) : Bool := decide (480 * 56 ≤ p) && decide (p ≤ 720 * 56)

/-- A falling edge of a SENT line (R272). DEDUCED (unsafe), log entry 60. -/
def Channel.sentEdge (c : Channel) (t : Nat) (n : Fin 2) : Channel :=
  let c := c.sentSettle t n
  let x := c.fb.sent[n]
  let stamp := t / 5 - (2 + c.af 0x3DF0 16 8)
  let cfg := c.getA (0x3C40 + n.val * 0x10)
  let x' := { x with lastEdge := some stamp, fellAt := some t }
  let judge (x : Sent) (r : SentRes) : Sent := { x with judge := x.judge ++ [(t + tclk 40, r)] }
  match x.lastEdge with
  | none => c.setSent n x'
  | some l =>
    let p := stamp - l
    let fail := c.setSent n (judge { x' with ph := .search, nibs := [] } .tick)
    match x.ph with
    | .search => if isSync p then c.setSent n { x' with ph := .nibbles, syncLen := p, nibs := [] } else c.setSent n x'
    | .nibbles =>
      if 23 * x.syncLen ≤ 112 * p ∧ 112 * p ≤ 55 * x.syncLen then
        let v := min 15 ((112 * p + x.syncLen) / (2 * x.syncLen) - 12)
        let nibs := x.nibs ++ [BitVec.ofNat 4 v]
        if nibs.length = fld cfg 0 3 + 2 then
          c.setSent n (judge { x' with ph := if bit cfg 8 then .pause else .sync, nibs := [] } (c.sentFrame n nibs))
        else c.setSent n { x' with nibs := nibs }
      else fail
    | .pause =>
      if 12 * x.syncLen ≤ 56 * p ∧ 56 * p ≤ 768 * x.syncLen then c.setSent n { x' with ph := .sync } else fail
    | .sync =>
      let d := (p : Int) - x.syncLen
      if isSync p && decide (64 * d.natAbs ≤ x.syncLen) then
        c.setSent n { x' with ph := .nibbles, syncLen := p, nibs := [] }
      else fail

/-- SENT_PULSE, at the acceptance of a falling edge (R262, R272). -/
def execSentPulse (l : At) (n : Fin 2) (s : State) : Out :=
  let c := s.ch l.ch
  let due := c.inputOn (4 + n.val) && settled (c.fb.sent[n]).fellAt (c.af 0x3DF0 16 8) 2 l.t
  onCh l.ch s (when due fun c => c.sentEdge l.t n)

/-- SENT_TIMEOUT (R274): TIMEOUT is in 0.1 ms. DEDUCED (unsafe), log entry 60. -/
def execSentTimeout (l : At) (n : Fin 2) (s : State) : Out :=
  onCh l.ch s (when (s.ch l.ch).alive fun c =>
    let c := c.sentSettle l.t n
    let x := c.fb.sent[n]
    if x.lastGood + 100000 * c.af (0x3C40 + n.val * 0x10) 13 8 ≤ l.t then
      let c' := c.setSent n { x with ph := .search, nibs := [], serial := [], valid := false }
      if x.valid then c'.raise 35 else c'
    else c)


/-- W of a wheel-speed input, ms (R278, R289). -/
def Channel.wssW (c : Channel) (n : Fin 4) : Nat := 2 ^ c.af (0x3C80 + n.val * 8) 0 2

/-- A window of a wheel-speed input ends and the next starts: windows are anchored at the mark as class periods are
(R125, R278). -/
def Channel.wssDue (c : Channel) (t : Nat) (n : Fin 4) : Bool :=
  (match c.net.nt.gridAt t with
   | some j => c.everySlots (20 * c.wssW n) j
   | none => false) && (match c.fb.wss[n].winAt with
   | some a => decide (a < t)
   | none => true)

/-- WSS_EDGE, at the acceptance of a rising edge; one in the TCLK of a boundary counts in the new window (R262, R277,
R278). -/
def execWssEdge (l : At) (n : Fin 4) (s : State) : Out :=
  let c := s.ch l.ch
  onCh l.ch s (when (c.inputOn (6 + n.val) && settled (c.fb.wss[n]).roseAt (c.af 0x3DF0 24 8) 2 l.t) fun c =>
    let x := { c.fb.wss[n] with roseAt := some l.t }
    if x.valid then
      let x' := if c.wssDue l.t n then { x with nextCnt := x.nextCnt + 1 } else { x with cnt := x.cnt + 1 }
      (c.setWss n { x' with odo := x.odo + 1 }).cmpMove l.t (2 + n.val) x.odo (x.odo + 1)
    else c.setWss n x)

/-- The end of a window: the speed of a whole one follows 20 TCLK later; the correction of its cycles may shorten it by
200 ppm (R278, R411). DEDUCED (unsafe), log entry 61. -/
def Channel.wssWindow (c : Channel) (t : Nat) (n : Fin 4) : Channel :=
  let x := c.fb.wss[n]
  let w := c.wssW n
  let whole := match x.winAt with
    | some a => decide (a + 1000000 * w ≤ t + 200 * w)
    | none => false
  let v := F32.div (F32.mul (F32.mul (F32.ofInt x.cnt) (c.getA (0x3C81 + n.val * 8))) (F32.ofInt 1000)) (F32.ofInt w)
  let x := { x with cnt := x.nextCnt, nextCnt := 0, clean := x.valid, spValid := x.valid && x.clean && whole
                    winAt := some t }
  c.setWss n (if whole then { x with speed := lateSet x.speed t (t + tclk 20) v } else x)

/-- WSS_WINDOW_END (R278). -/
def execWssWindowEnd (l : At) (n : Fin 4) (s : State) : Out :=
  onCh l.ch s (when ((s.ch l.ch).alive && (s.ch l.ch).wssDue l.t n) fun c => c.wssWindow l.t n)

/-- WSS_CURRENT_TIMER (R276). DEDUCED (unsafe), log entry 61. -/
def execWssCurrentTimer (l : At) (n : Fin 4) (cond : WssCond) (s : State) : Out :=
  onCh l.ch s (when ((s.ch l.ch).inputOn (6 + n.val)) fun c =>
    let x := c.fb.wss[n]
    let c := match cond with
      | .open => (c.setWss n { x with opn := true, valid := false, clean := false, spValid := false,
                                      faults := satInc x.faults }).raise 36
      | .short => (c.setWss n { x with shrt := true, valid := false, clean := false, spValid := false,
                                       faults := satInc x.faults }).raise 36
      | .good => c.setWss n { x with opn := false, shrt := false, valid := true, clean := x.valid && x.clean }
    c.cmpValidity (2 + n.val))

/-- The code of an input voltage in µV (R280). -/
def ainCode (uv : Nat) : Nat := min 65535 (uv * 65536 / 5000000)

/-- One analog input's update (R260, R280). -/
def Channel.ainOne (c : Channel) (n : Fin 8) : Channel :=
  if !c.inputOn (10 + n.val) then c else
  let base := 0x3CC0 + 4 * n.val
  let code := ainCode c.fb.ainSmp[n]
  let ok := decide (c.af base 0 16 ≤ code) && decide (code ≤ c.af base 16 16)
  let v := F32.add (F32.mul (c.getA (base + 1)) (F32.ofInt code)) (c.getA (base + 2))
  let fb := { c.fb with ainVal := c.fb.ainVal.set n v, ainOk := c.fb.ainOk.set n ok,
                        ainLim := c.fb.ainLim.set n (c.fb.ainLim[n] || !ok) }
  let c := { c with fb := fb }
  if ok then c else (c.raise 37).bump 6 3

/-- AIN_UPDATE at TCLK 420 of the period (R279, R280). -/
def execAinUpdate (l : At) (s : State) : Out :=
  let c := s.ch l.ch
  onCh l.ch s (when (c.alive && c.fb.ainPend && decide (c.ad.pwmAt + tclk 420 ≤ l.t)) fun c =>
    let c := (List.finRange 8).foldl (fun c n => c.ainOne n) c
    { c with fb := { c.fb with ainPend := false } })

end Sys2Proof.Machine
end

