-- ==== Sys2Proof/Machine/HostPorts.lean ====
section
/-! DEFINITION. The commands of the host ports: transactions and single accesses to the window (spec file 14). An
access of a row of its own is a transaction of that one access. -/

namespace Sys2Proof.Machine

/-- f on a channel whose port is served. -/
def onPort (l : At) (p : Port) (s : State) (f : Channel → Channel) : Out := onCh l.ch s (when ((s.ch l.ch).portUp p) f)

/-- SPI_TRANSACTION_END (R432 to R436). -/
def execSpiTransactionEnd (l : At) (p : Port) (len : SpiLen) (instr : Byte) (words : List Word) (crc : Byte) (s : State) :
    Out :=
  onPort l p s fun c => c.spiEnd p l.t len instr words crc

/-- SIDE_EFFECT_FINAL: 10 µs without a transaction (R435). -/
def execSideEffectFinal (l : At) (p : Port) (s : State) : Out :=
  onPort l p s (fun c => if (c.port p).lastAt + usec 10 ≤ l.t then c.setPort p (c.port p).settle else c)

/-- CMD_FIFO_WRITE (R442 to R446). -/
def execCmdFifoWrite (l : At) (p : Port) (words : List Word) (s : State) : Out :=
  onPort l p s fun c => (c.transact p l.t false).cmdWrite p l.t words

/-- REPLY_FIFO_READ: n words are read at 0x09 (R435, R437, R445). -/
def execReplyFifoRead (l : At) (p : Port) (n : Nat) (s : State) : Out :=
  onPort l p s fun c => (c.spiRead p l.t 0x09 n).2

/-- REWIND (R435). -/
def execRewind (l : At) (p : Port) (s : State) : Out := onPort l p s fun c => c.transact p l.t true

/-- HOST_RESET (R451, R463). -/
def execHostReset (l : At) (p : Port) (s : State) : Out :=
  onPort l p s fun c => (c.transact p l.t false).hostReset p

/-- RELEASE_SEM (R440). -/
def execReleaseSem (l : At) (p : Port) (s : State) : Out :=
  onPort l p s fun c => (c.transact p l.t false).releaseSem p

/-- SEM_WRITE (R440, R441). -/
def execSemWrite (l : At) (p : Port) (k : Fin 16) (v : Word) (contended : Bool) (s : State) : Out :=
  onPort l p s fun c => (c.transact p l.t false).semWrite p l.t k v contended

/-- DOORBELL_RING (R461). -/
def execDoorbellRing (l : At) (p : Port) (v : Word) (s : State) : Out :=
  onPort l p s fun c => (c.transact p l.t false).winWrite p l.t 0x20 v

/-- MB_DATA_WRITE (R460, R462). -/
def execMbDataWrite (l : At) (p : Port) (v : Word) (s : State) : Out :=
  onPort l p s fun c => (c.transact p l.t false).mbWrite p v

/-- MB_DATA_READ (R435, R460). -/
def execMbDataRead (l : At) (p : Port) (s : State) : Out := onPort l p s fun c => (c.spiRead p l.t 0x29 1).2

/-- LOCK_U_READ (R441, R462). -/
def Channel.lockAccess (c : Channel) (p : Port) (t : Nat) (contended : Bool) : Channel :=
  let r := (c.transact p t false).lockRead p t contended
  let x := r.2.port p
  r.2.setPort p { x with sdo := [r.1], sdoCrc := crc8Bytes ((0x30 : Byte) :: bytesOf [r.1]) }

def execLockURead (l : At) (p : Port) (contended : Bool) (s : State) : Out :=
  onPort l p s fun c => c.lockAccess p l.t contended

/-- LOCK_U_WRITE (R462). -/
def execLockUWrite (l : At) (p : Port) (v : Word) (s : State) : Out :=
  onPort l p s fun c => (c.transact p l.t false).lockWrite p v

/-- WINDOW_REGISTER_WRITE (R437, R438). -/
def execWindowRegisterWrite (l : At) (p : Port) (addr : BitVec 7) (v : Word) (s : State) : Out :=
  onPort l p s fun c => c.spiWrite p l.t (0x80 ||| addr.setWidth 8) [v]

/-- WO_REGISTER_READ: a register that is write-only as a whole reads 0 and sets ADDR_ERR (R437). -/
def execWoRegisterRead (l : At) (p : Port) (addr : BitVec 7) (s : State) : Out :=
  onPort l p s fun c => if addr == 0x08 || addr == 0x20 then (c.spiRead p l.t (addr.setWidth 8) 1).2 else c

/-- SESSION_IDLE_TIMEOUT: IDLE_TMO minutes without a command close a raised session (R451). -/
def execSessionIdleTimeout (l : At) (p : Port) (k : Fin 8) (s : State) : Out :=
  let c := s.ch l.ch
  let x := (c.port p).sess[k]
  let due := c.alive && x.st == .opened && decide (2 ≤ x.level) &&
    decide (x.idleAt + 60000000000 * c.af 0x0800 24 8 ≤ l.t)
  onCh l.ch s (when due fun c => c.setPort p { c.port p with sess := (c.port p).sess.set k {} })

/-- CHALLENGE_EXPIRY: 10 s after a challenge was issued (R452, R483). -/
def execChallengeExpiry (l : At) (of : ChallengeOf) (s : State) : Out :=
  let c := s.ch l.ch
  match of with
  | .session p k =>
    let x := (c.port p).sess[k]
    let due := c.alive && x.st == .challenged && !x.challenge.isEmpty && decide (x.chAt + 10000000000 ≤ l.t)
    onCh l.ch s (when due fun c => c.setPort p { c.port p with sess := (c.port p).sess.set k {} })
  | .debug =>
    let due := c.alive && (match c.sec.challenge with
      | some x => decide (x.at_ + 10000000000 ≤ l.t)
      | none => false)
    onCh l.ch s (when due fun c => { c with sec := { c.sec with challenge := none } })

end Sys2Proof.Machine
end

