-- ==== Sys2Proof/Machine/BistOps.lean ====
section
/-! DEFINITION. What built-in tests mark as unusable, and what follows for the rest of the channel (R30, R32, R341,
R536, R537, R545). -/

namespace Sys2Proof.Machine

/-- The bits of BI_UNUSABLE that a test judges (R534, R545). -/
def bistMask (test : BitVec 8) : BitVec 15 :=
  match test.toNat with
  | 0x01 => 0x7F
  | 0x10 => 0x180
  | 0x11 => 0x200
  | 0x12 => 0x3C00
  | 0x13 => 0x4000
  | _ => 0

/-- The marks of the parts that failed; a failed feedback input marks the feedback pins (R537, R545). -/
def marksOf (f : TestFails) : BitVec 15 := if f.inputs = 0 then f.parts else f.parts ||| 0x200

/-- Marks after a test: a run that passes clears those of its test, and with those of the feedback pins the inputs that
had failed (R537). -/
def Channel.markParts (c : Channel) (mask bad : BitVec 15) (passed : Bool) : Channel :=
  let old := c.mg.unusable
  { c with mg := { c.mg with unusable := if passed then old &&& ~~~mask else old ||| (bad &&& mask)
                             deadIn := if passed && mask.getLsbD 9 then 0 else c.mg.deadIn } }

/-- A link of the channel to a partner fails its test: it is failed under R332 (R537). -/
def Channel.linkFails (c : Channel) (ch : Ch) : Channel :=
  ((c.setPeer ch { c.peer ch with failed := true }).enterView (cclBit c.id ch)).raise 45

/-- A claim or status lane fails its test: a lane fault (R341, R537). -/
def Channel.laneFails (c : Channel) (w : Wid) : Channel :=
  ((c.setWi w { c.wi w with fault := true }).raise 38).laneFault

/-- The gate-driver link fails its test (R30, R537). -/
def Channel.gdlFails (c : Channel) (t : Nat) : Channel :=
  let c := (c.allGatesOff t).bchCut
  { c with gd := { c.gd with gclkHold := true, configured := false, pisOk := 0 } }.raise 32

/-- The pins of a gate-drive group fail (R235, R537). -/
def Channel.gatePinsFail (c : Channel) (g : Grp) : Channel :=
  (c.setGrp g { c.grp g with testFail := true }).raise 27 (grpDetail g)

/-- f where a part has failed. -/
def whenBit (bad : BitVec 15) (k : Nat) (f : Channel → Channel) (c : Channel) : Channel :=
  if bad.getLsbD k then f c else c

/-- What follows from the links that fail the interconnect test (R537). -/
def Channel.linksFail (c : Channel) (t : Nat) (bad : BitVec 15) : Channel :=
  let c := whenBit bad 0 (fun c => c.gdlFails t) c
  let c := whenBit bad 1 (fun c => c.linkFails c.id.next) c
  let c := whenBit bad 2 (fun c => c.linkFails c.id.prev) c
  let c := whenBit bad 3 (fun c => c.laneFails .w1) c
  let c := whenBit bad 4 (fun c => c.laneFails .w2) c
  let c := whenBit bad 5 (fun c => c.laneFails .w1) c
  whenBit bad 6 (fun c => c.laneFails .w2) c

/-- Feedback inputs whose pins fail their test stay invalid, and their lines are raised (R264, R267, R274, R276, R280,
R537). DEDUCED (unsafe), log entry 123. -/
def Channel.inputsFail (c : Channel) (t : Nat) (bad : BitVec 18) : Channel :=
  let hit (a b : Nat) : Bool := (List.range (b - a)).any fun k => bad.getLsbD (a + k)
  let line (x : Bool) (l : Fin 62) (c : Channel) : Channel := if x then c.raise l else c
  let c := { c with fb := c.fb.without bad, mg := { c.mg with deadIn := c.mg.deadIn ||| bad } }
  let c := line (hit 10 18) 37 (line (hit 6 10) 36 (line (hit 4 6) 35 (line (hit 2 4) 34 (line (hit 0 2) 33 c))))
  let c := (List.range 6).foldl (fun c src => c.cmpValidity src) c
  let c := if bad.getLsbD 0 then c.encFault else c
  if bad.getLsbD 2 then c.sdHallBad t else c

/-- What follows from a test's failed parts; a failed Ollia port stays OFF by its mark (R373, R537).
DEDUCED (unsafe), log entry 123. -/
def Channel.partsFail (c : Channel) (t : Nat) (test : BitVec 8) (f : TestFails) : Channel :=
  match test.toNat with
  | 0x01 => c.linksFail t f.parts
  | 0x10 => (whenBit f.parts 8 (fun c => c.gatePinsFail .aux)
      (whenBit f.parts 7 (fun c => c.gatePinsFail .steer) c)).viewSync t
  | 0x11 => c.inputsFail t f.inputs
  | _ => c

end Sys2Proof.Machine
end

