-- ==== Sys2Proof/Machine/Supply.lean ====
section
/-! DEFINITION. The supply, reset and clock commands (spec file 02). -/

namespace Sys2Proof.Machine

/-- Deferral ends: waiting block writes go on, then the buffered entries in order, then the lost-entry record
(R54, R363, R531). -/
def Channel.flushLog (c : Channel) (t : Nat) : Channel :=
  let jobs := c.nv.jobs ++ c.log.wait.map fun e => ⟨.log e, 0, none⟩
  let lost := c.log.lostNow
  let c := { c with nv := { c.nv with jobs := jobs, busy := !jobs.isEmpty },
                    log := { c.log with wait := [], lostNow := 0 } }
  if lost = 0 then c else c.logEv t 9 2 [put 16 lost]

/-- VSUP_WARN_ENTER (R51 to R53, R66). DESIGN CHOICE (unsafe), log entry 25. -/
def Channel.warnEnter (c : Channel) (t : Nat) : Channel :=
  if !c.alive then { c with rst := { c.rst with belowWarn := true } }
  else if c.rst.hold || c.sup.warn then c
  else
    { c with sup := { c.sup with warn := true, warnAt := t, limAt := some t, exitAt := none,
                                 warnMin := c.sup.vsupMv }
             pwr := { c.pwr with entry := c.pwr.entry.map fun e => { e with abort := e.abort || e.published.isNone } } }

def execVsupWarnEnter (l : At) (s : State) : Out := onCh l.ch s fun c => c.warnEnter l.t

/-- The accumulator has reached 100 ms: ISOLATED is requested and SUP raised, once (R53, R55).
DEDUCED (unsafe), log entry 134. -/
def Channel.rideReached (c : Channel) : Channel :=
  if c.sup.rideOver then c else { c with sup := { c.sup with iso := true, rideOver := true } }.raise 3

/-- VSUP_WARN_EXIT: before 100 ms of riding the limit ramps up and the warning is logged (R53, R54); at 100 ms or after,
the request of R55 stands and the limit ends without a ramp; the hold of R66 ends without either.
DESIGN CHOICE (unsafe), log entry 25. DEDUCED (unsafe), log entry 134. -/
def Channel.warnExit (c : Channel) (t : Nat) : Channel :=
  if !c.alive then
    { c with rst := { c.rst with belowWarn := false }, sup := { c.sup with exitAt := if c.rst.belowWarn then some t else c.sup.exitAt } }
  else if c.rst.hold then { c with rst := { c.rst with hold := false, belowWarn := false } }.flushLog t
  else if !c.sup.warn then c
  else
    let acc := c.sup.acc + (t - c.sup.warnAt)
    let ridden := decide (acc < msec 100)
    let c := { c with sup := { c.sup with warn := false, acc := acc, exitAt := some t, lim25 := false, limAt := none,
                                          ramp := ridden, rampAt := t } }
    let c := (if ridden then c else c.rideReached).flushLog t
    if ridden then
      let c := c.logEv t 2 1 [put 16 (acc / 1000000) ||| put 0 c.sup.warnMin.toNat]
      { c with sup := { c.sup with warnCnt := satInc c.sup.warnCnt } }
    else c

def execVsupWarnExit (l : At) (s : State) : Out := onCh l.ch s fun c => c.warnExit l.t

/-- RIDE_LIMIT: the accumulator reaches 100 ms (R53, R55). -/
def execRideLimit (l : At) (s : State) : Out :=
  let c := s.ch l.ch
  let due := c.alive && c.sup.warn && decide (msec 100 ≤ c.sup.acc + (l.t - c.sup.warnAt))
  onCh l.ch s (when due Channel.rideReached)

/-- RIDE_CLEAR: 1 s above the rising level (R53). -/
def execRideClear (l : At) (s : State) : Out :=
  let c := s.ch l.ch
  let due := c.alive && !c.sup.warn && (match c.sup.exitAt with
    | some e => decide (e + msec 1000 ≤ l.t)
    | none => false)
  onCh l.ch s (when due fun c => { c with sup := { c.sup with acc := 0, exitAt := none, rideOver := false } })

/-- LIMIT_RAMP_END: 20 ms after the ramp's start (R54). -/
def execLimitRampEnd (l : At) (s : State) : Out :=
  let c := s.ch l.ch
  onCh l.ch s (when (c.alive && c.sup.ramp && decide (c.sup.rampAt + msec 20 ≤ l.t)) fun c =>
    { c with sup := { c.sup with ramp := false } })

/-- OV_CUT_ENTER: the gate-drive supply is cut, PIS opens, the drives wait (R57, R177, R206).
DESIGN CHOICE (unsafe), log entry 25. -/
def Channel.ovEnter (c : Channel) (t : Nat) : Channel :=
  let c := (c.allGatesOff t).bchCut
  let c := { c with sup := { c.sup with ov := true, ovAt := t, cutOver := false },
                    gd := { c.gd with gateSupply := false, asc := false, ascLowAt := none } }
  let c := if c.sd.st = .off then c.pis t false
    else
      let c := c.sdOff t
      { c with sd := { c.sd with ovWait := true, lastLeave := 6 } }
  let c := c.adTakeBack t
  if c.ad.st = .off || c.ad.st = .fault then c
  else
    let c := c.adIdle t .coast
    { c with ad := { c.ad with ovWait := true } }

/-- OV_CUT_ENTER; while the core is not released, the level is kept for its release (R47, R57).
DESIGN CHOICE (unsafe), log entry 25. -/
def Channel.ovRise (c : Channel) (t : Nat) : Channel :=
  if c.alive then (if c.sup.ov then c else c.ovEnter t)
  else { c with rst := { c.rst with aboveOv := c.rst.phase != .unpowered } }

def execOvCutEnter (l : At) (s : State) : Out := onCh l.ch s fun c => c.ovRise l.t

/-- A core is released while VSUP stands above VOV: the cut begins with the release (R47, R57).
DESIGN CHOICE (unsafe), log entry 25. -/
def Channel.ovAtRelease (c : Channel) (t : Nat) : Channel :=
  if c.rst.aboveOv then { c with rst := { c.rst with aboveOv := false } }.ovEnter t else c

/-- OV_CUT_EXIT within 100 ms: the drives return under a limit that ramps up (R58, R177, R206).
DEDUCED (unsafe), log entry 135. -/
def Channel.ovExit (c : Channel) (t : Nat) : Channel :=
  let dur := (t - c.sup.ovAt) / 100000
  let c := { c with sup := { c.sup with ov := false, ramp := true, rampAt := t, ovCnt := satInc c.sup.ovCnt },
                    gd := { c.gd with gateSupply := true } }
  let c := if !c.sd.ovWait then c
    else if c.gd.grpS.testBusy then { c with sd := { c.sd with ovWait := false, pendEnable := true } }
    else c.sdClosing t
  let c := if c.ad.ovWait then
      let c := c.adIdle t .catch
      { c with ad := { c.ad with ovWait := false } }
    else c
  c.logEv t 2 2 [put 16 dur]

/-- A cut has lasted 100 ms: SUP is raised, ISOLATED requested, and the drives' waits end, once a cut (R58, R177, R206).
DEDUCED (unsafe), log entry 135. -/
def Channel.cutExpire (c : Channel) (t : Nat) : Channel :=
  if c.sup.cutOver then c
  else
    let c := { c with sup := { c.sup with iso := true, cutOver := true }, sd := { c.sd with ovWait := false } }
    let c := if c.ad.ovWait then c.adOff t else c
    c.raise 3

/-- OV_CUT_EXIT of a cut of 100 ms or more: the gate-drive supply is restored and nothing else (R47, R58).
DEDUCED (unsafe), log entry 135. -/
def Channel.ovLate (c : Channel) (t : Nat) : Channel :=
  let c := c.cutExpire t
  { c with sup := { c.sup with ov := false }, gd := { c.gd with gateSupply := true } }

/-- OV_CUT_EXIT (R47, R58). DESIGN CHOICE (unsafe), log entry 25. -/
def Channel.ovFall (c : Channel) (t : Nat) : Channel :=
  if !c.alive then { c with rst := { c.rst with aboveOv := false } }
  else if !c.sup.ov then c
  else if t < c.sup.ovAt + msec 100 then c.ovExit t
  else c.ovLate t

def execOvCutExit (l : At) (s : State) : Out := onCh l.ch s fun c => c.ovFall l.t

/-- OV_CUT_TIMEOUT: a cut of 100 ms requests ISOLATED and ends the waits (R58, R177, R206). -/
def execOvCutTimeout (l : At) (s : State) : Out :=
  let c := s.ch l.ch
  onCh l.ch s (when (c.alive && c.sup.ov && decide (c.sup.ovAt + msec 100 ≤ l.t)) fun c => c.cutExpire l.t)

/-- Powered: VSUP has not fallen below VOFF since it rose. -/
def Channel.powered (c : Channel) : Bool := c.rst.phase != .unpowered

/-- VSUP_RESET: VSUP below VRST (R47, R603). -/
def execVsupReset (l : At) (s : State) : Out :=
  onLegs l.ch s (when (s.ch l.ch).powered fun c =>
    let c := { c with rst := { c.rst with supLow := true } }.resetNow ⟨.supply, true, none, 0⟩
    { c with rst := { c.rst with belowWarn := true } })

/-- VSUP_POR_RELEASE: an unpowered channel starts with cause POR, and PIN where x_RSTN is low and holds it; a SUPPLY
reset is released (R60, R63, R603, R64). The straps give the channel's own letter at every sampling (R21). -/
def Channel.porRelease (c : Channel) (tm : Bool) : Channel :=
  if c.rst.phase = .unpowered then
    { c with rst := { c.rst with phase := .held, cause := if c.rst.pinLow then 9 else 1, line := 0,
                                 lineValid := false, cmdPort := 0, full := true,
                                 supLow := false, tm := tm } }.sequence
  else { c with rst := { c.rst with supLow := false, tm := tm } }.sequence

def execVsupPorRelease (l : At) (strap : BitVec 2) (tm : Bool) (s : State) : Out :=
  let c := s.ch l.ch
  let due := strap == l.ch.code && (c.rst.phase == .unpowered || (c.rst.phase == .held && c.rst.supLow))
  onCh l.ch s (when due fun c => c.porRelease tm)

/-- VSUP_OFF: the always-on domain loses its state (R603, R537); the level of x_RSTN is its pin's. -/
def Channel.unpower (c : Channel) : Channel :=
  let c := c.cleared true
  { c with
    rst := { phase := .unpowered, strap := c.rst.strap, cause := 0, belowWarn := true, pinLow := c.rst.pinLow }
    clk := { pllLock := false, xtalOk := false, spread := 0 }
    sup := {}
    fb := {}
    mg := {} }

def execVsupOff (l : At) (s : State) : Out := onLegs l.ch s (when (s.ch l.ch).powered Channel.unpower)

/-- RAIL_FAULT (R60). DESIGN CHOICE (unsafe), log entry 25. -/
def execRailFault (l : At) (s : State) : Out :=
  onCh l.ch s (when (s.ch l.ch).powered fun c => (c.resetNow ⟨.rail, true, none, 0⟩).sequence)

/-- PIN_RESET: held while x_RSTN is low; an unpowered channel keeps the level (R60). -/
def Channel.pinReset (c : Channel) : Channel :=
  let c := { c with rst := { c.rst with pinLow := true } }
  if c.powered then c.requestReset ⟨.pin, false, none, 0⟩ else c

def execPinReset (l : At) (s : State) : Out := onCh l.ch s Channel.pinReset

/-- RSTN_RELEASE: the short sequence, or the full one where another cause asked for it (R60, R572). -/
def execRstnRelease (l : At) (tm : Bool) (s : State) : Out :=
  onCh l.ch s (when (s.ch l.ch).rst.pinLow fun c =>
    { c with rst := { c.rst with pinLow := false, tm := tm } }.sequence)

/-- CLOCK_FAILURE: the clock monitor holds the channel in reset with cause FAULT and line CLK (R70, R71).
DESIGN CHOICE (unsafe), log entry 27. -/
def Channel.clockFail (c : Channel) (t : Nat) (xtalLost : Bool) : Channel :=
  { c with clk := { c.clk with pllLock := c.clk.pllLock && xtalLost, xtalOk := c.clk.xtalOk && !xtalLost } }.clockReset t

/-- The clock monitor sees a loss: the clocks run and the flag is set (R69, R70). -/
def Channel.clockSeen (c : Channel) (xtalLost : Bool) : Bool :=
  c.powered && c.rst.phase != .shelf && (if xtalLost then c.clk.xtalOk else c.clk.pllLock)

def execClockFailure (l : At) (xtalLost : Bool) (s : State) : Out :=
  onCh l.ch s (when ((s.ch l.ch).clockSeen xtalLost) fun c => c.clockFail l.t xtalLost)

/-- XTAL_OK (R64, R515). -/
def execXtalOk (l : At) (s : State) : Out :=
  onCh l.ch s fun c =>
    match c.rst.phase with
    | .xtal => { c with clk := { c.clk with xtalOk := true }, rst := { c.rst with phase := .pll } }
    | .wakeXtal => { c with clk := { c.clk with xtalOk := true }, rst := { c.rst with phase := .wakePll } }
    | _ => c

/-- PLL_LOCK: cycle 0 of R65 (R64, R71, R515). -/
def execPllLock (l : At) (s : State) : Out :=
  onCh l.ch s fun c =>
    match c.rst.phase with
    | .pll =>
      { c with clk := { c.clk with pllLock := true }, rst := { c.rst with phase := .interconnect, clkHold := false } }
    | .wakePll => { c with clk := { c.clk with pllLock := true }, rst := { c.rst with phase := .wakeRestore } }
    | _ => c

end Sys2Proof.Machine
end

