-- ==== Sys2Proof/Machine/Power.lean ====
section
/-! DEFINITION. The power states: the end of an entry to DOZE or SHELF, the wake sources, and the release after a wake
(spec file 16). -/

namespace Sys2Proof.Machine

/-- The delays of R508 but the write-back have ended; a queue whose frame has been skipped delays no longer.
DEDUCED (unsafe), log entry 124. -/
def Channel.entryReady (c : Channel) : Bool :=
  let sends := (c.net.nt.st == .sync || c.net.nt.st == .reference) && !c.pwr.doze
  let full (p : Peer) : Bool := p.out.any fun b => b.full
  !(sends && c.net.flows.any fun f => !f.queue.isEmpty && !f.passed) && !full c.hp.toNext && !full c.hp.toPrev &&
    !c.hp.mbu.full && c.nv.jobs.isEmpty

/-- A completion published at once, under the epoch check (R450, R510). -/
def Channel.entryPublish (c : Channel) (t : Nat) (e : Entry) (a : Ans) : Channel :=
  c.deliverDone t (c.replyOf t e.port e.tag e.session a)

/-- A write-back that failed leaves no image (R509, R510). DEDUCED (unsafe), log entry 125. -/
def Channel.entryFail (c : Channel) (t : Nat) (e : Entry) (st : Byte) : Channel :=
  let c := c.entryDrop
  let c := if c.pwr.doze then c else { c with nv := { c.nv with image := none } }
  c.entryPublish t e (refuseAns st)


/-- The image is written or marked, and the completion OK published (R506, R509, R510).
DEDUCED (unsafe), log entry 125. -/
def Channel.entryOk (c : Channel) (t : Nat) (e : Entry) (wb : WriteBack) : Channel :=
  let c := if c.pwr.doze then c.markShelf
    else
      let c := c.writeBack (e.target == 2)
      { c with pwr := { c.pwr with writeback := writeUnits wb } }
  let c := { c with pwr := { c.pwr with entry := some { e with published := some t } } }
  c.entryPublish t e okAns

/-- An entry in its wait for the completion, at CCLK 1,240 of a frame (R510). -/
def Channel.entryAt (c : Channel) (t : Nat) : Option Entry :=
  match c.pwr.entry with
  | none => none
  | some e =>
    if c.alive && e.published.isNone && (c.entryAbort e).isNone && !e.abort && decide (e.frame < c.exe.seq) &&
      decide (c.exe.startAt + 2480 ≤ t) then some e else none

/-- POWER_ENTRY_COMPLETE (R508 to R510). -/
def Channel.entryComplete (c : Channel) (t : Nat) (wb : WriteBack) : Channel :=
  match c.entryAt t with
  | none => c
  | some e =>
    if e.frame + 400 < c.exe.seq || !c.entryReady then c
    else if verified wb || c.pwr.doze then c.entryOk t e wb
    else c.entryFail t e stInternal

def execPowerEntryComplete (l : At) (wb : WriteBack) (s : State) : Out :=
  onCh l.ch s fun c => c.entryComplete l.t wb

/-- POWER_ENTRY_TIMEOUT: 400 frames from the grant (R510). -/
def Channel.entryTimeout (c : Channel) (t : Nat) : Channel :=
  match c.entryAt t with
  | none => c
  | some e => if e.frame + 400 < c.exe.seq then c.entryFail t e stBusy else c

def execPowerEntryTimeout (l : At) (s : State) : Out := onCh l.ch s fun c => c.entryTimeout l.t

/-- The host's read of the completion is final, or 1 ms has passed since it was published (R510). -/
def Channel.clocksStop (c : Channel) (t : Nat) : Bool :=
  match c.pwr.entry with
  | none => false
  | some e =>
    match e.published with
    | none => false
    | some p =>
      let held := (c.port e.port).replies.any fun r => r.tag == e.tag && r.session == e.session
      e.target == 2 && c.alive && !c.halted && !c.pwr.waking && (decide (p + msec 1 ≤ t) || !held)

/-- What a port loses at entry to SHELF (R511). -/
def HPort.shelved (x : HPort) : HPort :=
  let sess := Vector.ofFn fun k : Fin 8 => if k.val = 0 then x.sess[k] else ({} : Sess)
  { x with sess := sess, cmds := [], sampled := [], replies := [], popped := 0, undo := [], used := 0, violSlot := false }

/-- The host interface at entry to SHELF (R511). -/
def Hp.shelved (h : Hp) : Hp :=
  { h with ports := h.ports.map HPort.shelved, sem := Vector.replicate 16 none, lockU := none, work := [], results := [],
           effects := [], publish := [], done := [], cmdReset := none }


/-- The network unit of a channel in SHELF (R373, R503). -/
def NetU.shelved (u : NetU) (gap : Option Nat) : NetU :=
  { u.ended gap with ports := u.ports.map OlPort.stopped }

/-- Every MRAM write that still waits is written (R508). DEDUCED (unsafe), log entry 126. -/
def Nv.drained (n : Nv) : Nv :=
  let js := n.jobs
  js.foldl (fun n j => n.store j.data) { n with jobs := [], busy := false }

/-- PWR_STATUS and the supply legs at entry to SHELF (R505, R510). -/
def Pwr.shelved (p : Pwr) (net : Bool) : Pwr :=
  { p with entry := none, doze := false, shelves := satInc p.shelves, netOn := net, legsOn := false }

/-- The supply levels of a channel that enters SHELF: a warning or a cut that holds ends as a state of the core, and its
level is kept for the release; the accumulator stands (R47, R53, R57). DESIGN CHOICE (unsafe), log entry 25. -/
def Channel.supShelved (c : Channel) (t : Nat) : Channel :=
  let s := c.sup
  { c with rst := { c.rst with belowWarn := s.warn, aboveOv := s.ov }
           sup := { s with acc := if s.warn then s.acc + (t - s.warnAt) else s.acc, warn := false, ramp := false,
                           lim25 := false, limAt := none, ov := false }
           gd := { c.gd with gateSupply := true } }

/-- Clocks, core and gates of SHELF (R30, R503). A reset in SHELF runs the full sequence: no clock runs.
DEDUCED (unsafe), log entry 126. -/
def Channel.shelfClocks (c : Channel) (t : Nat) : Channel :=
  let c := c.gclkLost t
  { c with rst := { c.rst with phase := .shelf, full := true }
           clk := { c.clk with pllLock := false, xtalOk := false, spread := 0 }
           exe := { c.exe with ph := .idle, tcm := [], held := [], drain := [] } }

/-- Entry to SHELF (R503, R505, R510, R511, R530). DEDUCED (unsafe), log entry 126. -/
def Channel.shelfNow (c : Channel) (t : Nat) : Channel :=
  let net := c.netUp
  let c := c.logEv t 4 2 []
  let c := { c with nv := c.nv.drained, hp := c.hp.shelved, net := c.net.shelved (c.gapKept t), pwr := c.pwr.shelved net }
  (c.supShelved t).shelfClocks t

/-- SHELF_CLOCK_STOP (R510). -/
def execShelfClockStop (l : At) (s : State) : Out :=
  let c := s.ch l.ch
  onLegs l.ch s (when (c.clocksStop l.t) fun c => c.shelfNow l.t)

/-- A SHELF entry is published and its clocks still run (R516). -/
def Channel.shelfPending (c : Channel) : Bool :=
  match c.pwr.entry with
  | some e => e.target == 2 && e.published.isSome && c.alive
  | none => false

/-- A wake from SHELF begins; sources of one instant all appear (R505, R513, R515). -/
def Channel.wakeShelf (c : Channel) (t source : Nat) : Channel :=
  if c.rst.phase = .shelf then
    { c with rst := { c.rst with phase := .wakeXtal }
             pwr := { c.pwr with wakeAt := t, lastWake := setBit (0 : BitVec 5) source true, legsOn := true } }
  else if c.rst.phase = .wakeXtal && c.pwr.wakeAt = t then
    { c with pwr := { c.pwr with lastWake := setBit c.pwr.lastWake source true } }
  else c

/-- A wake source cancels a SHELF entry whose clocks still run (R516). -/
def Channel.cancelShelf (c : Channel) (t source : Nat) : Channel :=
  let c := c.entryDrop
  if c.pwr.doze then c.wakeDoze t source
  else { c with pwr := { c.pwr with lastWake := setBit (0 : BitVec 5) source true } }

/-- x_WAKE (R513, R516, R536). -/
def Channel.wakePin (c : Channel) (t : Nat) : Channel :=
  if !bit (c.getA 0x0100) 1 then c
  else if c.mg.bist.isSome && c.alive then c.bistAbort t
  else if c.shelfPending then c.cancelShelf t 1
  else if c.released && c.pwr.doze then c.wakeDoze t 1
  else c.wakeShelf t 1

def execWakePin (l : At) (s : State) : Out := onCh l.ch s fun c => c.wakePin l.t

/-- WAKE_ADDRESS_MATCH: the two bytes after a falling CSN (R513, R514, R516). -/
def Channel.wakeAddress (c : Channel) (t : Nat) (b0 b1 : Byte) : Channel :=
  if !bit (c.getA 0x0100) 0 || b0 != 0xFF || b1.toNat != c.af 0x0100 8 8 then c
  else if c.shelfPending then c.cancelShelf t 2
  else c.wakeShelf t 2

def execWakeAddressMatch (l : At) (b0 b1 : Byte) (s : State) : Out := onCh l.ch s fun c => c.wakeAddress l.t b0 b1

/-- A restore fails: a full reset with cause FAULT and no line (R515). -/
def Channel.wakeFail (c : Channel) : Channel := c.requestReset ⟨.fault, true, none, 0⟩

/-- The wake time in 10 µs (R522). -/
def Channel.wakeTime (c : Channel) (t : Nat) : BitVec 10 := BitVec.ofNat 10 (min 1023 ((t - c.pwr.wakeAt) / 10000))

/-- What every wake does at the release of the core (R513, R515, R517, R522, R530). -/
def Channel.woken (c : Channel) (t : Nat) (img : TcmImage) : Channel :=
  let c := c.seal
  let c := { c with
    exe := { c.exe with tcm := bothHalves img.cells, ph := .done }
    nv := { c.nv with image := none }
    rd := c.rd.woken
    pwr := { c.pwr with doze := false, waking := false, wake := c.wakeTime t } }
  let c := c.logEv t 4 3 [put 24 c.pwr.lastWake.toNat]
  let ok (q : Port × BitVec 8 × BitVec 4) : Reply := c.replyOf t q.1 q.2.1 q.2.2 okAns
  { c with pwr := { c.pwr with wakeReq := [] }
           hp := { c.hp with done := c.hp.done ++ c.pwr.wakeReq.map ok } }

/-- Lines of class CHANNEL_FATAL that hold now: in DOZE they have registered since its start (R512). -/
def Channel.fatalLines (c : Channel) : List (Fin 62) :=
  (c.fcl.regs.filter fun r => r.quietAt.isNone && lineClass r.line.val == 2).map fun r => r.line

/-- The release after DOZE; the reaction to a line that woke the channel follows (R512, R515). -/
def Channel.leaveDoze (c : Channel) (t : Nat) (img : TcmImage) : Channel :=
  let c := c.woken t img
  let ls := c.fatalLines
  if ls.isEmpty then c else c.react t ls

/-- Spread and triangle at the release of the core (R66, R74). DEDUCED (unsafe), log entry 127. -/
def Channel.spreadStart (c : Channel) (t : Nat) : Channel :=
  let c := c.applyRange 0x0200 0x0200
  { c with clk := { c.clk with spread := if c.af 0x0200 0 2 = 0 then 0 else 1, triAt := t } }

/-- The time unit listens where NET_START was in force (R415, R515). -/
def Channel.netWake (c : Channel) (t : Nat) (on : Bool) : Channel :=
  let nt : Nt := { st := if on then .listen else .down, listenAt := t, cycle := c.net.nt.cycle }
  { c with net := { c.net with nt := nt } }.timeStart t

/-- The release after SHELF; with VSUP below the rising VWARN level an ordinary warning begins, since R66 gives its hold
to a release after a reset alone (R51, R251, R319, R515).
DESIGN CHOICE (unsafe), log entry 25. DEDUCED (unsafe), log entry 127. -/
def Channel.leaveShelf (c : Channel) (t : Nat) (img : TcmImage) : Channel :=
  let c := ((c.woken t img).spreadStart t).netWake t c.pwr.netOn
  let c := { c with rst := { c.rst with phase := .run }, wi1 := { c.wi1 with lastGood := t },
                    wi2 := { c.wi2 with lastGood := t } }
  let c := (c.gdlFrame t .toDie true).ovAtRelease t
  if c.rst.belowWarn then { c with rst := { c.rst with belowWarn := false } }.warnEnter t else c

/-- WAKE_RESTORE_DONE: the image is checked against its stored H (R512, R515). -/
def Channel.wakeRestore (c : Channel) (t : Nat) (ok : Bool) : Channel :=
  let due := (c.released && c.pwr.doze && c.pwr.waking) || c.rst.phase == .wakeRestore
  if !due then c
  else match c.nv.image with
    | none => c.wakeFail
    | some img =>
      if !(ok && img.whole) then c.wakeFail else if c.pwr.doze then c.leaveDoze t img else c.leaveShelf t img

def execWakeRestoreDone (l : At) (readOk : Bool) (s : State) : Out := onCh l.ch s fun c => c.wakeRestore l.t readOk

end Sys2Proof.Machine
end

