-- ==== Sys2Proof/Machine/Security.lean ====
section
/-! DEFINITION. Boot: the interconnect test, boot verification and the release of the core (R65, R66, R496, R517); the
end of a trial; key fuses, the TRNG and the Eyelet (spec file 15). -/

namespace Sys2Proof.Machine

/-- The end of the interconnect test: its result, what it marks, and the self-tests of the gate driver (R65, R250,
R537, R545). DEDUCED (unsafe), log entry 130. -/
def Channel.interconnectEnd (c : Channel) (t : Nat) (failed : BitVec 15) (detail : BitVec 16) : Channel :=
  let bad := failed &&& bistMask 1
  let word := if bad = 0 then bistWord 1 2 0 else bistWord 1 3 detail
  let c := { c with rst := { c.rst with phase := .verify }, mg := { c.mg with powerup := word } }
  let c := (c.markParts (bistMask 1) bad (bad == 0)).linksFail t bad
  let c := (c.gdTestStart t .steer).gdTestStart t .aux
  c.logEv t 7 1 [word]

/-- INTERCONNECT_TEST_END (R65). -/
def execInterconnectTestEnd (l : At) (failed : BitVec 15) (detail : BitVec 16) (s : State) : Out :=
  onCh l.ch s (when ((s.ch l.ch).rst.phase == .interconnect) fun c => c.interconnectEnd l.t failed detail)


def Nv.setSt (n : Nv) (b : Bool) (st : BitVec 3) : Nv := n.setBank b { n.bank b with st := st }

/-- What boot verification finds: MRAM as it leaves it, the bank it boots, and the banks it rejects (R496). -/
structure BootPick where
  nv   : Nv
  bank : Option Bool
  bad  : List Bool

/-- The ACTIVE bank, or else the other one if it is VALID and passes (R496). lost: the banks whose read fails (R35). -/
def Nv.pickActive (n : Nv) (lost : Bool → Bool) (bad : List Bool) : BootPick :=
  match n.bankIn 3 with
  | none => ⟨n, none, bad⟩
  | some b =>
    if n.bankGood (n.bank b) && !lost b then ⟨n, some b, bad⟩
    else
      let n := n.setSt b 5
      let o := !b
      if (n.bank o).st = 2 && n.bankGood (n.bank o) && !lost o then ⟨n.setSt o 3, some o, bad ++ [b]⟩ else ⟨n, none, bad ++ [b]⟩

/-- The TRIAL bank if there is one, else the ACTIVE one (R496). DEDUCED (unsafe), log entry 117. -/
def Nv.pickBoot (n : Nv) (lost : Bool → Bool) : BootPick :=
  match n.bankIn 4 with
  | none => n.pickActive lost []
  | some b => if n.bankGood (n.bank b) && !lost b then ⟨n, some b, []⟩ else (n.setSt b 5).pickActive lost [b]

/-- What boot verification picks at an instant (R35, R496). DESIGN CHOICE (safe), log entry 83. -/
def Channel.pickBoot (c : Channel) (t : Nat) : BootPick := c.nv.pickBoot (c.bankLost t)

/-- The log entry of a rejected bank (R530). -/
def Channel.logReject (t : Nat) (c : Channel) (b : Bool) : Channel :=
  let h := (c.nv.bank b).header
  c.logEv t 5 3 [h.getD 2 0, h.getD 3 0]

def vec16 (ws : List Word) : Vector Word 16 := Vector.ofFn fun k => ws.getD k.val 0

/-- The configuration slot that passes: the one to be active, else the other (R491, R496).
DEDUCED (unsafe), log entry 117. -/
def Channel.pickConfig (c : Channel) (t : Nat) : Option Bool :=
  let a := c.nv.cfgNext
  if c.cfgBoots a && !c.cfgLost t a then some a
  else if c.cfgBoots (!a) && !c.cfgLost t (!a) then some (!a) else none

/-- A copy of R454 as the boot reads it: one that meets an uncorrectable word is not restored (R35).
DESIGN CHOICE (safe), log entry 83. -/
def Channel.copyAt {α : Type} (c : Channel) (t i : Nat) (x : Option α) : Option α :=
  if x.isSome && Config.mramFails c.id t i then none else x

/-- A read of the boot meets an uncorrectable word: ECC_MRAM (R35). DESIGN CHOICE (safe), log entry 83. -/
def Channel.bootLoses (c : Channel) (t : Nat) : Bool :=
  [false, true].any (fun b => (c.nv.bank b).st != 0 && (c.nv.bank b).st != 1 && c.bankLost t b) ||
    [false, true].any (c.cfgLost t) || (c.nv.comb.isSome && (c.copyAt t 0x10040 c.nv.comb).isNone) ||
    (c.nv.curve.isSome && (c.copyAt t 0x10041 c.nv.curve).isNone) ||
    (List.finRange 32).any fun n => (c.nv.loops[n]).isSome && (c.copyAt t (0x10020 + n.val) c.nv.loops[n]).isNone

/-- The words of a loop program become the slot's parameters; the slot comes up STOPPED (R112, R114, R454). -/
def Channel.bootLoop (n : Fin 32) (c : Channel) (prog : List Word) : Channel :=
  let prog := storedProg n.val prog
  let c := (List.range (min prog.length 0x2E)).foldl (fun c off =>
    let id := loopId n.val off
    if kept id then (c.putW id (prog.getD off 0)).putA id (prog.getD off 0) else c) c
  let x := c.ce.slots[n]
  c.setSlot n { x with st := .stopped }

/-- The program that a slot comes up with: the copy of R454, else the image's (R112, R454). -/
def Channel.progOf (c : Channel) (t : Nat) (body : Option (List Word)) (n : Fin 32) : Option (List Word) :=
  (c.copyAt t (0x10020 + n.val) c.nv.loops[n]).or
    (body.bind fun b => ((Config.imageLoops b).find? fun x => x.1 == n).map (·.2))

/-- DESIGN CHOICE (safe), log entry 15. -/
def Channel.bootLoops (c : Channel) (t : Nat) (body : Option (List Word)) : Channel :=
  (List.finRange 32).foldl (fun c n =>
    match c.progOf t body n with
    | some p => c.bootLoop n p
    | none => c) c

/-- Comb and Last curve of a boot (R404, R454, R496). DESIGN CHOICE (safe), log entry 15. -/
def Channel.bootTables (c : Channel) (t : Nat) (body : Option (List Word)) : Channel :=
  let comb := (c.copyAt t 0x10040 c.nv.comb).or (body.bind Config.imageComb)
  let curve := (c.copyAt t 0x10041 c.nv.curve).or (body.bind Config.imageCurve)
  let c := { c with net := { c.net with loaded := comb } }
  match curve with
  | some ws => { c with ad := { c.ad with curve := curveOf ws } }
  | none => c

/-- The configuration of a boot: the image's parameters, or reset values with the channel held OFFLINE (R16, R491,
R496). DESIGN CHOICE (safe), log entry 15. DEDUCED (safe), log entry 29. DEDUCED (unsafe), log entry 117. -/
def Channel.bootConfig (c : Channel) (t : Nat) : Channel :=
  match c.pickConfig t with
  | none => { c with img := [], params := [], act := [], sec := { c.sec with cfgOk := false } }
  | some s =>
    let xs := c.nv.cfg s
    let img := imageStore (Config.imageParams (cfgBody xs))
    { c with img := img, params := img, act := img, nv := { c.nv with cfgActive := s, cfgNext := s },
             sec := { c.sec with cfgOk := true, cfgHash := vec16 (cfgHashOf xs) } }

/-- The body of the active configuration image; none where no slot has passed (R496). -/
def Channel.bodyNow (c : Channel) : Option (List Word) :=
  if c.sec.cfgOk then some (cfgBody (c.nv.cfg c.nv.cfgActive)) else none

/-- The debug level after a boot: a PERSIST grant that the policy refuses is dropped, and a SESSION grant that the reset
ended is logged (R484, R488, R530).
DEDUCED (unsafe), log entry 118. -/
def Channel.bootGrant (c : Channel) (t : Nat) : Channel :=
  let policy := bit (c.getA 0x5001) 0
  let c := match c.rst.lost with
    | some (level, slot) => c.logEv t 6 3 [put 24 level.toNat ||| put 8 slot.toNat]
    | none => c
  let c := { c with sec := { c.sec with policy := policy }, rst := { c.rst with lost := none } }
  match c.nv.grant with
  | none => c
  | some (level, slot) =>
    if !policy && (c.nv.lc == 2 || c.nv.lc == 3) then
      let kept := c.sec.level != 0 && !c.sec.scope
      let c := { c with nv := { c.nv with grant := none },
                        sec := if kept then c.sec else { c.sec with level := 0, scope := false, grantSlot := 0 } }
      c.logEv t 6 3 [put 24 level.toNat ||| put 16 1 ||| put 8 slot.toNat]
    else if c.sec.level = 0 then { c with sec := { c.sec with level := level, scope := true, grantSlot := slot } }
    else c

/-- The identity of the booted image (R496, R501, R502). -/
def Channel.bootBank (c : Channel) (b : Bool) : Channel :=
  let x := c.nv.bank b
  { c with sec := { c.sec with booted := b, trial := x.st == 4, recovery := false, fwVer := versionOf x.header,
                               fwHash := vec16 (packWords (hash (headerBytes x.header))) } }

/-- The first boot in MANUFACTURE makes the identity key (R472). -/
def Nv.makeKey (n : Nv) : Nv := if n.lc = 1 && !n.idKey then { n with idKey := true } else n

/-- The entry of the reset that has just ended (R82, R83, R530). -/
def Channel.logReset (c : Channel) (t : Nat) : Channel :=
  let d := c.rst.line.toNat + 64 * b2n c.rst.lineValid + 256 * c.rst.cmdPort.toNat
  c.logEv t 3 1 [put 24 c.rst.cause.toNat ||| put 8 d ||| put 0 (b2n c.sec.booted)]

/-- A trial that failed is reported in the first boot after it, and so is the rejection of its bank (R497, R530). -/
def Channel.logRevert (c : Channel) (t : Nat) : Channel :=
  match c.nv.revert with
  | none => c
  | some (v, rejected) =>
    let d : List Word := [(v >>> 32).setWidth 32, v.setWidth 32]
    let c := ({ c with nv := { c.nv with revert := none } }.raise 60).logEv t 5 2 d
    if rejected then c.logEv t 5 3 d else c

/-- A boot after a power-on reset clears the recovery latch, whatever it boots (R363).
DEDUCED (unsafe), log entry 85. -/
def Channel.porLatch (c : Channel) : Channel :=
  if c.rst.cause.getLsbD 0 then { c with nv := { c.nv with latch := false } } else c

/-- The recovery latch of other resets holds the channel ISOLATED (R363). DEDUCED (unsafe), log entry 85. -/
def Channel.bootLatch (c : Channel) (t : Nat) : Channel :=
  if c.nv.latch then { c with fcl := { c.fcl with latched := true, held := true } }.isolateNow t
  else c

/-- The comparator self-test of a boot (R104). -/
def Channel.bootSelfTest (c : Channel) (t : Nat) (ok : Bool) : Channel :=
  if ok then c
  else
    let c := { c with exe := { c.exe with selfFail := true } }
    if c.exe.stopped then c else c.isolateNow t

/-- A SHELF image restored at a power-up (R517). DEDUCED (unsafe), log entry 127. -/
def Channel.resume (c : Channel) (t : Nat) (img : TcmImage) : Channel :=
  let c := { c with
    exe := { c.exe with tcm := bothHalves img.cells }
    params := img.params, act := img.params
    pwr := { c.pwr with resumed := true, lastWake := 0x10 } }
  let c := if img.net then c.netStart t else c
  c.logEv t 4 3 [put 24 0x10]

/-- The TCM image at a boot: resumed, or invalid; it is resumed only where its hash matches, and no read of it fails
(R35, R516, R517). DEDUCED (safe), log entry 128. DESIGN CHOICE (safe), log entry 83. -/
def Channel.bootImage (c : Channel) (t : Nat) : Channel :=
  let old := c.nv.image
  let c := { c with nv := { c.nv with image := none } }
  match old with
  | none => c
  | some img =>
    if !(c.rst.cause.getLsbD 0 && bit (c.getA 0x0100) 2 && img.shelf) then c
    else if Config.mramFails c.id t 0x10060 then c.raise 8
    else if img.whole then c.resume t img
    else c

/-- The core is released (R66, R74, R341, R524). -/
def Channel.release (c : Channel) (t : Nat) : Channel :=
  let c := { c with rst := { c.rst with phase := .run, relAt := t },
                    wi1 := { c.wi1 with lastGood := t }, wi2 := { c.wi2 with lastGood := t } }
  (c.spreadStart t).timeStart t

/-- RECOVERY: the boot ROM holds the channel OFFLINE (R496). DEDUCED (unsafe), log entry 117. -/
def Channel.enterRecovery (c : Channel) (t : Nat) : Channel :=
  { c with rst := { c.rst with phase := .recovery, relAt := t }, sec := { c.sec with recovery := true },
           nv := { c.nv with image := none } }.timeStart t

/-- What boot verification loads, whatever it boots; low: VSUP stands below the rising VWARN level (R66, R363, R472,
R496). -/
def Channel.bootLoad (c : Channel) (t : Nat) (low : Bool) (bad : List Bool) : Channel :=
  let low := low || c.rst.belowWarn
  let c := { c with nv := c.nv.makeKey, rst := { c.rst with hold := low, belowWarn := low } }.porLatch.bootConfig t
  let c := (c.bootLoops t c.bodyNow).bootTables t c.bodyNow
  let c := bad.foldl (Channel.logReject t) (c.logReset t)
  (c.logRevert t).bootGrant t

/-- BOOT_VERIFICATION_DONE (R35, R47, R66, R104, R363, R496, R517). -/
def Channel.bootDone (c : Channel) (t : Nat) (x : BootEnd) : Channel :=
  let r := c.pickBoot t
  let c := if c.bootLoses t then c.raise 8 else c
  let c := { c with nv := r.nv }
  match r.bank with
  | none => ((c.bootLoad t x.vsupLow r.bad).enterRecovery t).ovAtRelease t
  | some b =>
    let c := ((c.bootBank b).bootLoad t x.vsupLow r.bad).release t
    (((c.bootLatch t).bootSelfTest t x.selfTestOk).bootImage t).ovAtRelease t

def execBootVerificationDone (l : At) (x : BootEnd) (s : State) : Out :=
  onCh l.ch s (when ((s.ch l.ch).rst.phase == .verify) fun c => c.bootDone l.t x)

/-- TRIAL_TIMEOUT: 2,000,000,000 TCLK from the release without STANDBY or LEAD (R497). -/
def execTrialTimeout (l : At) (s : State) : Out :=
  let c := s.ch l.ch
  let due := c.released && c.sec.trial && decide (c.rst.relAt + tclk 2000000000 ≤ l.t)
  onCh l.ch s (when due fun c => c.failTrial l.t)

/-- KEY_PROGRAM_DONE: the PROGRAMMED fuse is blown last (R473, R530). DEDUCED (safe), log entry 120. -/
def Channel.keyDone (c : Channel) (t : Nat) : Channel :=
  match c.sec.keyBusy with
  | none => c
  | some k =>
    let x := c.nv.keys[keyIdx k]
    let c := { c with nv := { c.nv with keys := c.nv.keys.set (keyIdx k) { x with programmed := true } },
                      sec := { c.sec with keyBusy := none } }
    c.logEv t 6 5 [put 24 k.toNat]

def execKeyProgramDone (l : At) (s : State) : Out := onCh l.ch s (when (s.ch l.ch).alive fun c => c.keyDone l.t)

/-- TRNG_HEALTH_FAIL (R472). -/
def execTrngHealthFail (l : At) (s : State) : Out :=
  onCh l.ch s (when (s.ch l.ch).alive fun c => { c with sec := { c.sec with trngBad := true } })

/-- TRNG_HEALTH_PASS (R472). -/
def execTrngHealthPass (l : At) (s : State) : Out :=
  onCh l.ch s (when (s.ch l.ch).alive fun c => { c with sec := { c.sec with trngBad := false } })

/-- The class of an access: 0 ID, 1 OBSERVE, 2 INTRUSIVE, 3 the protected store, 4 what BLANK alone serves (R476, R480,
R482, R483). SEC_DEBUG and SEC_KEY_CTRL act on the store. DESIGN CHOICE (unsafe), log entry 119. -/
def accClass : EyeletAcc → Nat
  | .ident _ => 0
  | .readTcm _ | .readParam _ | .readMem _ => 1
  | .halt | .step _ | .writeTcm _ _ | .writeMem _ _ | .resetReq => 2
  | .writeParam id _ => if id = 0x5002 ∨ id = 0x5004 then 3 else 2
  | .readStore _ => 3
  | .setLevel _ | .fuseRoot => 4

/-- OFFLINE or ISOLATED, both drives OFF (R482). -/
def Channel.quiet (c : Channel) : Bool :=
  (c.rd.role == .offline || c.rd.role == .isolated) && c.sd.st == .off && c.ad.st == .off

/-- The answer to an access: 0 OK, 1 WAIT, 2 DENIED (R480, R482, R483, R485). DESIGN CHOICE (unsafe), log entry 119. -/
def Channel.eyAnswer (c : Channel) (a : EyeletAcc) : BitVec 2 :=
  let k := accClass a
  if k = 0 then 0
  else if k = 3 then 2
  else if c.pwr.doze then 1
  else if k = 4 then (if c.nv.lc = 0 then 0 else 2)
  else if k = 1 then (if c.sec.level = 0 then 2 else 0)
  else if c.sec.level != 2 then 2
  else if c.quiet then 0
  else 1

/-- IDENTIFY words 0, 1 and 5 (R456, R482). -/
def Channel.eyIdent (c : Channel) (t : Nat) (k : Fin 3) : Word :=
  if k = 0 then c.statusView t 0 else if k = 1 then c.statusView t 1 else put 0 c.nv.lc.toNat

/-- The state words of a loop slot in the order of R335. -/
def loopWords (x : LoopState) : List Word := [x.r1, x.e1, x.y1, x.i1, x.w1, x.w2, x.q1, x.q2, x.u1, x.v1]

/-- A state word of a loop slot replaced. -/
def loopPut (x : LoopState) (k : Fin 10) (v : Word) : LoopState :=
  let w (i : Nat) : Word := ((loopWords x).set k.val v).getD i 0
  ⟨w 0, w 1, w 2, w 3, w 4, w 5, w 6, w 7, w 8, w 9⟩

/-- The entry of the log that an access names: of the freeze region, or of the ring by age (R533). -/
def Nv.logAt (n : Nv) (freeze : Bool) (i : Nat) : Option LogEntry := if freeze then n.freeze[i]? else n.ring[i]?

/-- A log entry of eight words (R529). -/
def entryOf (ws : List Word) : LogEntry :=
  let w (i : Nat) : Word := ws.getD i 0
  { seq := w 0, time := w 1, cycle := w 2, head := w 3, d0 := w 4, d1 := w 5, d2 := w 6, d3 := w 7 }

/-- The record of a trace unit that an access names, the oldest first (R145, R146). -/
def TraceUnit.at_ (u : TraceUnit) (i : Nat) : Option TraceRec := if i < u.recs.length then u.recs[u.recs.length - 1 - i]? else none

/-- A word of a memory as it is held; none: the model does not hold it (R482). DESIGN CHOICE (unsafe), log entry 119. -/
def Channel.eyMem (c : Channel) : EyeletMem → Option Word
  | .bank b none k => (c.nv.bank b).header[k.val]?
  | .bank b (some i) k => (chunkOf (c.nv.bank b).body i.val)[k.val]?
  | .config s i k => (chunkOf (c.nv.cfg s) i.val)[k.val]?
  | .image a => c.nv.image.map fun i => (Memory.read i.cells a.val).setWidth 32
  | .log fz i k => (c.nv.logAt fz i.val).map fun e => (entryWords (some e)).getD k.val 0
  | .comb k => c.nv.comb.bind fun ws => ws[k]?
  | .curve k => c.nv.curve.bind fun ws => ws[k.val]?
  | .program n k => (c.nv.loops[n]).bind fun ws => ws[k.val]?
  | .mram _ => none
  | .trace u i k => ((c.ce.trace[u]).at_ i.val).map fun r => r.vals[k]
  | .loop n k => some ((loopWords (c.ce.slots[n]).state).getD k.val 0)
  | .bin m k => some (lookupD (c.ce.rc[m]).bins k.val 0)

/-- A word of a memory written; a word that the model does not hold stays so (R482).
DESIGN CHOICE (unsafe), log entry 119. -/
def Channel.eyPut (c : Channel) (m : EyeletMem) (v : Word) : Channel :=
  let n := c.nv
  let piece (xs : List (Nat × List Word)) (i k : Nat) : List (Nat × List Word) :=
    xs.map fun p => if p.1 = i then (p.1, p.2.set k v) else p
  let row (e : LogEntry) (k : Nat) : LogEntry := entryOf ((entryWords (some e)).set k v)
  match m with
  | .bank b none k => { c with nv := n.setBank b { n.bank b with header := (n.bank b).header.set k.val v } }
  | .bank b (some i) k => { c with nv := n.setBank b { n.bank b with body := piece (n.bank b).body i.val k.val } }
  | .config s i k => { c with nv := n.setCfg s (piece (n.cfg s) i.val k.val) }
  | .image a => { c with nv := { n with image := n.image.map fun i => { i with cells := storeD i.cells a.val (v.setWidth 8) 0 } } }
  | .log true i k => { c with nv := { n with freeze := n.freeze.modify i.val fun e => row e k.val } }
  | .log false i k => { c with nv := { n with ring := n.ring.modify i.val fun e => row e k.val } }
  | .comb k => { c with nv := { n with comb := n.comb.map fun ws => ws.set k v } }
  | .curve k => { c with nv := { n with curve := n.curve.map fun ws => ws.set k.val v } }
  | .program s k => { c with nv := { n with loops := n.loops.set s ((n.loops[s]).map fun ws => ws.set k.val v) } }
  | .mram _ => c
  | .trace u i k =>
    let x := c.ce.trace[u]
    let j := x.recs.length - 1 - i.val
    if i.val < x.recs.length then
      c.setTrace u { x with recs := x.recs.modify j fun r => { r with vals := r.vals.set k v } }
    else c
  | .loop s k => c.setSlot s { c.ce.slots[s] with state := loopPut (c.ce.slots[s]).state k v }
  | .bin m k => c.setRc m { c.ce.rc[m] with bins := storeD (c.ce.rc[m]).bins k.val v 0 }

/-- A write of a register: its bits as a parameter write stores them, with what they start, at once (R482).
DESIGN CHOICE (unsafe), log entry 119. -/
def Channel.eyParam (c : Channel) (t id : Nat) (v : Word) : Channel :=
  match pdef id with
  | none => c
  | some d =>
    let new := d.merge (c.getW id) v
    (c.writeEffects d id v new).foldl (Channel.applyEffect t) (c.putW id new)

/-- A place of MRAM (R34, R36). -/
def inMram : EyeletMem → Bool
  | .trace _ _ _ | .loop _ _ | .bin _ _ => false
  | _ => true

/-- The read of an access meets an uncorrectable word of MRAM (R35). DESIGN CHOICE (safe), log entry 83. -/
def Channel.eyFails (c : Channel) (t : Nat) (a : EyeletAcc) : Bool :=
  match a with
  | .readMem m => inMram m && Config.mramFails c.id t 0x10070
  | _ => false

/-- The data of a read; free: for words that the model does not hold, and for a read that fails (R35, R482).
DESIGN CHOICE (safe), log entry 20. DESIGN CHOICE (unsafe), log entry 119. -/
def Channel.eyRead (c : Channel) (t : Nat) (free : Word) (a : EyeletAcc) : Word :=
  match a with
  | .ident k => c.eyIdent t k
  | .readTcm addr => (Memory.read c.exe.tcm addr).setWidth 32
  | .readParam id => (c.paramRead t id).getD free
  | .readMem m => if c.eyFails t a then free else (c.eyMem m).getD free
  | _ => 0

/-- The level of a BLANK channel, set over the Eyelet: a PERSIST grant of no slot, logged (R483, R530). -/
def Channel.eyLevel (c : Channel) (t : Nat) (lvl : BitVec 2) : Channel :=
  if lvl = 3 then c else if lvl = 0 then c.relock t else c.grantDebug t lvl true 0

/-- A served access takes effect (R60, R475, R476, R482, R483, R530). DESIGN CHOICE (unsafe), log entry 119. -/
def Channel.eyAct (c : Channel) (t : Nat) (a : EyeletAcc) : Channel :=
  match a with
  | .halt => { c with sec := { c.sec with halted := true } }
  | .step stores =>
    if c.sec.halted then
      { c with exe := { c.exe with
          tcm := stores.foldl (fun m x => storeWord m false x.addr.toNat (x.data.setWidth 32)) c.exe.tcm } }
    else c
  | .writeTcm addr v => { c with exe := { c.exe with tcm := if addr < 0x100000 then storeD c.exe.tcm addr v 0 else c.exe.tcm } }
  | .writeParam id v => c.eyParam t id v
  | .writeMem m v => c.eyPut m v
  | .resetReq => c.requestReset ⟨.debug, false, none, 0⟩
  | .setLevel lvl => c.eyLevel t lvl
  | .fuseRoot => { c with nv := { c.nv with lcNext := some 1, rootOk := true } }.logEv t 6 4 [put 16 1]
  | .ident _ | .readTcm _ | .readParam _ | .readMem _ | .readStore _ => c

/-- An access over the Eyelet; in SHELF and out of it without power there is no answer (R35, R482, R485). -/
def Channel.eyelet (c : Channel) (t : Nat) (free : Word) (a : EyeletAcc) : Channel :=
  let ans := c.eyAnswer a
  let data := if ans = 0 then c.eyRead t free a else 0
  let fails := ans = 0 && c.eyFails t a
  let c := { c with sec := { c.sec with ey := ans, eyData := data } }
  let c := if fails then c.raise 8 else c
  if ans = 0 then c.eyAct t a else c

/-- An access whose data the spec leaves to the memory it reads: the model's free value. -/
def opensData (a : EyeletAcc) : Bool :=
  match a with
  | .readMem _ | .readParam _ => true
  | _ => false

/-- EYELET_ACCESS (R482, R485). -/
def execEyeletAccess (l : At) (acc : EyeletAcc) (s : State) : Out :=
  if !(s.ch l.ch).alive then .next s
  else
    let x := s.setCh l.ch ((s.ch l.ch).eyelet l.t (Config.freeWord s.freeCtr) acc)
    .next { x with freeCtr := if opensData acc then s.freeCtr + 1 else s.freeCtr }

end Sys2Proof.Machine
end

