-- ==== Sys2Proof/Machine/Management.lean ====
section
/-! DEFINITION. The sensors, the end of a built-in test, and the instruction sampler (R525 to R527, R534 to R537,
R542). -/

namespace Sys2Proof.Machine

/-- A finite binary32 value lies above n / d. -/
def F32.above (x : F32) (n d : Nat) : Bool :=
  let e := F32.pow2 x
  decide ((n : Int) * 2 ^ (-e).toNat < F32.smant x * d * 2 ^ e.toNat)

/-- A finite binary32 value lies below n / d. -/
def F32.below (x : F32) (n d : Nat) : Bool :=
  let e := F32.pow2 x
  decide (F32.smant x * d * 2 ^ e.toNat < (n : Int) * 2 ^ (-e).toNat)

/-- The nominal value of a rail in mV; none: no rail that R526 judges (R525, R526). -/
def railNominal (k : Nat) : Option Nat :=
  match k with
  | 8 | 9 => some 800
  | 10 => some 900
  | 11 => some 1200
  | 12 => some 1800
  | 13 | 14 | 17 => some 3300
  | 15 => some 2500
  | 16 => some 5000
  | 19 => some 1000
  | _ => none

/-- A rail lies more than 5 % from its nominal value (R526). -/
def railBad (v : Vector F32 22) (k : Fin 22) : Bool :=
  match railNominal k.val with
  | none => false
  | some mv => !F32.finite v[k] || F32.above v[k] (105 * mv) 100000 || F32.below v[k] (95 * mv) 100000

/-- MG_RAIL, raised once while its source asserts it; DETAIL is the sensor (R526). DEDUCED (unsafe), log entry 129. -/
def Channel.railStep (c : Channel) : Channel :=
  match (List.finRange 22).find? (railBad c.mg.sensors) with
  | some k => if c.mg.railOn then c else { c with mg := { c.mg with railOn := true } }.raise 55 (BitVec.ofNat 16 k.val)
  | none => { c with mg := { c.mg with railOn := false } }

/-- Since when a sensor lies above WARN. -/
def hotSince (old : Option Nat) (t : Nat) (hot : Bool) : Option Nat :=
  if hot then (match old with
    | some x => some x
    | none => some t)
  else none

/-- Since when each of sensors 0 to 6 lies above WARN (R527). -/
def Channel.hotStep (c : Channel) (t : Nat) : Channel :=
  let warn := c.af 0x5800 0 8
  let hot := Vector.ofFn fun k : Fin 7 => hotSince c.mg.hot[k] t (F32.above c.mg.sensors[k.val] warn 1)
  { c with mg := { c.mg with hot := hot } }

def hotFor (x : Option Nat) (t : Nat) : Bool :=
  match x with
  | some s => decide (s + msec 10 ≤ t)
  | none => false

/-- MG_TEMP: after 10 ms above WARN; the source ends when every sensor lies below WARN − 5 °C (R527).
DEDUCED (unsafe), log entry 129. -/
def Channel.tempStep (c : Channel) (t : Nat) : Channel :=
  let warn := c.af 0x5800 0 8
  if c.mg.tempOn then
    let cool := (List.finRange 7).all fun k => F32.below c.mg.sensors[k.val] (warn - 5) 1
    { c with mg := { c.mg with tempOn := !cool } }
  else match (List.finRange 7).find? fun k => hotFor c.mg.hot[k] t with
    | some k => { c with mg := { c.mg with tempOn := true } }.raise 54 (BitVec.ofNat 16 k.val)
    | none => c

/-- VSUP as measured at 1 kHz (R54, R79, R81). -/
def Channel.supStep (c : Channel) (mv : BitVec 16) : Channel :=
  let low (a : BitVec 16) : BitVec 16 := if mv < a then mv else a
  { c with sup := { c.sup with vsupMv := mv, minMv := low c.sup.minMv,
                               warnMin := if c.sup.warn then low c.sup.warnMin else c.sup.warnMin } }

/-- SENSOR_UPDATE: once a millisecond; sensor 20 is VSUP_MV in V (R525 to R527, R79). -/
def Channel.sensorUpdate (c : Channel) (t : Nat) (vals : Vector F32 22) (mv : BitVec 16) : Channel :=
  let c := { c with mg := { c.mg with sensors := vals.set 20 (F32.ofFrac mv.toNat 1000) } }
  (((c.supStep mv).railStep).hotStep t).tempStep t

def execSensorUpdate (l : At) (vals : Vector F32 22) (vsupMv : BitVec 16) (s : State) : Out :=
  onCh l.ch s (when (s.ch l.ch).alive fun c => c.sensorUpdate l.t vals vsupMv)

/-- A test has nothing left to run: test 0x02 ends with both self-tests of R249 (R534).
DEDUCED (unsafe), log entry 130. -/
def Channel.bistReady (c : Channel) (test : BitVec 8) : Bool :=
  test != 2 || (!c.gd.grpS.testBusy && !c.gd.grpA.testBusy)

/-- Whether the test has passed: test 0x02 by the result of both groups. -/
def Channel.bistPassed (c : Channel) (test : BitVec 8) (passed : Bool) : Bool :=
  if test = 2 then !c.gd.grpS.testFail && !c.gd.grpA.testFail else passed


/-- What the scan of MRAM raises: a corrected word, or one that cannot be corrected (R35, R534, R537). -/
def Channel.scanLines (c : Channel) (test : BitVec 8) (ok : Bool) (detail : BitVec 16) : Channel :=
  if test != 3 then c else if !ok then c.raise 8 else if detail = 0 then c else c.raise 4

/-- BIST_TEST_END (R536, R537): DETAIL of test 0x03 counts corrected words. DEDUCED (unsafe), log entry 130. -/
def Channel.bistDone (c : Channel) (t : Nat) (passed : Bool) (failed : TestFails) (detail : BitVec 16) : Channel :=
  match c.mg.bist with
  | none => c
  | some (test, port, _) =>
    if !c.bistReady test then c
    else
      let ok := c.bistPassed test passed
      let c := c.bistEnd t test port (if ok then 2 else 3) (if ok && test != 3 then 0 else detail)
      let c := (c.scanLines test ok detail).markParts (bistMask test) (marksOf failed) ok
      if ok then c else c.partsFail t test failed

def execBistTestEnd (l : At) (passed : Bool) (failed : TestFails) (detail : BitVec 16) (s : State) : Out :=
  onCh l.ch s (when (s.ch l.ch).alive fun c => c.bistDone l.t passed failed detail)

/-- SAMPLER_RECORD: while EN is 1 and the buffer is not full (R542, R546). -/
def Channel.sample (c : Channel) (r : SampleRec) : Channel :=
  let xs := c.pct.samples ++ [{ r with info := r.info &&& 0xFFFFFF00 }]
  { c with pct := { c.pct with samples := xs, full := decide (512 ≤ xs.length) } }

def execSamplerRecord (l : At) (r : SampleRec) (s : State) : Out :=
  let c := s.ch l.ch
  let due := c.running && bit (c.getA 0x6002) 0 && !c.pct.full && decide (c.pct.samples.length < 512)
  onCh l.ch s (when due fun c => c.sample r)

end Sys2Proof.Machine
end

