-- ==== Sys2Proof/Machine/ManagementCommands.lean ====
section
/-! DEFINITION. The opcodes and parameter writes of the event log, sensors, built-in test, counters and sampler
(R455). -/

namespace Sys2Proof.Machine

/-- LOG_READ (R533): the entries are taken at the commit. -/
def execLogRead (q : Req) (s : State) : Out :=
  let first := fld q.arg 0 11
  let n := fld q.arg 11 7
  let fz := bit q.arg 31
  cmd q s 0x70 (fun _ => { iso := true, doze := true, entry := true }) fun c =>
    if n = 0 || 64 < n then c.refuse stBadParam
    else if (if fz then 64 else 1984) < first + n then c.refuse stRange
    else c.does [.fill c.hp.results.length (.log fz first n)]

/-- LOG_FREEZE_CLEAR (R532). -/
def execLogFreezeClear (q : Req) (s : State) : Out :=
  cmd q s 0x71 (fun _ => { level := 2, sems := [14], warn := true }) fun c => c.pends q 40 .freezeClear

/-- SENSOR_READ (R525). -/
def execSensorRead (q : Req) (s : State) : Out :=
  let n := fld q.arg 0 5
  cmd q s 0x72 (fun _ => { iso := true, doze := true, entry := true }) fun c =>
    if n = 7 || 21 < n then c.refuse stBadParam else (c, okVal c.mg.sensors[Fin.ofNat 22 n])

def isBistEffect : Effect → Bool
  | .bist _ _ _ => true
  | _ => false

/-- The test numbers of R534. -/
def bistTests : List Nat := [1, 2, 3, 0x10, 0x11, 0x12, 0x13]

/-- BI_ARM arms a test for a session (R535). -/
def Channel.armed (c : Channel) (h : Hdr) (test : Nat) : Bool :=
  match c.mg.arm with
  | some (v, p, k, at_) =>
    v == BitVec.ofNat 32 (0x50494E00 + test) && p == h.port && k == h.session && decide (h.loc.t ≤ at_ + 10000000000)
  | none => false

/-- The refusals of BIST_RUN in their order (R534, R535). DEDUCED (unsafe), log entry 116. -/
def Channel.bistCheck (c : Channel) (h : Hdr) (test : Nat) : Option Byte :=
  let lc := c.nv.lc
  let off := c.sd.st == .off && c.ad.st == .off
  let offOrFault := c.sd.st == .off && (c.ad.st == .off || c.ad.st == .fault)
  let busy := c.mg.bist.isSome || c.hp.effects.any isBistEffect
  if !bistTests.contains test then some stBadParam
  else if test = 2 && c.lcShut then some stDenied
  else if test = 2 && !offOrFault then some stLocked
  else if bistOffline (BitVec.ofNat 8 test) && !(lc == 1 || lc == 3 || lc == 4) then some stDenied
  else if bistOffline (BitVec.ofNat 8 test) && lc == 3 && !(c.rd.level == 4 && c.armed h test) then some stMode
  else if bistOffline (BitVec.ofNat 8 test) && !off then some stLocked
  else if busy then some stBusy
  else none

/-- BIST_RUN (R534, R535): the reply is given when the test starts. -/
def execBistRun (q : Req) (s : State) : Out :=
  let test := fld q.arg 0 8
  cmd q s 0xA0 (fun _ => { level := 2, sems := [14] }) fun c =>
    match c.bistCheck q.hdr test with
    | some st => c.refuse st
    | none => c.does [.bist (BitVec.ofNat 8 test) q.hdr.port q.hdr.session]

/-- The result word of a test; test 0x01 shows its power-up run until it is run again (R536, R545). -/
def Channel.bistResult (c : Channel) (test : Nat) : Word :=
  match c.mg.results.find? fun p => p.1 == test with
  | some p => p.2
  | none => if test = 1 then c.mg.powerup else bistWord (BitVec.ofNat 8 test) 0 0

/-- BIST_RESULT (R536). -/
def execBistResult (q : Req) (s : State) : Out :=
  let test := fld q.arg 0 8
  cmd q s 0xA1 (fun _ => {}) fun c =>
    if !bistTests.contains test then c.refuse stBadParam else (c, okVal (c.bistResult test))

/-- PCT_CONFIG (R539). -/
def execPctConfig (q : Req) (s : State) : Out :=
  let b := fld q.arg 0 4
  let n := (pctBase b).2
  cmd q s 0xB0 (fun _ => { level := 2, sems := [15], len := fun k => decide (12 ≤ b) || k == 4 * n }) fun c =>
    if 12 ≤ b || bit (q.payload.getD (n - 1) 0) 1 then c.refuse stBadParam
    else c.does [.pctConfig b (bit q.arg 4) q.payload]

/-- PCT_READ (R541, R546): live counters at the commit, or a snapshot. -/
def execPctRead (q : Req) (s : State) : Out :=
  let b := fld q.arg 0 4
  cmd q s 0xB1 (fun c => { level := if bit (c.getW 0x6001) 0 then 0 else 2 }) fun c =>
    let i := c.hp.results.length
    if bit q.arg 8 then c.does [.fill i (.snapshot (fld q.arg 10 6))]
    else if 12 ≤ b then c.refuse stBadParam
    else c.does [.fill i (.counters b)]

/-- A record of the sampler as four words; a place not filled since the last start is open (R541, R542). -/
def Channel.sampleWords (c : Channel) (t : Nat) (i : Nat) : List Word :=
  match c.pct.samples[i]? with
  | some r => [r.instr, r.iaddr, r.daddr, r.info]
  | none => (List.range 4).map fun j => Config.openWord c.id t (4 * i + j)

/-- PCT_SAMPLE_READ (R541). -/
def execPctSampleRead (q : Req) (s : State) : Out :=
  let first := fld q.arg 0 9
  let n := fld q.arg 9 8
  cmd q s 0xB2 (fun _ => { level := 2 }) fun c =>
    if n = 0 || 128 < n then c.refuse stBadParam
    else if 512 < first + n then c.refuse stRange
    else (c, okData ((List.range n).flatMap fun i => c.sampleWords q.hdr.loc.t (first + i)))

/-- BI_ARM: the arming value (R535, R545). -/
def execBiArm (h : Hdr) (v : Word) (s : State) : Out := paramCmd h s 0x5C01 v

/-- SAMPLER_ENABLE: EN = 1 with an INTERVAL to PCT_SAMPLE_CFG (R542, R546). -/
def execSamplerEnable (h : Hdr) (interval : BitVec 20) (s : State) : Out :=
  paramCmd h s 0x6002 (1 ||| put 1 interval.toNat)

end Sys2Proof.Machine
end

