-- ==== Sys2Proof/Machine/Ollia.lean ====
section
/-! DEFINITION. The commands of the Ollia ports and of the time unit (spec files 12 and 13). -/

namespace Sys2Proof.Machine

/-- CYCLE_START at the end of the present cycle or of a gap; in RECOVERY the local cycle runs free (R84, R394, R407,
R411, R412, R415, R416, R419, R420). -/
def execCycleStart (l : At) (s : State) : Out :=
  let c := s.ch l.ch
  onCh l.ch s (when (c.alive && l.t == c.cycDue) fun c => if c.released then c.cycleStep l.t else c.newCycle l.t)

/-- Every port is silent. -/
def Channel.portsQuiet (c : Channel) : Bool := allPorts.all fun p => c.olState p == .listen || c.olState p == .off

/-- PORT_ACTIVITY_START: a comma turns a listening port to RX (R373, R376). -/
def Channel.activityStart (c : Channel) (t : Nat) (p : OPort) : Channel :=
  let c := c.netSettle t
  if c.olState p != .listen then c
  else
    let c := c.setOl p { c.ol p with st := .rx, rxAt := t, judged := false, fwdTo := false, skip := false, hdr := none }
    if c.backingOff then c.setNt { c.net.nt with backoffAt := none } else c

def execPortActivityStart (l : At) (p : OPort) (s : State) : Out := onCh l.ch s fun c => c.activityStart l.t p

/-- The forwarder's output ends without a frame: its preamble led to none. -/
def Channel.fwdDrop (c : Channel) (t : Nat) (p : OPort) : Channel :=
  if (c.ol p).fwdTo then
    let c := c.setOl (OPort.other p) ((c.ol (OPort.other p)).endTx t)
    c.setOl p { c.ol p with fwdTo := false }
  else c

/-- PORT_ACTIVITY_END: 32 LCLK without transition (R373, R418). -/
def Channel.activityEnd (c : Channel) (t : Nat) (p : OPort) : Channel :=
  let c := c.netSettle t
  if c.olState p != .rx then c
  else
    let c := c.fwdDrop t p
    let c := c.setOl p ((c.ol p).readTo (c.shows p) t)
    let c := c.setOl p { c.ol p with st := .listen, quietAt := t - lclk 32, hdr := none, skip := false, judged := false }
    c.quietStep

def execPortActivityEnd (l : At) (p : OPort) (s : State) : Out := onCh l.ch s fun c => c.activityEnd l.t p

/-- A header in error (R381). -/
def hdrBad (n : Net) (h : Vector Byte 8) (codeError : Bool) : Bool :=
  codeError || crc8Bytes (h.toList.take 7) != h[7] || (h[0]).toNat % 8 != 1 || decide (4 < hdrType h) ||
    (h[0]).getLsbD 3 != (n == .y) || hdrSrc h == 0 || decide (64 < hdrLen h) || hdrHops h == 63 ||
    h[1] &&& 0xC0 != 0 || h[3] &&& 0xC0 != 0 || (h[6]).getLsbD 7

/-- The header that a forwarder sends: HOPS + 1 and a new HCRC (R382). -/
def hdrForward (h : Vector Byte 8) : Vector Byte 8 :=
  let g := h.set 3 ((hdrHops h + 1).setWidth 8)
  g.set 7 (crc8Bytes (g.toList.take 7))

/-- The frame is not forwarded and not taken (R381). -/
def Channel.hdrDrop (c : Channel) (t : Nat) (p : OPort) : Channel :=
  let c := c.fwdDrop t p
  c.setOl p { c.ol p with skip := true, hdr := none }

def Channel.hdrError (c : Channel) (t : Nat) (p : OPort) : Channel :=
  let c := (c.bump (netBlk (OPort.net p)) 5).hdrDrop t p
  c.setOl p { c.ol p with hdrErr := satInc (c.ol p).hdrErr }

/-- A flow context receives DATA or SERVICE frames of a sender (R391, R406, R465). -/
def Channel.receives (c : Channel) (h : Vector Byte 8) : Bool :=
  let f := (h[2]).toNat
  let cfg := c.getA (0x1C00 + 4 * f)
  let service := c.tunnel && f == c.af 0x0800 8 8
  c.released && c.net.nt.st != .down && bit cfg 11 && !bit cfg 6 && fld cfg 0 6 == (hdrSrc h).toNat &&
    (if hdrType h = 4 then service else hdrType h == 0)

/-- The receive engine takes a frame: the frames of the time unit, and those that a flow context receives; the rest of
any other frame is dropped (R391). -/
def Channel.takes (c : Channel) (h : Vector Byte 8) : Bool :=
  c.released && c.net.nt.st != .down && (c.receives h || (decide (1 ≤ hdrType h) && decide (hdrType h ≤ 3)))

/-- The stamp of the SOF whose header is complete at t: the half of a ROOT period below the count is free (R378). -/
def Channel.sofStamp (c : Channel) (t : Nat) (p : OPort) : Int :=
  c.stampOf (t - lclk 90) + ((Config.openWord c.id t (0x330 + (OPort.idx p).val)).toNat % 2 : Nat)

/-- Any frame heard in COLD restarts the listen timer (R417). -/
def Channel.coldTimer (c : Channel) (t : Nat) : Channel :=
  if c.net.nt.st = .cold then c.setNt { c.net.nt with listenAt := t } else c

/-- A good header of another node: forwarded unless HOPS is 62 or the output is taken; the SOF that a forwarder sends is
128 LCLK behind the one that came (R378, R382, R385). DEDUCED (unsafe), log entry 87. -/
def Channel.hdrGood (c : Channel) (t : Nat) (p : OPort) (h : Vector Byte 8) : Channel :=
  let q := OPort.other p
  let c := (c.setOl p { c.ol p with hdr := some h, heardAt := some t, skip := !c.takes h }).coldTimer t
  if hdrHops h = 62 then c.fwdDrop t p
  else if (c.ol p).fwdTo then
    let c := c.bump (netBlk (OPort.net p)) 1
    let c := c.setOl p { c.ol p with fwd := (c.ol p).fwd + 1 }
    c.setOl q { c.ol q with sentHdr := some (hdrForward h), txSof := (c.ol p).rxSof.map (· + 2048) }
  else if c.olState q = .off then c
  else c.setOl q { c.ol q with fwdBusy := satInc (c.ol q).fwdBusy }

/-- NETWORK_HEADER_COMPLETE (R378, R381, R382, R385, R386, R391). -/
def Channel.headerDone (c : Channel) (t : Nat) (p : OPort) (h : Vector Byte 8) (codeError : Bool) : Channel :=
  let c := c.netSettle t
  if c.olState p != .rx || (c.ol p).skip then c
  else
  let c := c.fifoHeader t p h codeError
  let c := c.setOl p { c.ol p with rxSof := some (c.sofStamp t p) }
  if hdrBad (OPort.net p) h codeError then c.hdrError t p
  else if hdrSrc h = c.olAddr then
    let c := c.hdrDrop t p
    c.setOl p { c.ol p with conflict := true, heardAt := some t }
  else c.hdrGood t p h

def execNetworkHeaderComplete (l : At) (p : OPort) (hdr : Vector Byte 8) (codeError : Bool) (s : State) : Out :=
  onCh l.ch s fun c => c.headerDone l.t p hdr codeError

/-- How a frame ends (R383, R392). -/
inductive EndKind | valid | crc | code | abort | early | overflow
deriving DecidableEq, Repr

def endKind (h : Vector Byte 8) (body : List Byte) (codeError overflow : Bool) (e : NetEnd) : EndKind :=
  let n := 4 * hdrLen h
  if overflow then .overflow
  else if codeError then .code
  else if body.length < n + 4 then (if e = .abort then .early else .code)
  else if n + 4 < body.length then .code
  else match e with
    | .eof => if trailerOf h (body.take n) = body.drop n then .valid else .crc
    | .abort => .abort
    | .silence => .code

/-- What the end counts at the input port (R383, R389). -/
def Channel.endCount (c : Channel) (p : OPort) (k : EndKind) : Channel :=
  let x := c.ol p
  match k with
  | .valid => c
  | .crc => c.setOl p { x with crcErr := satInc x.crcErr }
  | .code => (c.bump (netBlk (OPort.net p)) 4).setOl p { x with codeErr := satInc x.codeErr }
  | .abort => c.setOl p { x with abortRx := satInc x.abortRx }
  | .early =>
    (c.bump (netBlk (OPort.net p)) 4).setOl p { x with codeErr := satInc x.codeErr, abortRx := satInc x.abortRx }
  | .overflow => (c.raise 51).setOl p { x with overflow := true }

/-- The forwarder closes its output, with ABORT where the table of R383 says so: in the slot of the frame's closing
symbol, which runs 128 LCLK behind the input, or at once where its FIFO failed. DEDUCED (unsafe), log entry 87. -/
def Channel.fwdEnd (c : Channel) (t : Nat) (p : OPort) (k : EndKind) : Channel :=
  let x := c.ol p
  if !x.fwdTo then c
  else
    let q := OPort.other p
    let at_ := match x.starvedAt with
      | some r => r
      | none => if k = .overflow then t else t + lclk 118
    let counted := x.starvedAt.isSome || !(k == .valid || k == .abort)
    let c := c.setOl q { c.ol q with closeAt := some (at_, counted) }
    let c := c.setOl p { c.ol p with fwdTo := false }
    if x.starvedAt.isSome then c.raise 51 else c

/-- The payload of a DATA or SERVICE frame as far as it came goes to the landing area, and a valid copy waits for its
judgement; a frame under drop-rest, and one that the engine does not read, leave nothing (R389, R391, R392, R465).
DEDUCED (unsafe), log entry 88. -/
def Channel.takeCopy (c : Channel) (t : Nat) (p : OPort) (h : Vector Byte 8) (body : List Byte) (k : EndKind)
    (voters : List Ch) : Channel :=
  let x := c.ol p
  if x.skip || x.stalled || !(hdrType h == 0 || hdrType h == 4) then c
  else
    let ws := packWords (body.take (4 * min (hdrLen h) (body.length / 4)))
    let f : Fin 256 := Fin.ofNat 256 (h[2]).toNat
    let c := c.setFlow f ((c.net.flows[f]).land (OPort.net p) ws)
    if k = .valid then c.setOl p { c.ol p with copy := some ⟨t + lclk 16, h, ws, voters⟩ } else c

/-- The rest of a frame that was dropped at its header stands in the FIFO too (R386, R389, R391).
DEDUCED (unsafe), log entry 88. -/
def Channel.dropEnd (c : Channel) (t : Nat) (p : OPort) (body : List Byte) (codeError stalled : Bool) (wrote : List Nat)
    (e : NetEnd) : Channel :=
  if !(c.ol p).skip || (c.ol p).frame = 0 then c
  else
    let c := c.setOl p { c.ol p with stalled := stalled }
    let c := (c.fifoBody t p body codeError wrote e).fifoDrain t p
    c.setOl p { c.ol p with frame := 0 }

/-- NETWORK_FRAME_END (R380, R383, R386 to R392). DEDUCED (unsafe), log entry 88. -/
def Channel.frameEnd (c : Channel) (t : Nat) (p : OPort) (body : List Byte) (codeError stalled : Bool) (wrote : List Nat)
    (e : NetEnd) (voters : List Ch) : Channel :=
  let c := c.netSettle t
  match (c.ol p).hdr with
  | none => c.dropEnd t p body codeError stalled wrote e
  | some h =>
    let c := c.setOl p { c.ol p with stalled := stalled }
    let c := (c.fifoBody t p body codeError wrote e).fifoDrain t p
    let k := endKind h body codeError (c.ol p).lost e
    let c := ((c.endCount p k).fwdEnd t p k).takeCopy t p h body k voters
    c.setOl p { c.ol p with hdr := none, skip := true, frame := 0 }

def execNetworkFrameEnd (l : At) (p : OPort) (body : List Byte) (codeError stalled : Bool) (wrote : List Nat) (e : NetEnd)
    (s : State) : Out :=
  let c := s.ch l.ch
  let flow := match (c.ol p).hdr with
    | some h => (h[2]).toNat
    | none => 0
  let voters := [Ch.a, .b, .c].filter fun ch => ch != l.ch && (s.ch ch).af 0x4400 16 8 == flow
  onCh l.ch s (when (c.olState p == .rx) fun c => c.frameEnd l.t p body codeError stalled wrote e voters)

/-- The reference pings the address that the cycle count names, in the cycles that it began with its waggle (R408,
R419). DEDUCED (unsafe), log entry 93. -/
def Channel.pingStart (c : Channel) (t : Nat) : Channel :=
  let a := c.net.nt.cycle.toNat % 64
  let there := c.net.comb.any fun e => fld e 0 6 == a
  if c.net.nt.st != .reference || !c.net.nt.called || a = 0 || a = c.olAddr.toNat || !there then c
  else
    let c := c.txStart t (.ping (BitVec.ofNat 6 a)) [put 0 a] (c.openSeq t) (some 1)
    c.setNt { c.net.nt with pingAt := some (BitVec.ofNat 6 a, 2 * c.cellStart 1 + 2560) }

/-- A transmission outside its gate is not sent (R422, R424). DEDUCED (unsafe), log entry 90. -/
def Channel.skipTx (c : Channel) (t : Nat) (f : Fin 256) : Channel :=
  let x := c.net.flows[f]
  let c := c.setFlow f { x with skipped := satInc x.skipped, passed := true }
  { c with net := { c.net with skippedCnt := satInc c.net.skippedCnt } }.guardEvent t

/-- A frame of a flow is sent on every free port; one that finds none gives its credit back (R385, R393, R395).
DEDUCED (unsafe), log entry 90. -/
def Channel.dataTx (c : Channel) (t : Nat) (cell : Fin 128) (f : Fin 256) (len : Nat) (ws : List Word) : Channel :=
  let x := c.net.flows[f]
  let seq := x.last + 1
  let kind : TxKind := .data f (c.tunnel && f.val == c.af 0x0800 16 8)
  let ps := c.txPorts
  let c := c.txStart t kind (padTo len ws) seq (some cell)
  if ps[0] || ps[1] || ps[2] || ps[3] then c.setFlow f { x with last := seq, frames := x.frames + 1, passed := false }
  else c.creditBack kind

/-- A data cell of the own address (R395, R406, R422). DEDUCED (unsafe), log entry 90. -/
def Channel.dataStart (c : Channel) (t : Nat) (cell : Fin 128) : Channel :=
  let e := c.combEntry c.net.nt.cycle cell.val
  let f : Fin 256 := Fin.ofNat 256 (fld e 6 8)
  let cfg := c.getA (0x1C00 + 4 * f.val)
  let mine := fld e 0 6 == c.olAddr.toNat && fld e 0 6 != 0 && bit cfg 11 && bit cfg 6
  if !mine || c.pwr.doze || !(c.net.nt.st == .sync || c.net.nt.st == .reference) then c
  else match c.flowNext t f with
    | some ws => if c.gateOpen t cell.val then c.dataTx t cell f (fld e 14 7) ws else c.skipTx t f
    | none => c

/-- TRANSMISSION_START: the instant of a cell has come (R395, R408, R422). -/
def execTransmissionStart (l : At) (cell : Fin 128) (s : State) : Out :=
  let c := s.ch l.ch
  let due := c.released && decide (cell.val < c.cells) && l.t == c.mtAt (c.af (0x1880 + cell.val) 0 14)
  onCh l.ch s (when due fun c =>
    let c := c.netSettle l.t
    if cell.val = 0 then c else if cell.val = 1 then c.pingStart l.t else c.dataStart l.t cell)

/-- Length of a transmission (R380). -/
def Tx.length (x : Tx) : Nat := lclk (320 + 40 * x.words.length)

/-- TRANSMISSION_END: the postamble has ended; one that a port sent to its end is sent whole (R377, R395, R418, R424).
DEDUCED (unsafe), log entry 94. -/
def Channel.txEnd (c : Channel) (t : Nat) : Channel :=
  match c.net.tx with
  | none => c
  | some x =>
    if !x.aborted && t < x.at_ + x.length then c
    else
      let c := (c.txFree x t).creditBack x.kind
      let c := { c with net := { c.net with tx := none } }
      if !x.aborted && x.ports.any (fun b => b) then c.setNt { c.net.nt with guardEv := 0 } else c.quietStep

def execTransmissionEnd (l : At) (s : State) : Out :=
  onCh l.ch s (when (s.ch l.ch).released fun c => (c.netSettle l.t).txEnd l.t)

/-- The COLDSTART collides: it ends on every port, the node waits, and gives up after four such transmissions (R418). -/
def Channel.coldCollide (c : Channel) (t : Nat) (x : Tx) : Channel :=
  let n := c.net.nt
  let c := { c with net := { c.net with tx := some { x with aborted := true } } }.txFree x (t + lclk 30)
  if x.aborted then c
  else if n.collisions + 1 < 4 then
    c.setNt { n with coldAt := none, backoffAt := none, collisions := n.collisions + 1 }
  else
    let c := (c.toListen t).raise 49
    c.setNt { c.net.nt with noCold := true, collisions := 0 }

/-- TX_COLLISION: two symbol mismatches on a port in TX end its transmission, its own or a forwarded one, with ABORT
(R377). -/
def Channel.collide (c : Channel) (t : Nat) (p : OPort) : Channel :=
  let c := c.netSettle t
  if c.olState p != .tx then c
  else
    let c := { c with net := { c.net with collision := satInc c.net.collision } }
    let c := c.setOl p ((c.ol p).endTx (t + lclk 30))
    let c := c.setOl (OPort.other p) { c.ol (OPort.other p) with fwdTo := false }
    match c.net.tx with
    | some x =>
      if !x.ports[OPort.idx p] then c
      else if x.kind = .coldstart then c.coldCollide t x
      else { c with net := { c.net with tx := some { x with ports := x.ports.set (OPort.idx p) false } } }
    | none => c

def execTxCollision (l : At) (p : OPort) (s : State) : Out := onCh l.ch s fun c => c.collide l.t p

/-- The gate of an own transmission has closed (R421, R423). DEDUCED (unsafe), log entry 94. -/
def Channel.gateClosed (c : Channel) (t : Nat) (x : Tx) : Bool :=
  match x.cell with
  | some k => !x.aborted && (match x.kind with
      | .waggle | .data _ _ => decide ((c.cellEnd k.val : Int) - c.cellStart k.val + guardMt ≤ c.guardPos t k.val)
      | _ => false)
  | none => false

/-- GUARDIAN_GATE_CLOSE: the sender closes with ABORT (R423, R424). DEDUCED (unsafe), log entry 94. -/
def Channel.gateCut (c : Channel) (t : Nat) : Channel :=
  match c.net.tx with
  | none => c
  | some x =>
    if !c.gateClosed t x then c
    else
      let go (c : Channel) (p : OPort) : Channel :=
        if x.ports[OPort.idx p] then c.setOl p { c.ol p with abortTx := satInc (c.ol p).abortTx } else c
      let c := allPorts.foldl go c
      let c := { c with net := { c.net with tx := some { x with aborted := true }, cutCnt := satInc c.net.cutCnt } }
      c.guardEvent t

def execGuardianGateClose (l : At) (s : State) : Out :=
  onCh l.ch s (when (s.ch l.ch).released fun c => (c.netSettle l.t).gateCut l.t)

/-- The cell of a forwarded frame's owner: that of the waggle, that of the ping, or the last cell of its flow in this
cycle that had begun with its SOF. An echo and a COLDSTART do not pass the guardian (R403, R408, R409, R421, R423).
DEDUCED (unsafe), log entry 94. -/
def Channel.ownerCell (c : Channel) (h : Vector Byte 8) (sof : Nat) : Option Nat :=
  if hdrType h = 1 then some 0
  else if hdrType h = 3 then (if h[2] = 1 then some 1 else none)
  else if hdrType h = 0 || hdrType h = 4 then
    let own := (List.range c.cells).filter fun k =>
      let e := c.combEntry c.net.nt.cycle k
      decide (2 ≤ k) && fld e 0 6 == (hdrSrc h).toNat && fld e 6 8 == (h[2]).toNat
    let past := own.filter fun k => decide (c.mtAt (c.af (0x1880 + k) 0 14) ≤ sof)
    if past.isEmpty then own.head? else past.getLast?
  else none

/-- The instant at which a forwarder cuts a frame whose header it sends on as h (R423). -/
def Channel.fwdCutDue (c : Channel) (t : Nat) (h : Vector Byte 8) (sof : Nat) : Bool :=
  c.net.nt.timed && (match c.ownerCell h sof with
    | some k =>
      let ends := c.mtAt (c.af (0x1880 + k) 0 14 + c.af (0x1880 + k) 14 14)
      decide (ends + guardMt + lclk (141 * ((hdrHops h).toNat - 1)) ≤ t)
    | none => false)

/-- FORWARDER_GUARD_CUT: p is the input port; the output may still send what the input has ended (R383, R423).
DEDUCED (unsafe), log entry 94. -/
def Channel.fwdCut (c : Channel) (t : Nat) (p : OPort) : Channel :=
  let c := c.netSettle t
  let q := OPort.other p
  let going := ((c.ol p).fwdTo && (c.ol p).hdr.isSome) || (c.ol q).closeAt.isSome
  match (c.ol q).sentHdr with
  | none => c
  | some h =>
    if !going || !c.fwdCutDue t h (c.ol p).sofAt then c
    else
      let y := (c.ol q).endTx (t + lclk 30)
      let c := c.setOl q { y with abortTx := satInc y.abortTx }
      let c := c.setOl p { c.ol p with fwdTo := false }
      { c with net := { c.net with guardCut := satInc c.net.guardCut } }

def execForwarderGuardCut (l : At) (p : OPort) (s : State) : Out := onCh l.ch s fun c => c.fwdCut l.t p

/-- The waggle's path delay to use: measured from this reference, else the estimate; in 1/16 LCLK (R411, R416). -/
def NtNet.path (x : NtNet) : Nat := if x.dv then x.delay.toNat else x.est

/-- The start of the waggle's cycle after the own cycle start, in 1/32 ns: its SOF stamp less W_OFF and the path delay,
which the own spread profile converts (R407, R411, R421). DEDUCED (unsafe), log entry 91. -/
def Channel.waggleStart (c : Channel) (n : Net) (stamp : Int) : Int :=
  16 * (stamp - 2560) - (c.toLocal (c.net.nt.cycStart + lclk 160) (c.nn n).path : Nat)

/-- What word 3 and the header of a waggle bring (R410, R416, R419). -/
def Channel.waggleDelay (c : Channel) (n : Net) (src hops : BitVec 6) (w3 : Word) : Channel :=
  let x := c.nn n
  let x := if x.src = src then x else { x with dv := false, src := src }
  let x := { x with est := 2148 * hops.toNat }
  let mine := fld w3 26 6 == c.olAddr.toNat && fld w3 26 6 != 0
  c.setNn n (if mine then { x with delay := w3.setWidth 26, dv := true } else x)

/-- The announced values agree with the node's own: none, or the cause of a mismatch (R415, R426). -/
def Channel.waggleCause (c : Channel) (ws : Vector Word 4) : Option (BitVec 2) :=
  if fld ws[1] 30 2 != c.af 0x1040 0 2 then some 1
  else if ws[2] != c.getA 0x1801 then some 2
  else if fld ws[1] 28 2 != c.af 0x0200 0 2 then some 3
  else none

def Channel.drivesOff (c : Channel) : Bool := c.sd.st == .off && c.ad.st == .off

/-- How a node comes to the adopted time: the count that a local cycle start takes, how many starts later, the cycle
start to which the gap leads, in ROOT from the own cycle start, and whether a slew works the offset off, up where it is
late. -/
structure Adoption where
  count : Word
  skip  : Nat
  gapTo : Option Int
  slew  : Bool
  up    : Bool
deriving DecidableEq, Repr

/-- Where the adopted cycle starts lie; none: the node waits in LISTEN (R416). start: the waggle's cycle start against
the own one. The gap is whole TCLK, rounded down. DEDUCED (unsafe), log entry 92. -/
def Channel.adoption (c : Channel) (stamp start : Int) (count : Word) : Option Adoption :=
  let l : Int := 400 * cycleMt (c.getA 0x1040)
  let own : Int := 2 * c.net.nt.cycLen
  let late := !decide (stamp < own - 1600)
  let e : Int := if late then own + l else own
  let skip : Nat := if late then 1 else 0
  if c.drivesOff then
    let k := (e - start + l - 1) / l
    let gap := (start + k * l - e) / 10
    some ⟨count + BitVec.ofInt 32 k, skip, some (e / 2 + 5 * gap), false, false⟩
  else
    let d := start % l
    let d := if l < 2 * d then d - l else d
    if d.natAbs ≤ 1200 then some ⟨count + BitVec.ofInt 32 ((e - start + d) / l), skip, none, true, decide (0 < d)⟩
    else none

/-- Guardian time follows a valid waggle (R421). -/
def Channel.guardSet (c : Channel) (n : Net) (stamp : Int) : Channel :=
  let d := c.waggleStart n stamp / 32
  c.setNt { c.net.nt with guardAt := ((c.net.nt.cycStart : Int) + d).toNat }

/-- A matching waggle whose time may not be adopted yet: the node waits in LISTEN (R416).
DEDUCED (unsafe), log entry 92. -/
def Channel.waggleWait (c : Channel) (t : Nat) : Channel :=
  let n := c.net.nt
  match n.st with
  | .listen => c.setNt { n with listenAt := t }
  | .mismatch => c.setNt { n with st := .listen, listenAt := t, cause := 0 }
  | _ => c.toListen t

/-- A matching waggle in LISTEN, COLD or MISMATCH: COARSE, with the time adopted at a cycle start (R415, R416).
DEDUCED (unsafe), log entry 92. -/
def Channel.waggleAdopt (c : Channel) (t : Nat) (n : Net) (src : BitVec 6) (ws : Vector Word 4) (stamp : Int) : Channel :=
  let start := c.waggleStart n stamp / 16
  match c.adoption stamp start ws[0] with
  | none => c.waggleWait t
  | some a =>
    let c := c.guardSet n stamp
    let c := c.setNn n { c.nn n with shown := true }
    c.setNt { c.net.nt with
      st := .coarse, cause := 0, refAddr := src, adopt := some a.count, adoptIn := a.skip, slew := a.slew, slewUp := a.up, wag := true
      gapTo := a.gapTo.map fun d => ((c.net.nt.cycStart : Int) + d).toNat
      noWag := 0, goodE := 0, pegged := 0, rate := 0, frac := 0, coldAt := none, backoffAt := none, holdover := false }

/-- A waggle that does not match: MISMATCH from LISTEN, and judged again there; a node in COLD yields to a lower rank
(R415, R417). -/
def Channel.waggleRefuse (c : Channel) (t : Nat) (cause : BitVec 2) (rank : Nat) : Channel :=
  let n := c.net.nt
  match n.st with
  | .listen =>
    let c := c.setNt { n with st := .mismatch, cause := cause }
    let c := c.raise 49
    { c with net := { c.net with reinteg := satInc c.net.reinteg } }
  | .mismatch => c.setNt { n with cause := cause }
  | .cold => if rank < c.af 0x1040 17 6 then c.toListen t else c
  | _ => c

/-- A valid waggle in COARSE or SYNC: its offset is measured once the delay is known (R411, R416, R421). -/
def Channel.waggleTrack (c : Channel) (n : Net) (src : BitVec 6) (stamp : Int) : Channel :=
  let x := c.nn n
  let use := (x.dv || c.net.nt.slew) && c.net.nt.adopt.isNone
  let e := c.waggleStart n stamp
  let c := c.setNn n { x with shown := true, e := if use then some e else x.e }
  let c := c.setNt { c.net.nt with wag := true, refAddr := src }
  c.guardSet n stamp

/-- WAGGLE_RECEIVED: a valid waggle (R75, R410, R411, R415 to R417, R419, R421). stamp: its SOF after the own cycle
start. -/
def Channel.waggle (c : Channel) (t : Nat) (n : Net) (src hops : BitVec 6) (ws : Vector Word 4) (stamp : Int) : Channel :=
  let depth := fld ws[1] 28 2
  let rank := fld ws[1] 16 6
  let c := { c with clk := { c.clk with mismatch := depth != c.af 0x0200 0 2, depth := BitVec.ofNat 2 depth } }
  if c.net.nt.st = .reference then (if rank < c.af 0x1040 17 6 then c.toListen t else c)
  else
    let c := c.waggleDelay n src hops ws[3]
    if c.net.nt.st = .coarse || c.net.nt.st = .sync then c.waggleTrack n src stamp
    else match c.waggleCause ws with
      | none => c.waggleAdopt t n src ws stamp
      | some k => c.waggleRefuse t k rank

def execWaggleReceived (l : At) (n : Net) (src hops : BitVec 6) (payload : Vector Word 4) (stamp : Int) (s : State) :
    Out :=
  let c := s.ch l.ch
  onCh l.ch s (when (c.released && c.net.nt.st != .down) fun c => c.waggle l.t n src hops payload stamp)

/-- DELAY_PING_RECEIVED at the ping's SOF: the echo's SOF leaves 2,048 unspread LCLK after it, its preamble 160 LCLK of
the own clock before that (R409). DEDUCED (unsafe), log entry 93. -/
def execDelayPingReceived (l : At) (n : Net) (target : BitVec 6) (s : State) : Out :=
  let c := s.ch l.ch
  let due := c.released && c.net.nt.st != .down && target == c.olAddr && target != 0
  onCh l.ch s (when due fun c =>
    let k : Fin 2 := if n = .x then 0 else 1
    { c with net := { c.net with echoAt := c.net.echoAt.set k (some (l.t + c.toLocal l.t 32768 / 32 - lclk 160)) } })

/-- The unspread length between two stamps, in 1/16 LCLK (R378, R409). DEDUCED (unsafe), log entry 91. -/
def Channel.unspreadStamps (c : Channel) (a b : Nat) : Nat :=
  let o := c.net.nt.cycStart
  (b - a) + (c.stretchTo (o + b / 2) - c.stretchTo (o + a / 2)) / 6400

/-- ECHO_RECEIVED: rx is the stamp of the echo's SOF in 1/16 LCLK after the own cycle start (R410, R420).
DEDUCED (unsafe), log entry 93. -/
def Channel.echo (c : Channel) (n : Net) (addr : BitVec 6) (rx : Nat) : Channel :=
  match c.net.nt.pingAt with
  | some (a, tx) =>
    let d := c.unspreadStamps tx rx
    if a != addr || d < 32768 then c
    else c.setNn n { c.nn n with shown := true, reply := put 26 addr.toNat ||| put 0 ((d - 32768) / 2 % 2 ^ 26) }
  | none => c

def execEchoReceived (l : At) (n : Net) (addr : BitVec 6) (rx : Nat) (s : State) : Out :=
  let c := s.ch l.ch
  onCh l.ch s (when (c.released && c.net.nt.st == .reference) fun c => c.echo n addr rx)

/-- COLDSTART_RECEIVED (R415, R417, R418). -/
def Channel.coldHeard (c : Channel) (t rank : Nat) : Channel :=
  match c.net.nt.st with
  | .listen => c.setNt { c.net.nt with listenAt := t }
  | .cold => if rank < c.af 0x1040 17 6 then c.toListen t else c
  | _ => c

def execColdstartReceived (l : At) (payload : Word) (s : State) : Out :=
  onCh l.ch s (when (s.ch l.ch).released fun c => c.coldHeard l.t (fld payload 0 6))

/-- LISTEN_TIMEOUT: a coldstart node enters COLD and sends its COLDSTART (R415, R417). -/
def execListenTimeout (l : At) (s : State) : Out :=
  let c := s.ch l.ch
  let n := c.net.nt
  let due := c.released && n.st == .listen && bit (c.getA 0x1040) 16 && !n.noCold &&
    decide (n.listenAt + c.af 0x1040 23 6 * c.cycleRoot ≤ l.t)
  onCh l.ch s (when due fun c =>
    let c := c.netSettle l.t
    (c.setNt { c.net.nt with st := .cold }).sendColdstart l.t)

/-- Cycle 0 of the node's own time starts, and it sends the waggle as REFERENCE (R417). -/
def Channel.cycleZero (c : Channel) (t : Nat) : Channel :=
  let c := c.netSettle t
  let n := c.net.nt
  let c := (c.setNt { n with st := .reference, coldAt := none, collisions := 0, cycle := 0
                             refAddr := c.olAddr, adj := 0, rate := 0, frac := 0, holdover := false, noWag := 0 }).timeStart t
  let c := c.setNt { c.net.nt with perBase := n.cycStart, perTill := some (t + c.markOff) }
  let lock := c.clk.spread == 1
  let c := { c with clk := if lock then { c.clk with spread := 2, triAt := t } else c.clk }
  c.sendWaggle t

/-- COLDSTART_CYCLE0: one cycle length after the preamble of a COLDSTART that ended without collision (R417). -/
def execColdstartCycle0 (l : At) (s : State) : Out :=
  let c := s.ch l.ch
  let due := c.released && c.net.nt.st == .cold && (match c.net.nt.coldAt with
    | some a => l.t == a + c.cycleRoot
    | none => false)
  onCh l.ch s (when due fun c => c.cycleZero l.t)

/-- COLDSTART_BACKOFF_END: COLD_RANK · 8 µs after the end of all activity, with the ports silent (R418). -/
def execColdstartBackoffEnd (l : At) (s : State) : Out :=
  let c := s.ch l.ch
  let due := c.released && c.backingOff && (match c.net.nt.backoffAt with
    | some a => decide (a + usec (8 * c.af 0x1040 17 6) ≤ l.t)
    | none => false)
  onCh l.ch s (when due fun c =>
    let c := c.netSettle l.t
    if c.portsQuiet then c.sendColdstart l.t else c)

/-- HOLDOVER_TAKEOVER (R415, R419). -/
def execHoldoverTakeover (l : At) (s : State) : Out :=
  let c := s.ch l.ch
  let n := c.net.nt
  let due := c.released && n.st == .sync && n.holdover && bit (c.getA 0x1040) 16 &&
    decide (2 + c.af 0x1040 17 6 ≤ n.noWag)
  onCh l.ch s (when due fun c =>
    c.setNt { c.net.nt with
      st := .reference, holdover := false, refAddr := c.olAddr, adj := 0, guardAt := c.net.nt.cycStart, called := false })

end Sys2Proof.Machine
end

