-- ==== Sys2Proof/Machine/Steering.lean ====
section
/-! DEFINITION. The steering-drive commands and the start of a PWM period (spec file 05). -/

namespace Sys2Proof.Machine

/-- The 25 % limit takes force at a period that begins at least 2 TCLK after the warning flag crossed (R51, R54).
DEDUCED (unsafe), log entry 26. -/
def Channel.limitArrives (c : Channel) (t : Nat) : Channel :=
  match c.sup.limAt with
  | some w => if w + tclk 2 ≤ t then { c with sup := { c.sup with lim25 := true, ramp := false, limAt := none } } else c
  | none => c

/-- omega_e in rpm: the speed of ENC0 times POLE_PAIRS, in HALL_ONLY the electrical speed of HALL0 (R166, R167, R260).
-/
def Channel.omegaE (c : Channel) (t : Nat) : F32 :=
  if c.sd.angle = .hallOnly then lateAt (c.fb.hall[0]).speed t
  else F32.mul (lateAt (c.fb.enc[0]).speed t) (F32.ofInt (c.af 0x3000 0 4))

/-- Currents, DC link and analog inputs are sampled and held (R162, R199, R279). -/
def Channel.holdSamples (c : Channel) (t : Nat) (x : PwmSample) : Channel :=
  { c with
    sd := { c.sd with smpIa := x.ia, smpIb := x.ib, smpIc := x.ic, smpVdc := x.vdc, smpTheta := c.sdTheta t,
                      smpOmega := c.omegaE t, smpPend := true },
    ad := { c.ad with smpA := x.xa, smpB := x.xb, smpC := x.xc, smpVdc := x.vdc, pwmAt := t },
    fb := { c.fb with ainSmp := #v[x.ain0, x.ain1, x.ain2, x.ain3, x.ain4, x.ain5, x.ain6, x.ain7], ainPend := true } }

/-- The three sampled phase currents all lie below SD_PIS.OPEN_I (R179, R188). -/
def Channel.currentsLow (c : Channel) : Bool :=
  let lim := F32.ofFrac (c.af 0x3003 16 8) 2
  F32.lt (F32.abs c.sd.smpIa) lim && F32.lt (F32.abs c.sd.smpIb) lim && F32.lt (F32.abs c.sd.smpIc) lim

/-- The phase sum beyond its tolerance counts periods, and a sum within it restarts the count (R181).
DEDUCED (unsafe), log entry 48. -/
def Channel.sumCheck (c : Channel) : Channel :=
  if c.sd.st != .run then { c with sd := { c.sd with isumRun := 0 } }
  else
    let sum := F32.abs (F32.add (F32.add c.sd.smpIa c.sd.smpIb) c.sd.smpIc)
    { c with sd := { c.sd with isumRun := if F32.lt (c.getA 0x300A) sum then c.sd.isumRun + 1 else 0 } }

/-- The new compare values, with the refresh of this period; the old ones apply until the load instant (R163, R165,
R172, R240). -/
def Channel.loadCompares (c : Channel) : Channel :=
  let up (v : Nat) : Nat := if c.refreshes .steer then max v (c.rcPrime .steer) else v
  if c.sd.st = .run then
    { c with sd := { c.sd with oldA := c.sd.cmpA, oldB := c.sd.cmpB, oldC := c.sd.cmpC,
                               cmpA := up c.sd.nextA, cmpB := up c.sd.nextB, cmpC := up c.sd.nextC } }
  else c

/-- The load instant of a period that starts: 10,000 TCLK after the start of the period before, which a negative delta
puts after the start; a period that restarts after a gap or a cut cycle loads at once (R163, R165, R416, R417). -/
def Channel.loadInstant (c : Channel) (t : Nat) : Nat :=
  match c.sd.perAt with
  | some p => if p + 50000 ≤ t + 400 then max t (p + 50000) else t
  | none => t

/-- The end of OPENING or ASC at a period start (R179, R247). -/
def Channel.periodEnds (c : Channel) (t : Nat) : Channel :=
  match c.sd.st with
  | .opening => if c.currentsLow then c.sdOff t else c
  | .asc =>
    match c.gd.ascLowAt with
    | some w => if decide (w + msec 1 ≤ t) && c.currentsLow then c.endAsc t else c
    | none => c
  | _ => c

/-- The period of the counter that starts, and with it the class periods (R125, R160, R165, R241). -/
def Channel.periodOpen (c : Channel) (t : Nat) : Channel :=
  let c := c.startClasses t ((c.net.nt.gridAt t).getD 0)
  let charge := c.sd.st == .closing && decide (0 < c.sd.prechgLeft)
  { c with sd := { c.sd with perAt := some t, loadAt := c.loadInstant t, periodIdx := c.sd.periodIdx + 1, prechg := charge
                             prechgLeft := if charge then c.sd.prechgLeft - 1 else c.sd.prechgLeft } }

/-- PWM_PERIOD_START (R51, R160 to R165, R179, R181, R218, R240, R241, R247, R269, R279). DEDUCED (unsafe), log entry
48. -/
def Channel.periodStart (c : Channel) (t : Nat) (x : PwmSample) : Channel :=
  let old := c
  let c := (((c.limitArrives t).sentSettleAll t).speedDecay t).holdSamples t x
  let c := (c.periodOpen t).sumCheck.periodEnds t
  let c := c.loadCompares
  let c := c.bump 3 0
  let c := ({ c with sd := { c.sd with latchPend := true } }.adPeriod t).adSwitch old t
  (c.lanesNow t .steer).lanesNow t .aux

/-- A PWM period starts: on the grid of the present cycle (R160, R199, R412, R416).
DESIGN CHOICE (safe), log entry 24. -/
def Channel.periodDue (c : Channel) (t : Nat) : Bool :=
  c.released && !c.pwr.doze && (c.net.nt.gridAt t).isSome &&
    (match c.sd.perAt with
     | some p => decide (p < t)
     | none => true)

def execPwmPeriodStart (l : At) (smp : PwmSample) (s : State) : Out :=
  onCh l.ch s (when ((s.ch l.ch).periodDue l.t) fun c => c.periodStart l.t smp)

/-- The Park transform of three phase currents at an electrical angle, amplitude-invariant (R158, R162). The order of
its operations is a DESIGN CHOICE (unsafe), log entry 151. -/
def park (ia ib ic : F32) (theta : Word) : F32 × F32 :=
  let alpha := F32.div (F32.sub (F32.sub (F32.mul (F32.ofInt 2) ia) ib) ic) (F32.ofInt 3)
  let beta := F32.div (F32.sub ib ic) f32Sqrt3
  let co := cos32 theta
  let si := sin32 theta
  (F32.add (F32.mul alpha co) (F32.mul beta si), F32.sub (F32.mul beta co) (F32.mul alpha si))

/-- The inverse Park transform: v_alpha and v_beta of vd and vq (R171). DESIGN CHOICE (unsafe), log entry 151. -/
def invPark (vd vq : F32) (theta : Word) : F32 × F32 :=
  let co := cos32 theta
  let si := sin32 theta
  (F32.sub (F32.mul vd co) (F32.mul vq si), F32.add (F32.mul vd si) (F32.mul vq co))

/-- The inverse Clarke transform: va, vb and vc (R171). DESIGN CHOICE (unsafe), log entry 151. -/
def invClarke (alpha beta : F32) : F32 × F32 × F32 :=
  let half := F32.div alpha (F32.ofInt 2)
  let side := F32.div (F32.mul f32Sqrt3 beta) (F32.ofInt 2)
  (alpha, F32.sub side half, F32.sub (F32.neg side) half)

/-- At TCLK 120 the currents and the DC link show the sample (R162). DESIGN CHOICE (unsafe), log entry 151. -/
def Channel.sampleReady (c : Channel) : Channel :=
  let dq := park c.sd.smpIa c.sd.smpIb c.sd.smpIc c.sd.smpTheta
  { c with
    sd := { c.sd with sigIa := c.sd.smpIa, sigIb := c.sd.smpIb, sigIc := c.sd.smpIc, sigId := dq.1, sigIq := dq.2,
                      sigVdc := c.sd.smpVdc, smpPend := false },
    ad := { c.ad with sigA := c.ad.smpA, sigB := c.ad.smpB, sigC := c.ad.smpC } }

/-- CURRENT_SAMPLE_READY; a disagreement of the two evaluations raises SD_CMP, and the reaction of R102 follows (R159,
R162). -/
def execCurrentSampleReady (l : Judged) (s : State) : Out :=
  let c := s.ch l.ch
  onCh l.ch s (when (c.released && c.sd.smpPend && decide (c.ad.pwmAt + tclk 120 ≤ l.t)) fun c =>
    if l.upset then (c.raise 14).beginIsolate l.t else c.sampleReady)

/-- A compare value of R171 with its bounds and the shortest pulse. DESIGN CHOICE (safe), log entry 17. -/
def Channel.cmpValue (c : Channel) (v vo : F32) : Nat :=
  let x := F32.sub (F32.ofInt 2500) (F32.div (F32.mul (F32.ofInt 5000) (F32.sub v vo)) c.sd.smpVdc)
  let n := if F32.isNan x then Config.cmpOpen x else min 5000 (F32.toIntRne (F32.clamp x 0 (F32.ofInt 5000))).toNat
  let p := c.af 0x3004 8 8
  if n < p then 0 else if 5000 - p < n then 5000 else n

/-- The compare values of the next period from the latched commands (R171). The advance of the angle is the whole phase
word below the exact product. DESIGN CHOICE (unsafe), log entry 151. -/
def Channel.spaceVector (c : Channel) (vd vq : F32) : Channel :=
  let ahead := BitVec.ofInt 32 (F32.mulFloor c.sd.smpOmega ((15000 * 5 : Nat) * 2 ^ 32) 60000000000)
  let ab := invPark vd vq (c.sd.smpTheta + ahead)
  let vlim := F32.div (F32.mul (F32.ofFrac (c.af 0x3004 0 8) 256) c.sd.smpVdc) f32Sqrt3
  let mag := F32.sqrt (F32.add (F32.mul ab.1 ab.1) (F32.mul ab.2 ab.2))
  let sat := F32.lt vlim mag
  let k := F32.div vlim mag
  let va := if sat then F32.mul ab.1 k else ab.1
  let vb := if sat then F32.mul ab.2 k else ab.2
  let v := invClarke va vb
  let hi := F32.max (F32.max v.1 v.2.1) v.2.2
  let lo := F32.min (F32.min v.1 v.2.1) v.2.2
  let vo := F32.div (F32.add hi lo) (F32.ofInt 2)
  let c := if sat then c.bump 3 1 else c
  { c with sd := { c.sd with vsat := sat, nextA := c.cmpValue v.1 vo, nextB := c.cmpValue v.2.1 vo,
                             nextC := c.cmpValue v.2.2 vo, missedRun := 0 } }

/-- A latch that misses a command: the zero voltage vector (R164). -/
def Channel.missed (c : Channel) : Channel :=
  { c with sd := { c.sd with nextA := 2500, nextB := 2500, nextC := 2500, missedCmd := satInc c.sd.missedCmd,
                             missedRun := c.sd.missedRun + 1, vsat := false } }.bump 3 3

/-- The latch in state RUN; outside it no voltage is scaled (R163, R164, R191). DEDUCED (unsafe), log entry 48. -/
def Channel.voltageLatch (c : Channel) : Channel :=
  let both := c.ce.routedVd && c.ce.routedVq
  let vd := c.ce.dest[0]
  let vq := c.ce.dest[1]
  let c := { c with ce := { c.ce with routedVd := false, routedVq := false }, sd := { c.sd with latchPend := false } }
  if c.sd.st != .run then { c with sd := { c.sd with vsat := false } } else if both then c.spaceVector vd vq else c.missed

/-- VOLTAGE_LATCH at TCLK 9,900; a disagreement of the two evaluations raises SD_CMP, and the reaction of R102 follows
(R159, R163). -/
def execVoltageLatch (l : At) (upset : Bool) (s : State) : Out :=
  let c := s.ch l.ch
  onCh l.ch s (when (c.released && c.sd.latchPend && decide (c.ad.pwmAt + tclk 9900 ≤ l.t)) fun c =>
    if upset then (c.raise 14).beginIsolate l.t else c.voltageLatch)

/-- MISSED_CMD_LIMIT: 4 consecutive periods without commands (R164). -/
def execMissedCmdLimit (l : At) (s : State) : Out :=
  let c := s.ch l.ch
  onCh l.ch s (when (c.released && c.sd.st == .run && decide (4 ≤ c.sd.missedRun)) fun c =>
    (c.sdFault l.t 5).viewSync l.t)

/-- ISUM_FAULT: 8 consecutive periods (R181). -/
def execIsumFault (l : At) (s : State) : Out :=
  let c := s.ch l.ch
  onCh l.ch s (when (c.released && c.sd.st == .run && decide (8 ≤ c.sd.isumRun)) fun c =>
    (c.sdFault l.t 3).viewSync l.t)

/-- SETTLE_ELAPSED in CLOSING (R177). -/
def execSettleElapsed (l : At) (s : State) : Out :=
  let c := s.ch l.ch
  let due := c.released && c.sd.st == .closing && decide (c.sd.closingAt + usec (100 * c.af 0x3003 0 8) ≤ l.t)
  onCh l.ch s (when due fun c => { c with sd := { c.sd with settled := true } })

/-- SPEED_BELOW_NMAX: a drive held by SPEED_WAIT enters CLOSING (R177). -/
def execSpeedBelowNmax (l : At) (s : State) : Out :=
  let c := s.ch l.ch
  let due := c.released && c.sd.st == .off && c.sd.speedWait && c.belowNmax l.t
  onCh l.ch s (when due fun c => { c with sd := { c.sd with speedWait := false } }.sdStart l.t)

/-- OPEN_TMAX_EXPIRY in OPENING (R179). -/
def execOpenTmaxExpiry (l : At) (s : State) : Out :=
  let c := s.ch l.ch
  let due := c.alive && c.sd.st == .opening && decide (c.sd.openingAt + usec (10 * c.af 0x3003 8 8) ≤ l.t)
  onCh l.ch s (when due fun c => c.sdOff l.t)

end Sys2Proof.Machine
end

