-- ==== Sys2Proof/Machine/Welt.lean ====
section
/-! DEFINITION. The Welt commands (spec file 09). -/

namespace Sys2Proof.Machine

/-- CLAIM_WORD_DECODE: words decoded in one WCLK, then one evaluation (R297 to R303). -/
def execClaimWordDecode (l : WAt) (lanes : List (Ch × ClaimWord)) (s : State) : Out :=
  onPowered l s fun w =>
    let good := lanes.filterMap fun p => if wordGood w.lanes[p.1.idx] p.2 then some p.1.idx else none
    let w' := lanes.foldl (fun w p => w.decodeLane l.t p.1.idx p.2) w
    (w'.clockCheck l.t).evaluate l.t good

/-- CLAIM_STALE: 1,200 WCLK after the last valid claim (R298, R299). -/
def execClaimStale (l : WAt) (lane : Ch) (s : State) : Out :=
  onPowered l s fun w =>
    let x := w.lanes[lane.idx]
    if x.fresh && decide (x.freshAt + 1200 ≤ l.t) then
      { w with lanes := w.lanes.set lane.idx { x with fresh := false, claim := 0 } }.evaluate l.t []
    else w

/-- CLAIM_APPLY: 48 WCLK after the event (R300, R320). -/
def execClaimApply (l : WAt) (s : State) : Out := onPowered l s fun w => w.applyDue l.t

/-- ORPH_HOLD_EXPIRY: 40,000 WCLK to the ms (R304). -/
def execOrphHoldExpiry (l : WAt) (s : State) : Out :=
  onPowered l s fun w =>
    match w.orphan with
    | some o =>
      if o + 40000 * (w.set8.toNat % 256) ≤ l.t then
        let up (sp : BitVec 12) (fb : BitVec 16) : BitVec 12 := if sp.toNat < fb.toNat then fb.setWidth 12 else sp
        { w with sp0 := up w.sp0 w.set6, sp1 := up w.sp1 w.set7 }
      else w
    | none => w

/-- PKR_DELAY_EXPIRY: PKR_DELAY in 0.1 s (R304). -/
def execPkrDelayExpiry (l : WAt) (s : State) : Out :=
  onPowered l s fun w =>
    match w.orphan with
    | some o =>
      if o + 4000000 * (w.set8.toNat / 256) ≤ l.t then { w with pkrDrop := true, pkrArm := false } else w
    | none => w

/-- WELT_SETTING_APPLY: held class-S settings, once SO0 and SO1 are off (R320). -/
def execWeltSettingApply (l : WAt) (s : State) : Out :=
  onPowered l s fun w =>
    if w.soEither l.t then w
    else
      let h := w.held
      h.foldl (fun w p => if w.settingOk p.1 p.2 then w.putSetting l.t p.1 p.2 else w) { w with held := [] }

/-- SOL_PWM_PERIOD_START: every 20,000 WCLK (R305). -/
def execSolPwmPeriodStart (l : WAt) (k : Fin 2) (s : State) : Out :=
  onPowered l s fun w =>
    let x := w.sol k
    w.setSol k { x with perAt := l.t, on := decide (0 < x.onCount) && !x.fault }

/-- SOL_LOOP_INTERVAL: a new on-count from the law of R305 (R305, R306). DESIGN CHOICE (safe), log entry 18. -/
def execSolLoopInterval (l : WAt) (k : Fin 2) (meanMa : BitVec 12) (s : State) : Out :=
  onPowered l s fun w =>
    let x := w.sol k
    let sp := (w.sp k).toNat
    let n := if sp = 0 then 0 else min 20000 (Config.solOnCount l.w k (w.target k) meanMa.toNat l.t)
    let low := decide (100 ≤ sp) && decide (n = 20000) && decide (2 * meanMa.toNat < sp)
    let since := if low then (if x.openAt.isSome then x.openAt else some l.t) else none
    w.setSol k { x with onCount := n, ma := meanMa, openAt := since, on := x.on && decide (l.t - x.perAt < n) }

/-- DITHER_TOGGLE: after 10 PWM periods, 200,000 WCLK (R305). -/
def execDitherToggle (l : WAt) (s : State) : Out :=
  onPowered l s fun w =>
    if w.ditherAt + 200000 ≤ l.t then { w with dither := !w.dither, ditherAt := l.t } else w

/-- SOL_SHORT (R306). -/
def execSolShort (l : WAt) (k : Fin 2) (s : State) : Out :=
  onPowered l s fun w => w.setSol k { w.sol k with fault := true, on := false }

/-- SOL_OPEN: open for 20 ms (R306). -/
def execSolOpen (l : WAt) (k : Fin 2) (s : State) : Out :=
  onPowered l s fun w =>
    match (w.sol k).openAt with
    | some a => if a + 800000 ≤ l.t then w.setSol k { w.sol k with fault := true, on := false } else w
    | none => w

/-- PKR_FAULT (R307, R315). -/
def execPkrFault (l : WAt) (s : State) : Out :=
  onPowered l s fun w => { w with pkrFault := true, note := some .pkrFault }.spoil l.t

/-- A pair after an accepted level (R310, R314). -/
def Welt.pairStep (w : Welt) (t : Nat) (p : Fin 2) : Welt :=
  let x := w.pair p
  if !w.pairEn p then w
  else match x.st with
    | .closed =>
      if w.closedIn p then w
      else w.setPair p { x with st := .transit, at_ := t, fromClosed := true, fromOpen := false }
    | .open_ =>
      if w.openIn p then w
      else w.setPair p { x with st := .transit, at_ := t, fromClosed := false, fromOpen := true }
    | .transit =>
      if w.openIn p then w.setPair p { x with st := .open_ }
      else if w.closedIn p && !x.fromClosed then
        w.setPair p { x with st := .closed, passed := x.passed || (x.fromOpen && w.st == .start) }
      else w
    | .disabled => w

/-- The filter of an input lets a level through: n ms have passed since the last one, or since power-up, n × 39,390 WCLK
(R309, R323). -/
def Welt.siReady (w : Welt) (t : Nat) (n : Fin 4) : Bool :=
  decide ((w.siAt[n]).getD w.upAt + 39390 * (w.set2.toNat % 16 + 1) ≤ t)

/-- SI_LEVEL_ACCEPTED: a filtered level, the other one than before (R309, R310). -/
def execSiLevelAccepted (l : WAt) (n : Fin 4) (high : Bool) (s : State) : Out :=
  onPowered l s fun w =>
    if w.siReady l.t n && w.si.getLsbD n.val != high then
      { w with si := setBit w.si n.val high, siAt := w.siAt.set n (some l.t) }.pairStep l.t (if n.val < 2 then 0 else 1)
    else w

/-- SI_DISCREPANCY: SI_DISC × 39,400 WCLK in TRANSIT (R310). -/
def execSiDiscrepancy (l : WAt) (pair : Fin 2) (s : State) : Out :=
  onPowered l s fun w =>
    let x := w.pair pair
    if w.pairEn pair && x.st == .transit && decide (x.at_ + 39400 * w.set3.toNat ≤ l.t) then
      (w.setPair pair { x with disc := true }).addCause l.t .discrepancy
    else w

/-- TP_CFG in WCLK: PERIOD in ms, WIDTH in 10 µs (R311, R323). -/
def Welt.tpPeriod (w : Welt) : Nat := 40000 * (w.set4.toNat / 256)
def Welt.tpWidth (w : Welt) : Nat := 400 * (w.set4.toNat % 256)

/-- A pulse of an output starts: TP0's once per PERIOD, TP1's half a period after TP0's (R311).
DEDUCED (unsafe), log entry 65. -/
def Welt.tpDue (w : Welt) (t : Nat) (n : Fin 2) : Bool :=
  match w.tpAt0 with
  | none => n == 0
  | some a =>
    let at_ := if n = 0 then 0 else w.tpPeriod / 2
    decide (a + at_ ≤ t) && (t - a) % max 1 w.tpPeriod == at_ && (if n = 0 then a != t else w.tpAt1 != some t)

/-- TP_PULSE_START: the output goes low; the levels before it are kept (R311). -/
def execTpPulseStart (l : WAt) (n : Fin 2) (raw : BitVec 4) (s : State) : Out :=
  onPowered l s fun w =>
    if w.st = .init || !w.tpStage || !w.tpDue l.t n then w
    else if n = 0 then { w with tpLow0 := true, tpAt0 := some l.t, tpSnap0 := raw }
    else { w with tpLow1 := true, tpAt1 := some l.t, tpSnap1 := raw }

/-- The pulse of an output has lasted WIDTH (R311). DEDUCED (unsafe), log entry 65. -/
def Welt.tpOver (w : Welt) (t : Nat) (n : Fin 2) : Bool :=
  let low := if n = 0 then w.tpLow0 else w.tpLow1
  match if n = 0 then w.tpAt0 else w.tpAt1 with
  | some a => low && decide (a + w.tpWidth ≤ t)
  | none => false

/-- The checks of R311 on a pair with test pulses. DEDUCED (unsafe), log entry 65. -/
def Welt.tpPair (w : Welt) (n : Fin 2) (snap raw : BitVec 4) (p : Fin 2) : Bool :=
  let own := 2 * p.val + n.val
  let other := 2 * p.val + (1 - n.val)
  !(w.pairEn p && w.pairTp p) ||
    (!(snap.getLsbD own && raw.getLsbD own) && !(snap.getLsbD other && !raw.getLsbD other))

/-- TP_PULSE_END: a failed check or read-back is CROSS_CIRCUIT; two good periods of both outputs end it (R311,
R315). DEDUCED (unsafe), log entry 65. -/
def execTpPulseEnd (l : WAt) (n : Fin 2) (raw : BitVec 4) (readbackOk : Bool) (s : State) : Out :=
  onPowered l s fun w =>
    if !w.tpOver l.t n then w
    else
      let snap := if n = 0 then w.tpSnap0 else w.tpSnap1
      let ok := readbackOk && w.tpPair n snap raw 0 && w.tpPair n snap raw 1
      let w := if n = 0 then { w with tpLow0 := false } else { w with tpLow1 := false }
      if !w.tpStage then w
      else if ok then
        let w := { w with tpGood := w.tpGood + 1 }
        if 4 ≤ w.tpGood then w.dropCause .crossCircuit else w
      else { w with tpGood := 0 }.addCause l.t .crossCircuit

/-- SO_FAULT: a current above 2.6 A or a read-back that differs begins to stand, or no longer stands (R312, R315). -/
def execSoFault (l : WAt) (x : SoSense) (s : State) : Out :=
  onPowered l s fun w =>
    let w := { w with soBad := w.soBad.set x.out x.stands, soAt := if x.stands || w.soBad[x.out] then l.t else w.soAt }
    if x.stands then w.addCause l.t .soFault else w

/-- VLOAD_LOW (R293). -/
def execVloadLow (l : WAt) (s : State) : Out := onPowered l s fun w => { w with vload := false }.addCause l.t .vload

/-- VLOAD_RECOVERED (R293). -/
def execVloadRecovered (l : WAt) (s : State) : Out := onPowered l s fun w => { w with vload := true }.dropCause .vload

/-- WELT_POWER_UP with a supply leg: INIT with every setting at its reset value (R24, R314).
DESIGN CHOICE (unsafe), log entry 67. -/
def execWeltPowerUp (l : WAt) (s : State) : Out :=
  onWelt l.w s fun w => if w.powered || !s.fed l.w then w else { initAt := l.t, upAt := l.t, orphan := some l.t }

/-- WELT_POWER_LOSS: neither supply input is within its operating range (R24). DESIGN CHOICE (unsafe), log entry 67. -/
def execWeltPowerLoss (l : WAt) (s : State) : Out :=
  onWelt l.w s fun w => if s.feeds l.w Channel.legUp then w else w.lost

/-- WELT_SELFCHECK_DONE, 80,000 WCLK after entry to INIT (R314). -/
def execWeltSelfcheckDone (l : WAt) (passed : Bool) (s : State) : Out :=
  onPowered l s fun w =>
    if w.st = .init && decide (w.initAt + 80000 ≤ l.t) then
      if passed then ((w.dropCause .clock).dropCause .internal).enterStart
      else { w.addCause l.t .internal with st := .lockout, cause := some .internal, lockedAt := none }
    else w

/-- WELT_CLOCK_STOP (R315). -/
def execWeltClockStop (l : WAt) (s : State) : Out := onPowered l s fun w => w.addCause l.t .clock

/-- WELT_INTERNAL_FAULT (R315). -/
def execWeltInternalFault (l : WAt) (s : State) : Out := onPowered l s fun w => w.addCause l.t .internal

/-- Two first sightings from different channels within 4,000,000 WCLK (R316). -/
def Welt.sightings (w : Welt) : Bool :=
  let near (a b : Option Nat) : Bool :=
    match a, b with
    | some x, some y => decide (x ≤ y + 4000000) && decide (y ≤ x + 4000000)
    | _, _ => false
  near (w.lanes[0]).sight (w.lanes[1]).sight || near (w.lanes[1]).sight (w.lanes[2]).sight ||
    near (w.lanes[0]).sight (w.lanes[2]).sight

/-- The conditions of R316 at a falling edge of WRST. -/
def Welt.resetAllowed (w : Welt) (t : Nat) : Bool :=
  w.wrst && decide (w.wrstAt + 20000000 ≤ t) && decide (t ≤ w.wrstAt + 120000000) &&
    !(lockCauses.any fun (c : WCause) => c != .clock && c != .internal && w.causeActive t c) && w.causeAt != some t &&
    w.sightings

/-- At a falling edge of WRST every sighting is forgotten (R316). -/
def Welt.forget (w : Welt) : Welt := { w with wrst := false, lanes := w.lanes.map fun x => { x with sight := none } }

/-- WELT_DELIBERATE_RESET: a falling edge of WRST; a reset that it grants takes effect 12 WCLK later (R316).
DEDUCED (unsafe), log entry 62. -/
def execWeltDeliberateReset (l : WAt) (s : State) : Out :=
  onPowered l s fun w =>
    if w.resetAllowed l.t then { w.forget with resetAt := some (l.t + 12), resetBad := false }
    else { w.forget with rstr := w.rstr + 1 }

/-- WELT_STATUS_SEND (R318). -/
def execWeltStatusSend (l : WAt) (s : State) : Out :=
  onPowered l s fun w =>
    let w := w.refresh l.t
    { w with sent := some w.status }

/-- WRST_HIGH: WRST counts as high after its debounce (R316, R318). -/
def execWrstHigh (l : WAt) (s : State) : Out :=
  onPowered l s fun w => if w.wrst then w else { w with wrst := true, wrstAt := l.t }

/-- WSTAT_ALTERNATE (R313). -/
def execWstatAlternate (l : WAt) (s : State) : Out :=
  onPowered l s fun w => if w.st = .start then { w with wstat := !w.wstat } else w

end Sys2Proof.Machine
end

