-- ==== Sys2Proof/Machine/Dispatch.lean ====
section
/-! DEFINITION. Which meaning each command has: one arm per row of the table. -/

namespace Sys2Proof.Machine

def exec (i : Instr) (s : State) : Host.Outcome State Fault Refusal :=
  match i with
  | .nop q => Sys2Proof.Machine.execNop q s
  | .identify q => Sys2Proof.Machine.execIdentify q s
  | .reset q => Sys2Proof.Machine.execReset q s
  | .sessionOpen q => Sys2Proof.Machine.execSessionOpen q s
  | .sessionClose q => Sys2Proof.Machine.execSessionClose q s
  | .paramRead q => Sys2Proof.Machine.execParamRead q s
  | .paramWrite q => Sys2Proof.Machine.execParamWrite q s
  | .paramReadBlock q => Sys2Proof.Machine.execParamReadBlock q s
  | .paramWriteSet q => Sys2Proof.Machine.execParamWriteSet q s
  | .configLoad q => Sys2Proof.Machine.execConfigLoad q s
  | .configActivate q => Sys2Proof.Machine.execConfigActivate q s
  | .modeRequest q => Sys2Proof.Machine.execModeRequest q s
  | .roleRequest q => Sys2Proof.Machine.execRoleRequest q s
  | .powerRequest q => Sys2Proof.Machine.execPowerRequest q s
  | .driveEnable q => Sys2Proof.Machine.execDriveEnable q s
  | .driveDisable q => Sys2Proof.Machine.execDriveDisable q s
  | .curveLoad q => Sys2Proof.Machine.execCurveLoad q s
  | .loopLoad q => Sys2Proof.Machine.execLoopLoad q s
  | .loopStart q => Sys2Proof.Machine.execLoopStart q s
  | .loopStop q => Sys2Proof.Machine.execLoopStop q s
  | .traceArm q => Sys2Proof.Machine.execTraceArm q s
  | .traceRead q => Sys2Proof.Machine.execTraceRead q s
  | .combLoad q => Sys2Proof.Machine.execCombLoad q s
  | .netStart q => Sys2Proof.Machine.execNetStart q s
  | .netStop q => Sys2Proof.Machine.execNetStop q s
  | .lockoutResetReq q => Sys2Proof.Machine.execLockoutResetReq q s
  | .claimStatus q => Sys2Proof.Machine.execClaimStatus q s
  | .logRead q => Sys2Proof.Machine.execLogRead q s
  | .logFreezeClear q => Sys2Proof.Machine.execLogFreezeClear q s
  | .sensorRead q => Sys2Proof.Machine.execSensorRead q s
  | .imageBegin q => Sys2Proof.Machine.execImageBegin q s
  | .imageBlock q => Sys2Proof.Machine.execImageBlock q s
  | .imageCommit q => Sys2Proof.Machine.execImageCommit q s
  | .imageActivate q => Sys2Proof.Machine.execImageActivate q s
  | .imageResume q => Sys2Proof.Machine.execImageResume q s
  | .attest q => Sys2Proof.Machine.execAttest q s
  | .debugChallenge q => Sys2Proof.Machine.execDebugChallenge q s
  | .debugResponse q => Sys2Proof.Machine.execDebugResponse q s
  | .lifecycleAdvance q => Sys2Proof.Machine.execLifecycleAdvance q s
  | .bistRun q => Sys2Proof.Machine.execBistRun q s
  | .bistResult q => Sys2Proof.Machine.execBistResult q s
  | .pctConfig q => Sys2Proof.Machine.execPctConfig q s
  | .pctRead q => Sys2Proof.Machine.execPctRead q s
  | .pctSampleRead q => Sys2Proof.Machine.execPctSampleRead q s
  | .ceReturn h slot => Sys2Proof.Machine.execCeReturn h slot s
  | .rcClear h inst freeze => Sys2Proof.Machine.execRcClear h inst freeze s
  | .gdTestStart h g => Sys2Proof.Machine.execGdTestStart h g s
  | .minVsupRestart h => Sys2Proof.Machine.execMinVsupRestart h s
  | .exePeakRestart h => Sys2Proof.Machine.execExePeakRestart h s
  | .fclLatchClear h => Sys2Proof.Machine.execFclLatchClear h s
  | .keyProgram h slot => Sys2Proof.Machine.execKeyProgram h slot s
  | .keyRevoke h slot => Sys2Proof.Machine.execKeyRevoke h slot s
  | .debugRelock h => Sys2Proof.Machine.execDebugRelock h s
  | .clrCnt h => Sys2Proof.Machine.execClrCnt h s
  | .biArm h v => Sys2Proof.Machine.execBiArm h v s
  | .samplerEnable h interval => Sys2Proof.Machine.execSamplerEnable h interval s
  | .compareWrite h k isValue v => Sys2Proof.Machine.execCompareWrite h k isValue v s
  | .spiTransactionEnd l p len instr words crc => Sys2Proof.Machine.execSpiTransactionEnd l p len instr words crc s
  | .sideEffectFinal l p => Sys2Proof.Machine.execSideEffectFinal l p s
  | .cmdFifoWrite l p words => Sys2Proof.Machine.execCmdFifoWrite l p words s
  | .replyFifoRead l p n => Sys2Proof.Machine.execReplyFifoRead l p n s
  | .rewind l p => Sys2Proof.Machine.execRewind l p s
  | .hostReset l p => Sys2Proof.Machine.execHostReset l p s
  | .releaseSem l p => Sys2Proof.Machine.execReleaseSem l p s
  | .semWrite l p k v contended => Sys2Proof.Machine.execSemWrite l p k v contended s
  | .doorbellRing l p v => Sys2Proof.Machine.execDoorbellRing l p v s
  | .mbDataWrite l p v => Sys2Proof.Machine.execMbDataWrite l p v s
  | .mbDataRead l p => Sys2Proof.Machine.execMbDataRead l p s
  | .lockURead l p contended => Sys2Proof.Machine.execLockURead l p contended s
  | .lockUWrite l p v => Sys2Proof.Machine.execLockUWrite l p v s
  | .windowRegisterWrite l p addr v => Sys2Proof.Machine.execWindowRegisterWrite l p addr v s
  | .sessionIdleTimeout l p k => Sys2Proof.Machine.execSessionIdleTimeout l p k s
  | .challengeExpiry l of => Sys2Proof.Machine.execChallengeExpiry l of s
  | .signatureCheckDone l => Sys2Proof.Machine.execSignatureCheckDone l s
  | .mramWriteAttemptEnd l ok => Sys2Proof.Machine.execMramWriteAttemptEnd l ok s
  | .commandResetEffect l => Sys2Proof.Machine.execCommandResetEffect l s
  | .frameStart l passP => Sys2Proof.Machine.execFrameStart l passP s
  | .replyPublish l => Sys2Proof.Machine.execReplyPublish l s
  | .passT l run => Sys2Proof.Machine.execPassT l run s
  | .passTEnd l => Sys2Proof.Machine.execPassTEnd l s
  | .frameCommit l ws => Sys2Proof.Machine.execFrameCommit l ws s
  | .watchdogExpiry l => Sys2Proof.Machine.execWatchdogExpiry l s
  | .mgCoreMismatch l => Sys2Proof.Machine.execMgCoreMismatch l s
  | .sampleBoundary l slot => Sys2Proof.Machine.execSampleBoundary l slot s
  | .loopResult l slot j => Sys2Proof.Machine.execLoopResult l slot j s
  | .oscWindowEnd l slot => Sys2Proof.Machine.execOscWindowEnd l slot s
  | .traceRecord l unit parityError => Sys2Proof.Machine.execTraceRecord l unit parityError s
  | .tracePreFilled l unit => Sys2Proof.Machine.execTracePreFilled l unit s
  | .tracePostDone l unit => Sys2Proof.Machine.execTracePostDone l unit s
  | .cycleStart l => Sys2Proof.Machine.execCycleStart l s
  | .mark l => Sys2Proof.Machine.execMark l s
  | .class4khzPeriod l => Sys2Proof.Machine.execClass4khzPeriod l s
  | .pwmPeriodStart l smp => Sys2Proof.Machine.execPwmPeriodStart l smp s
  | .currentSampleReady l => Sys2Proof.Machine.execCurrentSampleReady l s
  | .ainUpdate l => Sys2Proof.Machine.execAinUpdate l s
  | .voltageLatch l upset => Sys2Proof.Machine.execVoltageLatch l upset s
  | .missedCmdLimit l => Sys2Proof.Machine.execMissedCmdLimit l s
  | .isumFault l => Sys2Proof.Machine.execIsumFault l s
  | .settleElapsed l => Sys2Proof.Machine.execSettleElapsed l s
  | .speedBelowNmax l => Sys2Proof.Machine.execSpeedBelowNmax l s
  | .openTmaxExpiry l => Sys2Proof.Machine.execOpenTmaxExpiry l s
  | .encoderEdge l n e => Sys2Proof.Machine.execEncoderEdge l n e s
  | .zIndex l n => Sys2Proof.Machine.execZIndex l n s
  | .hallEdge l n code => Sys2Proof.Machine.execHallEdge l n code s
  | .sentPulse l n => Sys2Proof.Machine.execSentPulse l n s
  | .sentTimeout l n => Sys2Proof.Machine.execSentTimeout l n s
  | .wssEdge l n => Sys2Proof.Machine.execWssEdge l n s
  | .wssWindowEnd l n => Sys2Proof.Machine.execWssWindowEnd l n s
  | .wssCurrentTimer l n cond => Sys2Proof.Machine.execWssCurrentTimer l n cond s
  | .laneEdge l leg hsReq lsReq => Sys2Proof.Machine.execLaneEdge l leg hsReq lsReq s
  | .switchTransition l leg dir gate steps => Sys2Proof.Machine.execSwitchTransition l leg dir gate steps s
  | .shortTrip l x => Sys2Proof.Machine.execShortTrip l x s
  | .stoHoldEnd l gate => Sys2Proof.Machine.execStoHoldEnd l gate s
  | .doubleShortStep l => Sys2Proof.Machine.execDoubleShortStep l s
  | .shortReport l g => Sys2Proof.Machine.execShortReport l g s
  | .gateFault l leg => Sys2Proof.Machine.execGateFault l leg s
  | .bootstrapUv l leg falling => Sys2Proof.Machine.execBootstrapUv l leg falling s
  | .vgdUndervoltage l => Sys2Proof.Machine.execVgdUndervoltage l s
  | .pisFault l n => Sys2Proof.Machine.execPisFault l n s
  | .chopperSample l vlink10mV iSeen => Sys2Proof.Machine.execChopperSample l vlink10mV iSeen s
  | .ascTmaxExpiry l => Sys2Proof.Machine.execAscTmaxExpiry l s
  | .vlinkAbs l => Sys2Proof.Machine.execVlinkAbs l s
  | .gclkLoss l => Sys2Proof.Machine.execGclkLoss l s
  | .gdlFrame l f => Sys2Proof.Machine.execGdlFrame l f s
  | .gdSelftestEnd l g failed => Sys2Proof.Machine.execGdSelftestEnd l g failed s
  | .catchDecision l us vs ws => Sys2Proof.Machine.execCatchDecision l us vs ws s
  | .zeroCrossing l => Sys2Proof.Machine.execZeroCrossing l s
  | .commutation l => Sys2Proof.Machine.execCommutation l s
  | .softRampStep l => Sys2Proof.Machine.execSoftRampStep l s
  | .lossOfSynchronism l => Sys2Proof.Machine.execLossOfSynchronism l s
  | .brakeTElapsed l => Sys2Proof.Machine.execBrakeTElapsed l s
  | .alignTElapsed l => Sys2Proof.Machine.execAlignTElapsed l s
  | .startTmaxElapsed l => Sys2Proof.Machine.execStartTmaxElapsed l s
  | .coastElapsed l => Sys2Proof.Machine.execCoastElapsed l s
  | .claimPeriodStart l => Sys2Proof.Machine.execClaimPeriodStart l s
  | .cclPeriodStart l => Sys2Proof.Machine.execCclPeriodStart l s
  | .cclFrameReceived l f => Sys2Proof.Machine.execCclFrameReceived l f s
  | .xmbAttemptTimeout l toNext => Sys2Proof.Machine.execXmbAttemptTimeout l toNext s
  | .xmbDeliveryTimeout l toNext => Sys2Proof.Machine.execXmbDeliveryTimeout l toNext s
  | .statusWordReceived l w sw => Sys2Proof.Machine.execStatusWordReceived l w sw s
  | .statusLaneSilence l w => Sys2Proof.Machine.execStatusLaneSilence l w s
  | .rotationTimerExpiry l => Sys2Proof.Machine.execRotationTimerExpiry l s
  | .handoverClaimTimeout l => Sys2Proof.Machine.execHandoverClaimTimeout l s
  | .healthWindowEnd l => Sys2Proof.Machine.execHealthWindowEnd l s
  | .faultAbsenceExpiry l bit => Sys2Proof.Machine.execFaultAbsenceExpiry l bit s
  | .standstillHeld l => Sys2Proof.Machine.execStandstillHeld l s
  | .heldPressureRelease l => Sys2Proof.Machine.execHeldPressureRelease l s
  | .errorLineRegister l lines => Sys2Proof.Machine.execErrorLineRegister l lines s
  | .lineSourceEnd l line detail => Sys2Proof.Machine.execLineSourceEnd l line detail s
  | .quietTimerExpiry l line detail => Sys2Proof.Machine.execQuietTimerExpiry l line detail s
  | .vsupWarnEnter l => Sys2Proof.Machine.execVsupWarnEnter l s
  | .vsupWarnExit l => Sys2Proof.Machine.execVsupWarnExit l s
  | .rideLimit l => Sys2Proof.Machine.execRideLimit l s
  | .rideClear l => Sys2Proof.Machine.execRideClear l s
  | .limitRampEnd l => Sys2Proof.Machine.execLimitRampEnd l s
  | .ovCutEnter l => Sys2Proof.Machine.execOvCutEnter l s
  | .ovCutExit l => Sys2Proof.Machine.execOvCutExit l s
  | .ovCutTimeout l => Sys2Proof.Machine.execOvCutTimeout l s
  | .vsupReset l => Sys2Proof.Machine.execVsupReset l s
  | .vsupPorRelease l strap tm => Sys2Proof.Machine.execVsupPorRelease l strap tm s
  | .vsupOff l => Sys2Proof.Machine.execVsupOff l s
  | .railFault l => Sys2Proof.Machine.execRailFault l s
  | .pinReset l => Sys2Proof.Machine.execPinReset l s
  | .rstnRelease l tm => Sys2Proof.Machine.execRstnRelease l tm s
  | .clockFailure l xtalLost => Sys2Proof.Machine.execClockFailure l xtalLost s
  | .xtalOk l => Sys2Proof.Machine.execXtalOk l s
  | .pllLock l => Sys2Proof.Machine.execPllLock l s
  | .interconnectTestEnd l failed detail => Sys2Proof.Machine.execInterconnectTestEnd l failed detail s
  | .bootVerificationDone l x => Sys2Proof.Machine.execBootVerificationDone l x s
  | .trialTimeout l => Sys2Proof.Machine.execTrialTimeout l s
  | .keyProgramDone l => Sys2Proof.Machine.execKeyProgramDone l s
  | .trngHealthFail l => Sys2Proof.Machine.execTrngHealthFail l s
  | .eyeletAccess l acc => Sys2Proof.Machine.execEyeletAccess l acc s
  | .sensorUpdate l vals vsupMv => Sys2Proof.Machine.execSensorUpdate l vals vsupMv s
  | .bistTestEnd l passed failed detail => Sys2Proof.Machine.execBistTestEnd l passed failed detail s
  | .samplerRecord l r => Sys2Proof.Machine.execSamplerRecord l r s
  | .powerEntryComplete l wb => Sys2Proof.Machine.execPowerEntryComplete l wb s
  | .powerEntryTimeout l => Sys2Proof.Machine.execPowerEntryTimeout l s
  | .shelfClockStop l => Sys2Proof.Machine.execShelfClockStop l s
  | .wakePin l => Sys2Proof.Machine.execWakePin l s
  | .wakeAddressMatch l b0 b1 => Sys2Proof.Machine.execWakeAddressMatch l b0 b1 s
  | .wakeRestoreDone l readOk => Sys2Proof.Machine.execWakeRestoreDone l readOk s
  | .portActivityStart l p => Sys2Proof.Machine.execPortActivityStart l p s
  | .portActivityEnd l p => Sys2Proof.Machine.execPortActivityEnd l p s
  | .networkHeaderComplete l p hdr codeError => Sys2Proof.Machine.execNetworkHeaderComplete l p hdr codeError s
  | .networkFrameEnd l p body codeError stalled wrote e => Sys2Proof.Machine.execNetworkFrameEnd l p body codeError stalled wrote e s
  | .transmissionStart l cell => Sys2Proof.Machine.execTransmissionStart l cell s
  | .txCollision l p => Sys2Proof.Machine.execTxCollision l p s
  | .guardianGateClose l => Sys2Proof.Machine.execGuardianGateClose l s
  | .forwarderGuardCut l p => Sys2Proof.Machine.execForwarderGuardCut l p s
  | .waggleReceived l n src hops payload stamp => Sys2Proof.Machine.execWaggleReceived l n src hops payload stamp s
  | .delayPingReceived l n target => Sys2Proof.Machine.execDelayPingReceived l n target s
  | .echoReceived l n addr rx => Sys2Proof.Machine.execEchoReceived l n addr rx s
  | .coldstartReceived l payload => Sys2Proof.Machine.execColdstartReceived l payload s
  | .listenTimeout l => Sys2Proof.Machine.execListenTimeout l s
  | .coldstartCycle0 l => Sys2Proof.Machine.execColdstartCycle0 l s
  | .coldstartBackoffEnd l => Sys2Proof.Machine.execColdstartBackoffEnd l s
  | .holdoverTakeover l => Sys2Proof.Machine.execHoldoverTakeover l s
  | .claimWordDecode l lanes => Sys2Proof.Machine.execClaimWordDecode l lanes s
  | .claimStale l lane => Sys2Proof.Machine.execClaimStale l lane s
  | .claimApply l => Sys2Proof.Machine.execClaimApply l s
  | .orphHoldExpiry l => Sys2Proof.Machine.execOrphHoldExpiry l s
  | .pkrDelayExpiry l => Sys2Proof.Machine.execPkrDelayExpiry l s
  | .weltSettingApply l => Sys2Proof.Machine.execWeltSettingApply l s
  | .solPwmPeriodStart l k => Sys2Proof.Machine.execSolPwmPeriodStart l k s
  | .solLoopInterval l k meanMa => Sys2Proof.Machine.execSolLoopInterval l k meanMa s
  | .ditherToggle l => Sys2Proof.Machine.execDitherToggle l s
  | .solShort l k => Sys2Proof.Machine.execSolShort l k s
  | .solOpen l k => Sys2Proof.Machine.execSolOpen l k s
  | .pkrFault l => Sys2Proof.Machine.execPkrFault l s
  | .siLevelAccepted l n high => Sys2Proof.Machine.execSiLevelAccepted l n high s
  | .siDiscrepancy l pair => Sys2Proof.Machine.execSiDiscrepancy l pair s
  | .tpPulseStart l n raw => Sys2Proof.Machine.execTpPulseStart l n raw s
  | .tpPulseEnd l n raw readbackOk => Sys2Proof.Machine.execTpPulseEnd l n raw readbackOk s
  | .soFault l x => Sys2Proof.Machine.execSoFault l x s
  | .vloadLow l => Sys2Proof.Machine.execVloadLow l s
  | .vloadRecovered l => Sys2Proof.Machine.execVloadRecovered l s
  | .weltPowerUp l => Sys2Proof.Machine.execWeltPowerUp l s
  | .weltPowerLoss l => Sys2Proof.Machine.execWeltPowerLoss l s
  | .weltSelfcheckDone l passed => Sys2Proof.Machine.execWeltSelfcheckDone l passed s
  | .weltClockStop l => Sys2Proof.Machine.execWeltClockStop l s
  | .weltInternalFault l => Sys2Proof.Machine.execWeltInternalFault l s
  | .weltDeliberateReset l => Sys2Proof.Machine.execWeltDeliberateReset l s
  | .weltStatusSend l => Sys2Proof.Machine.execWeltStatusSend l s
  | .wrstHigh l => Sys2Proof.Machine.execWrstHigh l s
  | .wstatAlternate l => Sys2Proof.Machine.execWstatAlternate l s
  | .trngHealthPass l => Sys2Proof.Machine.execTrngHealthPass l s
  | .transmissionEnd l => Sys2Proof.Machine.execTransmissionEnd l s
  | .woRegisterRead l p addr => Sys2Proof.Machine.execWoRegisterRead l p addr s

end Sys2Proof.Machine
end

