-- ==== Sys2Proof/Safety.lean ====
section
/-! DEFINITION. What counts as safe on this module, in the terms that statements use: whom a command may change, when
a Welt's outputs may be on, and when a frame serves a command. -/

namespace Sys2Proof.Machine

/-- One of the five parts that R20 and R59 keep apart: a channel island or a Welt. -/
inductive Agent | channel (ch : Ch) | welt (w : Wid)
deriving DecidableEq, Repr

/-- The part that a command concerns. -/
def agentOf : Instr → Agent
  | .nop x => .channel x.hdr.loc.ch
  | .identify x => .channel x.hdr.loc.ch
  | .reset x => .channel x.hdr.loc.ch
  | .sessionOpen x => .channel x.hdr.loc.ch
  | .sessionClose x => .channel x.hdr.loc.ch
  | .paramRead x => .channel x.hdr.loc.ch
  | .paramWrite x => .channel x.hdr.loc.ch
  | .paramReadBlock x => .channel x.hdr.loc.ch
  | .paramWriteSet x => .channel x.hdr.loc.ch
  | .configLoad x => .channel x.hdr.loc.ch
  | .configActivate x => .channel x.hdr.loc.ch
  | .modeRequest x => .channel x.hdr.loc.ch
  | .roleRequest x => .channel x.hdr.loc.ch
  | .powerRequest x => .channel x.hdr.loc.ch
  | .driveEnable x => .channel x.hdr.loc.ch
  | .driveDisable x => .channel x.hdr.loc.ch
  | .curveLoad x => .channel x.hdr.loc.ch
  | .loopLoad x => .channel x.hdr.loc.ch
  | .loopStart x => .channel x.hdr.loc.ch
  | .loopStop x => .channel x.hdr.loc.ch
  | .traceArm x => .channel x.hdr.loc.ch
  | .traceRead x => .channel x.hdr.loc.ch
  | .combLoad x => .channel x.hdr.loc.ch
  | .netStart x => .channel x.hdr.loc.ch
  | .netStop x => .channel x.hdr.loc.ch
  | .lockoutResetReq x => .channel x.hdr.loc.ch
  | .claimStatus x => .channel x.hdr.loc.ch
  | .logRead x => .channel x.hdr.loc.ch
  | .logFreezeClear x => .channel x.hdr.loc.ch
  | .sensorRead x => .channel x.hdr.loc.ch
  | .imageBegin x => .channel x.hdr.loc.ch
  | .imageBlock x => .channel x.hdr.loc.ch
  | .imageCommit x => .channel x.hdr.loc.ch
  | .imageActivate x => .channel x.hdr.loc.ch
  | .imageResume x => .channel x.hdr.loc.ch
  | .attest x => .channel x.hdr.loc.ch
  | .debugChallenge x => .channel x.hdr.loc.ch
  | .debugResponse x => .channel x.hdr.loc.ch
  | .lifecycleAdvance x => .channel x.hdr.loc.ch
  | .bistRun x => .channel x.hdr.loc.ch
  | .bistResult x => .channel x.hdr.loc.ch
  | .pctConfig x => .channel x.hdr.loc.ch
  | .pctRead x => .channel x.hdr.loc.ch
  | .pctSampleRead x => .channel x.hdr.loc.ch
  | .ceReturn x _ => .channel x.loc.ch
  | .rcClear x _ _ => .channel x.loc.ch
  | .gdTestStart x _ => .channel x.loc.ch
  | .minVsupRestart x => .channel x.loc.ch
  | .exePeakRestart x => .channel x.loc.ch
  | .fclLatchClear x => .channel x.loc.ch
  | .keyProgram x _ => .channel x.loc.ch
  | .keyRevoke x _ => .channel x.loc.ch
  | .debugRelock x => .channel x.loc.ch
  | .clrCnt x => .channel x.loc.ch
  | .biArm x _ => .channel x.loc.ch
  | .samplerEnable x _ => .channel x.loc.ch
  | .compareWrite x _ _ _ => .channel x.loc.ch
  | .spiTransactionEnd x _ _ _ _ _ => .channel x.ch
  | .sideEffectFinal x _ => .channel x.ch
  | .cmdFifoWrite x _ _ => .channel x.ch
  | .replyFifoRead x _ _ => .channel x.ch
  | .rewind x _ => .channel x.ch
  | .hostReset x _ => .channel x.ch
  | .releaseSem x _ => .channel x.ch
  | .semWrite x _ _ _ _ => .channel x.ch
  | .doorbellRing x _ _ => .channel x.ch
  | .mbDataWrite x _ _ => .channel x.ch
  | .mbDataRead x _ => .channel x.ch
  | .lockURead x _ _ => .channel x.ch
  | .lockUWrite x _ _ => .channel x.ch
  | .windowRegisterWrite x _ _ _ => .channel x.ch
  | .sessionIdleTimeout x _ _ => .channel x.ch
  | .challengeExpiry x _ => .channel x.ch
  | .signatureCheckDone x => .channel x.ch
  | .mramWriteAttemptEnd x _ => .channel x.ch
  | .commandResetEffect x => .channel x.ch
  | .frameStart x _ => .channel x.ch
  | .replyPublish x => .channel x.ch
  | .passT x _ => .channel x.ch
  | .passTEnd x => .channel x.ch
  | .frameCommit x _ => .channel x.ch
  | .watchdogExpiry x => .channel x.ch
  | .mgCoreMismatch x => .channel x.ch
  | .sampleBoundary x _ => .channel x.ch
  | .loopResult x _ _ => .channel x.ch
  | .oscWindowEnd x _ => .channel x.ch
  | .traceRecord x _ _ => .channel x.ch
  | .tracePreFilled x _ => .channel x.ch
  | .tracePostDone x _ => .channel x.ch
  | .cycleStart x => .channel x.ch
  | .mark x => .channel x.ch
  | .class4khzPeriod x => .channel x.ch
  | .pwmPeriodStart x _ => .channel x.ch
  | .currentSampleReady x => .channel x.ch
  | .ainUpdate x => .channel x.ch
  | .voltageLatch x _ => .channel x.ch
  | .missedCmdLimit x => .channel x.ch
  | .isumFault x => .channel x.ch
  | .settleElapsed x => .channel x.ch
  | .speedBelowNmax x => .channel x.ch
  | .openTmaxExpiry x => .channel x.ch
  | .encoderEdge x _ _ => .channel x.ch
  | .zIndex x _ => .channel x.ch
  | .hallEdge x _ _ => .channel x.ch
  | .sentPulse x _ => .channel x.ch
  | .sentTimeout x _ => .channel x.ch
  | .wssEdge x _ => .channel x.ch
  | .wssWindowEnd x _ => .channel x.ch
  | .wssCurrentTimer x _ _ => .channel x.ch
  | .laneEdge x _ _ _ => .channel x.ch
  | .switchTransition x _ _ _ _ => .channel x.ch
  | .shortTrip x _ => .channel x.ch
  | .stoHoldEnd x _ => .channel x.ch
  | .doubleShortStep x => .channel x.ch
  | .shortReport x _ => .channel x.ch
  | .gateFault x _ => .channel x.ch
  | .bootstrapUv x _ _ => .channel x.ch
  | .vgdUndervoltage x => .channel x.ch
  | .pisFault x _ => .channel x.ch
  | .chopperSample x _ _ => .channel x.ch
  | .ascTmaxExpiry x => .channel x.ch
  | .vlinkAbs x => .channel x.ch
  | .gclkLoss x => .channel x.ch
  | .gdlFrame x _ => .channel x.ch
  | .gdSelftestEnd x _ _ => .channel x.ch
  | .catchDecision x _ _ _ => .channel x.ch
  | .zeroCrossing x => .channel x.ch
  | .commutation x => .channel x.ch
  | .softRampStep x => .channel x.ch
  | .lossOfSynchronism x => .channel x.ch
  | .brakeTElapsed x => .channel x.ch
  | .alignTElapsed x => .channel x.ch
  | .startTmaxElapsed x => .channel x.ch
  | .coastElapsed x => .channel x.ch
  | .claimPeriodStart x => .channel x.ch
  | .cclPeriodStart x => .channel x.ch
  | .cclFrameReceived x _ => .channel x.ch
  | .xmbAttemptTimeout x _ => .channel x.ch
  | .xmbDeliveryTimeout x _ => .channel x.ch
  | .statusWordReceived x _ _ => .channel x.ch
  | .statusLaneSilence x _ => .channel x.ch
  | .rotationTimerExpiry x => .channel x.ch
  | .handoverClaimTimeout x => .channel x.ch
  | .healthWindowEnd x => .channel x.ch
  | .faultAbsenceExpiry x _ => .channel x.ch
  | .standstillHeld x => .channel x.ch
  | .heldPressureRelease x => .channel x.ch
  | .errorLineRegister x _ => .channel x.ch
  | .lineSourceEnd x _ _ => .channel x.ch
  | .quietTimerExpiry x _ _ => .channel x.ch
  | .vsupWarnEnter x => .channel x.ch
  | .vsupWarnExit x => .channel x.ch
  | .rideLimit x => .channel x.ch
  | .rideClear x => .channel x.ch
  | .limitRampEnd x => .channel x.ch
  | .ovCutEnter x => .channel x.ch
  | .ovCutExit x => .channel x.ch
  | .ovCutTimeout x => .channel x.ch
  | .vsupReset x => .channel x.ch
  | .vsupPorRelease x _ _ => .channel x.ch
  | .vsupOff x => .channel x.ch
  | .railFault x => .channel x.ch
  | .pinReset x => .channel x.ch
  | .rstnRelease x _ => .channel x.ch
  | .clockFailure x _ => .channel x.ch
  | .xtalOk x => .channel x.ch
  | .pllLock x => .channel x.ch
  | .interconnectTestEnd x _ _ => .channel x.ch
  | .bootVerificationDone x _ => .channel x.ch
  | .trialTimeout x => .channel x.ch
  | .keyProgramDone x => .channel x.ch
  | .trngHealthFail x => .channel x.ch
  | .eyeletAccess x _ => .channel x.ch
  | .sensorUpdate x _ _ => .channel x.ch
  | .bistTestEnd x _ _ _ => .channel x.ch
  | .samplerRecord x _ => .channel x.ch
  | .powerEntryComplete x _ => .channel x.ch
  | .powerEntryTimeout x => .channel x.ch
  | .shelfClockStop x => .channel x.ch
  | .wakePin x => .channel x.ch
  | .wakeAddressMatch x _ _ => .channel x.ch
  | .wakeRestoreDone x _ => .channel x.ch
  | .portActivityStart x _ => .channel x.ch
  | .portActivityEnd x _ => .channel x.ch
  | .networkHeaderComplete x _ _ _ => .channel x.ch
  | .networkFrameEnd x _ _ _ _ _ _ => .channel x.ch
  | .transmissionStart x _ => .channel x.ch
  | .txCollision x _ => .channel x.ch
  | .guardianGateClose x => .channel x.ch
  | .forwarderGuardCut x _ => .channel x.ch
  | .waggleReceived x _ _ _ _ _ => .channel x.ch
  | .delayPingReceived x _ _ => .channel x.ch
  | .echoReceived x _ _ _ => .channel x.ch
  | .coldstartReceived x _ => .channel x.ch
  | .listenTimeout x => .channel x.ch
  | .coldstartCycle0 x => .channel x.ch
  | .coldstartBackoffEnd x => .channel x.ch
  | .holdoverTakeover x => .channel x.ch
  | .claimWordDecode x _ => .welt x.w
  | .claimStale x _ => .welt x.w
  | .claimApply x => .welt x.w
  | .orphHoldExpiry x => .welt x.w
  | .pkrDelayExpiry x => .welt x.w
  | .weltSettingApply x => .welt x.w
  | .solPwmPeriodStart x _ => .welt x.w
  | .solLoopInterval x _ _ => .welt x.w
  | .ditherToggle x => .welt x.w
  | .solShort x _ => .welt x.w
  | .solOpen x _ => .welt x.w
  | .pkrFault x => .welt x.w
  | .siLevelAccepted x _ _ => .welt x.w
  | .siDiscrepancy x _ => .welt x.w
  | .tpPulseStart x _ _ => .welt x.w
  | .tpPulseEnd x _ _ _ => .welt x.w
  | .soFault x _ => .welt x.w
  | .vloadLow x => .welt x.w
  | .vloadRecovered x => .welt x.w
  | .weltPowerUp x => .welt x.w
  | .weltPowerLoss x => .welt x.w
  | .weltSelfcheckDone x _ => .welt x.w
  | .weltClockStop x => .welt x.w
  | .weltInternalFault x => .welt x.w
  | .weltDeliberateReset x => .welt x.w
  | .weltStatusSend x => .welt x.w
  | .wrstHigh x => .welt x.w
  | .wstatAlternate x => .welt x.w
  | .trngHealthPass x => .channel x.ch
  | .transmissionEnd x => .channel x.ch
  | .woRegisterRead x _ _ => .channel x.ch

/-- Nothing but the named part differs: every other channel, every other Welt, and the queue stand as before. -/
def State.sameBut (a : Agent) (s t : State) : Prop :=
  t.pending = s.pending ∧ (∀ ch, a ≠ .channel ch → t.ch ch = s.ch ch) ∧
    ∀ w, a ≠ .welt w → t.welt w = s.welt w

/-- Commands that may take both supply legs of a Welt down (R24, R505). -/
def dropsSupply : Instr → Bool
  | .vsupReset _ | .vsupOff _ | .shelfClockStop _ => true
  | _ => false

/-- A part of a channel's state. -/
inductive Part
  | rst | clk | sup | exe | ce | sd | ad | gd | fb | wi1 | wi2 | rd | fcl | net | hp | sec
  | pwr | mg | log | pct | params | act | img | nv
deriving DecidableEq, Repr

/-- The part stands as before. -/
def Part.same (c y : Channel) : Part → Prop
  | .rst => y.rst = c.rst
  | .clk => y.clk = c.clk
  | .sup => y.sup = c.sup
  | .exe => y.exe = c.exe
  | .ce => y.ce = c.ce
  | .sd => y.sd = c.sd
  | .ad => y.ad = c.ad
  | .gd => y.gd = c.gd
  | .fb => y.fb = c.fb
  | .wi1 => y.wi1 = c.wi1
  | .wi2 => y.wi2 = c.wi2
  | .rd => y.rd = c.rd
  | .fcl => y.fcl = c.fcl
  | .net => y.net = c.net
  | .hp => y.hp = c.hp
  | .sec => y.sec = c.sec
  | .pwr => y.pwr = c.pwr
  | .mg => y.mg = c.mg
  | .log => y.log = c.log
  | .pct => y.pct = c.pct
  | .params => y.params = c.params
  | .act => y.act = c.act
  | .img => y.img = c.img
  | .nv => y.nv = c.nv

/-- Every part: a reset, a wake or a registration of a fault may reach all of them. -/
def Part.all : List Part :=
  [.rst, .clk, .sup, .exe, .ce, .sd, .ad, .gd, .fb, .wi1, .wi2, .rd, .fcl,
   .net, .hp, .sec, .pwr, .mg, .log, .pct, .params, .act, .img, .nv]

/-- The parts of its channel that a command may change while the core runs in frames; a command packet's effects wait
for the commit (R98, R449), so that its own row changes little. -/
def partsOf : Instr → List Part
  | .nop _ => [.hp, .sec]
  | .identify _ => [.hp, .sec]
  | .reset _ => [.hp, .sec]
  | .sessionOpen _ => [.hp, .sec]
  | .sessionClose _ => [.hp, .sec]
  | .paramRead _ => [.hp, .sec]
  | .paramWrite _ => [.hp, .sec, .mg, .params]
  | .paramReadBlock _ => [.hp, .sec]
  | .paramWriteSet _ => [.hp, .sec, .mg, .params]
  | .configLoad _ => [.hp, .sec]
  | .configActivate _ => [.hp, .sec]
  | .modeRequest _ => [.hp, .sec]
  | .roleRequest _ => [.hp, .sec]
  | .powerRequest _ => [.hp, .sec, .pwr]
  | .driveEnable _ => [.hp, .sec]
  | .driveDisable _ => [.hp, .sec]
  | .curveLoad _ => [.hp, .sec]
  | .loopLoad _ => [.hp, .sec, .params]
  | .loopStart _ => [.hp, .sec]
  | .loopStop _ => [.hp, .sec]
  | .traceArm _ => [.hp, .sec]
  | .traceRead _ => [.hp, .sec]
  | .combLoad _ => [.net, .hp, .sec]
  | .netStart _ => [.hp, .sec]
  | .netStop _ => [.hp, .sec]
  | .lockoutResetReq _ => [.hp, .sec]
  | .claimStatus _ => [.hp, .sec]
  | .logRead _ => [.hp, .sec]
  | .logFreezeClear _ => [.hp, .sec]
  | .sensorRead _ => [.hp, .sec]
  | .imageBegin _ => [.hp, .sec]
  | .imageBlock _ => [.hp, .sec]
  | .imageCommit _ => [.hp, .sec]
  | .imageActivate _ => [.hp, .sec]
  | .imageResume _ => [.fcl, .hp, .sec]
  | .attest _ => [.hp, .sec]
  | .debugChallenge _ => [.hp, .sec]
  | .debugResponse _ => [.hp, .sec]
  | .lifecycleAdvance _ => [.hp, .sec]
  | .bistRun _ => [.hp, .sec]
  | .bistResult _ => [.hp, .sec]
  | .pctConfig _ => [.hp, .sec]
  | .pctRead _ => [.hp, .sec]
  | .pctSampleRead _ => [.hp, .sec]
  | .ceReturn _ _ => [.hp, .sec, .mg, .params]
  | .rcClear _ _ _ => [.hp, .sec, .mg, .params]
  | .gdTestStart _ _ => [.hp, .sec, .mg, .params]
  | .minVsupRestart _ => [.hp, .sec, .mg, .params]
  | .exePeakRestart _ => [.hp, .sec, .mg, .params]
  | .fclLatchClear _ => [.hp, .sec, .mg, .params]
  | .keyProgram _ _ => [.hp, .sec, .mg, .params]
  | .keyRevoke _ _ => [.hp, .sec, .mg, .params]
  | .debugRelock _ => [.hp, .sec, .mg, .params]
  | .clrCnt _ => [.hp, .sec, .mg, .params]
  | .biArm _ _ => [.hp, .sec, .mg, .params]
  | .samplerEnable _ _ => [.hp, .sec, .mg, .params]
  | .compareWrite _ _ _ _ => [.hp, .sec, .mg, .params]
  | .spiTransactionEnd _ _ _ _ _ _ => [.fcl, .hp, .pct]
  | .sideEffectFinal _ _ => [.hp]
  | .cmdFifoWrite _ _ _ => [.fcl, .hp, .pct]
  | .replyFifoRead _ _ _ => [.hp]
  | .rewind _ _ => [.hp]
  | .hostReset _ _ => [.hp]
  | .releaseSem _ _ => [.hp]
  | .semWrite _ _ _ _ _ => [.hp]
  | .doorbellRing _ _ _ => [.hp]
  | .mbDataWrite _ _ _ => [.hp]
  | .mbDataRead _ _ => [.hp]
  | .lockURead _ _ _ => [.hp]
  | .lockUWrite _ _ _ => [.hp]
  | .windowRegisterWrite _ _ _ _ => [.fcl, .hp, .pct]
  | .sessionIdleTimeout _ _ _ => [.hp]
  | .challengeExpiry _ _ => [.hp, .sec]
  | .signatureCheckDone _ => [.fcl, .hp, .sec, .log, .pct, .nv]
  | .mramWriteAttemptEnd _ _ => Part.all
  | .commandResetEffect _ => Part.all
  | .frameStart _ _ => [.exe, .sd, .ad, .gd, .fb, .rd, .fcl, .net, .hp, .pwr, .log, .pct, .nv]
  | .replyPublish _ => [.exe, .hp, .pct]
  | .passT _ _ => [.exe, .sd, .ad, .gd, .rd, .fcl, .log, .pct, .nv]
  | .passTEnd _ => [.exe, .sd, .ad, .gd, .rd, .fcl, .log, .pct, .nv]
  | .frameCommit _ _ =>
    [.clk, .sup, .exe, .ce, .sd, .ad, .gd, .fb, .wi1, .wi2, .rd, .fcl, .net, .hp, .sec, .mg, .log, .pct, .params, .act, .nv]
  | .watchdogExpiry _ => Part.all
  | .mgCoreMismatch _ => [.fcl]
  | .sampleBoundary _ _ => [.ce, .fcl, .pct, .act]
  | .loopResult _ _ _ => [.exe, .ce, .sd, .ad, .gd, .rd, .fcl, .log, .pct, .nv]
  | .oscWindowEnd _ _ => [.ce, .fcl]
  | .traceRecord _ _ _ => [.ce, .fcl]
  | .tracePreFilled _ _ => [.ce]
  | .tracePostDone _ _ => [.ce]
  | .cycleStart _ => [.clk, .sd, .ad, .gd, .rd, .fcl, .net, .hp, .log, .pct, .nv]
  | .mark _ => [.ce, .sd, .ad, .gd, .fb, .rd, .fcl, .net, .sec, .log, .pct, .params, .act, .nv]
  | .class4khzPeriod _ => [.exe, .ce, .sd, .ad, .gd, .rd, .fcl, .log, .pct, .nv]
  | .pwmPeriodStart _ _ => [.sup, .ce, .sd, .ad, .gd, .fb, .rd, .fcl, .pct]
  | .currentSampleReady _ => [.exe, .sd, .ad, .gd, .rd, .fcl, .log, .pct, .nv]
  | .ainUpdate _ => [.fb, .fcl, .pct]
  | .voltageLatch _ _ => [.exe, .ce, .sd, .ad, .gd, .rd, .fcl, .log, .pct, .nv]
  | .missedCmdLimit _ => [.sd, .gd, .rd, .fcl]
  | .isumFault _ => [.sd, .gd, .rd, .fcl]
  | .settleElapsed _ => [.sd]
  | .speedBelowNmax _ => [.sd, .gd, .fb, .rd, .fcl, .params, .act]
  | .openTmaxExpiry _ => [.sd, .gd, .rd]
  | .encoderEdge _ _ _ => [.sd, .fb, .fcl, .pct, .params, .act]
  | .zIndex _ _ => [.ce, .sd, .fb, .fcl]
  | .hallEdge _ _ _ => [.sd, .gd, .fb, .rd, .fcl]
  | .sentPulse _ _ => [.fb, .fcl, .pct]
  | .sentTimeout _ _ => [.fb, .fcl, .pct]
  | .wssEdge _ _ => [.sd, .fb, .pct, .params, .act]
  | .wssWindowEnd _ _ => [.fb]
  | .wssCurrentTimer _ _ _ => [.fb, .fcl]
  | .laneEdge _ _ _ _ => [.gd, .fcl]
  | .switchTransition _ _ _ _ _ => [.gd, .pct]
  | .shortTrip _ _ => [.gd]
  | .stoHoldEnd _ _ => [.gd]
  | .doubleShortStep _ => [.gd]
  | .shortReport _ _ => [.sd, .ad, .gd, .rd, .fcl]
  | .gateFault _ _ => [.sd, .ad, .gd, .rd, .fcl]
  | .bootstrapUv _ _ _ => [.gd, .fcl, .pct]
  | .vgdUndervoltage _ => [.gd, .fcl]
  | .pisFault _ _ => [.gd, .rd, .fcl]
  | .chopperSample _ _ _ => [.exe, .sd, .ad, .gd, .rd, .fcl, .log, .pct, .nv]
  | .ascTmaxExpiry _ => [.sd, .gd, .rd]
  | .vlinkAbs _ => [.sd, .ad, .gd, .rd, .fcl]
  | .gclkLoss _ => [.gd]
  | .gdlFrame _ _ => [.gd, .fcl]
  | .gdSelftestEnd _ _ _ => [.sd, .ad, .gd, .fb, .rd, .fcl, .params, .act]
  | .catchDecision _ _ _ _ => [.ce, .ad, .gd, .rd, .fcl, .pct]
  | .zeroCrossing _ => [.ad, .pct]
  | .commutation _ => [.exe, .ce, .sd, .ad, .gd, .rd, .fcl, .log, .pct, .nv]
  | .softRampStep _ => [.ad, .gd]
  | .lossOfSynchronism _ => [.ad, .gd, .rd, .fcl]
  | .brakeTElapsed _ => [.ad, .gd]
  | .alignTElapsed _ => [.ad]
  | .startTmaxElapsed _ => [.ad, .gd, .rd, .fcl]
  | .coastElapsed _ => [.ad, .gd]
  | .claimPeriodStart _ => [.wi1, .wi2, .rd, .fcl, .sec, .log, .pct, .nv]
  | .cclPeriodStart _ => [.exe, .sd, .ad, .gd, .rd, .fcl, .hp, .log, .pct, .nv]
  | .cclFrameReceived _ _ => [.ce, .rd, .hp, .pct]
  | .xmbAttemptTimeout _ _ => [.hp]
  | .xmbDeliveryTimeout _ _ => [.hp]
  | .statusWordReceived _ _ _ => [.wi1, .wi2, .rd, .fcl]
  | .statusLaneSilence _ _ => [.wi1, .wi2, .fcl]
  | .rotationTimerExpiry _ => [.sd, .rd]
  | .handoverClaimTimeout _ => [.rd, .fcl]
  | .healthWindowEnd _ => [.exe, .sd, .ad, .gd, .rd, .fcl, .log, .pct, .nv]
  | .faultAbsenceExpiry _ _ => [.rd, .fcl]
  | .standstillHeld _ => [.rd, .log, .pct, .nv]
  | .heldPressureRelease _ => [.ce, .rd]
  | .errorLineRegister _ _ => Part.all
  | .lineSourceEnd _ _ _ => [.rd, .fcl]
  | .quietTimerExpiry _ _ _ => Part.all
  | .vsupWarnEnter _ => [.rst, .sup, .pwr]
  | .vsupWarnExit _ => [.rst, .sup, .fcl, .log, .pct, .nv]
  | .rideLimit _ => [.sup, .fcl]
  | .rideClear _ => [.sup]
  | .limitRampEnd _ => [.sup]
  | .ovCutEnter _ => [.rst, .sup, .sd, .ad, .gd, .rd, .fcl]
  | .ovCutExit _ => [.rst, .sup, .sd, .ad, .gd, .fb, .rd, .fcl, .log, .pct, .params, .act, .nv]
  | .ovCutTimeout _ => [.sup, .sd, .ad, .gd, .fcl]
  | .vsupReset _ => Part.all
  | .vsupPorRelease _ _ _ => [.rst, .clk]
  | .vsupOff _ => Part.all
  | .railFault _ => Part.all
  | .pinReset _ => Part.all
  | .rstnRelease _ _ => [.rst, .clk]
  | .clockFailure _ _ => Part.all
  | .xtalOk _ => [.rst, .clk]
  | .pllLock _ => [.rst, .clk]
  | .interconnectTestEnd _ _ _ => [.rst, .gd, .wi1, .wi2, .rd, .fcl, .mg, .log, .pct, .nv]
  | .bootVerificationDone _ _ =>
    [.rst, .clk, .sup, .exe, .ce, .sd, .ad, .gd, .wi1, .wi2, .rd, .fcl, .net, .sec, .pwr, .log, .pct, .params, .act, .img, .nv]
  | .trialTimeout _ => Part.all
  | .keyProgramDone _ => [.sec, .log, .pct, .nv]
  | .trngHealthFail _ => [.sec]
  | .eyeletAccess _ _ => Part.all
  | .sensorUpdate _ _ _ => [.sup, .fcl, .mg]
  | .bistTestEnd _ _ _ _ => [.sd, .gd, .fb, .wi1, .wi2, .rd, .fcl, .net, .hp, .mg, .log, .pct, .nv]
  | .samplerRecord _ _ => [.pct]
  | .powerEntryComplete _ _ => [.hp, .pwr, .pct, .nv]
  | .powerEntryTimeout _ => [.hp, .pwr, .pct, .nv]
  | .shelfClockStop _ => [.rst, .clk, .sup, .exe, .gd, .net, .hp, .pwr, .log, .pct, .nv]
  | .wakePin _ => [.rst, .gd, .fb, .wi1, .wi2, .rd, .net, .hp, .pwr, .mg, .log, .pct, .nv]
  | .wakeAddressMatch _ _ _ => [.rst, .pwr]
  | .wakeRestoreDone _ _ => Part.all
  | .portActivityStart _ _ => [.rd, .fcl, .net, .hp, .pct]
  | .portActivityEnd _ _ => [.rd, .fcl, .net, .hp, .pct]
  | .networkHeaderComplete _ _ _ _ => [.rd, .fcl, .net, .hp, .pct]
  | .networkFrameEnd _ _ _ _ _ _ _ => [.rd, .fcl, .net, .hp, .pct]
  | .transmissionStart _ _ => [.clk, .rd, .fcl, .net, .hp, .pct]
  | .txCollision _ _ => [.clk, .rd, .fcl, .net, .hp, .pct]
  | .guardianGateClose _ => [.clk, .rd, .fcl, .net, .hp, .pct]
  | .forwarderGuardCut _ _ => [.rd, .fcl, .net, .hp, .pct]
  | .waggleReceived _ _ _ _ _ _ => [.clk, .fcl, .net]
  | .delayPingReceived _ _ _ => [.net]
  | .echoReceived _ _ _ _ => [.net]
  | .coldstartReceived _ _ => [.clk, .fcl, .net]
  | .listenTimeout _ => [.rd, .fcl, .net, .hp, .pct]
  | .coldstartCycle0 _ => [.clk, .rd, .fcl, .net, .hp, .pct]
  | .coldstartBackoffEnd _ => [.rd, .fcl, .net, .hp, .pct]
  | .holdoverTakeover _ => [.net]
  | .claimWordDecode _ _ => []
  | .claimStale _ _ => []
  | .claimApply _ => []
  | .orphHoldExpiry _ => []
  | .pkrDelayExpiry _ => []
  | .weltSettingApply _ => []
  | .solPwmPeriodStart _ _ => []
  | .solLoopInterval _ _ _ => []
  | .ditherToggle _ => []
  | .solShort _ _ => []
  | .solOpen _ _ => []
  | .pkrFault _ => []
  | .siLevelAccepted _ _ _ => []
  | .siDiscrepancy _ _ => []
  | .tpPulseStart _ _ _ => []
  | .tpPulseEnd _ _ _ _ => []
  | .soFault _ _ => []
  | .vloadLow _ => []
  | .vloadRecovered _ => []
  | .weltPowerUp _ => []
  | .weltPowerLoss _ => []
  | .weltSelfcheckDone _ _ => []
  | .weltClockStop _ => []
  | .weltInternalFault _ => []
  | .weltDeliberateReset _ => []
  | .weltStatusSend _ => []
  | .wrstHigh _ => []
  | .wstatAlternate _ => []
  | .trngHealthPass _ => [.sec]
  | .transmissionEnd _ => [.rd, .fcl, .net, .hp, .pct]
  | .woRegisterRead _ _ _ => [.hp]

/-- The row is a command packet, or a write of a parameter that a packet carries. -/
def isPacket : Instr → Bool
  | .nop _ | .identify _ | .reset _ | .sessionOpen _ | .sessionClose _ | .paramRead _ | .paramWrite _
  | .paramReadBlock _ | .paramWriteSet _ | .configLoad _ | .configActivate _ | .modeRequest _
  | .roleRequest _ | .powerRequest _ | .driveEnable _ | .driveDisable _ | .curveLoad _ | .loopLoad _
  | .loopStart _ | .loopStop _ | .traceArm _ | .traceRead _ | .combLoad _ | .netStart _ | .netStop _
  | .lockoutResetReq _ | .claimStatus _ | .logRead _ | .logFreezeClear _ | .sensorRead _ | .imageBegin _
  | .imageBlock _ | .imageCommit _ | .imageActivate _ | .imageResume _ | .attest _ | .debugChallenge _
  | .debugResponse _ | .lifecycleAdvance _ | .bistRun _ | .bistResult _ | .pctConfig _ | .pctRead _
  | .pctSampleRead _ | .ceReturn _ _ | .rcClear _ _ _ | .gdTestStart _ _ | .minVsupRestart _
  | .exePeakRestart _ | .fclLatchClear _ | .keyProgram _ _ | .keyRevoke _ _ | .debugRelock _ | .clrCnt _
  | .biArm _ _ | .samplerEnable _ _ | .compareWrite _ _ _ _ => true
  | _ => false

/-- The output stage of a Welt may drive its solenoids and its half of PKR (R293, R307, R313, R315). -/
def Welt.driving (w : Welt) : Prop := w.powered = true ∧ w.vload = true ∧ w.dead = false ∧ w.st ≠ .init

/-- The safety outputs of a Welt may be on: RUN, powered, load supply within range, not orphaned (R24, R293, R304,
R312). -/
def Welt.switching (w : Welt) : Prop := w.st = .run ∧ w.powered = true ∧ w.vload = true ∧ w.orphSet = false

/-- No deliberate reset of the Welt is due (R316). -/
def Welt.calm (w : Welt) (t : Nat) : Prop := ∀ r, w.resetAt = some r → t < r

/-- A Welt is safe: SO0, SO1, its half of PKR and its solenoids are on only where R24, R293, R304 to R307, R312, R313
and R315 let them be on, a load supply out of range stands among its causes, and no setpoint in force and no fallback
setting exceeds 3,000 mA (R305, R323). -/
structure Welt.Safe (w : Welt) : Prop where
  so0  : w.so0 = true → w.switching ∧ w.so0Req = true ∧ w.gated 0 = false
  so1  : w.so1 = true → w.switching ∧ w.so1Req = true ∧ w.gated 1 = false
  pkr  : w.pkr = true → w.driving ∧ w.pkrReq = true ∧ w.pkrDrop = false ∧ w.pkrFault = false
  sol0 : w.sol0.on = true → w.driving ∧ w.sol0.fault = false ∧ w.sp0 ≠ 0
  sol1 : w.sol1.on = true → w.driving ∧ w.sol1.fault = false ∧ w.sp1 ≠ 0
  load : w.powered = true → w.vload = false → w.causes.contains .vload = true
  sp   : w.sp0.toNat ≤ 3000 ∧ w.sp1.toNat ≤ 3000 ∧ w.set6.toNat ≤ 3000 ∧ w.set7.toNat ≤ 3000

/-- Both Welts are safe. -/
def State.Safe (s : State) : Prop := s.w1.Safe ∧ s.w2.Safe

/-- The channel once a frame has taken a packet and its session has been used (R86, R451, R452). -/
def Channel.begun (c : Channel) (h : Hdr) (op : Byte) : Channel := (c.takeSampled h op).useSession h op

/-- Checks 5 to 8 of R448 pass in a frame of a running core, at its start: no state of the channel
refuses, the session is open at the level, and the port owns the semaphores in the snapshot. -/
def Channel.admits (c : Channel) (h : Hdr) (level : BitVec 2) (sems : List (Fin 16)) : Prop :=
  c.running = true ∧ h.loc.t = c.exe.startAt ∧ c.rst.tm = false ∧ c.sec.recovery = false ∧ c.pwr.entry = none ∧
    h.session.toNat < 8 ∧ (c.sessOf h).st = .opened ∧ level ≤ (c.sessOf h).level ∧ ∀ i ∈ sems, c.hp.semSnap[i] = some h.port

/-- A frame's answer: one reply more, and the effects that wait for its commit (R86, R98). -/
def Channel.replied (c : Channel) (h : Hdr) (iso : Bool) (a : Ans) (es : List Effect) : Channel :=
  { c with hp := { c.hp with
      results := c.hp.results ++ [{ c.replyOf h.loc.t h.port h.tag h.session a with iso := iso }]
      effects := c.hp.effects ++ es } }

/-- A write of a value to an ID is accepted: its map, the state of its block and its queue let it be (R13, R14, R132).
-/
def Channel.accepts (c : Channel) (h : Hdr) (e : Nat × Word) : Prop :=
  writeCheck c.getW e.1 e.2 = none ∧ c.writeLock h e.1 e.2 = none ∧ ∀ d, pdef e.1 = some d → c.queueFull d e.1 = false

/-- An accepted write, before its reply (R44, R91). -/
def Channel.written (h : Hdr) (c : Channel) (e : Nat × Word) : Channel :=
  match pdef e.1 with
  | some d => c.writeDone h d e.1 e.2
  | none => c

/-- Every write of a set is accepted, each judged after the ones before it (R43, R44). -/
def Channel.acceptsAll (h : Hdr) : List (Nat × Word) → Channel → Prop
  | [], _ => True
  | e :: r, c => c.accepts h e ∧ Channel.acceptsAll h r (Channel.written h c e)

/-- The reply to an accepted write: OK with the value as it reads (R453). -/
def Channel.wrote (c : Channel) (h : Hdr) (id : Nat) : Channel :=
  c.replied h false { status := stOk, result := c.paramRead h.loc.t id } []

/-- A command completes on a channel: exec answers a next state in which that channel alone differs, and it is as P
says. -/
def State.chGets (s : State) (i : Instr) (ch : Ch) (P : Channel → Prop) : Prop :=
  ∃ x, exec i s = .next (s.setCh ch x) ∧ P x

/-- A command that may take supply legs down completes on a channel: that channel is as P says, and Welts that lost both
legs follow (R24). -/
def State.chFeeds (s : State) (i : Instr) (ch : Ch) (P : Channel → Prop) : Prop :=
  ∃ x, exec i s = .next (s.setCh ch x).feed ∧ P x

/-- A command completes on a Welt: exec answers a next state in which that Welt alone differs, and it is as P says. -/
def State.weltGets (s : State) (i : Instr) (w : Wid) (P : Welt → Prop) : Prop :=
  ∃ x, exec i s = .next (s.setWelt w x) ∧ P x

end Sys2Proof.Machine
end

