-- ==== Sys2Proof/Certificates/Slice0/Obligations.lean ====
section
/-! DEFINITION. The statements about the SP9430 model, for the provers. -/

open Sys2Proof Sys2Proof.Machine

/-- A step is the command at the front of the queue, run with the rest of the queue; an empty queue idles (model's
choice, log entry 4). -/
def Obligations.StepRunsTheFrontCommand : Prop :=
  (∀ (c : Instr) (rest : List Instr) (s : State), s.pending = c :: rest → step s = exec c { s with pending := rest }) ∧
    ∀ s : State, s.pending = [] → step s = .next s

/-- Every command on every state answers a next state, and changes only the channel or the Welt that it concerns (R20,
R59); where it takes a supply away, a Welt whose two supply legs are then down loses its state too (R24). -/
def Obligations.EveryCommandKeepsToItsPart : Prop :=
  ∀ (i : Instr) (s : State), ∃ u, exec i s = .next (if dropsSupply i then u.feed else u) ∧
    State.sameBut (agentOf i) s u

/-- No step makes a safe Welt unsafe, whichever command runs (R293, R304 to R307, R312, R313, R315). -/
def Obligations.WeltSafetyIsKeptByEveryStep : Prop :=
  ∀ s t : State, s.Safe → step s = .next t → t.Safe

/-- What a command leaves alone on its channel: every part of the state that partsOf does not name for it; a command
packet so while the core runs in frames, since its effects wait for the commit (R98, R449). -/
def Obligations.CommandsLeaveTheOtherPartsAlone : Prop :=
  ∀ (i : Instr) (s t : State) (ch : Ch) (p : Part), agentOf i = .channel ch → exec i s = .next t →
    (isPacket i = true → (s.ch ch).running = true) → p ∉ partsOf i → Part.same (s.ch ch) (t.ch ch) p

/-- The table of R313: on a powered Welt, whatever command of its own runs but those of its supply; in START, WSTAT
alternates at its command and stands otherwise, while no deliberate reset is due. -/
def Obligations.WeltStatesBoundTheOutputs : Prop :=
  ∀ (i : Instr) (s t : State) (w : Wid), s.Safe → (s.welt w).powered = true → agentOf i = .welt w →
    (∀ l, i ≠ .weltPowerLoss l) → (∀ l, i ≠ .weltPowerUp l) → exec i s = .next t →
    let x := t.welt w
    (x.st = .init → x.st.code = 0 ∧ x.so0 = false ∧ x.so1 = false ∧ x.pkr = false ∧ x.sol0.on = false ∧
      x.sol1.on = false ∧ x.wstat = false) ∧
    (x.st = .start → x.st.code = 1 ∧ x.so0 = false ∧ x.so1 = false) ∧
    (x.st = .start → (s.welt w).st = .start → (s.welt w).resetAt = none →
      ((∃ l, i = .wstatAlternate l) → x.wstat = !(s.welt w).wstat) ∧
      ((∀ l, i ≠ .wstatAlternate l) → x.wstat = (s.welt w).wstat)) ∧
    (x.st = .run → x.st.code = 2 ∧ x.wstat = true) ∧
    (x.st = .lockout → x.st.code = 3 ∧ x.so0 = false ∧ x.so1 = false ∧ x.wstat = false)

/-- WELT_STATUS_SEND: the status word shows the Welt as it then stands, the outputs follow their conditions, and with no
deliberate reset due nothing else of the Welt changes (R307, R311, R312, R318). -/
def Obligations.StatusWordShowsOutputs : Prop :=
  ∀ (s : State) (l : WAt), (s.welt l.w).powered = true →
    s.weltGets (.weltStatusSend l) l.w fun x =>
      let w := s.welt l.w
      x.sent = some x.status ∧
      (x.so0 = true ↔ x.st = .run ∧ x.vload = true ∧ x.so0Req = true ∧ x.orphSet = false ∧ x.gated 0 = false) ∧
      (x.so1 = true ↔ x.st = .run ∧ x.vload = true ∧ x.so1Req = true ∧ x.orphSet = false ∧ x.gated 1 = false) ∧
      (x.pkr = true ↔ x.driving ∧ x.pkrReq = true ∧ x.pkrDrop = false ∧ x.pkrFault = false) ∧
      (w.calm l.t →
        x = { w with st := x.st, cause := x.cause, lockedAt := x.lockedAt, orphSet := x.orphSet, so0 := x.so0,
                     so1 := x.so1, pkr := x.pkr, wstat := x.wstat, sent := x.sent, tp0 := x.tp0, tp1 := x.tp1
                     sol0 := { w.sol0 with on := x.sol0.on }, sol1 := { w.sol1 with on := x.sol1.on } })

/-- A valid claim is fresh from its decode until 1,200 WCLK later; a word that is not good changes nothing of its
lane's claim; a claim that is stale is ignored (R298). -/
def Obligations.ClaimsStayFreshFor1200Wclk : Prop :=
  ∀ (s : State) (l : WAt) (ch : Ch) (word : ClaimWord), (s.welt l.w).powered = true →
    let lane := (s.welt l.w).lanes[ch.idx]
    (wordGood lane word = true → claimValid ch.idx word.claim = true →
      s.weltGets (.claimWordDecode l [(ch, word)]) l.w fun x =>
        (x.lanes[ch.idx]).claim = word.claim ∧ (x.lanes[ch.idx]).fresh = true ∧ (x.lanes[ch.idx]).freshAt = l.t ∧
        (x.lanes[ch.idx]).word = some word ∧ x.orphan = none ∧ x.accepted = x.best) ∧
    (wordGood lane word = false →
      s.weltGets (.claimWordDecode l [(ch, word)]) l.w fun x =>
        (x.lanes[ch.idx]).claim = lane.claim ∧ (x.lanes[ch.idx]).fresh = lane.fresh ∧
        (x.lanes[ch.idx]).freshAt = lane.freshAt ∧ (x.lanes[ch.idx]).word = lane.word) ∧
    (lane.fresh = true → lane.freshAt + 1200 ≤ l.t →
      s.weltGets (.claimStale l ch) l.w fun x =>
        x.lanes = (s.welt l.w).lanes.set ch.idx { lane with fresh := false, claim := 0 } ∧ x.accepted = x.best) ∧
    (lane.fresh = true → l.t < lane.freshAt + 1200 →
      s.weltGets (.claimStale l ch) l.w fun x => x.lanes = (s.welt l.w).lanes ∧ x.accepted = (s.welt l.w).accepted)

/-- The accepted claim is the highest fresh one, none exactly where no lane is fresh; it is judged anew at every
decode, of all lanes decoded in that WCLK together, and at every expiry, and a decode in the WCLK of the old claim's
expiry keeps its lane fresh (R299). -/
def Obligations.HighestFreshClaimIsAccepted : Prop :=
  (∀ w : Welt, (w.best = none ↔ ∀ k : Fin 3, (w.lanes[k]).fresh = false) ∧
    ∀ k : Fin 3, w.best = some k → (w.lanes[k]).fresh = true ∧
      ∀ j : Fin 3, (w.lanes[j]).fresh = true → (w.lanes[j]).claim ≤ (w.lanes[k]).claim) ∧
  (∀ (s : State) (l : WAt) (words : List (Ch × ClaimWord)), (s.welt l.w).powered = true →
    words.Pairwise (fun p q => p.1 ≠ q.1) →
    s.weltGets (.claimWordDecode l words) l.w fun x =>
      x.accepted = x.best ∧
      ∀ p ∈ words, wordGood (s.welt l.w).lanes[p.1.idx] p.2 = true → claimValid p.1.idx p.2.claim = true →
        (x.lanes[p.1.idx]).fresh = true ∧ (x.lanes[p.1.idx]).claim = p.2.claim ∧
        l.t < (x.lanes[p.1.idx]).freshAt + 1200) ∧
  ∀ (s : State) (l : WAt) (ch : Ch), (s.welt l.w).powered = true →
    ((s.welt l.w).lanes[ch.idx]).fresh = true → ((s.welt l.w).lanes[ch.idx]).freshAt + 1200 ≤ l.t →
    s.weltGets (.claimStale l ch) l.w fun x => (x.lanes[ch.idx]).fresh = false ∧ x.accepted = x.best

/-- CLAIM_APPLY, with no deliberate reset due: setpoints, clamped to 3,000 mA, and requests of the scheduled word come
into force, and a PKR half that the orphan state dropped takes its release only after a 0 (R300, R304, R305, R307). -/
def Obligations.AcceptedWordApplies : Prop :=
  ∀ (s : State) (l : WAt) (a : Nat) (k : Fin 3) (word : ClaimWord), (s.welt l.w).powered = true →
    (s.welt l.w).apply = [(a, k, word)] → a ≤ l.t → (s.welt l.w).calm l.t →
    s.weltGets (.claimApply l) l.w fun x =>
      let w := s.welt l.w
      x.apply = [] ∧ x.sp0.toNat = min word.sp0.toNat 3000 ∧ x.sp1.toNat = min word.sp1.toNat 3000 ∧
      x.so0Req = word.req.getLsbD 3 ∧ x.so1Req = word.req.getLsbD 2 ∧ x.pkrReq = word.req.getLsbD 1 ∧
      x.accSeq = word.seq ∧ x.clamp = decide (3000 < word.sp0.toNat ∨ 3000 < word.sp1.toNat) ∧
      x.pkrDrop = (w.pkrDrop && !(w.pkrArm && word.req.getLsbD 1)) ∧ x.lanes = w.lanes ∧ x.accepted = w.accepted ∧
      x.orphan = w.orphan ∧ x.causes = w.causes

/-- The actions of an orphaned Welt: 12 WCLK, ORPH_HOLD and PKR_DELAY after the entry (R304). -/
def Obligations.OrphanedWeltFallsBack : Prop :=
  ∀ (s : State) (l : WAt) (o : Nat), (s.welt l.w).powered = true → (s.welt l.w).Safe → (s.welt l.w).orphan = some o →
    let w := s.welt l.w
    (o + 12 ≤ l.t → s.weltGets (.weltStatusSend l) l.w fun x => x.orphSet = true ∧ x.so0 = false ∧ x.so1 = false) ∧
    (o + 40000 * (w.set8.toNat % 256) ≤ l.t →
      s.weltGets (.orphHoldExpiry l) l.w fun x =>
        x.sp0.toNat = max w.sp0.toNat w.set6.toNat ∧ x.sp1.toNat = max w.sp1.toNat w.set7.toNat ∧ x.lanes = w.lanes) ∧
    (o + 4000000 * (w.set8.toNat / 256) ≤ l.t →
      s.weltGets (.pkrDelayExpiry l) l.w fun x =>
        x.pkrDrop = true ∧ x.pkrArm = false ∧ x.pkr = false ∧ x.sp0 = w.sp0 ∧ x.sp1 = w.sp1)

/-- The solenoid loops, with no deliberate reset due: a PWM period and its end at the on-count, a regulator interval,
the dither and its target, and the two latched faults (R305, R306). -/
def Obligations.SolenoidsAreRegulated : Prop :=
  ∀ (s : State) (l : WAt) (k j : Fin 2) (mean : BitVec 12), (s.welt l.w).powered = true → (s.welt l.w).calm l.t → j ≠ k →
    let w := s.welt l.w
    (s.weltGets (.solPwmPeriodStart l k) l.w fun x =>
      (x.sol k).perAt = l.t ∧ (x.sol k).onCount = (w.sol k).onCount ∧ (x.sol k).fault = (w.sol k).fault ∧
      ((x.sol k).on = true ↔ 0 < (w.sol k).onCount ∧ (w.sol k).fault = false ∧ x.driving ∧ w.sp k ≠ 0) ∧
      (x.sol j).onCount = (w.sol j).onCount) ∧
    ((w.sol k).perAt + (w.sol k).onCount ≤ l.t →
      s.weltGets (.weltStatusSend l) l.w fun x => (x.sol k).on = false ∧ (x.sol k).onCount = (w.sol k).onCount) ∧
    (s.weltGets (.solLoopInterval l k mean) l.w fun x =>
      (x.sol k).ma = mean ∧ (x.sol k).fault = (w.sol k).fault ∧
      (x.sol k).onCount =
        (if w.sp k = 0 then 0 else min 20000 (Config.solOnCount l.w k (w.target k) mean.toNat l.t)) ∧
      ((x.sol k).openAt.isSome = true ↔
        100 ≤ (w.sp k).toNat ∧ (x.sol k).onCount = 20000 ∧ 2 * mean.toNat < (w.sp k).toNat)) ∧
    (w.ditherAt + 200000 ≤ l.t →
      s.weltGets (.ditherToggle l) l.w fun x => x.dither = !w.dither ∧ x.ditherAt = l.t ∧ x.sp0 = w.sp0 ∧ x.sp1 = w.sp1) ∧
    (w.set9.getLsbD 9 = true → w.target k =
      if w.dither then (w.sp k).toNat + w.set9.toNat % 512 else (w.sp k).toNat - w.set9.toNat % 512) ∧
    (s.weltGets (.solShort l k) l.w fun x =>
      (x.sol k).fault = true ∧ (x.sol k).on = false ∧ (x.sol j).fault = (w.sol j).fault ∧ x.causes = w.causes) ∧
    (∀ a, (w.sol k).openAt = some a → a + 800000 ≤ l.t →
      s.weltGets (.solOpen l k) l.w fun x =>
        (x.sol k).fault = true ∧ (x.sol k).on = false ∧ (x.sol j).fault = (w.sol j).fault)

/-- Guard pairs, with no deliberate reset due: a level that the filter lets through moves an enabled pair through its
states, a start-up test passes at CLOSED from OPEN in START, a level inside the filter time or equal to the one before
moves nothing, and a TRANSIT that lasts is a discrepancy (R308 to R310, R314). -/
def Obligations.GuardPairsFollowTheirInputs : Prop :=
  ∀ (s : State) (l : WAt) (n : Fin 4) (high : Bool) (p q : Fin 2), (s.welt l.w).powered = true →
    (s.welt l.w).calm l.t → p.val = n.val / 2 → q ≠ p →
    let w := s.welt l.w
    let v : Welt := { w with si := setBit w.si n.val high }
    (w.siReady l.t n = true → w.si.getLsbD n.val ≠ high → s.weltGets (.siLevelAccepted l n high) l.w fun x =>
      x.si = v.si ∧ x.siAt = w.siAt.set n (some l.t) ∧ x.pair q = w.pair q ∧
      (w.pairEn p = false → x.pair p = w.pair p) ∧
      (w.pairEn p = true → (w.pair p).st = .closed → v.closedIn p = false →
        (x.pair p).st = .transit ∧ (x.pair p).at_ = l.t ∧ (x.pair p).fromOpen = false) ∧
      (w.pairEn p = true → (w.pair p).st = .open_ → v.openIn p = false →
        (x.pair p).st = .transit ∧ (x.pair p).at_ = l.t ∧ (x.pair p).fromOpen = true) ∧
      (w.pairEn p = true → (w.pair p).st = .transit → v.openIn p = true → (x.pair p).st = .open_) ∧
      (w.pairEn p = true → (w.pair p).st = .transit → (w.pair p).fromClosed = false → v.closedIn p = true →
        v.openIn p = false → (x.pair p).st = .closed ∧
          (x.pair p).passed = ((w.pair p).passed || ((w.pair p).fromOpen && w.st == .start)))) ∧
    (w.siReady l.t n = false ∨ w.si.getLsbD n.val = high → s.weltGets (.siLevelAccepted l n high) l.w fun x =>
      x.si = w.si ∧ x.siAt = w.siAt ∧ x.pair0 = w.pair0 ∧ x.pair1 = w.pair1) ∧
    (w.pairEn p = true → (w.pair p).st = .transit → (w.pair p).at_ + 39400 * w.set3.toNat ≤ l.t →
      w.st = .run ∨ w.st = .start →
      s.weltGets (.siDiscrepancy l p) l.w fun x =>
        x.st = .lockout ∧ x.cause = some .discrepancy ∧ x.so0 = false ∧ x.so1 = false ∧ x.wstat = false ∧
        x.causes.contains .discrepancy = true ∧ (x.pair p).disc = true)

/-- Test pulses, with no deliberate reset due: TP0's start once per period and TP1's half a period later; the output
falls and the levels before it are kept; a failed read-back is CROSS_CIRCUIT, and the fourth good pulse in a row ends
it; with the load supply out of range, or dead, the outputs stay off (R293, R311, R315). -/
def Obligations.TestPulsesFindCrossCircuits : Prop :=
  ∀ (s : State) (l : WAt) (n : Fin 2) (raw : BitVec 4), (s.welt l.w).powered = true → (s.welt l.w).calm l.t →
    let w := s.welt l.w
    let tp (x : Welt) : Bool := if n = 0 then x.tp0 else x.tp1
    let low (x : Welt) : Bool := if n = 0 then x.tpLow0 else x.tpLow1
    let snap (x : Welt) : BitVec 4 := if n = 0 then x.tpSnap0 else x.tpSnap1
    (w.st ≠ .init → w.tpStage = true → w.tpDue l.t n = true →
      s.weltGets (.tpPulseStart l n raw) l.w fun x =>
        tp x = false ∧ low x = true ∧ (if n = 0 then x.tpAt0 else x.tpAt1) = some l.t ∧ snap x = raw ∧ x.causes = w.causes) ∧
    (w.tpDue l.t n = false → s.weltGets (.tpPulseStart l n raw) l.w fun x => low x = low w ∧ snap x = snap w) ∧
    (w.tpStage = true → w.tpOver l.t n = true → s.weltGets (.tpPulseEnd l n raw false) l.w fun x =>
      tp x = true ∧ x.tpGood = 0 ∧ x.causes.contains .crossCircuit = true ∧ x.so0 = false ∧ x.so1 = false) ∧
    (w.tpStage = true → w.tpOver l.t n = true → w.tpPair n (snap w) raw 0 = true → w.tpPair n (snap w) raw 1 = true →
      s.weltGets (.tpPulseEnd l n raw true) l.w fun x =>
        tp x = true ∧ x.tpGood = w.tpGood + 1 ∧
        x.causes = if 3 ≤ w.tpGood then w.causes.filter (· != .crossCircuit) else w.causes) ∧
    (w.tpOver l.t n = false → s.weltGets (.tpPulseEnd l n raw true) l.w fun x =>
      low x = low w ∧ x.tpGood = w.tpGood ∧ x.causes = w.causes) ∧
    (w.tpStage = false → s.weltGets (.weltStatusSend l) l.w fun x => x.tp0 = false ∧ x.tp1 = false)

/-- The faults of a Welt, with no deliberate reset due: PKR, a safety output, the load supply, its clock and its own
logic (R293, R307, R312, R315). -/
def Obligations.WeltFaultsTurnOutputsOff : Prop :=
  ∀ (s : State) (l : WAt) (k : Fin 2), (s.welt l.w).powered = true → (s.welt l.w).calm l.t →
    let w := s.welt l.w
    (s.weltGets (.pkrFault l) l.w fun x =>
      x.pkrFault = true ∧ x.pkr = false ∧ x.note = some .pkrFault ∧ x.causes = w.causes) ∧
    (w.soBad[k] = true → s.weltGets (.soFault l ⟨k, false⟩) l.w fun x =>
      x.soBad[k] = false ∧ x.soAt = l.t ∧ x.causes = w.causes) ∧
    (s.weltGets (.soFault l ⟨k, true⟩) l.w fun x =>
      x.soBad[k] = true ∧ x.causes.contains .soFault = true ∧ x.so0 = false ∧ x.so1 = false ∧
      (w.st = .run ∨ w.st = .start → x.st = .lockout)) ∧
    (s.weltGets (.vloadLow l) l.w fun x =>
      x.vload = false ∧ x.so0 = false ∧ x.so1 = false ∧ x.pkr = false ∧ x.sol0.on = false ∧ x.sol1.on = false ∧
      x.tp0 = false ∧ x.tp1 = false ∧ (w.st = .run ∨ w.st = .start → x.st = .lockout)) ∧
    (s.weltGets (.vloadRecovered l) l.w fun x => x.vload = true ∧ x.causes = w.causes.filter (· != .vload)) ∧
    (s.weltGets (.weltClockStop l) l.w fun x =>
      x.dead = true ∧ x.so0 = false ∧ x.so1 = false ∧ x.pkr = false ∧ x.sol0.on = false ∧ x.sol1.on = false ∧
      x.tp0 = false ∧ x.tp1 = false ∧ (w.st = .run ∨ w.st = .start → x.st = .lockout)) ∧
    (s.weltGets (.weltInternalFault l) l.w fun x =>
      x.dead = true ∧ x.so0 = false ∧ x.so1 = false ∧ x.pkr = false ∧ x.sol0.on = false ∧ x.sol1.on = false ∧
      x.tp0 = false ∧ x.tp1 = false ∧ (w.st = .run ∨ w.st = .start → x.st = .lockout))

/-- Power-up, loss of both supplies (a supply input counts as within its range as log entry 132 chooses), and, with no
deliberate reset due, the self-check, settings that waited, and START's alternating WSTAT (R24, R313, R314, R320). -/
def Obligations.WeltStartsFromItsResetValues : Prop :=
  ∀ (s : State) (l : WAt),
    let w := s.welt l.w
    (w.powered = false → s.fed l.w = true → s.weltGets (.weltPowerUp l) l.w fun x =>
      x = { initAt := l.t, upAt := l.t, orphan := some l.t }) ∧
    (s.fed l.w = false → s.weltGets (.weltPowerUp l) l.w fun x => x = w) ∧
    (w.powered = true → s.feeds l.w Channel.legUp = false → s.weltGets (.weltPowerLoss l) l.w fun x =>
      x.powered = false ∧ x.so0 = false ∧ x.so1 = false ∧ x.pkr = false ∧ x.sol0.on = false ∧ x.sol1.on = false ∧
      x.tp0 = false ∧ x.tp1 = false ∧ x.wstat = false) ∧
    (s.feeds l.w Channel.legUp = true → s.weltGets (.weltPowerLoss l) l.w fun x => x = w) ∧
    (s.feed.fed l.w = false → (s.feed.welt l.w).powered = false) ∧
    (s.fed l.w = true → s.feed.welt l.w = w) ∧
    (w.powered = true → w.calm l.t → w.st = .init → w.initAt + 80000 ≤ l.t →
      (s.weltGets (.weltSelfcheckDone l false) l.w fun x =>
        x.st = .lockout ∧ x.cause = some .internal ∧ x.dead = true ∧ x.so0 = false ∧ x.so1 = false) ∧
      (w.causes = [] → (∀ c, w.arisen l.t c = false) → s.weltGets (.weltSelfcheckDone l true) l.w fun x =>
        x.st = (if w.pairEn 0 || w.pairEn 1 then .start else .run) ∧ x.causes = [])) ∧
    (w.powered = true → w.calm l.t → (w.settle l.t).soEither l.t = false → ∀ v, w.held = [(5, v)] →
      s.weltGets (.weltSettingApply l) l.w fun x => x.held = [] ∧ x.set5 = v ∧ x.set1 = w.set1) ∧
    (w.powered = true → w.calm l.t → (w.settle l.t).soEither l.t = true →
      s.weltGets (.weltSettingApply l) l.w fun x => x.held = w.held ∧ x.set1 = w.set1 ∧ x.set5 = w.set5) ∧
    (w.powered = true → w.calm l.t → w.st = .start → w.causes = [] → (∀ c, w.arisen l.t c = false) →
      w.pairEn 0 = true → w.pair0.passed = false →
      s.weltGets (.wstatAlternate l) l.w fun x => x.st = .start ∧ x.wstat = !w.wstat)

/-- The deliberate reset: WRST high is noted, an allowed falling edge is granted and takes effect 12 WCLK later, where
it leads to START or INIT and clears the latched faults unless a cause arose in the WCLK of the edge, as a fault of PKR
does too, and every other falling edge is only counted (R314, R316). -/
def Obligations.DeliberateResetNeedsItsConditions : Prop :=
  ∀ (s : State) (l : WAt), (s.welt l.w).powered = true →
    let w := s.welt l.w
    (w.calm l.t →
      (∃ x, exec (.wrstHigh l) s = .next (s.setWelt l.w x) ∧ x.wrst = true ∧
        x.wrstAt = (if w.wrst then w.wrstAt else l.t) ∧ x.rstr = w.rstr ∧ x.causes = w.causes) ∧
      (w.resetAllowed l.t = true → ∃ x, exec (.weltDeliberateReset l) s = .next (s.setWelt l.w x) ∧
        x.wrst = false ∧ x.rstr = w.rstr ∧ x.resetAt = some (l.t + 12) ∧ x.resetBad = false ∧ x.causes = w.causes ∧ x.pkrFault = w.pkrFault ∧
        ∀ k : Fin 3, (x.lanes[k]).sight = none) ∧
      (w.resetAllowed l.t = false → ∃ x, exec (.weltDeliberateReset l) s = .next (s.setWelt l.w x) ∧
        x.wrst = false ∧ x.rstr = w.rstr + 1 ∧ x.resetAt = w.resetAt ∧ x.causes = w.causes ∧ x.pkrFault = w.pkrFault) ∧
      (w.resetAt = some (l.t + 12) → ∃ x, exec (.pkrFault l) s = .next (s.setWelt l.w x) ∧ x.resetBad = true)) ∧
    ∀ r, w.resetAt = some r → r ≤ l.t →
      (w.resetBad = false → s.weltGets (.weltStatusSend l) l.w fun x =>
        x.resetAt = none ∧ x.rstr = w.rstr ∧ x.pkrFault = false ∧ x.sol0.fault = false ∧ x.sol1.fault = false ∧
        x.causes = w.causes.filter (w.outlasts r) ∧ (w.dead = true → x.st = .init ∧ x.initAt = r) ∧
        (w.causes.filter (w.outlasts r) = [] → (∀ c, w.arisen l.t c = false) → x.st = .start ∨ x.st = .run)) ∧
      (w.resetBad = true → s.weltGets (.weltStatusSend l) l.w fun x =>
        x.resetAt = none ∧ x.rstr = w.rstr + 1 ∧ x.causes = w.causes ∧ x.pkrFault = w.pkrFault)

/-- A request pair on a leg's lanes: both gates together are an interlock and turn the leg off, a pair that the drive
engine does not form at that instant moves nothing, no request turns the leg off, one request turns its gate on where
the die drives the leg, after the dead time where the gates change over, and never are both gates on (R161, R228 to
R230, R242). -/
def Obligations.LanesNeverTurnBothGatesOn : Prop :=
  ∀ (s : State) (l : At) (k : Fin 6) (hs ls : Bool), (s.ch l.ch).alive = true →
    let c := s.ch l.ch
    let x := c.gd.legs[k]
    (s.chGets (.laneEdge l k true true) l.ch fun y =>
      (y.grp (grpOf k)).interlock = satInc (c.grp (grpOf k)).interlock ∧ (y.gd.legs[k]).enable = false ∧
      y.fcl.raised.contains (29, 0) = true ∧ (x.sto = .none → (y.gd.legs[k]).hs = false ∧ (y.gd.legs[k]).ls = false)) ∧
    ((hs && ls) = false → (hs, ls) ≠ c.request l.t k → s.chGets (.laneEdge l k hs ls) l.ch fun y => y = c) ∧
    (c.request l.t k = (false, false) → s.chGets (.laneEdge l k false false) l.ch fun y =>
      (y.gd.legs[k]).enable = false ∧ y.fcl = c.fcl ∧
      (x.sto = .none → (y.gd.legs[k]).hs = false ∧ (y.gd.legs[k]).ls = false)) ∧
    ((x.hs && x.ls) = false → c.legDriven k = true →
      (c.request l.t k = (true, false) → (x.bstBlock && x.bstLow) = false →
        s.chGets (.laneEdge l k true false) l.ch fun y =>
          (y.gd.legs[k]).hs = true ∧ (y.gd.legs[k]).ls = false ∧ (y.gd.legs[k]).enable = true ∧
          (y.gd.legs[k]).pulse = true ∧ (y.gd.legs[k]).bstBlock = false ∧
          (x.hs = true → (y.gd.legs[k]).onAt = x.onAt) ∧ (x.ls = true → l.t + c.deadTime k ≤ (y.gd.legs[k]).onAt)) ∧
      (c.request l.t k = (false, true) →
        s.chGets (.laneEdge l k false true) l.ch fun y =>
          (y.gd.legs[k]).hs = false ∧ (y.gd.legs[k]).ls = true ∧ (y.gd.legs[k]).enable = true ∧
          (y.gd.legs[k]).pulse = false ∧
          (x.ls = true → (y.gd.legs[k]).onAt = x.onAt) ∧ (x.hs = true → l.t + c.deadTime k ≤ (y.gd.legs[k]).onAt))) ∧
    ((x.hs && x.ls) = false → s.chGets (.laneEdge l k hs ls) l.ch fun y =>
      ((y.gd.legs[k]).hs && (y.gd.legs[k]).ls) = false ∧ ∀ j, j ≠ k → y.gd.legs[j] = c.gd.legs[j]) ∧
    ((c.request l.t k).1 && (c.request l.t k).2) = false ∧
    (k.val < 3 → c.sd.st = .run → ∀ a, c.sd.perAt = some a →
      c.request l.t k = (decide (c.steerCmp l.t k < pwmCounter ((l.t - a) / 5)),
        decide (pwmCounter ((l.t - a) / 5) ≤ c.steerCmp l.t k)))

/-- Timed transitions, the short trip with its thresholds in and after blanking and its two-level turn-off, its end, a
gate fault and the bootstrap block (R232 to R239, R242). -/
def Obligations.LegsLatchTheirFaults : Prop :=
  ∀ (s : State) (l : At) (k : Fin 6) (dir : TswDir) (gate : GateCode) (n d v : Nat), (s.ch l.ch).alive = true →
    let c := s.ch l.ch
    let x := c.gd.legs[k]
    (c.validTsw l.t k gate n = true → s.chGets (.switchTransition l k dir gate n) l.ch fun y =>
      (dir = .rise → (y.gd.legs[k]).rise.toNat = n ∧ (y.gd.legs[k]).fall = x.fall) ∧
      (dir = .fall → (y.gd.legs[k]).fall.toNat = n ∧ (y.gd.legs[k]).rise = x.rise) ∧
      (gate = .hsOn → c.gdf (legBase k) 9 1 = 1 → (y.gd.legs[k]).codeHsOn =
        moveCode x.codeHsOn n (c.gdf (legBase k) 0 9) (c.gdf (legBase k) 15 5) (c.gdf (legBase k) 20 5)) ∧
      (gate ≠ .hsOn ∨ c.gdf (legBase k) 9 1 = 0 → (y.gd.legs[k]).codeHsOn = x.codeHsOn)) ∧
    (c.validTsw l.t k gate n = false → s.chGets (.switchTransition l k dir gate n) l.ch fun y => y = c) ∧
    (c.blanked l.t k = true → c.tripsShort l.t k d v = decide (150 * c.gdf (legBase k + 1) 0 6 < d)) ∧
    (c.blanked l.t k = false → x.isOn l.t = true → c.tripsShort l.t k d v =
      (decide (50 * c.gdf (legBase k + 1) 0 6 < d) || decide (100 * c.gdf (legBase k + 1) 13 7 < v))) ∧
    (x.trip = false → c.tripsShort l.t k d v = true → s.chGets (.shortTrip l ⟨k, d, v⟩) l.ch fun y =>
      (y.gd.legs[k]).trip = true ∧ (y.gd.legs[k]).scTrips = satInc x.scTrips ∧ (y.grp (grpOf k)).tripFlag = true ∧
      (x.isOn l.t = true → x.sto = .none → (y.gd.legs[k]).sto = .level ∧ (y.gd.legs[k]).stoAt = l.t) ∧
      (∀ f, c.gd.firstTrip = some f → l.t ≤ f + 1000 → (y.grp .steer).sc2 = true ∧ (y.grp .aux).sc2 = true)) ∧
    (x.trip = true ∨ c.tripsShort l.t k d v = false → s.chGets (.shortTrip l ⟨k, d, v⟩) l.ch fun y => y = c) ∧
    (x.sto = .level → x.stoAt + 10 * c.gdf (grpBase (grpOf k) + 1) 4 8 ≤ l.t →
      s.chGets (.stoHoldEnd l k.castSucc) l.ch fun y =>
        y = c.setLeg k { x with sto := .none, hs := false, ls := false, offAt := l.t, offHs := x.hs
                                lastOn := some x.onAt }) ∧
    (s.chGets (.gateFault l k) l.ch fun y =>
      (y.gd.legs[k]).gate = true ∧ (y.gd.legs[k]).hs = false ∧ (y.gd.legs[k]).ls = false ∧
      y.fcl.raised.contains (24, grpDetail (grpOf k)) = true) ∧
    (x.bstLow = false → c.blanked l.t k = false → s.chGets (.bootstrapUv l k true) l.ch fun y =>
      (y.gd.legs[k]).bstLow = true ∧ (y.gd.legs[k]).bstBlock = true ∧ (y.gd.legs[k]).bstUvCnt = satInc x.bstUvCnt ∧
      (x.sto = .none → (y.gd.legs[k]).hs = false) ∧ y.fcl.raised.contains (28, 0) = true) ∧
    (x.bstLow = true ∨ c.blanked l.t k = true → s.chGets (.bootstrapUv l k true) l.ch fun y => y = c) ∧
    s.chGets (.bootstrapUv l k false) l.ch fun y => y = c.setLeg k { x with bstLow := false }

/-- The double-short sequence, the short report, the supplies of the gate driver and PIS (R234, R237, R239, R244). -/
def Obligations.GateGroupsFollowTheDie : Prop :=
  ∀ (s : State) (l : At) (g : Grp) (n : Fin 3), (s.ch l.ch).alive = true →
    let c := s.ch l.ch
    (∀ i (j : Fin 6), c.gd.dsNext = some i → c.gd.dsAt ≤ l.t + 10 → c.gd.nextOn l.t i = some j.castSucc →
      s.chGets (.doubleShortStep l) l.ch fun y =>
        (y.gd.legs[j]).trip = true ∧ (y.gd.legs[j]).sto = .level ∧ (y.gd.legs[j]).stoAt = l.t ∧
        y.gd.dsNext = some (j.val + 1) ∧ y.gd.dsAt = l.t + 100 ∧ y.gd.bchGate = c.gd.bchGate) ∧
    (∀ i, c.gd.dsNext = some i → c.gd.dsAt ≤ l.t + 10 → c.gd.nextOn l.t i = some 6 →
      s.chGets (.doubleShortStep l) l.ch fun y =>
        y = { c with gd := { c.gd with dsNext := none, bchTrip := true, bchSto := .level, bchStoAt := l.t } }) ∧
    (∀ i, c.gd.dsNext = some i → c.gd.dsAt ≤ l.t + 10 → c.gd.nextOn l.t i = none →
      s.chGets (.doubleShortStep l) l.ch fun y => y = { c with gd := { c.gd with dsNext := none } }) ∧
    (c.gd.bchSto = .level → c.gd.bchStoAt + c.stoHold .steer ≤ l.t →
      s.chGets (.stoHoldEnd l 6) l.ch fun y => y = { c with gd := { c.gd with bchSto := .none, bchGate := false } }) ∧
    ((c.grp g).tripFlag = true → s.chGets (.shortReport l g) l.ch fun y =>
      (y.grp g).tripFlag = false ∧ y.fcl.raised.contains (if g = .steer then 21 else 22, 0) = true ∧
      ((c.grp g).sc2 = true → y.fcl.raised.contains (23, 0) = true ∧ y.gd.bch = false) ∧
      (g = .steer → c.sd.st = .run ∨ c.sd.st = .closing → y.sd.st = .opening ∧ y.sd.wndOut = true) ∧
      (g = .aux → c.ad.st ≠ .off → y.ad.st = .off)) ∧
    ((c.grp g).tripFlag = false → (c.grp g).sc2Flag = true → (c.grp g).sc2 = true →
      s.chGets (.shortReport l g) l.ch fun y =>
        (y.grp g).sc2Flag = false ∧ y.fcl.raised.contains (23, 0) = true ∧ y.gd.bch = false ∧
        y.fcl.raised.contains (21, 0) = c.fcl.raised.contains (21, 0) ∧
        y.fcl.raised.contains (22, 0) = c.fcl.raised.contains (22, 0)) ∧
    ((c.grp g).tripFlag = false → (c.grp g).sc2Flag = false → s.chGets (.shortReport l g) l.ch fun y => y = c) ∧
    (s.chGets (.vgdUndervoltage l) l.ch fun y =>
      (∀ k : Fin 6, (y.gd.legs[k]).hs = false ∧ (y.gd.legs[k]).ls = false) ∧ y.gd.bchGate = false ∧
      y.gd.bch = c.gd.bch ∧ y.gd.vgdLow = true ∧
      y.gd.vgdLowA = true ∧ y.fcl.raised.contains (26, 0) = true) ∧
    (c.gd.pisEn = true → c.gd.pisAt + usec 100 ≤ l.t → s.chGets (.pisFault l n) l.ch fun y =>
      y.gd.pisOk = setBit c.gd.pisOk n.val false ∧ y.gd.pisLatched = true ∧ y.fcl.raised.contains (25, 0) = true) ∧
    (c.gd.pisEn = false ∨ l.t < c.gd.pisAt + usec 100 → s.chGets (.pisFault l n) l.ch fun y => y = c)

/-- The chopper switches between its levels, ASC ends after ASC_TMAX, and VLINK_ABS turns everything off (R245 to
R248). -/
def Obligations.ChopperAndLinkLimits : Prop :=
  ∀ (s : State) (l : At) (v : Nat) (seen : Bool), (s.ch l.ch).alive = true →
    let c := s.ch l.ch
    (c.chopperOn = false → s.chGets (.chopperSample l v seen) l.ch fun y => 
      y.gd.bch = false ∧ y.gd.iSeen = (seen && !(c.gd.bch && decide (l.t < c.gd.bchOnAt + usec 1)))) ∧
    (c.chopperOn = true → c.gd.bch = false → c.af 0x3900 0 16 ≤ v →
      s.chGets (.chopperSample l v seen) l.ch fun y =>
        y.gd.bch = true ∧ y.gd.bchOnAt = l.t ∧ y.gd.onCnt = satInc c.gd.onCnt) ∧
    (c.chopperOn = true → c.gd.bch = false → v < c.af 0x3900 0 16 →
      s.chGets (.chopperSample l v seen) l.ch fun y => y.gd.bch = false ∧ y.gd.onCnt = c.gd.onCnt) ∧
    (c.chopperOn = true → c.gd.bch = true → v ≤ c.af 0x3900 16 16 →
      v < c.af 0x3900 0 16 + 10 * c.af 0x3901 9 8 → c.gd.bchOnAt + usec (c.af 0x3901 1 8) ≤ l.t →
      s.chGets (.chopperSample l v seen) l.ch fun y => y.gd.bch = false ∧ y.gd.bchFault = c.gd.bchFault) ∧
    (c.gd.asc = true → c.gd.ascAt + msec (c.af 0x3901 25 7) ≤ l.t →
      s.chGets (.ascTmaxExpiry l) l.ch fun y =>
        y.gd.asc = false ∧ y.sd.st = .off ∧ y.gd.pisEn = false ∧ y.gd.pisOk = 0) ∧
    (s.chGets (.vlinkAbs l) l.ch fun y =>
      (∀ k : Fin 6, (y.gd.legs[k]).hs = false ∧ (y.gd.legs[k]).ls = false) ∧ y.gd.bchGate = false ∧ y.gd.asc = false ∧
      y.gd.vlinkAbs = true ∧ y.sd.st = .off ∧ y.ad.st = .off ∧ y.gd.pisEn = false ∧ y.gd.pisOk = 0 ∧
      y.fcl.raised.contains (31, 0) = true)

/-- The gate driver's clock and link, which are out of service while the links are under test, and the end of a group's
self-test (R30, R249 to R251, R534). -/
def Obligations.GateDriverLinkAndTests : Prop :=
  ∀ (s : State) (l : At) (g : Grp) (failed : BitVec 8), (s.ch l.ch).alive = true →
    let c := s.ch l.ch
    let kinds := if g = .steer then failed else failed &&& 0x0F
    (s.chGets (.gclkLoss l) l.ch fun y =>
      (∀ k : Fin 6, (y.gd.legs[k]).hs = false ∧ (y.gd.legs[k]).ls = false) ∧ y.gd.bchGate = false ∧ y.gd.gclkHold = true ∧
      y.gd.bch = c.gd.bch ∧ y.gd.configured = false ∧ y.gd.pisOk = 0 ∧ y.sd = c.sd ∧ y.ad = c.ad) ∧
    (c.linksOut = true → ∀ (d : GdlDir) (k : Bool), s.chGets (.gdlFrame l ⟨d, k⟩) l.ch fun y => y = c) ∧
    (c.linksOut = false → c.gd.gdlFails ≠ 2 → s.chGets (.gdlFrame l ⟨.toDie, false⟩) l.ch fun y =>
      y = { c with gd := { c.gd with gdlFails := c.gd.gdlFails + 1, gdlStale := true } }) ∧
    (c.linksOut = false → c.gd.gdlFailsUp ≠ 2 → s.chGets (.gdlFrame l ⟨.fromDie, false⟩) l.ch fun y =>
      y = { c with gd := { c.gd with gdlFailsUp := c.gd.gdlFailsUp + 1 } }) ∧
    (c.linksOut = false → c.gd.gdlFails = 2 → s.chGets (.gdlFrame l ⟨.toDie, false⟩) l.ch fun y =>
      y.gd.gdlFails = 3 ∧ y.gd.gclkHold = true ∧ y.gd.configured = false ∧ y.fcl.raised.contains (32, 0) = true) ∧
    (c.linksOut = false → c.gd.gdlFailsUp = 2 → s.chGets (.gdlFrame l ⟨.fromDie, false⟩) l.ch fun y =>
      y.gd.gdlFailsUp = 3 ∧ y.gd.gclkHold = true ∧ y.gd.configured = false ∧ y.fcl.raised.contains (32, 0) = true) ∧
    (c.linksOut = false → c.gd.configured = false → s.chGets (.gdlFrame l ⟨.toDie, true⟩) l.ch fun y =>
      y.gd.gdlFails = 0 ∧ y.gd.gclkHold = false ∧ y.gd.configured = true ∧
      y.gd.dieCopy = (c.act.filter fun p => decide (0x3800 ≤ p.1) && decide (p.1 < 0x3C00))) ∧
    (c.linksOut = false → c.gd.configured = true → s.chGets (.gdlFrame l ⟨.toDie, true⟩) l.ch fun y =>
      y = { c with gd := { c.gd with gdlFails := 0, gdlStale := false } }) ∧
    (c.linksOut = false → s.chGets (.gdlFrame l ⟨.fromDie, true⟩) l.ch fun y => y = { c with gd := { c.gd with gdlFailsUp := 0 } }) ∧
    ((c.grp g).testBusy = true → g = .aux ∨ c.gd.testBchOff = true → s.chGets (.gdSelftestEnd l g failed) l.ch fun y =>
      (y.grp g).testBusy = false ∧ (y.grp g).testDone = true ∧ (y.grp g).testFail = (kinds != 0) ∧
      (y.grp g).failed = kinds ∧ (kinds ≠ 0 → y.fcl.raised.contains (27, grpDetail g) = true)) ∧
    ((c.grp g).testBusy = true → g = .steer → c.gd.testBchOff = false →
      s.chGets (.gdSelftestEnd l g failed) l.ch fun y => y = c) ∧
    ((c.grp g).testBusy = false → s.chGets (.gdSelftestEnd l g failed) l.ch fun y => y = c)

/-- Encoder edges, the index and hall edges, where no line moves within its filter time, which a row inside it does not
change; the pins passed their test and serve their inputs (R262 to R268, R270, R534, R537). -/
def Obligations.EncodersAndHallsCount : Prop :=
  ∀ (s : State) (l : At) (n : Fin 2) (code : BitVec 3) (k : EncEdge),
    (s.ch l.ch).inputOn n.val = true → (s.ch l.ch).inputOn (2 + n.val) = true →
    let c := s.ch l.ch
    let e := c.fb.enc[n]
    let h := c.fb.hall[n]
    let d := c.hallStamp l.t n code
    (c.encLines l.t n .aEdge = true → s.chGets (.encoderEdge l n .aEdge) l.ch fun y =>
      (y.fb.enc[n]).a = !e.a ∧ (y.fb.enc[n]).b = e.b ∧ (y.fb.enc[n]).aAt = some l.t ∧
      (y.fb.enc[n]).count = (if e.a = e.b then e.count + 1 else e.count - 1) ∧ y.fb.hall = c.fb.hall) ∧
    (c.encLines l.t n .bEdge = true → s.chGets (.encoderEdge l n .bEdge) l.ch fun y =>
      (y.fb.enc[n]).a = e.a ∧ (y.fb.enc[n]).b = !e.b ∧ (y.fb.enc[n]).bAt = some l.t ∧
      (y.fb.enc[n]).count = (if e.a = e.b then e.count - 1 else e.count + 1) ∧ y.fb.hall = c.fb.hall) ∧
    (c.encLines l.t n .both = true → s.chGets (.encoderEdge l n .both) l.ch fun y =>
      (y.fb.enc[n]).valid = false ∧ (y.fb.enc[n]).indexed = false ∧ (y.fb.enc[n]).illegal = satInc e.illegal ∧
      (y.fb.enc[n]).count = e.count ∧ y.fcl.raised.contains (33, 0) = true) ∧
    (c.encLines l.t n k = false → s.chGets (.encoderEdge l n k) l.ch fun y => y = c) ∧
    (settled e.zAt (c.af 0x3DF0 0 8) 2 l.t = true → s.chGets (.zIndex l n) l.ch fun y =>
      (y.fb.enc[n]).nZ = e.count ∧ (y.fb.enc[n]).indexed = (e.indexed || e.valid) ∧ (y.fb.enc[n]).count = e.count) ∧
    (c.hallLines l.t n code = true →
      (h.prev ≠ some code → code = 0 ∨ code = 7 → s.chGets (.hallEdge l n code) l.ch fun y =>
        (y.fb.hall[n]).valid = false ∧ (y.fb.hall[n]).invCode = satInc h.invCode ∧ (y.fb.hall[n]).code = code ∧
        y.fcl.raised.contains (34, 0) = true) ∧
      (h.prev = none → code ≠ 0 → code ≠ 7 → s.chGets (.hallEdge l n code) l.ch fun y =>
        y = d.setHall n { d.fb.hall[n] with code := code, prev := some code, valid := true }) ∧
      (h.prev ≠ some code → code ≠ 0 → code ≠ 7 → s.chGets (.hallEdge l n code) l.ch fun y =>
        (y.fb.hall[n]).valid = true ∧ (y.fb.hall[n]).code = code ∧ (y.fb.hall[n]).prev = some code ∧
        y.fb.enc = c.fb.enc)) ∧
    (c.hallLines l.t n code = false → s.chGets (.hallEdge l n code) l.ch fun y => y = c)

/-- SENT: a sync pulse opens a frame, a pulse out of range ends the search, and TIMEOUT without a good frame makes the
signal invalid (R262, R272 to R274). The pin serves its input (R534, R537). No judged frame waits in the hypotheses. -/
def Obligations.SentFramesAreTimed : Prop :=
  ∀ (s : State) (l : At) (n : Fin 2) (m : Nat), (s.ch l.ch).inputOn (4 + n.val) = true → ((s.ch l.ch).fb.sent[n]).judge = [] →
    let c := s.ch l.ch
    let x := c.fb.sent[n]
    let stamp := l.t / 5 - (2 + c.af 0x3DF0 16 8)
    let z : Sent := { x with lastEdge := some stamp, fellAt := some l.t }
    (settled x.fellAt (c.af 0x3DF0 16 8) 2 l.t = false → s.chGets (.sentPulse l n) l.ch fun y => y = c) ∧
    (settled x.fellAt (c.af 0x3DF0 16 8) 2 l.t = true →
      (x.lastEdge = none → s.chGets (.sentPulse l n) l.ch fun y => y = c.setSent n z) ∧
      (x.lastEdge = some m → x.ph = .search → isSync (stamp - m) = true →
        s.chGets (.sentPulse l n) l.ch fun y =>
          y = c.setSent n { z with ph := .nibbles, syncLen := stamp - m, nibs := [] }) ∧
      (x.lastEdge = some m → x.ph = .search → isSync (stamp - m) = false →
        s.chGets (.sentPulse l n) l.ch fun y => y = c.setSent n z) ∧
      (x.lastEdge = some m → x.ph = .nibbles →
        ¬ (23 * x.syncLen ≤ 112 * (stamp - m) ∧ 112 * (stamp - m) ≤ 55 * x.syncLen) →
        s.chGets (.sentPulse l n) l.ch fun y =>
          y = c.setSent n { z with ph := .search, nibs := [], judge := [(l.t + tclk 40, .tick)] })) ∧
    (x.lastGood + 100000 * c.af (0x3C40 + n.val * 0x10) 13 8 ≤ l.t →
      s.chGets (.sentTimeout l n) l.ch fun y =>
        (y.fb.sent[n]).valid = false ∧ (y.fb.sent[n]).ph = .search ∧
        (x.valid = true → y.fcl.raised.contains (35, 0) = true) ∧ (x.valid = false → y.fcl = c.fcl)) ∧
    (l.t < x.lastGood + 100000 * c.af (0x3C40 + n.val * 0x10) 13 8 →
      s.chGets (.sentTimeout l n) l.ch fun y => y = c)

/-- Wheel-speed inputs and analog inputs whose pins serve them; an edge within the filter time of the last one changes
nothing, one at a boundary counts in the new window, and a window ends at the boundaries alone; the speed of a whole one
follows, where the correction of its cycles may take 200 ppm (log entry 61). While the inputs are under test no edge
counts (R262, R276 to R280, R534, R537). -/
def Obligations.WheelAndAnalogInputs : Prop :=
  ∀ (s : State) (l : At) (n : Fin 4) (k : Fin 8),
    (((s.ch l.ch).testRuns 0x11 = true ∨ (s.ch l.ch).mg.deadIn.getLsbD (6 + n.val) = true) →
      s.chGets (.wssEdge l n) l.ch fun y => y = s.ch l.ch) ∧
    ((s.ch l.ch).inputOn (6 + n.val) = true → (s.ch l.ch).inputOn (10 + k.val) = true →
    let c := s.ch l.ch
    let x := c.fb.wss[n]
    (settled x.roseAt (c.af 0x3DF0 24 8) 2 l.t = true → x.valid = true → s.chGets (.wssEdge l n) l.ch fun y =>
      (y.fb.wss[n]).odo = x.odo + 1 ∧ y.fb.enc = c.fb.enc ∧
      (c.wssDue l.t n = false → (y.fb.wss[n]).cnt = x.cnt + 1 ∧ (y.fb.wss[n]).nextCnt = x.nextCnt) ∧
      (c.wssDue l.t n = true → (y.fb.wss[n]).cnt = x.cnt ∧ (y.fb.wss[n]).nextCnt = x.nextCnt + 1)) ∧
    (settled x.roseAt (c.af 0x3DF0 24 8) 2 l.t = true → x.valid = false → s.chGets (.wssEdge l n) l.ch fun y =>
      y = c.setWss n { x with roseAt := some l.t }) ∧
    (settled x.roseAt (c.af 0x3DF0 24 8) 2 l.t = false → s.chGets (.wssEdge l n) l.ch fun y => y = c) ∧
    (c.wssDue l.t n = false → s.chGets (.wssWindowEnd l n) l.ch fun y => y = c) ∧
    (∀ a, c.wssDue l.t n = true → x.winAt = some a → a + 1000000 * c.wssW n ≤ l.t + 200 * c.wssW n →
      s.chGets (.wssWindowEnd l n) l.ch fun y =>
      (y.fb.wss[n]).cnt = x.nextCnt ∧ (y.fb.wss[n]).nextCnt = 0 ∧ (y.fb.wss[n]).winAt = some l.t ∧
      (y.fb.wss[n]).odo = x.odo ∧ (y.fb.wss[n]).spValid = (x.valid && x.clean) ∧
      lateAt (y.fb.wss[n]).speed (l.t + tclk 20) =
        F32.div (F32.mul (F32.mul (F32.ofInt x.cnt) (c.getA (0x3C81 + n.val * 8))) (F32.ofInt 1000))
          (F32.ofInt (2 ^ c.af (0x3C80 + n.val * 8) 0 2 : Nat))) ∧
    (s.chGets (.wssCurrentTimer l n .open) l.ch fun y =>
      (y.fb.wss[n]).opn = true ∧ (y.fb.wss[n]).valid = false ∧ (y.fb.wss[n]).faults = satInc x.faults ∧
      y.fcl.raised.contains (36, 0) = true) ∧
    (s.chGets (.wssCurrentTimer l n .short) l.ch fun y =>
      (y.fb.wss[n]).shrt = true ∧ (y.fb.wss[n]).valid = false ∧ (y.fb.wss[n]).faults = satInc x.faults ∧
      y.fcl.raised.contains (36, 0) = true) ∧
    (s.chGets (.wssCurrentTimer l n .good) l.ch fun y =>
      (y.fb.wss[n]).opn = false ∧ (y.fb.wss[n]).shrt = false ∧ (y.fb.wss[n]).valid = true ∧
      (y.fb.wss[n]).faults = x.faults ∧ y.fcl = c.fcl) ∧
    (c.fb.ainPend = true → l.t < c.ad.pwmAt + tclk 420 → s.chGets (.ainUpdate l) l.ch fun y => y = c) ∧
    (c.fb.ainPend = true → c.ad.pwmAt + tclk 420 ≤ l.t → s.chGets (.ainUpdate l) l.ch fun y =>
      let code := min 65535 (c.fb.ainSmp[k] * 65536 / 5000000)
      y.fb.ainPend = false ∧
      y.fb.ainVal[k] = F32.add (F32.mul (c.getA (0x3CC1 + 4 * k.val)) (F32.ofInt code)) (c.getA (0x3CC2 + 4 * k.val)) ∧
      (y.fb.ainOk[k] = true ↔ c.af (0x3CC0 + 4 * k.val) 0 16 ≤ code ∧ code ≤ c.af (0x3CC0 + 4 * k.val) 16 16)))

/-- A PWM period starts on the grid of the cycle with the samples held, and its compare values apply 10,000 TCLK after
the start before; at TCLK 120 the signals show the samples, unless the two evaluations disagree (R159 to R162, R165,
R199, R279). -/
def Obligations.PeriodSamplesBecomeSignals : Prop :=
  ∀ (s : State) (l : At) (p : PwmSample), (s.ch l.ch).released = true →
    let c := s.ch l.ch
    (c.periodDue l.t = true → s.chGets (.pwmPeriodStart l p) l.ch fun y =>
      y.sd.smpIa = p.ia ∧ y.sd.smpIb = p.ib ∧ y.sd.smpIc = p.ic ∧ y.sd.smpVdc = p.vdc ∧ y.sd.smpPend = true ∧
      y.sd.latchPend = true ∧ y.sd.periodIdx = c.sd.periodIdx + 1 ∧ y.ad.pwmAt = l.t ∧ y.ad.smpA = p.xa ∧
      y.fb.ainPend = true ∧ y.fb.ainSmp[0] = p.ain0 ∧ y.fb.ainSmp[7] = p.ain7 ∧ y.sd.sigIa = c.sd.sigIa ∧
      y.sd.perAt = some l.t ∧
      ∀ a, c.sd.perAt = some a → a + tclk 10000 ≤ l.t + 400 → y.sd.loadAt = max l.t (a + tclk 10000)) ∧
    (c.pwr.doze = true ∨ c.periodDue l.t = false → s.chGets (.pwmPeriodStart l p) l.ch fun y => y = c) ∧
    (c.sd.smpPend = true → c.ad.pwmAt + tclk 120 ≤ l.t → s.chGets (.currentSampleReady ⟨l, false⟩) l.ch fun y =>
      y.sd.sigIa = c.sd.smpIa ∧ y.sd.sigIb = c.sd.smpIb ∧ y.sd.sigIc = c.sd.smpIc ∧ y.sd.sigVdc = c.sd.smpVdc ∧
      (y.sd.sigId, y.sd.sigIq) = park c.sd.smpIa c.sd.smpIb c.sd.smpIc c.sd.smpTheta ∧
      y.sd.smpPend = false ∧ y.ad.sigA = c.ad.smpA ∧ y.ad.sigB = c.ad.smpB ∧ y.ad.sigC = c.ad.smpC ∧
      y.sd.st = c.sd.st ∧ y.fb = c.fb) ∧
    (c.sd.smpPend = true → c.ad.pwmAt + tclk 120 ≤ l.t → s.chGets (.currentSampleReady ⟨l, true⟩) l.ch fun y =>
      y.fcl.raised.contains (14, 0) = true ∧ (y.exe.stopping || y.exe.stopped) = true) ∧
    (l.t < c.ad.pwmAt + tclk 120 → ∀ upset, s.chGets (.currentSampleReady ⟨l, upset⟩) l.ch fun y => y = c)

/-- The voltage latch: a missed command loads the zero voltage vector and is counted, a disagreement raises SD_CMP and
isolates, and outside RUN the latch only forgets what was routed and a voltage that was scaled (R159, R163, R164,
R191). -/
def Obligations.MissedCommandsLoadZeroVoltage : Prop :=
  ∀ (s : State) (l : At), (s.ch l.ch).released = true →
    let c := s.ch l.ch
    (c.sd.latchPend = true → c.ad.pwmAt + tclk 9900 ≤ l.t → c.sd.st = .run →
      (c.ce.routedVd && c.ce.routedVq) = false →
      s.chGets (.voltageLatch l false) l.ch fun y =>
        y.sd.nextA = 2500 ∧ y.sd.nextB = 2500 ∧ y.sd.nextC = 2500 ∧ y.sd.missedCmd = satInc c.sd.missedCmd ∧
        y.sd.missedRun = c.sd.missedRun + 1 ∧ y.sd.latchPend = false ∧ y.ce.routedVd = false ∧
        y.ce.routedVq = false ∧ y.sd.st = .run) ∧
    (c.sd.latchPend = true → c.ad.pwmAt + tclk 9900 ≤ l.t → c.sd.st = .run →
      (c.ce.routedVd && c.ce.routedVq) = true →
      s.chGets (.voltageLatch l false) l.ch fun y =>
        y.sd.missedRun = 0 ∧ y.sd.missedCmd = c.sd.missedCmd ∧ y.sd.latchPend = false ∧ y.ce.routedVd = false ∧
        y.ce.routedVq = false) ∧
    (c.sd.latchPend = true → c.ad.pwmAt + tclk 9900 ≤ l.t → c.sd.st ≠ .run →
      s.chGets (.voltageLatch l false) l.ch fun y =>
        y = { c with ce := { c.ce with routedVd := false, routedVq := false },
                     sd := { c.sd with latchPend := false, vsat := false } }) ∧
    (c.sd.latchPend = true → c.ad.pwmAt + tclk 9900 ≤ l.t →
      s.chGets (.voltageLatch l true) l.ch fun y =>
        y.fcl.raised.contains (14, 0) = true ∧ (y.exe.stopping || y.exe.stopped) = true)

/-- The faults of a winding and the timers of its drive (R164, R177, R179, R181). -/
def Obligations.SteeringDriveLeavesRunOnFaults : Prop :=
  ∀ (s : State) (l : At), (s.ch l.ch).released = true →
    let c := s.ch l.ch
    (c.sd.st = .run → 4 ≤ c.sd.missedRun → s.chGets (.missedCmdLimit l) l.ch fun y =>
      y.sd.st = .opening ∧ y.sd.lastLeave = 5 ∧ y.sd.openingAt = l.t ∧ y.sd.wndFaults = satInc c.sd.wndFaults ∧
      y.sd.wndOut = true ∧ y.sd.active.getLsbD (Ch.bit c.id) = false ∧ y.fcl.raised.contains (16, 0) = true) ∧
    (c.sd.st = .run → c.sd.missedRun < 4 → s.chGets (.missedCmdLimit l) l.ch fun y => y = c) ∧
    (c.sd.st = .run → 8 ≤ c.sd.isumRun → s.chGets (.isumFault l) l.ch fun y =>
      y.sd.st = .opening ∧ y.sd.lastLeave = 3 ∧ y.sd.wndFaults = satInc c.sd.wndFaults ∧ y.sd.wndOut = true ∧
      y.sd.active.getLsbD (Ch.bit c.id) = false ∧ y.fcl.raised.contains (16, 0) = true) ∧
    (c.sd.st = .run → c.sd.isumRun < 8 → s.chGets (.isumFault l) l.ch fun y => y = c) ∧
    (c.sd.st = .closing → c.sd.closingAt + usec (100 * c.af 0x3003 0 8) ≤ l.t →
      s.chGets (.settleElapsed l) l.ch fun y => y = { c with sd := { c.sd with settled := true } }) ∧
    (c.sd.st = .off → c.sd.speedWait = true → c.belowNmax l.t = true → c.gd.grpS.testBusy = false → c.sup.ov = false →
      s.chGets (.speedBelowNmax l) l.ch fun y =>
        y.sd.st = .closing ∧ y.sd.speedWait = false ∧ y.sd.closingAt = l.t ∧
        y.sd.angle = (if (c.fb.enc[0]).valid then .sector else .hallOnly) ∧
        y.gd.pisEn = true) ∧
    (c.sd.st = .off → c.sd.speedWait = true → c.belowNmax l.t = false →
      s.chGets (.speedBelowNmax l) l.ch fun y => y = c) ∧
    (c.sd.st = .opening → c.sd.openingAt + usec (10 * c.af 0x3003 8 8) ≤ l.t →
      s.chGets (.openTmaxExpiry l) l.ch fun y =>
        y.sd.st = .off ∧ y.gd.pisEn = false ∧ y.gd.pisOk = 0 ∧ y.ad = c.ad)

/-- Crossings and commutations of the auxiliary drive, its softening ramp and its loss of synchronism; a RUN_REQ that
falls in the same TCLK governs (R196, R201 to R204, R206, R207, R213). -/
def Obligations.CommutationFollowsTheCrossing : Prop :=
  ∀ (s : State) (l : At), (s.ch l.ch).released = true →
    let c := s.ch l.ch
    ((c.ad.st = .run ∧ c.ad.fresh = false) ∨ c.ad.st = .start → c.ad.tZc = none → c.adSearch l.t = true →
      c.adBlanked l.t = false → s.chGets (.zeroCrossing l) l.ch fun y => y.ad = { c.ad with tZc := some l.t }) ∧
    (c.ad.tZc.isSome = true → s.chGets (.zeroCrossing l) l.ch fun y => y = c) ∧
    (c.ad.st = .run → c.ad.fresh = false → c.adNextComm ≤ l.t → s.chGets (.commutation ⟨l, false⟩) l.ch fun y =>
      y.ad.sector = nextSector (bit (c.getA 0x3400) 5) c.ad.sector ∧ y.ad.prevSector = some c.ad.sector ∧
      y.ad.tComm = c.adNextComm ∧ y.ad.tZc = none ∧ y.ad.steps = c.ad.steps + 1 ∧ y.ad.rampK = 0 ∧
      y.ad.ramping = true ∧ y.ad.st = .run ∧
      y.ad.implausible = (if c.ad.tZc.isSome then 0 else c.ad.implausible + 1)) ∧
    (c.ad.st = .run → c.ad.fresh = true → c.ad.tComm ≤ l.t → s.chGets (.commutation ⟨l, false⟩) l.ch fun y =>
      y.ad.fresh = false ∧ y.ad.ramping = true ∧ y.ad.rampK = 0 ∧ y.ad.sector = c.ad.sector ∧
      y.ad.duty = c.dE c.ad.nObs) ∧
    (c.commutes l.t = true → s.chGets (.commutation ⟨l, true⟩) l.ch fun y =>
      y.fcl.raised.contains (17, 0) = true ∧ (y.exe.stopping || y.exe.stopped) = true) ∧
    (c.ad.st = .start → c.reqFalls l.t = false →
      rampSwept (c.getA 0x340C) (c.af 0x3401 16 16) (c.af 0x3400 0 4) (c.ad.steps + 1) (l.t - c.ad.since) = true →
      s.chGets (.commutation ⟨l, false⟩) l.ch fun y =>
        y.ad.sector = nextSector (bit (c.getA 0x3400) 5) c.ad.sector ∧ y.ad.tComm = l.t ∧
        (y.ad.st = .start ∨ y.ad.st = .run)) ∧
    (c.ad.ramping = true → c.ad.tComm + usec (c.ad.rampK + 1) ≤ l.t → s.chGets (.softRampStep l) l.ch fun y =>
      y.ad.rampK = c.ad.rampK + 1 ∧ y.ad.ramping = decide (c.ad.rampK + 1 < c.adSoft) ∧ y.ad.sector = c.ad.sector) ∧
    (c.ad.st = .run → 18 ≤ c.ad.implausible → c.reqFalls l.t = false → s.chGets (.lossOfSynchronism l) l.ch fun y =>
      y.fcl.raised.contains (18, 0) = true ∧ y.ad.syncFails = satInc c.ad.syncFails ∧
      y.ad.st = (if 2 ≤ (c.ad.recent l.t).length then .fault else .coast)) ∧
    (c.ad.st = .run → c.ad.implausible < 18 ∨ c.reqFalls l.t = true → s.chGets (.lossOfSynchronism l) l.ch fun y => y = c)

/-- Catching the auxiliary motor and starting it: what each decision and each elapsed time leads to (R206, R207, R210
to R215), where RUN_REQ does not fall in the same TCLK, and no handover of START falls due in it. The sector times
with which START begins are free values; how the samples give speed, length and place follows log entries 139 and 150.
-/
def Obligations.PumpStartCourse : Prop :=
  ∀ (s : State) (l : At) (us vs : List (BitVec 12)) (ws : List (BitVec 12 × BitVec 12)), (s.ch l.ch).released = true →
    let c := s.ch l.ch
    let smp := catchSamples us vs ws
    let rpm := (c.catchMeasure smp).1
    let epk := (c.catchMeasure smp).2.1
    let nmax : Int := c.af 0x3401 0 16
    let ke := F32.div (F32.mul epk (F32.ofInt 1000)) (F32.ofInt rpm.natAbs)
    (c.reqFalls l.t = false →
      (c.ad.st = .catch → c.ad.since + tclk 1002000 ≤ l.t →
        (0 < nmax → F32.lt epk f32Quarter = true → s.chGets (.catchDecision l us vs ws) l.ch fun y =>
          y.ad.st = .align ∧ y.ad.since = l.t ∧ y.ad.sector = 0 ∧ y.ad.brakeRound = 0 ∧ y.ad.catchRes = 2 ∧
          y.ad.catches = satInc c.ad.catches) ∧
        (F32.lt epk f32Quarter = false → nmax ≤ 20 * rpm → c.keFails ke = false →
          s.chGets (.catchDecision l us vs ws) l.ch fun y =>
            y.ad.st = .run ∧ y.ad.fresh = true ∧ y.ad.catchRes = 1 ∧ y.ad.brakeRound = 0) ∧
        (F32.lt epk f32Quarter = false → nmax ≤ 20 * rpm → c.keFails ke = true →
          s.chGets (.catchDecision l us vs ws) l.ch fun y =>
            y.ad.st = .fault ∧ y.ad.lastFault = 2 ∧ y.ad.keFaults = satInc c.ad.keFaults ∧
            y.fcl.raised.contains (19, 0) = true) ∧
        (F32.lt epk f32Quarter = false → 100 * rpm ≤ -nmax → 20 * rpm.natAbs < nmax.toNat →
          s.chGets (.catchDecision l us vs ws) l.ch fun y =>
            y.ad.catchRes = 3 ∧
            (c.ad.brakeRound.toNat < c.af 0x3402 24 4 → y.ad.st = .brake ∧ y.ad.since = l.t) ∧
            (c.af 0x3402 24 4 ≤ c.ad.brakeRound.toNat → y.ad.st = .fault ∧ y.ad.lastFault = 3))) ∧
      (c.ad.st = .brake → c.ad.since + msec (c.af 0x3402 16 8) ≤ l.t → s.chGets (.brakeTElapsed l) l.ch fun y =>
        y.ad.st = .catch ∧ y.ad.since = l.t ∧ y.ad.brakeRound = satInc c.ad.brakeRound) ∧
      (c.ad.st = .align → c.ad.since + msec (c.af 0x3402 0 8) ≤ l.t →
        ∃ y, exec (.alignTElapsed l) s = .next { s.setCh l.ch y with freeCtr := s.freeCtr + 6 } ∧
          y.ad.st = .start ∧ y.ad.since = l.t ∧ y.ad.tComm = l.t ∧ y.ad.sectors.length = 6 ∧ y.ad.sector = c.ad.sector) ∧
      (c.ad.st = .start → c.handsOver l.t = true → s.chGets (.startTmaxElapsed l) l.ch fun y => y = c) ∧
      (c.ad.st = .start → c.ad.since + msec (10 * c.af 0x3402 8 8) ≤ l.t → c.handsOver l.t = false → s.chGets (.startTmaxElapsed l) l.ch fun y =>
        y.fcl.raised.contains (18, 0) = true ∧ y.ad.syncFails = satInc c.ad.syncFails ∧
        y.ad.st = (if 2 ≤ (c.ad.recent l.t).length then .fault else .coast))) ∧
    (c.reqFalls l.t = true →
      (s.chGets (.catchDecision l us vs ws) l.ch fun y => y = c) ∧ (s.chGets (.brakeTElapsed l) l.ch fun y => y = c) ∧
      exec (.alignTElapsed l) s = .next s ∧ s.chGets (.startTmaxElapsed l) l.ch fun y => y = c) ∧
    (c.ad.st = .coast → c.ad.ovWait = false → c.ad.since + msec 1 ≤ l.t → s.chGets (.coastElapsed l) l.ch fun y =>
      y.ad.st = .catch ∧ y.ad.since = l.t)

/-- A sample boundary comes START ECLK after a period start of the slot's class, once; it stops a slot that is to
stop, opens a sample where every input is valid, and holds a slot without input; no write waits in the hypotheses of
the last two (R111, R115, R125 to R127). -/
def Obligations.SampleBoundariesRunTheLoop : Prop :=
  ∀ (s : State) (l : At) (n : Fin 32), (s.ch l.ch).released = true → (s.ch l.ch).pwr.doze = false →
    let c := s.ch l.ch
    let x := c.ce.slots[n]
    let y := selectInput (c.af (loopId n.val 0) 2 3) [c.input l.t n 0, c.input l.t n 1, c.input l.t n 2, c.input l.t n 3]
    (x.live = false ∨ c.windowDue l.t n = false → s.chGets (.sampleBoundary l n) l.ch fun z => z = c) ∧
    (∀ k : Fin 4, k.val = c.af (loopId n.val 0) 0 2 → (c.windowDue l.t n = true ↔
      x.bAt ≠ some l.t ∧ ∃ a, c.ce.clsAt[k] = some a ∧ l.t = a + eclk (c.af (loopId n.val 1) 0 18))) ∧
    (c.windowDue l.t n = true → x.live = true → x.startAt + eclk 8 ≤ l.t → x.stopReq = true → s.chGets (.sampleBoundary l n) l.ch fun z =>
      (z.ce.slots[n]).st = .stopped ∧ (z.ce.slots[n]).stopReq = false ∧ (z.ce.slots[n]).queue = [] ∧
      (z.ce.slots[n]).pend = none) ∧
    (c.windowDue l.t n = true → x.live = true → x.startAt + eclk 8 ≤ l.t → x.stopReq = false → x.queue = [] →
      x.oscFallback = false → x.returnPending = false → (∀ m : Fin 8, (c.ce.rc[m]).clearReq = false) →
      (y.isSome = true → (c.refIn l.t n).isSome = true → s.chGets (.sampleBoundary l n) l.ch fun z =>
        (z.ce.slots[n]).st = .running ∧ (z.ce.slots[n]).pend.isSome = true ∧ (z.ce.slots[n]).samples = x.samples ∧
        (z.ce.slots[n]).bAt = some l.t) ∧
      (y = none → x.st = .running → s.chGets (.sampleBoundary l n) l.ch fun z =>
        (z.ce.slots[n]).st = .hold ∧ (z.ce.slots[n]).noInput = true ∧ (z.ce.slots[n]).pend = none ∧
        (z.ce.slots[n]).state = x.state ∧ z.fcl.raised.contains (10, 0) = true))

/-- A compared sample commits as a whole, a disagreement in the sharing of a torque it routes raises SD_CMP and
isolates, and a difference or a NaN is a mismatch of kind CE that commits nothing (R101, R106, R115, R122, R127,
R159). -/
def Obligations.LoopResultsCommitOrMismatch : Prop :=
  ∀ (s : State) (l : At) (n : Fin 32) (p : Sample), (s.ch l.ch).released = true →
    ((s.ch l.ch).ce.slots[n]).pend = some p → p.at_ + eclk p.span ≤ l.t →
    let c := s.ch l.ch
    let x := c.ce.slots[n]
    (p.bad = false → c.routesTorque n = true → s.chGets (.loopResult l n ⟨false, true⟩) l.ch fun y =>
      y.fcl.raised.contains (14, 0) = true ∧ (y.exe.stopping || y.exe.stopped) = true) ∧
    (p.bad = false → s.chGets (.loopResult l n ⟨false, false⟩) l.ch fun y =>
      (y.ce.slots[n]).pend = none ∧ (y.ce.slots[n]).state = p.st ∧ (y.ce.slots[n]).nodes = p.nodes ∧
      (y.ce.slots[n]).samples = x.samples + 1 ∧ (y.ce.slots[n]).first = false ∧
      (y.ce.slots[n]).out = (if c.exe.stopping || c.exe.stopped then x.out else p.st.u1)) ∧
    (p.bad = true → ∀ sh, s.chGets (.loopResult l n ⟨false, sh⟩) l.ch fun y =>
      (y.ce.slots[n]).pend = none ∧ (y.ce.slots[n]).state = x.state ∧ (y.ce.slots[n]).samples = x.samples ∧
      y.exe.mismatch = true ∧ y.exe.bad = true ∧ y.fcl.raised.contains (1, 0) = true) ∧
    ∀ sh, ∃ y, exec (.loopResult l n ⟨true, sh⟩) s = .next { s.setCh l.ch y with freeCtr := s.freeCtr + 1 } ∧
      (y.ce.slots[n]).pend = none ∧ (y.ce.slots[n]).state = x.state ∧ y.exe.mismatch = true ∧ y.exe.bad = true ∧
      (c.exe.mismatch = false → y.exe.kind = 9) ∧ y.fcl.raised.contains (1, 0) = true

/-- The oscillation window and the trace units (R136, R137, R145, R146). -/
def Obligations.WindowsAndTracesAdvance : Prop :=
  ∀ (s : State) (l : At) (n : Fin 32) (u : Fin 4) (bad : Bool), (s.ch l.ch).released = true →
    let c := s.ch l.ch
    let x := c.ce.slots[n]
    let r := c.ce.trace[u]
    (x.live = true → 0 < c.af (loopId n.val 0xA) 0 12 → c.af (loopId n.val 0xA) 0 12 ≤ x.oscPos →
      s.chGets (.oscWindowEnd l n) l.ch fun y =>
        (y.ce.slots[n]).oscPos = 0 ∧ (y.ce.slots[n]).oscCross = 0 ∧ (y.ce.slots[n]).oscTripped = false ∧
        (y.ce.slots[n]).state = x.state ∧ (x.oscIsolate = true → y.fcl.raised.contains (12, 0) = true) ∧
        (x.oscIsolate = false → y.fcl = c.fcl)) ∧
    (r.st = .filling → r.every ≤ r.decim → s.chGets (.traceRecord l u bad) l.ch fun y =>
      (y.ce.trace[u]).recs.length = min (r.recs.length + 1) 2048 ∧ (y.ce.trace[u]).decim = 0 ∧
      (y.ce.trace[u]).st = .filling ∧ (y.ce.trace[u]).invalid = (r.invalid || bad) ∧
      (bad = true → y.fcl.raised.contains (9, 0) = true)) ∧
    (r.st = .post → 0 < r.postLeft → r.every ≤ r.decim → s.chGets (.traceRecord l u bad) l.ch fun y =>
      (y.ce.trace[u]).st = .post ∧ (y.ce.trace[u]).postLeft = r.postLeft - 1 ∧ (y.ce.trace[u]).trigSeen = false ∧
      (r.trigSeen = true → (y.ce.trace[u]).trigIdx = BitVec.ofNat 11 (fld r.cfg 13 11))) ∧
    (r.st = .filling → fld r.cfg 13 11 ≤ r.recs.length → s.chGets (.tracePreFilled l u) l.ch fun y =>
      y = c.setTrace u { r with st := .armed, trigSeen := false }) ∧
    (r.st = .post → r.postLeft = 0 → s.chGets (.tracePostDone l u) l.ch fun y =>
      y = c.setTrace u { r with st := .done }) ∧
    (r.st = .idle ∨ r.st = .done → s.chGets (.traceRecord l u bad) l.ch fun y => y = c)


/-- A mark comes MARK_OFFSET after the cycle start, once in a cycle, and closes the cycle: the voting blocks of the
cycle that ends are let go, the own block of the new one is latched with its count, and below SAFE_STOP every demand
of the core becomes the engine's; a halted core keeps its role and its level (R117, R326, R330, R333, R343, R425). -/
def Obligations.MarkLatchesTheOwnBlock : Prop :=
  ∀ (s : State) (l : At), (s.ch l.ch).released = true →
    let c := s.ch l.ch
    (c.pwr.doze = true ∨ c.markDue l.t = false → s.chGets (.mark l) l.ch fun y => y = c) ∧
    (c.markDue l.t = true → l.t = c.net.nt.cycStart + 200 * c.af 0x1040 2 14) ∧
    (c.pwr.doze = false → c.markDue l.t = true → s.chGets (.mark l) l.ch fun y =>
      y.rd.cclIdx = 0 ∧ y.net.nt.markAt = some l.t ∧ y.sd.periodIdx = 0 ∧ y.rd.markCyc = y.net.nt.cycle ∧ y.rd.a.latched = none ∧
      y.rd.b.latched = none ∧ y.rd.c.latched = none ∧ (∃ v, y.rd.ownLatched = some v ∧ v.cyc = y.rd.markCyc) ∧
      (y.rd.level < 3 → ∀ k : Fin 64, y.ce.demEngine[k] = y.ce.demCore[k]) ∧
      (c.halted = true → y.rd.role = c.rd.role ∧ y.rd.level = c.rd.level ∧ y.rd.faults = c.rd.faults))

/-- The level that a fault set prescribes: 0 only where nothing holds and both networks are held, at least SAFE_STOP
with no network, HELD with no live channel, with no brake circuit or with a Welt unpowered, and never above HELD
(R344). -/
def Obligations.LevelFollowsTheFaultSet : Prop :=
  ∀ (f : Word) (nets : BitVec 2),
    levelOf f nets ≤ 4 ∧ (levelOf f nets = 0 ↔ f = 0 ∧ nets = 3) ∧ (nets = 0 → 3 ≤ levelOf f nets) ∧
    ((∀ ch : Ch, liveF f ch = false) → levelOf f nets = 4) ∧
    (circuitUp f .w1 = false → circuitUp f .w2 = false → levelOf f nets = 4) ∧
    (∀ w, weltUp f w = false → levelOf f nets = 4)

/-- Each claim period, which starts on the grid and once, judges the lanes and sends a word on both, with the running
sequence number and the next setting; a channel that stands under CH, that is halted or whose lane is faulty claims 0,
as one that is neither LEAD nor STANDBY or is in a lifecycle that holds it OFFLINE does; while the links are under test
no word goes out. The grid follows log entry 24 (R33, R294 to R296, R326, R341, R534). -/
def Obligations.ClaimWordsGoOut : Prop :=
  ∀ (s : State) (l : At), (s.ch l.ch).alive = true →
    let c := s.ch l.ch
    let due := c.periodAt l.t && c.rd.claimAt != some l.t
    let late (w : Wid) : Bool :=
      (c.wi w).claim != 0 && !(c.wi w).fault && (c.wi w).lowRun ((l.t - (c.wi w).kAt) / statPeriod)
    (c.linksOut = true ∨ due = false → s.chGets (.claimPeriodStart l) l.ch fun y => y = c) ∧
    (due = true → c.linksOut = false → (c.rd.demote = false ∨ c.rd.role ≠ .lead ∨ c.halted = true) →
      s.chGets (.claimPeriodStart l) l.ch fun y =>
      (∃ u1 u2, y.wi1.sent = some u1 ∧ y.wi2.sent = some u2 ∧ y.wi1.claim = u1.claim ∧ y.wi2.claim = u2.claim ∧
        u1.claim = y.claimNumber l.t ∧ u2.claim = y.claimNumber l.t ∧ u1.seq = c.wi1.seq + 1 ∧
        u2.seq = c.wi2.seq + 1 ∧ u1.check = crc8 (claimBits u1) ∧ u2.check = crc8 (claimBits u2) ∧
        (c.halted = true ∨ c.selfCh = true ∨ c.wi1.fault = true ∨ c.wi2.fault = true ∨ late .w1 = true ∨ late .w2 = true →
          u1.claim = 0 ∧ u2.claim = 0) ∧
        (late .w1 = false → late .w2 = false → u1.claim = c.claimNumber l.t ∧ u2.claim = c.claimNumber l.t) ∧
        (c.nv.lc = 0 ∨ c.nv.lc = 5 → u1.claim = 0 ∧ u2.claim = 0) ∧
        (c.rd.role ≠ .lead → c.rd.role ≠ .standby → u1.claim = 0 ∧ u2.claim = 0)) ∧
      (∀ w, (y.wi w).fault = ((c.wi w).fault || late w)) ∧ (late .w1 = true → y.fcl.raised.contains (38, 0) = true) ∧
      y.wi1.setIdx = (c.wi1.setIdx + 1) % 9 ∧ y.wi2.setIdx = (c.wi2.setIdx + 1) % 9 ∧ y.wi1.seq = c.wi1.seq + 1 ∧
      y.rd.claimAt = some l.t ∧ y.rd.role = c.rd.role ∧ y.rd.level = c.rd.level) ∧
    (due = true → c.linksOut = false → c.rd.demote = true → c.rd.role = .lead → c.halted = false →
      s.chGets (.claimPeriodStart l) l.ch fun y => y.rd.role = .standby ∧ y.rd.demote = false)

/-- A good status word is copied and ends a silence, and its claim counts in its status period; a bad one is counted
and does nothing else; three status periods whose good words lie below the claim, in the third period after its change
or later, make the lane faulty; 6,180 TCLK without a good one make the lane silent and raise line 38; while the links
are under test nothing is received and no silence is judged. Periods without a word follow log entry 79 (R319, R341,
R534). -/
def Obligations.StatusWordsAreJudged : Prop :=
  ∀ (s : State) (l : At) (w : Wid) (x : StatusWord), (s.ch l.ch).released = true →
    let c := s.ch l.ch
    let idx := (l.t - (c.wi w).kAt) / statPeriod
    (c.linksOut = true → (s.chGets (.statusWordReceived l w x) l.ch fun y => y = c) ∧
      (s.chGets (.statusLaneSilence l w) l.ch fun y => y = c)) ∧
    (c.linksOut = false → statusGood x = false → s.chGets (.statusWordReceived l w x) l.ch fun y =>
      y = c.setWi w { c.wi w with bad := satInc (c.wi w).bad }) ∧
    (c.linksOut = false → statusGood x = true → s.chGets (.statusWordReceived l w x) l.ch fun y =>
      (y.wi w).stat = some x ∧ (y.wi w).lastGood = l.t ∧ (y.wi w).silent = false ∧ (y.wi w).bad = (c.wi w).bad ∧
      (x.flags.getLsbD 2 = true → y.fcl.raised.contains (39, 0) = true) ∧
      ((c.wi w).claim = 0 → (y.wi w).lowIdx = (c.wi w).lowIdx ∧ (y.wi w).highIdx = (c.wi w).highIdx) ∧
      ((c.wi w).claim ≠ 0 → x.accClaim < (c.wi w).claim →
        (y.wi w).lowIdx = some idx ∧ (y.wi w).highIdx = (c.wi w).highIdx) ∧
      ((c.wi w).claim ≠ 0 → (c.wi w).claim ≤ x.accClaim →
        (y.wi w).highIdx = some idx ∧ (y.wi w).lowIdx = (c.wi w).lowIdx) ∧
      (y.wi w).fault = ((c.wi w).fault || ((c.wi w).claim != 0 && (c.wi w).lowRun idx)) ∧
      ((c.wi w).claim ≠ 0 → (c.wi w).fault = false → (c.wi w).lowRun idx = true →
        y.fcl.raised.contains (38, 0) = true)) ∧
    (∀ k h, (c.wi w).lowIdx = some k →
      ((c.wi w).highIdx = none → 4 ≤ k → (c.wi w).lowRun idx = decide (k < idx)) ∧
      ((c.wi w).highIdx = some h → k ≤ h → (c.wi w).lowRun idx = false)) ∧
    (c.linksOut = false → (c.wi w).silent = false → (c.wi w).lastGood + tclk 6180 ≤ l.t →
      s.chGets (.statusLaneSilence l w) l.ch fun y =>
      (y.wi w).silent = true ∧ (y.wi w).silentAt = l.t ∧ (y.wi w).bad = (c.wi w).bad ∧
      y.fcl.raised.contains (38, 0) = true ∧ y.rd = c.rd) ∧
    (l.t < (c.wi w).lastGood + tclk 6180 → s.chGets (.statusLaneSilence l w) l.ch fun y => y = c)

/-- Each CCL period, which starts on the grid and once, sends a good frame of at most 256 bytes to both partners, with
the next sequence number, the voting block and, where the link is usable, the tracking records of the period; a block
that waited to be relayed goes along; a direct link without a good frame for three periods fails and raises line 45,
and a cut-off channel is isolated; while the links are under test nothing goes out (R31, R32, R329, R332, R335, R534).
How a frame's bytes are shared follows log entry 149, the grid log entry 24; that a channel in DOZE sends none, log
entry 153. -/
def Obligations.CclFramesGoOut : Prop :=
  ∀ (s : State) (l : At), (s.ch l.ch).released = true → (s.ch l.ch).pwr.doze = false →
    let c := s.ch l.ch
    let due := c.periodAt l.t && c.rd.cclAt != some l.t
    (c.linksOut = true ∨ due = false → s.chGets (.cclPeriodStart l) l.ch fun y => y = c) ∧
    (due = true → c.linksOut = false → c.cutOff l.t = false →
      ∃ y, exec (.cclPeriodStart l) s = .next (s.setCh l.ch y) ∧
        y.rd.cclIdx = c.rd.cclIdx + 1 ∧ y.rd.recs = c.rd.recs.drop c.recsNow ∧ y.rd.role = c.rd.role ∧
        ∀ ch, (ch = c.id.next ∨ ch = c.id.prev) →
          ∃ f, (y.peer ch).sent = some f ∧ f.src = c.id ∧ f.dst = ch ∧ f.relayed = false ∧ f.idx = c.rd.cclIdx ∧
            f.seq = (c.peer ch).outSeq + 1 ∧ (y.peer ch).outSeq = f.seq ∧ frameGood f = true ∧
            (f.toCclBlock :: f.carried |>.map CclBlock.size).sum ≤ 256 ∧
            f.recs = (if c.linkDown ch then [] else c.rd.recs.take c.recsNow) ∧
            (y.peer ch).relay = none ∧ (y.peer ch).relayed.isSome = (c.peer ch).relay.isSome ∧
            (∀ b, (y.peer ch).relayed = some b → b ∈ f.carried) ∧
            f.vote.role = (if c.halted = true then 4 else roleCode c.rd.role) ∧
            (∀ j, (c.peer ch).judgeAt = some j → (c.peer ch).failed = false →
              max j ((c.peer ch).goodAt.getD 0) + threePeriods ≤ l.t →
              (y.peer ch).failed = true ∧ bit y.rd.view (cclBit c.id ch).val = true ∧
              y.fcl.raised.contains (45, 0) = true)) ∧
    (due = true → c.linksOut = false → c.cutOff l.t = true → c.halted = false →
      c.rd.role = .resync ∨ c.rd.role = .standby ∨ c.rd.role = .lead →
      c.liveIn c.id.next = true → c.liveIn c.id.prev = true →
      ∃ y, exec (.cclPeriodStart l) s = .next (s.setCh l.ch y) ∧
        y.fcl.raised.contains (47, 0) = true ∧ (y.exe.stopping || y.exe.stopped) = true)

/-- A frame that is not good is dropped; of a good one every block is taken: a block for the third channel waits to be
relayed once, and a block for this channel gives its vote, the latched one only for the cycle of the mark, and shows the
direct link alive unless it was relayed; while the links are under test none is taken (R31, R32, R329, R330, R332,
R333, R534). -/
def Obligations.CclFramesAreTaken : Prop :=
  ∀ (s : State) (l : At) (f : CclFrame), (s.ch l.ch).released = true → (s.ch l.ch).pwr.doze = false →
    let c := s.ch l.ch
    (c.linksOut = true ∨ frameGood f = false ∨ f.src = c.id → s.chGets (.cclFrameReceived l f) l.ch fun y => y = c) ∧
    (c.linksOut = false → frameGood f = true → f.src ≠ c.id → s.chGets (.cclFrameReceived l f) l.ch fun y =>
      y = ((f.toCclBlock :: f.carried).foldl (Channel.cclBlock l.t) c).bump 9 1) ∧
    (∀ b : CclBlock, let y := Channel.cclBlock l.t c b
      (b.src = c.id → y = c) ∧
      (b.src ≠ c.id → b.dst ≠ c.id → b.relayed = true ∨ b.dst = b.src → y = c) ∧
      (b.src ≠ c.id → b.dst ≠ c.id → b.dst ≠ b.src → b.relayed = false →
        (y.peer b.dst).relay = some { b with relayed := true } ∧ (y.peer b.dst).latest = (c.peer b.dst).latest ∧
        ((c.peer b.dst).relay = none → (y.peer b.dst).restRecs = (c.peer b.dst).restRecs) ∧
        (∀ o, (c.peer b.dst).relay = some o → (y.peer b.dst).restRecs = (c.peer b.dst).restRecs ++ o.recs ∧
          (y.peer b.dst).restSegs = (c.peer b.dst).restSegs ++ o.segs) ∧
        y.ce = c.ce ∧ ∀ ch, ch ≠ b.dst → y.peer ch = c.peer ch) ∧
      (b.src ≠ c.id → b.dst = c.id → b.segs = [] → b.vote.role ≠ 3 →
        (y.peer b.src).latest = some b.vote ∧ (y.peer b.src).heardAt = some l.t ∧
        (y.peer b.src).goodAt = (if b.relayed = true then (c.peer b.src).goodAt else some l.t) ∧
        (b.vote.cyc ≠ c.rd.markCyc → (y.peer b.src).latched = (c.peer b.src).latched) ∧
        (∀ v, (c.peer b.src).latched = some v → (y.peer b.src).latched = some v) ∧
        ((c.peer b.src).latched = none → b.vote.cyc = c.rd.markCyc → (y.peer b.src).latched = some b.vote) ∧
        y.ce = c.ce ∧ y.rd.demote = c.rd.demote ∧ ∀ ch, ch ≠ b.src → y.peer ch = c.peer ch))

/-- An attempt of a mailbox delivery that expires starts again up to XMB_CFG.RETRIES times, and then, as at the end of
the delivery's time, the delivery fails and its box empties (R463, R467). -/
def Obligations.DeliveriesRetryAndEnd : Prop :=
  ∀ (s : State) (l : At) (n : Bool) (d : Deliver), (s.ch l.ch).released = true → (s.ch l.ch).pwr.doze = false →
    let c := s.ch l.ch
    (c.xp n).cur = some d →
    (∀ a, d.tryAt = some a → a + tclk 16000 ≤ l.t → d.tries < c.af 0x0801 0 2 →
      s.chGets (.xmbAttemptTimeout l n) l.ch fun y =>
        y = c.setXp n { c.xp n with cur := some { d with part := 0, tries := d.tries + 1, tryAt := none } }) ∧
    (∀ a, d.tryAt = some a → l.t < a + tclk 16000 → s.chGets (.xmbAttemptTimeout l n) l.ch fun y => y = c) ∧
    (∀ a, d.tryAt = some a → a + tclk 16000 ≤ l.t → c.af 0x0801 0 2 ≤ d.tries → ∀ h : d.box.val < 4,
      s.chGets (.xmbAttemptTimeout l n) l.ch fun y =>
        (y.xp n).cur = none ∧ ((y.xp n).out[d.box.val]).full = false ∧ (y.xp n).failed.getLsbD d.box.val = true ∧
        y.xp (!n) = c.xp (!n)) ∧
    (d.firstAt + usec (10 * c.af 0x0801 8 10) ≤ l.t → ∀ h : d.box.val < 4,
      s.chGets (.xmbDeliveryTimeout l n) l.ch fun y =>
        (y.xp n).cur = none ∧ ((y.xp n).out[d.box.val]).full = false ∧ (y.xp n).failed.getLsbD d.box.val = true ∧
        y.xp (!n) = c.xp (!n)) ∧
    (d.firstAt + usec (10 * c.af 0x0801 8 10) ≤ l.t → d.box.val = 4 →
      s.chGets (.xmbDeliveryTimeout l n) l.ch fun y =>
        (y.xp n).cur = none ∧ (y.xp n).out = (c.xp n).out ∧
        (c.hp.mbu.full = true → (c.xp (!n)).mbuDone = true → y.hp.mbu.full = false ∧ y.hp.lockU = none) ∧
        ((c.xp (!n)).mbuDone = false → (y.xp n).mbuDone = true ∧ y.hp.mbu = c.hp.mbu ∧ y.hp.lockU = c.hp.lockU)) ∧
    (l.t < d.firstAt + usec (10 * c.af 0x0801 8 10) → s.chGets (.xmbDeliveryTimeout l n) l.ch fun y => y = c)

/-- The lead's rotation timer announces a hand-over or waits for a mark that allows it, a Welt that does not accept the
incoming lead puts it into the view and ends the hand-over, and a health window passes or isolates (R327, R337 to
R339). -/
def Obligations.RotationAndHealthWindowsEnd : Prop :=
  ∀ (s : State) (l : At), (s.ch l.ch).running = true → (s.ch l.ch).halted = false →
    let c := s.ch l.ch
    (c.rd.role = .lead → c.rd.rotExp = false → c.rd.rotAt + 60000000000 * c.af 0x4401 0 11 ≤ l.t →
      ((c.swapForbidden s.trackBad = true ∨ c.rd.ann.isSome = true) → s.chGets (.rotationTimerExpiry l) l.ch fun y =>
        y = { c with rd := { c.rd with rotExp := true } }) ∧
      (c.swapForbidden s.trackBad = false → c.rd.ann = none → ∀ ch, c.nextStandby = some ch →
        s.chGets (.rotationTimerExpiry l) l.ch fun y =>
          y = { c with rd := { c.rd with ann := some ⟨3, ch.code, 0, c.net.nt.cycle + 4⟩ } })) ∧
    (c.rd.role ≠ .lead → s.chGets (.rotationTimerExpiry l) l.ch fun y => y = c) ∧
    (∀ h, c.rd.ho = some h → h.at_ + usec 10 + tclk 6180 ≤ l.t →
      (h.seen ≠ 3 → s.chGets (.handoverClaimTimeout l) l.ch fun y =>
        y.rd.ho = none ∧ bit y.rd.view (Ch.bit h.inc) = true ∧
        (h.inc ≠ c.id → y.fcl.raised.contains (44, h.inc.code.setWidth 16) = true) ∧ y.rd.role = c.rd.role) ∧
      (h.seen = 3 → s.chGets (.handoverClaimTimeout l) l.ch fun y => y = c)) ∧
    (c.rd.ho = none → s.chGets (.handoverClaimTimeout l) l.ch fun y => y = c) ∧
    (c.rd.role = .resync → c.rd.healthOk = false → ∀ h, c.rd.health = some h → h + msec 2000 ≤ l.t →
      (c.rd.healthBad = false → c.snsCond = false → s.chGets (.healthWindowEnd l) l.ch fun y =>
        y = { c with rd := { c.rd with healthOk := true } }) ∧
      ((c.rd.healthBad || c.snsCond) = true → s.chGets (.healthWindowEnd l) l.ch fun y =>
        y.exe.stopping = true ∧ y.fcl.raised.contains (48, 0) = true ∧ y.rd.healthOk = false))

/-- SAFE_STOP: at 4 kHz the pressure demands follow the deceleration wanted, a standstill of 1 s makes the level HELD,
and 500 ms later both pressure demands fall to 0; outside SAFE_STOP the core's demands stay; two evaluations of the
auxiliary drive that disagree raise AD_CMP and isolate (R217, R346, R347). -/
def Obligations.SafeStopRunsItsCourse : Prop :=
  ∀ (s : State) (l : At), (s.ch l.ch).running = true →
    let c := s.ch l.ch
    let p1 : Fin 64 := Fin.ofNat 64 (c.af 0x4402 6 6)
    let p2 : Fin 64 := Fin.ofNat 64 (c.af 0x4402 12 6)
    ((c.rd.role = .standby ∨ c.rd.role = .lead) → c.rd.level = 3 → (∃ x, c.rd.stop = some x ∧ x.heldAt = none) →
      (∃ a, c.rd.still = some a ∧ a + msec 1000 ≤ l.t) →
      s.chGets (.standstillHeld l) l.ch fun y =>
        y.rd.level = 4 ∧ y.rd.role = c.rd.role ∧ ∃ x, y.rd.stop = some x ∧ x.heldAt = some l.t) ∧
    (c.rd.level ≠ 3 → s.chGets (.standstillHeld l) l.ch fun y => y = c) ∧
    (∀ x h, c.rd.stop = some x → x.zeroed = false → x.heldAt = some h → h + msec 500 ≤ l.t →
      s.chGets (.heldPressureRelease l) l.ch fun y =>
        y.ce.demCore[p1] = ⟨0, true⟩ ∧ y.ce.demCore[p2] = ⟨0, true⟩ ∧ y.rd.stop = some { x with zeroed := true } ∧
        ∀ k, k ≠ p1 → k ≠ p2 → y.ce.demCore[k] = c.ce.demCore[k]) ∧
    (c.rd.stop = none → s.chGets (.heldPressureRelease l) l.ch fun y => y = c) ∧
    (c.ce.clsAt[1] = some l.t → c.ce.at4k ≠ some l.t → s.chGets (.class4khzPeriod ⟨l, true⟩) l.ch fun y =>
      y.fcl.raised.contains (17, 0) = true ∧ (y.exe.stopping || y.exe.stopped) = true) ∧
    (c.ce.clsAt[1] ≠ some l.t ∨ c.ce.at4k = some l.t → ∀ upset, s.chGets (.class4khzPeriod ⟨l, upset⟩) l.ch fun y => y = c) ∧
    (c.ce.clsAt[1] = some l.t → c.ce.at4k ≠ some l.t → c.rd.stop = none →
      s.chGets (.class4khzPeriod ⟨l, false⟩) l.ch fun y =>
      y.ce.demCore = c.ce.demCore ∧ y.rd.stop = none ∧ y.rd.level = c.rd.level) ∧
    (c.ce.clsAt[1] = some l.t → c.ce.at4k ≠ some l.t → c.ad.st = .off → fld (c.getA 0x3404) 0 8 = 0xFF →
      s.chGets (.class4khzPeriod ⟨l, false⟩) l.ch fun y =>
      y.ad.st = .off ∧ y.ad.inputInvalid = true ∧ y.ad.runReq = F32.lt 0 (c.getA 0x3413) ∧
      y.fcl.raised.contains (20, 0) = true) ∧
    (∀ x, c.ce.clsAt[1] = some l.t → c.ce.at4k ≠ some l.t → c.rd.stop = some x → x.heldAt = none → c.rd.level = 3 →
      c.halted = false → c.ad.st = .off → p1 ≠ p2 → s.chGets (.class4khzPeriod ⟨l, false⟩) l.ch fun y => ∃ z, y.rd.stop = some z ∧ z.heldAt = none ∧
        y.ce.demCore[p1] = ⟨c.stopDemand 0 z.integ, true⟩ ∧ y.ce.demCore[p2] = ⟨c.stopDemand 1 z.integ, true⟩ ∧
        ∀ k, k ≠ p1 → k ≠ p2 → y.ce.demCore[k] = c.ce.demCore[k])

/-- One line that registers newly: it enters the status and the list of registrations, it is the first fault unless it
is of class INFO or a first one stands, it is written to the history, it no longer waits, and a line of class INFO
changes nothing else of the core; a line already registered only counts and stops its quiet timer; a single event such
as ECC_MRAM is in its quiet time from the next TCLK on; a line that isolates does so, MG_CORE asks for a reset, and the
recovery latch is set by its line (R355, R356, R358, R360, R364, R365, R607). -/
def Obligations.LinesRegister : Prop :=
  ∀ (s : State) (l : At) (k : Fin 62) (d : BitVec 16), (s.ch l.ch).alive = true →
    let c := s.ch l.ch
    ((c.fcl.regs.any fun r => r.is k d) = true →
      s.chGets (.errorLineRegister l [(k, d)]) l.ch fun y =>
        y.fcl.regs = (c.fcl.regs.map fun r => if r.is k d then { r with quietAt := quietFrom l.t k } else r) ∧
        y.fcl.reraise = satInc c.fcl.reraise ∧ y.fcl.status = c.fcl.status ∧ y.fcl.hist = c.fcl.hist ∧
        y.fcl.first = c.fcl.first ∧ (k, d) ∉ y.fcl.raised) ∧
    ((c.fcl.regs.any fun r => r.is k d) = false → lineClass k.val = 0 →
      s.chGets (.errorLineRegister l [(k, d)]) l.ch fun y =>
        y.fcl.regs = c.fcl.regs ++ [⟨k, d, none⟩] ∧ y.fcl.status = setBit c.fcl.status k.val true ∧
        y.fcl.first = c.fcl.first ∧ (k, d) ∉ y.fcl.raised ∧ (y.fcl.hist.head?.map (·.line)) = some (BitVec.ofNat 6 k.val) ∧
        y.fcl.hist.length = min 16 (c.fcl.hist.length + 1) ∧ y.exe = c.exe ∧ y.sd = c.sd ∧ y.ad = c.ad ∧
        y.rd.role = c.rd.role ∧ y.rd.level = c.rd.level) ∧
    ((c.fcl.regs.any fun r => r.is k d) = false → c.exe.stopped = true → c.sec.trial = false → lineClass k.val ≠ 0 →
      k ≠ 61 → c.mg.bist = none → s.chGets (.errorLineRegister l [(k, d)]) l.ch fun y =>
        y.fcl.regs = c.fcl.regs ++ [⟨k, d, quietFrom l.t k⟩] ∧ y.fcl.status = setBit c.fcl.status k.val true ∧
        y.fcl.first = (if c.fcl.first.isNone then some (BitVec.ofNat 6 k.val) else c.fcl.first) ∧ y.exe = c.exe) ∧
    ((c.fcl.regs.any fun r => r.is k d) = false → c.halted = false → c.pwr.doze = false → c.sec.trial = false →
      isolates k = true → k ≠ 61 → s.chGets (.errorLineRegister l [(k, d)]) l.ch fun y =>
        (y.exe.stopping || y.exe.stopped) = true ∧ y.fcl.status = setBit c.fcl.status k.val true) ∧
    ((c.fcl.regs.any fun r => r.is 56 d) = false → c.exe.stopped = false → c.pwr.doze = false →
      (c.deferring = false ∨ c.nv.busy = true → s.chGets (.errorLineRegister l [(56, d)]) l.ch fun y =>
        y.rst = { c.rst with pend := c.rst.pend ++ [⟨.fault, false, some 56, 0⟩] }) ∧
      (c.deferring = true → c.nv.busy = false → c.rst.pend = [] → c.rst.pinLow = false → c.rst.supLow = false →
        s.chGets (.errorLineRegister l [(56, d)]) l.ch fun y =>
          y.rst.cause.getLsbD 5 = true ∧ y.rst.line = 56 ∧ y.rst.lineValid = true)) ∧
    ((c.fcl.regs.any fun r => r.is 61 d) = false → c.halted = true → c.sec.trial = false →
      s.chGets (.errorLineRegister l [(61, d)]) l.ch fun y => y.fcl.latched = true)

/-- A source that ends: an INFO line is dropped, a RECOVERABLE line starts its quiet time, a CHANNEL_FATAL or
MODULE_SAFETY line stays; the end of the quiet time recovers the line and counts it; an entry of the view that has
been absent for 2 s leaves it (R342, R356 to R363, R368). -/
def Obligations.LinesRecover : Prop :=
  ∀ (s : State) (l : At) (k : Fin 62) (d : BitVec 16) (b : Fin 24), (s.ch l.ch).alive = true →
    let c := s.ch l.ch
    (lineClass k.val = 0 → c.asserting k = false → s.chGets (.lineSourceEnd l k d) l.ch fun y =>
      y.fcl.regs = (c.fcl.regs.filter fun r => !r.is k d) ∧ y.fcl.status = c.fcl.status ∧ y.fcl.hist = c.fcl.hist) ∧
    (lineClass k.val = 1 → c.asserting k = false → s.chGets (.lineSourceEnd l k d) l.ch fun y =>
      y.fcl.regs = (c.fcl.regs.map fun r => if r.is k d && r.quietAt.isNone then { r with quietAt := some l.t } else r) ∧
      y.fcl.status = c.fcl.status ∧ y.fcl.recov = c.fcl.recov ∧ y.exe = c.exe) ∧
    (2 ≤ lineClass k.val ∨ c.asserting k = true → s.chGets (.lineSourceEnd l k d) l.ch fun y =>
      y.fcl = c.fcl ∧ y.exe = c.exe) ∧
    (c.quietDue l.t k d = true → (c.recent l.t).length < c.af 0x4804 10 4 →
      s.chGets (.quietTimerExpiry l k d) l.ch fun y =>
        y.fcl.regs = (c.fcl.regs.filter fun r => !r.is k d) ∧ y.fcl.recov = satInc c.fcl.recov ∧
        y.fcl.latched = c.fcl.latched ∧ (y.fcl.hist.head?.map (·.kind)) = some 1 ∧ y.exe = c.exe) ∧
    (c.quietDue l.t k d = false → s.chGets (.quietTimerExpiry l k d) l.ch fun y => y = c) ∧
    (c.quietDue l.t k d = true → 0 < c.af 0x4804 14 11 → c.af 0x4804 10 4 < (c.recent l.t).length + 1 → c.halted = true →
      c.sec.trial = false →
      (c.fcl.regs.any fun r => r.is 61 0) = false → s.chGets (.quietTimerExpiry l k d) l.ch fun y =>
        y.fcl.latched = true ∧ y.fcl.recov = satInc c.fcl.recov) ∧
    (6 ≤ b.val → b.val < 21 → bit c.rd.view b.val = true → c.viewCond b.val = false →
      (∃ a, c.rd.absent[b] = some a ∧ a + 2000000000 ≤ l.t) → s.chGets (.faultAbsenceExpiry l b) l.ch fun y =>
        y.rd.view = setBit c.rd.view b.val false ∧ y.rd.absent[b] = none ∧
        (∀ r ∈ y.fcl.regs, r ∈ c.fcl.regs) ∧
        (∀ r ∈ c.fcl.regs, r.line ≠ 41 → r.line ≠ 42 → r.line ≠ 46 → r ∈ y.fcl.regs)) ∧
    ((b.val < 6 ∨ 21 ≤ b.val ∨ bit c.rd.view b.val = false ∨ c.viewCond b.val = true) →
      s.chGets (.faultAbsenceExpiry l b) l.ch fun y => y = c)

/-- The supply: a warning starts and ends with its accounting of the time ridden, a ride of 100 ms requests ISOLATED,
1 s above the rising level clears the account, a ramp ends after 20 ms; an overvoltage cut takes the gate supply,
opens PIS and makes the drives wait, its end within 100 ms lets them return, and at 100 ms it requests ISOLATED (R51
to R58). -/
def Obligations.SupplyWarningsAndCuts : Prop :=
  ∀ (s : State) (l : At), (s.ch l.ch).alive = true →
    let c := s.ch l.ch
    (c.rst.hold = false → c.sup.warn = false → s.chGets (.vsupWarnEnter l) l.ch fun y =>
      y.sup = { c.sup with warn := true, warnAt := l.t, limAt := some l.t, exitAt := none, warnMin := c.sup.vsupMv } ∧
      y.deferring = true ∧ y.nv = c.nv ∧ y.sd = c.sd ∧ y.ad = c.ad) ∧
    ((c.rst.hold || c.sup.warn) = true → s.chGets (.vsupWarnEnter l) l.ch fun y => y = c) ∧
    (c.rst.hold = true → s.chGets (.vsupWarnExit l) l.ch fun y =>
      y.rst = { c.rst with hold := false, belowWarn := false } ∧ y.sup = c.sup) ∧
    (c.rst.hold = false → c.sup.warn = true → s.chGets (.vsupWarnExit l) l.ch fun y =>
      y.sup.warn = false ∧ y.sup.acc = c.sup.acc + (l.t - c.sup.warnAt) ∧ y.sup.exitAt = some l.t ∧
      y.deferring = false ∧
      y.log.wait = [] ∧ y.log.lostNow = 0 ∧
      (c.sup.acc + (l.t - c.sup.warnAt) < msec 100 →
        y.sup.ramp = true ∧ y.sup.rampAt = l.t ∧ y.sup.warnCnt = satInc c.sup.warnCnt) ∧
      (msec 100 ≤ c.sup.acc + (l.t - c.sup.warnAt) → y.sup.ramp = false ∧ y.sup.warnCnt = c.sup.warnCnt ∧
        y.sup.rideOver = true ∧
        (c.sup.rideOver = false → y.sup.iso = true ∧ y.fcl.raised.contains (3, 0) = true))) ∧
    (c.rst.hold = false → c.sup.warn = false → s.chGets (.vsupWarnExit l) l.ch fun y => y = c) ∧
    (c.sup.warn = true → c.sup.rideOver = false → msec 100 ≤ c.sup.acc + (l.t - c.sup.warnAt) →
      s.chGets (.rideLimit l) l.ch fun y =>
        y.sup = { c.sup with iso := true, rideOver := true } ∧ y.fcl.raised.contains (3, 0) = true) ∧
    (c.sup.acc + (l.t - c.sup.warnAt) < msec 100 → s.chGets (.rideLimit l) l.ch fun y => y = c) ∧
    (∀ e, c.sup.warn = false → c.sup.exitAt = some e →
      (e + msec 1000 ≤ l.t → s.chGets (.rideClear l) l.ch fun y =>
        y = { c with sup := { c.sup with acc := 0, exitAt := none, rideOver := false } }) ∧
      (l.t < e + msec 1000 → s.chGets (.rideClear l) l.ch fun y => y = c)) ∧
    (c.sup.ramp = true → c.sup.rampAt + msec 20 ≤ l.t → s.chGets (.limitRampEnd l) l.ch fun y =>
      y = { c with sup := { c.sup with ramp := false } }) ∧
    (c.sup.ov = false → s.chGets (.ovCutEnter l) l.ch fun y =>
      y.sup = { c.sup with ov := true, ovAt := l.t, cutOver := false } ∧ y.gd.gateSupply = false ∧ y.gd.asc = false ∧
      y.sd.pisClosed = false ∧ y.sd.st = .off ∧ (c.sd.st ≠ .off → y.sd.ovWait = true ∧ y.sd.lastLeave = 6) ∧
      ((c.adTakeBack l.t).ad.st ≠ .off → (c.adTakeBack l.t).ad.st ≠ .fault → y.ad.st = .coast ∧ y.ad.ovWait = true) ∧
      (∀ k : Fin 6, (y.gd.legs[k]).hs = false ∧ (y.gd.legs[k]).ls = false)) ∧
    (c.sup.ov = true → s.chGets (.ovCutEnter l) l.ch fun y => y = c) ∧
    (c.sup.ov = true → l.t < c.sup.ovAt + msec 100 → s.chGets (.ovCutExit l) l.ch fun y =>
      y.sup = { c.sup with ov := false, ramp := true, rampAt := l.t, ovCnt := satInc c.sup.ovCnt } ∧
      y.gd.gateSupply = true ∧ (c.sd.ovWait = true → c.gd.grpS.testBusy = false → y.sd.st = .closing ∧ y.sd.pisClosed = true) ∧
      (c.sd.ovWait = true → c.gd.grpS.testBusy = true → y.sd = { c.sd with ovWait := false, pendEnable := true }) ∧
      (c.sd.ovWait = false → y.sd = c.sd) ∧ (c.ad.ovWait = true → y.ad.st = .catch ∧ y.ad.ovWait = false)) ∧
    (c.sup.ov = true → c.sup.cutOver = false → c.sup.ovAt + msec 100 ≤ l.t → s.chGets (.ovCutTimeout l) l.ch fun y =>
      y.sup = { c.sup with iso := true, cutOver := true } ∧ y.fcl.raised.contains (3, 0) = true ∧
      y.sd.ovWait = false ∧ y.ad.ovWait = false) ∧
    (c.sup.ov = true → c.sup.ovAt + msec 100 ≤ l.t → s.chGets (.ovCutExit l) l.ch fun y =>
      y.sup.ov = false ∧ y.sup.ramp = c.sup.ramp ∧ y.sup.ovCnt = c.sup.ovCnt ∧ y.gd.gateSupply = true ∧
      (c.sup.cutOver = false → y.sup.iso = true ∧ y.fcl.raised.contains (3, 0) = true ∧ y.sd.ovWait = false ∧
        y.ad.ovWait = false)) ∧
    (l.t < c.sup.ovAt + msec 100 → s.chGets (.ovCutTimeout l) l.ch fun y => y = c)

/-- The reset sources of the supply, the pins and the clocks: each records its cause, and the sequence after it starts
once nothing holds the channel; a further cause of a held reset joins it; a Welt whose two legs are then down is lost
(R24, R47, R59 to R65, R70, R71, R82, R603). -/
def Obligations.ResetSourcesTakeTheChannel : Prop :=
  ∀ (s : State) (l : At) (tm lost : Bool),
    let c := s.ch l.ch
    (c.powered = true → s.chFeeds (.vsupReset l) l.ch fun y =>
      y.rst.phase = .held ∧ y.rst.supLow = true ∧ y.rst.belowWarn = true ∧ y.rst.full = true ∧
      y.rst.cause.getLsbD 1 = true ∧ y.rst.pend = [] ∧
      (c.heldReset = false → y.nv.jobs = [] ∧ y.params = c.img ∧ y.act = c.img ∧
        y.ce = (Channel.reset c.id).ce ∧ y.rd = (Channel.reset c.id).rd ∧ y.hp = (Channel.reset c.id).hp)) ∧
    (c.powered = false → s.chFeeds (.vsupReset l) l.ch fun y => y = c) ∧
    (c.rst.phase = .unpowered → c.rst.pinLow = true → s.chGets (.vsupPorRelease l l.ch.code tm) l.ch fun y =>
      y.rst.phase = .held ∧ y.rst.cause = 9) ∧
    (c.rst.phase = .unpowered → c.rst.pinLow = false → s.chGets (.vsupPorRelease l l.ch.code tm) l.ch fun y =>
      y.rst = { c.rst with phase := .xtal, cause := 1, line := 0, lineValid := false, cmdPort := 0, full := true,
                           supLow := false, tm := tm } ∧ y.clk.pllLock = false ∧ y.clk.xtalOk = false) ∧
    (c.rst.phase = .held → c.rst.supLow = true → c.rst.pinLow = false → c.rst.full = true →
      s.chGets (.vsupPorRelease l l.ch.code tm) l.ch fun y =>
        y.rst = { c.rst with phase := .xtal, supLow := false, tm := tm }) ∧
    (∀ x, x ≠ l.ch.code → s.chGets (.vsupPorRelease l x tm) l.ch fun y => y = c) ∧
    (c.powered = true → s.chFeeds (.vsupOff l) l.ch fun y =>
      y.rst.phase = .unpowered ∧ y.sup = {} ∧ y.mg = {} ∧ y.nv.jobs = [] ∧ y.params = c.img) ∧
    (c.powered = true → c.rst.pinLow = false → c.rst.supLow = false → s.chGets (.railFault l) l.ch fun y =>
      y.rst.phase = .xtal ∧ y.rst.cause.getLsbD 2 = true ∧ y.clk.pllLock = false ∧
      (c.heldReset = false → y.nv.jobs = [])) ∧
    (c.powered = true → c.nv.busy = true → s.chGets (.pinReset l) l.ch fun y =>
      y = { c with rst := { c.rst with pinLow := true, pend := c.rst.pend ++ [⟨.pin, false, none, 0⟩] } }) ∧
    (c.powered = true → c.nv.busy = false → s.chGets (.pinReset l) l.ch fun y =>
      y.rst.phase = .held ∧ y.rst.pinLow = true ∧ y.rst.cause.getLsbD 3 = true) ∧
    (c.rst.phase = .held → c.rst.pinLow = true → c.rst.supLow = false → s.chGets (.rstnRelease l tm) l.ch fun y =>
      y.rst = { c.rst with phase := if c.rst.full = true then .xtal else .interconnect, pinLow := false, tm := tm }) ∧
    (c.clockSeen lost = true → c.rst.pinLow = false → c.rst.supLow = false →
      s.chGets (.clockFailure l lost) l.ch fun y =>
        y.rst.phase = .xtal ∧ y.rst.cause.getLsbD 5 = true ∧ y.rst.line = 2 ∧ y.rst.lineValid = true ∧
        y.rst.clkHold = true ∧ (c.heldReset = false → y.fcl.status.getLsbD 2 = true) ∧ y.clk.xtalOk = false ∧ y.clk.pllLock = false) ∧
    (c.heldReset = true → c.nv.busy = false → c.rst.pend = [] → c.rst.cause ≠ 0 → s.chGets (.pinReset l) l.ch fun y =>
      y.rst.cause = setBit c.rst.cause 3 true ∧ y.rst.line = c.rst.line ∧ y.rst.lineValid = c.rst.lineValid ∧
      y.rst.cmdPort = c.rst.cmdPort) ∧
    (c.rst.phase = .xtal → s.chGets (.xtalOk l) l.ch fun y =>
      y = { c with clk := { c.clk with xtalOk := true }, rst := { c.rst with phase := .pll } }) ∧
    (c.rst.phase = .pll → s.chGets (.pllLock l) l.ch fun y =>
      y = { c with clk := { c.clk with pllLock := true }, rst := { c.rst with phase := .interconnect, clkHold := false } })

/-- The resets of the firmware and of the management core, and the boot: a reset that a command, the watchdog or a
trial asks for takes effect unless an MRAM attempt runs; the interconnect test leads to boot verification, which
releases the core or holds it in RECOVERY, with the hold below the rising VWARN level; a trial that times out ends in
a reset, whose cause is open (log entry 21), and its bank is rejected unless that cause is POR or SUPPLY (R61, R65,
R66, R104, R457, R496, R497, R524, R537). -/
def Obligations.CoreResetsAndBoot : Prop :=
  ∀ (s : State) (l : At) (failed : BitVec 15) (detail : BitVec 16) (e : BootEnd),
    let c := s.ch l.ch
    let back := c.trialCause l.t == Cause.por || c.trialCause l.t == Cause.supply
    (∀ n p, c.alive = true → c.hp.cmdReset = some (n, p) → n ≤ c.exe.seq →
      (c.nv.busy = true → s.chGets (.commandResetEffect l) l.ch fun y =>
        y.hp.cmdReset = none ∧ y.rst.pend = c.rst.pend ++ [⟨.command, false, none, Port.num p⟩] ∧
        y.rst.phase = c.rst.phase) ∧
      (c.nv.busy = false → c.rst.pinLow = false → c.rst.supLow = false → c.rst.pend = [] →
        s.chGets (.commandResetEffect l) l.ch fun y =>
          y.rst.phase = .interconnect ∧ y.rst.cause = 0x40 ∧ y.rst.cmdPort = Port.num p ∧ y.rst.pend = [])) ∧
    (c.hp.cmdReset = none → s.chGets (.commandResetEffect l) l.ch fun y => y = c) ∧
    (c.framed = true → c.exe.wdgArmed = true → c.halted = false → c.af 0x5801 0 5 ≤ c.exe.wdg → 0 < c.exe.wdg →
      c.nv.busy = false → c.rst.pinLow = false → c.rst.supLow = false → c.rst.pend = [] →
      s.chGets (.watchdogExpiry l) l.ch fun y => y.rst.phase = .interconnect ∧ y.rst.cause = 0x10) ∧
    (c.exe.wdg < c.af 0x5801 0 5 → s.chGets (.watchdogExpiry l) l.ch fun y => y = c) ∧
    (c.rst.phase = .interconnect → s.chGets (.interconnectTestEnd l failed detail) l.ch fun y =>
      y.rst.phase = .verify ∧ y.mg.powerup =
        (if failed &&& bistMask 1 = 0 then bistWord 1 2 0 else bistWord 1 3 detail)) ∧
    (c.rst.phase ≠ .interconnect → s.chGets (.interconnectTestEnd l failed detail) l.ch fun y => y = c) ∧
    (c.rst.phase = .verify → (c.pickBoot l.t).bank = none → s.chGets (.bootVerificationDone l e) l.ch fun y =>
      y.rst.phase = .recovery ∧ y.sec.recovery = true ∧ y.rst.relAt = l.t) ∧
    (∀ b, c.rst.phase = .verify → (c.pickBoot l.t).bank = some b → s.chGets (.bootVerificationDone l e) l.ch fun y =>
      y.rst.phase = .run ∧ y.sec.recovery = false ∧ y.sec.booted = b ∧ y.rst.relAt = l.t ∧
      (e.selfTestOk = false → y.exe.selfFail = true ∧ y.exe.stopped = true) ∧
      y.rst.hold = (e.vsupLow || c.rst.belowWarn)) ∧
    (c.rst.phase ≠ .verify → s.chGets (.bootVerificationDone l e) l.ch fun y => y = c) ∧
    (c.released = true → c.sec.trial = true → c.rst.relAt + tclk 2000000000 ≤ l.t →
      s.chGets (.trialTimeout l) l.ch fun y =>
        y.sec.trial = false ∧ (y.nv.bank c.sec.booted).st = (if back then 2 else 5) ∧
        y.nv.revert = some (c.sec.fwVer, !back)) ∧
    (c.sec.trial = false → s.chGets (.trialTimeout l) l.ch fun y => y = c)

/-- Transactions of a host port: a write whose length or CRC-8 fails is discarded and counted, a whole one takes
effect from its address on, a read that did not end after its CRC has no side effect of its own; side effects become
final 10 µs after the last transaction; a register that is write-only as a whole reads 0 with ADDR_ERR (R432 to R438).
-/
def Obligations.TransactionsEndByTheirCrc : Prop :=
  ∀ (s : State) (l : At) (p : Port) (len : SpiLen) (i crc : Byte) (ws : List Word) (a : BitVec 7) (v : Word),
    (s.ch l.ch).portUp p = true →
    let c := s.ch l.ch
    let u := c.transact p l.t false
    (i.getLsbD 7 = true → (ws = [] ∨ len.bits ≠ 16 + 32 * ws.length ∨ crc8Bytes (i :: bytesOf ws) ≠ crc) →
      s.chGets (.spiTransactionEnd l p len i ws crc) l.ch fun y =>
        y = u.setPort p { u.port p with spiErr := true, spiCrc := satInc (c.port p).spiCrc } ∧
        y.port (otherPort p) = c.port (otherPort p) ∧ (y.port p).lastAt = l.t) ∧
    (i.getLsbD 7 = true → ws ≠ [] → len.bits = 16 + 32 * ws.length → crc8Bytes (i :: bytesOf ws) = crc →
      s.chGets (.spiTransactionEnd l p len i ws crc) l.ch fun y => y = c.spiWrite p l.t i ws) ∧
    (i.getLsbD 7 = false → (ws = [] ∨ len.bits ≠ 16 + 32 * ws.length ∨ readMarked ws = false) →
      s.chGets (.spiTransactionEnd l p len i ws crc) l.ch fun y => y = u) ∧
    (i = 0x23 → ws.length = 1 → v = ws.headD 0 → v.getLsbD 31 = true → len.bits = 48 →
      s.chGets (.spiTransactionEnd l p len i ws crc) l.ch fun y =>
        (y.port p).sdo = [(c.port p).dbMask] ∧ (y.port p).undo = [] ∧ (y.port p).lastAt = l.t) ∧
    ((c.port p).lastAt + usec 10 ≤ l.t → s.chGets (.sideEffectFinal l p) l.ch fun y =>
      y = c.setPort p (c.port p).settle ∧ (y.port p).undo = []) ∧
    (l.t < (c.port p).lastAt + usec 10 → s.chGets (.sideEffectFinal l p) l.ch fun y => y = c) ∧
    (s.chGets (.rewind l p) l.ch fun y => (y.port p).lastAt = l.t ∧ (y.port p).undo = []) ∧
    (a = 0x23 → s.chGets (.windowRegisterWrite l p a v) l.ch fun y =>
      y = u.setPort p { u.port p with dbMask := v }) ∧
    (a = 0x03 → s.chGets (.windowRegisterWrite l p a v) l.ch fun y =>
      y = u.setPort p { u.port p with epoch := v.setWidth 2 }) ∧
    (a = 0x01 ∨ a = 0x09 ∨ a = 0x0A ∨ a = 0x21 ∨ a = 0x31 ∨ a = 0x7F →
      s.chGets (.windowRegisterWrite l p a v) l.ch fun y => y = u.setPort p { u.port p with addrErr := true }) ∧
    (a = 0x08 ∨ a = 0x20 → s.chGets (.woRegisterRead l p a) l.ch fun y =>
      (y.port p).sdo = [0] ∧ (y.port p).addrErr = true ∧ (y.port p).dbPend = (c.port p).dbPend ∧
      (y.port p).cmds = (c.port p).cmds) ∧
    (s.chGets (.hostReset l p) l.ch fun y =>
      (∀ k : Fin 8, k ≠ 0 → (y.port p).sess[k] = {}) ∧ (y.port p).sess[(0 : Fin 8)] = (c.port p).sess[(0 : Fin 8)] ∧
      (∀ k : Fin 4, ((y.port p).f2h[k]).full = false) ∧ (y.port p).f2hReset = true ∧ (y.port p).h2f = (c.port p).h2f)

/-- Semaphores, the lock of MB_U and the doorbells: a write of 1 takes a free semaphore, of two in one PCLK the one
whose port the count names, a write of 0 releases an owned one, and the lock is taken by a read and released by its
owner while MB_U is empty (R440, R441, R461, R462). -/
def Obligations.SemaphoresAndLocksHaveOneOwner : Prop :=
  ∀ (s : State) (l : At) (p : Port) (k : Fin 16) (v : Word) (con : Bool), (s.ch l.ch).portUp p = true →
    let c := s.ch l.ch
    let u := c.transact p l.t false
    let wins := con = false ∨ (l.t / 10 % 2 = 0 ↔ p = .hp0)
    (c.hp.sem[k] = none → wins → s.chGets (.semWrite l p k 1 con) l.ch fun y =>
      y.hp.sem = c.hp.sem.set k (some p) ∧ y.port p = u.port p) ∧
    (c.hp.sem[k] = none → ¬ wins → s.chGets (.semWrite l p k 1 con) l.ch fun y => y = u) ∧
    (∀ q, c.hp.sem[k] = some q → q = p ∨ c.hp.semAt[k] ≠ some (l.t / 10) ∨ pclkWinner l.t ≠ p →
      s.chGets (.semWrite l p k 1 con) l.ch fun y => y = u) ∧
    (c.hp.sem[k] = some (otherPort p) → c.hp.semAt[k] = some (l.t / 10) → pclkWinner l.t = p →
      s.chGets (.semWrite l p k 1 con) l.ch fun y => y.hp.sem = c.hp.sem.set k (some p)) ∧
    (c.hp.sem[k] = some p → s.chGets (.semWrite l p k 0 con) l.ch fun y => y.hp.sem = c.hp.sem.set k none) ∧
    (c.hp.sem[k] ≠ some p → s.chGets (.semWrite l p k 0 con) l.ch fun y => y = u) ∧
    (v ≠ 0 → v ≠ 1 → s.chGets (.semWrite l p k v con) l.ch fun y =>
      y.hp.sem = c.hp.sem ∧ (y.port p).addrErr = true) ∧
    (s.chGets (.releaseSem l p) l.ch fun y =>
      (∀ j : Fin 16, y.hp.sem[j] ≠ some p) ∧ ∀ j : Fin 16, c.hp.sem[j] ≠ some p → y.hp.sem[j] = c.hp.sem[j]) ∧
    (c.hp.lockU = none → wins → s.chGets (.lockURead l p con) l.ch fun y =>
      y.hp.lockU = some p ∧ (y.port p).sdo = [0]) ∧
    (c.hp.lockU = some p → s.chGets (.lockURead l p con) l.ch fun y => y.hp.lockU = some p ∧ (y.port p).sdo = [0]) ∧
    (c.hp.lockU = some (otherPort p) → c.hp.lockAt ≠ some (l.t / 10) ∨ pclkWinner l.t ≠ p ∨ c.hp.mbu.full = true →
      s.chGets (.lockURead l p con) l.ch fun y =>
        y.hp.lockU = some (otherPort p) ∧ (y.port p).sdo = [(Port.num (otherPort p)).setWidth 32]) ∧
    (c.hp.lockU = some (otherPort p) → c.hp.lockAt = some (l.t / 10) → pclkWinner l.t = p → c.hp.mbu.full = false →
      s.chGets (.lockURead l p con) l.ch fun y => y.hp.lockU = some p ∧ (y.port p).sdo = [0] ∧
        ((c.port (otherPort p)).sdo = [0] → (y.port (otherPort p)).sdo = [(Port.num p).setWidth 32])) ∧
    (c.hp.lockU = some p → c.hp.mbu.full = false → s.chGets (.lockUWrite l p 0) l.ch fun y => y.hp.lockU = none) ∧
    (c.hp.lockU ≠ some p ∨ c.hp.mbu.full = true ∨ v ≠ 0 → s.chGets (.lockUWrite l p v) l.ch fun y => y = u) ∧
    (s.chGets (.doorbellRing l p v) l.ch fun y =>
      (y.port p).dbPend = (c.port p).dbPend ||| v.setWidth 20 ∧ (y.port p).dbF2h = (c.port p).dbF2h ∧
      y.port (otherPort p) = c.port (otherPort p))

/-- Mailboxes and the FIFOs: a word goes to the box and place that MB_INDEX selects, word 15 fills it, a full box or one
without the lock refuses with MB_ERR; a read of word 15 empties its box; a packet takes one of 16 slots or is a credit
violation; a reply word is read and can be undone; sessions and challenges expire (R435, R442 to R446, R451, R452, R460,
R462, R483). -/
def Obligations.MailboxesAndFifosMove : Prop :=
  ∀ (s : State) (l : At) (p : Port) (v : Word) (k : Fin 8),
    let c := s.ch l.ch
    let u := c.transact p l.t false
    let x := c.port p
    let b : Fin 4 := Fin.ofNat 4 x.mbSel.toNat
    (c.portUp p = true → x.mbSel < 4 → (x.h2f[b]).full = false → s.chGets (.mbDataWrite l p v) l.ch fun y =>
      ((y.port p).h2f[b]).words[x.mbWord.toNat] = v ∧ ((y.port p).h2f[b]).full = (x.mbWord == 15) ∧
      (y.port p).mbWord = x.mbWord + 1 ∧ (y.port p).mbErr = x.mbErr ∧ ∀ j, j ≠ b → (y.port p).h2f[j] = x.h2f[j]) ∧
    (c.portUp p = true → x.mbSel < 4 → (x.h2f[b]).full = true → s.chGets (.mbDataWrite l p v) l.ch fun y =>
      (y.port p).h2f = x.h2f ∧ (y.port p).mbErr = true ∧ (y.port p).mbWord = x.mbWord + 1) ∧
    (c.portUp p = true → x.mbSel = 8 → c.hp.lockU ≠ some p → s.chGets (.mbDataWrite l p v) l.ch fun y =>
      y.hp.mbu = c.hp.mbu ∧ (y.port p).mbErr = true) ∧
    (c.portUp p = true → 4 ≤ x.mbSel → x.mbSel < 8 → s.chGets (.mbDataRead l p) l.ch fun y =>
      (y.port p).sdo = [(x.f2h[b]).words[x.mbWord.toNat]] ∧ (y.port p).mbWord = x.mbWord + 1 ∧
      (x.mbWord = 15 → ((y.port p).f2h[b]).full = false) ∧ (x.mbWord ≠ 15 → (y.port p).f2h = x.f2h) ∧
      (y.port p).h2f = x.h2f) ∧
    (∀ w0 arg e : Word, c.portUp p = true → fld w0 0 12 = 0 → e = crc32c (bytesOf [w0, arg]) → (u.port p).used < 16 →
      s.chGets (.cmdFifoWrite l p [w0, arg, e]) l.ch fun y =>
        (y.port p).used = (u.port p).used + 1 ∧
        ((y.port p).cmds.getLast?.map fun q => (q.1, q.2.1.tag, q.2.1.arg, q.2.2)) =
          some (l.t, (w0 >>> 16).setWidth 8, arg, none)) ∧
    (∀ w0 arg e : Word, c.portUp p = true → fld w0 0 12 = 0 → 16 ≤ (u.port p).used →
      s.chGets (.cmdFifoWrite l p [w0, arg, e]) l.ch fun y =>
        (y.port p).used = (u.port p).used ∧ (y.port p).cmds = x.cmds ∧ (y.port p).credViol = true ∧
        y.fcl.raised.contains (53, 0) = true) ∧
    (∀ w r, c.portUp p = true → (∀ a ∈ (u.port p).replies, a.pubAt ≤ l.t) → (u.port p).stream = w :: r → s.chGets (.replyFifoRead l p 1) l.ch fun y =>
      (y.port p).sdo = [w] ∧ (y.port p).popped = (u.port p).popped + 1 ∧ (y.port p).undo = [.pop 1] ∧
      (y.port p).replies = (u.port p).replies) ∧
    (c.portUp p = true → (u.port p).stream = [] → s.chGets (.replyFifoRead l p 1) l.ch fun y =>
      (y.port p).sdo = [0] ∧ (y.port p).addrErr = true ∧ (y.port p).popped = (u.port p).popped) ∧
    (c.alive = true → (x.sess[k]).st = .opened → 2 ≤ (x.sess[k]).level →
      (x.sess[k]).idleAt + 60000000000 * c.af 0x0800 24 8 ≤ l.t → s.chGets (.sessionIdleTimeout l p k) l.ch fun y =>
        y = c.setPort p { x with sess := x.sess.set k {} }) ∧
    ((x.sess[k]).st ≠ .opened ∨ (x.sess[k]).level < 2 → s.chGets (.sessionIdleTimeout l p k) l.ch fun y => y = c) ∧
    (c.alive = true → (x.sess[k]).st = .challenged → (x.sess[k]).challenge ≠ [] →
      (x.sess[k]).chAt + 10000000000 ≤ l.t → s.chGets (.challengeExpiry l (.session p k)) l.ch fun y =>
        y = c.setPort p { x with sess := x.sess.set k {} }) ∧
    (∀ d, c.alive = true → c.sec.challenge = some d → d.at_ + 10000000000 ≤ l.t →
      s.chGets (.challengeExpiry l .debug) l.ch fun y => y = { c with sec := { c.sec with challenge := none } }) ∧
    (c.sec.challenge = none → s.chGets (.challengeExpiry l .debug) l.ch fun y => y = c)

/-- The commands that read, each in its turn: with the checks of R448 passed each answers its value at once or at the
commit and changes nothing else, but that a failed read of the update state is INTERNAL_FAULT and raises line 8; the
order of the checks, shown on LOOP_STOP: session, level, owner, length; a packet not yet in its turn waits (R431, R448,
R455, R456, R493, R525, R533, R536, R541). -/
def Obligations.ReadsAnswerAfterTheChecks : Prop :=
  ∀ (s : State) (q : Req) (op : Byte),
    let ch := q.hdr.loc.ch
    let b := (s.ch ch).begun q.hdr op
    let n := fld q.arg 0 5
    ((s.ch ch).turn q.hdr 0 = false → s.chGets (.nop q) ch fun y => y = s.ch ch) ∧
    ((s.ch ch).turn q.hdr op = true →
    (op = 0x00 → b.admits q.hdr 0 [] → q.len = 0 → s.chGets (.nop q) ch fun y =>
      y = b.replied q.hdr false (okVal q.arg) []) ∧
    (op = 0x01 → b.admits q.hdr 0 [] → q.len = 0 → s.chGets (.identify q) ch fun y =>
      y = b.replied q.hdr true (okData b.identity) [] ∧ b.identity.length = 8 ∧ b.identity[0]? = some 0x9430) ∧
    (op = 0x10 → b.admits q.hdr 0 [] → q.len = 0 →
      (∀ v, b.paramRead q.hdr.loc.t (fld q.arg 0 16) = some v → s.chGets (.paramRead q) ch fun y =>
        ∃ iso, y = b.replied q.hdr iso (okVal v) []) ∧
      (pdef (fld q.arg 0 16) = none → s.chGets (.paramRead q) ch fun y =>
        ∃ iso, y = b.replied q.hdr iso (refuseAns stBadParam) [])) ∧
    (op = 0x12 → b.admits q.hdr 0 [] → q.len = 0 →
      ((fld q.arg 16 9 = 0 → s.chGets (.paramReadBlock q) ch fun y =>
        y = b.replied q.hdr false (refuseAns stBadParam) []) ∧
       (0 < fld q.arg 16 9 → (∀ i, i < fld q.arg 16 9 → (pdef (fld q.arg 0 16 + i)).isSome) →
        s.chGets (.paramReadBlock q) ch fun y =>
          ∃ ws, y = b.replied q.hdr false (okData ws) [] ∧ ws.length ≤ fld q.arg 16 9 ∧
            ws.head? = b.paramRead q.hdr.loc.t (fld q.arg 0 16)))) ∧
    (op = 0x49 → b.admits q.hdr 0 [] → q.len = 0 → fld q.arg 13 7 ≠ 0 → fld q.arg 13 7 ≤ 64 →
      fld q.arg 2 11 + fld q.arg 13 7 ≤ 2048 → (b.ce.trace[(Fin.ofNat 4 (fld q.arg 0 2))]).st = .done →
      s.chGets (.traceRead q) ch fun y => ∃ ws, y = b.replied q.hdr false (okData ws) [] ∧
        ∀ r, (b.ce.trace[(Fin.ofNat 4 (fld q.arg 0 2))]).recs.reverse[fld q.arg 2 11]? = some r →
          ws.take 8 = r.vals.toList) ∧
    (op = 0x61 → b.admits q.hdr 0 [] → q.len = 0 → s.chGets (.claimStatus q) ch fun y =>
      y = b.replied q.hdr true (okVal b.claimStatus) []) ∧
    (op = 0x70 → b.admits q.hdr 0 [] → q.len = 0 → fld q.arg 11 7 ≠ 0 → fld q.arg 11 7 ≤ 64 →
      fld q.arg 0 11 + fld q.arg 11 7 ≤ (if bit q.arg 31 = true then 64 else 1984) →
      s.chGets (.logRead q) ch fun y =>
        y = b.replied q.hdr true okAns [.fill b.hp.results.length (.log (bit q.arg 31) (fld q.arg 0 11) (fld q.arg 11 7))]) ∧
    (op = 0x72 → b.admits q.hdr 0 [] → q.len = 0 →
      (n ≠ 7 → ∀ h : n < 22, s.chGets (.sensorRead q) ch fun y =>
        y = b.replied q.hdr true (okVal b.mg.sensors[n]) []) ∧
      (n = 7 ∨ 22 ≤ n → s.chGets (.sensorRead q) ch fun y => y = b.replied q.hdr true (refuseAns stBadParam) [])) ∧
    (op = 0xA1 → b.admits q.hdr 0 [] → q.len = 0 → fld q.arg 0 8 ∈ bistTests → s.chGets (.bistResult q) ch fun y =>
      y = b.replied q.hdr false (okVal (b.bistResult (fld q.arg 0 8))) []) ∧
    (op = 0xB1 → b.admits q.hdr (if bit (b.getW 0x6001) 0 = true then 0 else 2) [] → q.len = 0 →
      (bit q.arg 8 = true → s.chGets (.pctRead q) ch fun y =>
        y = b.replied q.hdr false okAns [.fill b.hp.results.length (.snapshot (fld q.arg 10 6))]) ∧
      (bit q.arg 8 = false → fld q.arg 0 4 < 12 → s.chGets (.pctRead q) ch fun y =>
        y = b.replied q.hdr false okAns [.fill b.hp.results.length (.counters (fld q.arg 0 4))])) ∧
    (op = 0xB2 → b.admits q.hdr 2 [] → q.len = 0 → fld q.arg 9 8 ≠ 0 → fld q.arg 9 8 ≤ 128 →
      fld q.arg 0 9 + fld q.arg 9 8 ≤ 512 → s.chGets (.pctSampleRead q) ch fun y =>
        ∃ ws, y = b.replied q.hdr false (okData ws) [] ∧ ws.length = 4 * fld q.arg 9 8) ∧
    (op = 0x84 → b.admits q.hdr 2 [] → q.len = 0 → b.deferring = false → b.inTrial = false →
      ∀ k, b.nv.partialBank = some k → s.chGets (.imageResume q) ch fun y =>
        y = if Config.mramFails b.id q.hdr.loc.t 0x10050 = true
          then (b.raise 8).replied q.hdr false (refuseAns stInternal) []
          else b.replied q.hdr false (okData (bitmapWords (b.nv.bank k).missing)) []) ∧
    (op = 0x42 → b.running = true → q.hdr.loc.t = b.exe.startAt → b.rst.tm = false → b.sec.recovery = false → b.pwr.entry = none →
      let x := b.sessOf q.hdr
      let sem := slotSem (Fin.ofNat 32 n).val
      let no (st : Byte) : Prop := s.chGets (.loopStop q) ch fun y => y = b.replied q.hdr false (refuseAns st) []
      (8 ≤ q.hdr.session.toNat ∨ x.st ≠ .opened → no stBadParam) ∧
      (q.hdr.session.toNat < 8 → x.st = .opened → x.level = 0 → no stDenied) ∧
      (q.hdr.session.toNat < 8 → x.st = .opened → 1 ≤ x.level → b.hp.semSnap[sem] ≠ some q.hdr.port → no stNotOwner) ∧
      (b.admits q.hdr 1 [sem] → q.len ≠ 0 → no stBadLength) ∧
      (b.admits q.hdr 1 [sem] → q.len = 0 → s.chGets (.loopStop q) ch fun y =>
        y = b.replied q.hdr false okAns [.loopStop (Fin.ofNat 32 n)])))

/-- A write of parameters, in its turn and with the checks of R448 passed: an accepted one changes the working copy of
its parameter at once and no other, changes no value in force, leaves the rest for the commit of its frame, and answers
the value as it then reads; a refused one changes nothing, and of a set the first refusal refuses all. The writes that
arm a test, start the sampler or set a compare channel are such writes (R13, R14, R43, R44, R91, R132, R182, R453, R535,
R542). -/
def Obligations.ParameterWritesActAtTheCommit : Prop :=
  ∀ (s : State) (q : Req) (h : Hdr) (m : Fin 8) (v : Word) (iv : BitVec 20) (isV : Bool),
    let id := fld q.arg 0 16
    let w := q.payload.getD 0 0
    let a := (s.ch q.hdr.loc.ch).begun q.hdr 0x11
    let es := setEntries q.payload
    let k := fld q.arg 0 9
    let c := (s.ch q.hdr.loc.ch).begun q.hdr 0x13
    let no (st : Byte) : Prop := s.chGets (.paramWrite q) q.hdr.loc.ch fun y =>
      y = a.replied q.hdr false (refuseAns st) []
    let b := (s.ch h.loc.ch).begun h 0x11
    let cmp := 0x3D00 + 4 * m.val + (if isV = true then 1 else 0)
    ((s.ch q.hdr.loc.ch).turn q.hdr 0x11 = true → a.admits q.hdr (writeLevel id w) (semOf id) → q.len = 4 →
      (a.accepts q.hdr (id, w) → s.chGets (.paramWrite q) q.hdr.loc.ch fun y =>
        y = (Channel.written q.hdr a (id, w)).wrote q.hdr id ∧ y.act = a.act ∧ y.rd = a.rd ∧
        (∀ j, j ≠ id → y.getW j = a.getW j) ∧
        ∀ d, pdef id = some d → y.params = storeD a.params id (d.merge (a.getW id) w) (resetOf id)) ∧
      (pdef id = none → no stBadParam) ∧
      (∀ st, writeCheck a.getW id w = some st → no st) ∧
      (∀ st, writeCheck a.getW id w = none → a.writeLock q.hdr id w = some st → no st) ∧
      (∀ d, pdef id = some d → writeCheck a.getW id w = none → a.writeLock q.hdr id w = none →
        a.queueFull d id = true → no stBusy)) ∧
    ((s.ch q.hdr.loc.ch).turn q.hdr 0x13 = true → 0 < k → k ≤ 256 → q.len = 8 * k →
      c.admits q.hdr 2 (es.flatMap fun e => semOf e.1) →
      (Channel.acceptsAll q.hdr es c → s.chGets (.paramWriteSet q) q.hdr.loc.ch fun y =>
        y = (es.foldl (Channel.written q.hdr) c).replied q.hdr false (okVal (BitVec.ofNat 32 k)) [] ∧ y.act = c.act) ∧
      (∀ st pre e post, es = pre ++ e :: post → Channel.acceptsAll q.hdr pre c →
        writeCheck (pre.foldl (Channel.written q.hdr) c).getW e.1 e.2 = some st →
        s.chGets (.paramWriteSet q) q.hdr.loc.ch fun y => y = c.replied q.hdr false (refuseAns st) [])) ∧
    ((s.ch h.loc.ch).turn h 0x11 = true →
      (b.admits h (writeLevel cmp v) [9] → writeCheck b.getW cmp v = none → (4 ≤ m.val ∨ b.esOwns = false) →
        s.chGets (.compareWrite h m isV v) h.loc.ch fun y =>
          y = ((b.putW cmp (if isV = true then v else (b.getW cmp &&& ~~~0x3F) ||| (v &&& 0x3F))).push
            [.compare m (!isV)]).wrote h cmp) ∧
      (b.admits h 1 [14] → s.chGets (.biArm h v) h.loc.ch fun y =>
        y.mg = { b.mg with arm := some (v, h.port, h.session, h.loc.t) } ∧ y.hp.effects = b.hp.effects ∧
        ∃ r, y.hp.results = b.hp.results ++ [r] ∧ r.status = stOk) ∧
      (b.admits h 2 [15] → 1024 ≤ iv → s.chGets (.samplerEnable h iv) h.loc.ch fun y =>
        y = ((b.putW 0x6002 (1 ||| put 1 iv.toNat)).push [.sampler]).wrote h 0x6002) ∧
      (b.admits h 2 [15] → iv < 1024 → s.chGets (.samplerEnable h iv) h.loc.ch fun y =>
        y = b.replied h false (refuseAns stRange) []))

/-- The commands of the drives, the engine, the network, the module and the tests, in their turn and with the checks of
R448 passed: what each needs of the channel, what it answers, and what it leaves for the commit; so too the writes that
return a loop, clear a bin set, start a self-test, or restart or clear a register (R81, R108, R111, R138, R143, R146,
R178, R209, R216, R249, R317, R327, R337, R347, R369, R397, R404, R415, R458, R506, R535, R539). -/
def Obligations.EngineCommandsAreAccepted : Prop :=
  ∀ (s : State) (q : Req) (op : Byte),
    let ch := q.hdr.loc.ch
    let b := (s.ch ch).begun q.hdr op
    let g := grpArg q.arg
    let n : Fin 32 := Fin.ofNat 32 (fld q.arg 0 5)
    let does (i : Instr) (es : List Effect) : Prop := s.chGets i ch fun y => y = b.replied q.hdr false okAns es
    let writes (i : Instr) (id : Nat) (new : Word) (e : List Effect) : Prop := s.chGets i ch fun y =>
      y = ((b.putW id new).push e).wrote q.hdr id
    let no (i : Instr) (st : Byte) : Prop := s.chGets i ch fun y => y = b.replied q.hdr false (refuseAns st) []
    (s.ch ch).turn q.hdr op = true →
    (op = 0x11 →
      (∀ k : Fin 32, b.admits q.hdr 1 [if k.val < 16 then 3 else 4] →
        writes (.ceReturn q.hdr k) (loopId k.val 0x0E) (b.getW (loopId k.val 0x0E)) [.ceReturn k]) ∧
      (∀ (m : Fin 8) fz, b.admits q.hdr 1 [5] →
        let r := (b.getW (rcId m.val 6) &&& ~~~1) ||| flag 0 fz
        writes (.rcClear q.hdr m fz) (rcId m.val 6) r [.inForce (rcId m.val 6) r, .rcClear m]) ∧
      (∀ g, b.admits q.hdr 1 [] →
        (b.testable g = true →
          writes (.gdTestStart q.hdr g) (grpBase g + 4) (b.getW (grpBase g + 4)) [.gdTest g]) ∧
        (b.testable g = false → no (.gdTestStart q.hdr g) stLocked)) ∧
      (b.admits q.hdr 1 [] → writes (.minVsupRestart q.hdr) 0x0302 (b.getW 0x0302) [.minVsup] ∧
        writes (.exePeakRestart q.hdr) 0x7005 (b.getW 0x7005) [.exePeak]) ∧
      (b.admits q.hdr 1 [1] → writes (.clrCnt q.hdr) 0x1001 (b.getW 0x1001) [.clrCnt]) ∧
      (b.admits q.hdr 2 [12] → writes (.fclLatchClear q.hdr) 0x4806 (b.getW 0x4806) [.fclClear]) ∧
      (b.admits q.hdr 1 [] → (b.sessOf q.hdr).level = 1 → no (.fclLatchClear q.hdr) stDenied)) ∧
    (op = 0x30 → b.admits q.hdr 1 [grpSem g] → q.len = 0 →
      (g = .steer → b.steerCheck = none → does (.driveEnable q) [.driveEnable g]) ∧
      (g = .aux → b.auxCheck = none → does (.driveEnable q) [.driveEnable g]) ∧
      (g = .steer → (b.rd.role = .offline ∨ b.rd.role = .isolated ∨ b.sd.st = .opening) → no (.driveEnable q) stLocked) ∧
      (g = .aux → (b.rd.role = .offline ∨ b.rd.role = .isolated ∨ b.ad.st = .fault) → no (.driveEnable q) stLocked)) ∧
    (op = 0x31 → b.admits q.hdr 1 [grpSem g] → q.len = 0 → does (.driveDisable q) [.driveDisable g]) ∧
    (op = 0x34 → b.admits q.hdr 2 [7] → q.len = 256 →
      (b.curveCheck (q.payload.map F32.flush) = none → does (.curveLoad q) [.curveLoad (q.payload.map F32.flush)]) ∧
      (∀ st, b.curveCheck (q.payload.map F32.flush) = some st → no (.curveLoad q) st)) ∧
    (op = 0x40 → b.admits q.hdr 2 [slotSem n.val] → q.len = 184 →
      ((b.ce.slots[n]).live = true → no (.loopLoad q) stLocked) ∧
      ((b.ce.slots[n]).live = false → b.starting n = false → b.progCheck n.val q.payload = none →
        s.chGets (.loopLoad q) ch fun y =>
          y = (b.putProg n.val q.payload).replied q.hdr false (okVal 0) [.loopLoad n q.payload])) ∧
    (op = 0x41 → b.admits q.hdr 1 [slotSem n.val] → q.len = 0 →
      (b.lcShut = true → no (.loopStart q) stLocked) ∧
      (b.lcShut = false → b.loopStartCheck n = none → does (.loopStart q) [.loopStart n])) ∧
    (op = 0x48 → b.admits q.hdr 1 [5] → q.len = 0 →
      let u : Fin 4 := Fin.ofNat 4 (fld q.arg 0 2)
      ((b.ce.trace[u]).st = .idle ∨ (b.ce.trace[u]).st = .done → does (.traceArm q) [.traceArm u]) ∧
      ((b.ce.trace[u]).st = .filling ∨ (b.ce.trace[u]).st = .armed ∨ (b.ce.trace[u]).st = .post →
        no (.traceArm q) stBusy)) ∧
    (op = 0x50 → b.admits q.hdr 2 [2] → 4 ≤ q.len → q.len ≤ 2048 → q.len % 4 = 0 →
      (b.net.nt.st ≠ .down → no (.combLoad q) stLocked) ∧
      (b.net.nt.st = .down → fld q.arg 0 14 = 0 → bit q.arg 31 = false → s.chGets (.combLoad q) ch fun y =>
        y = { b with net := { b.net with staging := some q.payload } }.replied q.hdr false okAns []) ∧
      (b.net.nt.st = .down → fld q.arg 0 14 = 0 → bit q.arg 31 = true → s.chGets (.combLoad q) ch fun y =>
        y = { b with net := { b.net with staging := none } }.replied q.hdr false (pendAns 200)
          [.work (workOf q (.comb q.payload))])) ∧
    (op = 0x51 → b.admits q.hdr 1 [1] → q.len = 0 →
      (b.netCheck = none → does (.netStart q) [.netStart]) ∧ (b.net.nt.st ≠ .down → no (.netStart q) stLocked) ∧
      (b.net.nt.st = .down → b.lcShut = false → (b.net.loaded = none ∨ fld (b.getW 0x1000) 0 6 = 0) →
        (∀ k, (b.ce.slots[k]).live = false ∧ b.starting k = false) → no (.netStart q) stBadParam)) ∧
    (op = 0x52 → b.admits q.hdr 1 [1] → q.len = 0 → does (.netStop q) [.netStop]) ∧
    (op = 0x60 → b.admits q.hdr 1 [] → q.len = 0 →
      (fld q.arg 0 2 ≠ 0 → does (.lockoutResetReq q) [.lockoutReq (bit q.arg 0) (bit q.arg 1)]) ∧
      (fld q.arg 0 2 = 0 → no (.lockoutResetReq q) stBadParam)) ∧
    (op = 0x20 → b.admits q.hdr 1 [] → q.len = 0 →
      (b.rd.role ≠ .standby → b.rd.role ≠ .lead → fld q.arg 0 3 < 5 → s.chGets (.modeRequest q) ch fun y =>
        y = b.replied q.hdr false { status := stMode, result := some (put 0 b.rd.level.toNat) } []) ∧
      ((b.rd.role = .standby ∨ b.rd.role = .lead) → fld q.arg 0 3 < 5 → b.rd.ann = none →
        (b.hp.effects.any isLevelEffect) = false → b.standstill q.hdr.loc.t = true →
        b.rd.comp ≤ BitVec.ofNat 3 (fld q.arg 0 3) → s.chGets (.modeRequest q) ch fun y =>
          y = b.replied q.hdr false (okVal (put 0 (fld q.arg 0 3))) [.level (BitVec.ofNat 3 (fld q.arg 0 3))]) ∧
      (5 ≤ fld q.arg 0 3 → no (.modeRequest q) stBadParam)) ∧
    (op = 0x21 → b.admits q.hdr 1 [11] → q.len = 0 →
      (fld q.arg 0 2 = 2 → does (.roleRequest q) [.withdraw]) ∧
      (fld q.arg 0 2 = 1 → b.rd.role ≠ .lead → no (.roleRequest q) stLocked) ∧
      (fld q.arg 0 2 = 1 → b.rd.role = .lead → b.swapForbidden s.trackBad = false → does (.roleRequest q) [.handover]) ∧
      (fld q.arg 0 2 = 0 ∨ fld q.arg 0 2 = 3 → no (.roleRequest q) stBadParam)) ∧
    (op = 0x22 → b.admits q.hdr 1 [0] → q.len = 0 →
      (fld q.arg 0 2 = 0 → does (.powerRequest q) []) ∧
      (fld q.arg 0 2 = 3 → no (.powerRequest q) stBadParam) ∧
      (∀ k, (fld q.arg 0 2 = 1 ∨ fld q.arg 0 2 = 2) → b.refuser q.hdr.loc.t (fld q.arg 0 2 == 2) = some k →
        s.chGets (.powerRequest q) ch fun y =>
          y.hp.effects = b.hp.effects ∧ y.pwr = { b.pwr with refuser := k, refused := satInc b.pwr.refused }) ∧
      ((fld q.arg 0 2 = 1 ∨ fld q.arg 0 2 = 2) → b.refuser q.hdr.loc.t (fld q.arg 0 2 == 2) = none →
        s.chGets (.powerRequest q) ch fun y =>
          y.pwr.entry.isSome = true ∧ y.hp.effects = b.hp.effects ++ [.powerEntry (BitVec.ofNat 2 (fld q.arg 0 2))] ∧
          ∃ r, y.hp.results = b.hp.results ++ [r] ∧ r.status = stPending ∧ r.result = 400 ∧ r.final = false)) ∧
    (op = 0xA0 → b.admits q.hdr 2 [14] → q.len = 0 →
      (b.bistCheck q.hdr (fld q.arg 0 8) = none →
        does (.bistRun q) [.bist (BitVec.ofNat 8 (fld q.arg 0 8)) q.hdr.port q.hdr.session]) ∧
      (fld q.arg 0 8 ∉ bistTests → no (.bistRun q) stBadParam)) ∧
    (op = 0xB0 → b.admits q.hdr 2 [15] →
      (12 ≤ fld q.arg 0 4 → no (.pctConfig q) stBadParam) ∧
      (fld q.arg 0 4 < 12 → q.len = 4 * (pctBase (fld q.arg 0 4)).2 →
        bit (q.payload.getD ((pctBase (fld q.arg 0 4)).2 - 1) 0) 1 = false →
        does (.pctConfig q) [.pctConfig (fld q.arg 0 4) (bit q.arg 4) q.payload]))

/-- Sessions, configuration, images, keys, the debug level and the life cycle, in their turn and with the checks of R448
passed: what is answered at once, what is accepted as pending with its latency, and the work that then waits (R404,
R451, R452, R457, R459, R473, R474, R476, R479, R483, R484, R493, R532). -/
def Obligations.SecureCommandsArePending : Prop :=
  ∀ (s : State) (q : Req) (op : Byte),
    let ch := q.hdr.loc.ch
    let b := (s.ch ch).begun q.hdr op
    let k : Fin 8 := Fin.ofNat 8 (fld q.arg 0 4)
    let lv : BitVec 2 := (q.arg >>> 4).setWidth 2
    let sl : BitVec 3 := (q.arg >>> 6).setWidth 3
    let x := (b.port q.hdr.port).sess[k]
    let no (i : Instr) (st : Byte) : Prop := s.chGets i ch fun y => y = b.replied q.hdr false (refuseAns st) []
    let pends (i : Instr) (t : Nat) (w : WorkKind) : Prop := s.chGets i ch fun y =>
      y = b.replied q.hdr false (pendAns t) [.work (workOf q w)]
    let writes (i : Instr) (id : Nat) (new : Word) (e : List Effect) : Prop := s.chGets i ch fun y =>
      y = ((b.putW id new).push (.inForce id new :: e)).wrote q.hdr id
    (s.ch ch).turn q.hdr op = true →
    (op = 0x11 →
      let ctrl (key : BitVec 3) : Word := (b.getW 0x5004 &&& ~~~7) ||| key.setWidth 32
      (∀ key : BitVec 3, b.admits q.hdr 1 [13] → 1 ≤ key → key ≤ 4 →
        (b.programLock q.hdr key = none → writes (.keyProgram q.hdr key) 0x5004 (ctrl key) [.keyProgram key]) ∧
        (∀ st, b.programLock q.hdr key = some st → no (.keyProgram q.hdr key) st) ∧
        (b.revokeLock q.hdr key = none → writes (.keyRevoke q.hdr key) 0x5004 (ctrl key) [.keyRevoke key]) ∧
        (∀ st, b.revokeLock q.hdr key = some st → no (.keyRevoke q.hdr key) st)) ∧
      (b.admits q.hdr 1 [13] → writes (.debugRelock q.hdr) 0x5002 (b.getW 0x5002) [.relock])) ∧
    (op = 0x02 → b.admits q.hdr 1 [] → q.len = 0 →
      (q.arg = 0xA55A → s.chGets (.reset q) ch fun y => y = b.replied q.hdr true okAns [.reset q.hdr.port]) ∧
      (q.arg ≠ 0xA55A → s.chGets (.reset q) ch fun y => y = b.replied q.hdr true (refuseAns stBadParam) [])) ∧
    (op = 0x03 → b.admits q.hdr 0 [] → 1 ≤ fld q.arg 0 4 → fld q.arg 0 4 < 8 →
      (q.len = 0 → x.st = .closed → lv < 2 → s.chGets (.sessionOpen q) ch fun y =>
        y = (b.setSess q.hdr.port k { st := .opened, level := lv, slot := sl, idleAt := q.hdr.loc.t }).replied
          q.hdr false okAns []) ∧
      (q.len = 0 → x.st = .closed → 2 ≤ lv → b.sessionAllowed lv sl = true → b.sec.trngBad = false →
        s.chGets (.sessionOpen q) ch fun y =>
          (((y.port q.hdr.port).sess[k]).st = .challenged ∧ ((y.port q.hdr.port).sess[k]).level = lv ∧
           ((y.port q.hdr.port).sess[k]).slot = sl ∧ ((y.port q.hdr.port).sess[k]).chAt = q.hdr.loc.t ∧
           ∃ r, y.hp.results = b.hp.results ++ [r] ∧ r.status = stOk ∧
             r.payload = ((y.port q.hdr.port).sess[k]).challenge)) ∧
      (q.len = 114 → x.waits = true → x.level = lv → x.slot = sl → s.chGets (.sessionOpen q) ch fun y =>
        y = (b.setSess q.hdr.port k { x with challenge := [] }).replied q.hdr false (pendAns 200)
          [.work (workOf q (.sessionSig k x.challenge))]) ∧
      (q.len = 0 → x.st = .opened → no (.sessionOpen q) stLocked) ∧
      (q.len = 0 → x.st = .closed → 2 ≤ lv → b.sessionAllowed lv sl = false → no (.sessionOpen q) stDenied)) ∧
    (op = 0x04 → b.admits q.hdr 0 [] → q.len = 0 →
      (1 ≤ fld q.arg 0 4 → fld q.arg 0 4 < 8 → s.chGets (.sessionClose q) ch fun y =>
        y = (b.setSess q.hdr.port k {}).replied q.hdr false okAns []) ∧
      (fld q.arg 0 4 = 0 ∨ 8 ≤ fld q.arg 0 4 → no (.sessionClose q) stBadParam)) ∧
    (op = 0x18 → b.admits q.hdr 2 [] → 4 ≤ q.len → q.len ≤ 2048 → b.deferring = false →
      (bit q.arg 16 ≠ b.nv.cfgActive →
        pends (.configLoad q) 40 (.configLoad (bit q.arg 16) (fld q.arg 0 9) (padTo 512 q.payload))) ∧
      (bit q.arg 16 = b.nv.cfgActive → no (.configLoad q) stLocked)) ∧
    (op = 0x18 → b.admits q.hdr 2 [] → 4 ≤ q.len → q.len ≤ 2048 → b.deferring = true → no (.configLoad q) stBusy) ∧
    (op = 0x19 → b.admits q.hdr 2 [] → q.len = 0 → b.deferring = false →
      (b.rd.level = 4 → pends (.configActivate q) 800 (.configActivate (bit q.arg 0))) ∧
      (b.rd.level ≠ 4 → no (.configActivate q) stMode)) ∧
    (op = 0x71 → b.admits q.hdr 2 [14] → q.len = 0 → b.deferring = false → pends (.logFreezeClear q) 40 .freezeClear) ∧
    (op = 0x80 → b.admits q.hdr 2 [] → q.len = 262 →
      (b.inTrial = false → b.nv.headerCheck q.payload = none → pends (.imageBegin q) 40 (.imageBegin q.payload)) ∧
      (b.inTrial = true → no (.imageBegin q) stLocked)) ∧
    (op = 0x81 → b.admits q.hdr 2 [] → q.len = 2048 → b.deferring = false →
      (b.nv.partialBank = none → no (.imageBlock q) stLocked) ∧
      (∀ p, b.nv.partialBank = some p → b.inTrial = false →
        ((b.nv.bank p).blocks ≤ fld q.arg 0 10 → no (.imageBlock q) stRange) ∧
        (fld q.arg 0 10 < (b.nv.bank p).blocks → bit q.arg 16 = false → s.chGets (.imageBlock q) ch fun y =>
          y = { b with sec := { b.sec with staged := some (fld q.arg 0 10, q.payload) } }.replied q.hdr false (pendAns 40)
            [.work (workOf q .imageStage)]) ∧
        (∀ ws, fld q.arg 0 10 < (b.nv.bank p).blocks → bit q.arg 16 = true →
          b.sec.staged = some (fld q.arg 0 10, ws) → s.chGets (.imageBlock q) ch fun y =>
            y = { b with sec := { b.sec with staged := none } }.replied q.hdr false (pendAns 40)
              [.work (workOf q (.imageBlock (fld q.arg 0 10) (ws ++ q.payload)))]))) ∧
    (op = 0x82 → b.admits q.hdr 2 [] → q.len = 0 → b.deferring = false →
      ∀ p, b.nv.partialBank = some p → b.inTrial = false →
        ((b.nv.bank p).missing = [] → pends (.imageCommit q) 3200 .imageCommit) ∧
        ((b.nv.bank p).missing ≠ [] → s.chGets (.imageCommit q) ch fun y =>
          y = b.replied q.hdr false
            { status := stBadParam, result := some (put 0 (b.nv.bank p).missing.length) } [])) ∧
    (op = 0x83 → b.admits q.hdr 2 [] → q.len = 0 → b.deferring = false →
      (b.inTrial = true ∨ b.nv.bankIn 2 = none ∨ b.headerWaits = true) → no (.imageActivate q) stLocked) ∧
    (op = 0x83 → b.admits q.hdr 2 [] → q.len = 0 → b.deferring = false → b.inTrial = false →
      b.nv.bankIn 2 ≠ none → b.headerWaits = false →
      (b.rd.level ≠ 4 → no (.imageActivate q) stMode) ∧
      (b.rd.level = 4 → b.partnerBusy = true → no (.imageActivate q) stBusy) ∧
      (b.rd.level = 4 → b.partnerBusy = false → s.chGets (.imageActivate q) ch fun y =>
        y = b.replied q.hdr false okAns [.trial q.hdr.port])) ∧
    (op = 0x90 → b.admits q.hdr 0 [] → q.len = 32 →
      (2 ≤ b.nv.lc → b.nv.lc ≤ 4 → pends (.attest q) 200 (.attest q.payload)) ∧
      (b.nv.lc = 0 ∨ b.nv.lc = 5 → no (.attest q) stLocked)) ∧
    (op = 0x91 → b.admits q.hdr 2 [] → q.len = 0 →
      (q.arg.setWidth 2 = (0 : BitVec 2) ∨ q.arg.setWidth 2 = (3 : BitVec 2) → no (.debugChallenge q) stBadParam) ∧
      (q.arg.setWidth 2 = (1 : BitVec 2) → b.sec.policy = true → b.nv.lc ≠ 0 → b.slotGood (b.sessOf q.hdr).slot = true →
        b.sec.trngBad = false → s.chGets (.debugChallenge q) ch fun y =>
          ∃ d r, y.sec.challenge = some d ∧ d.level = 1 ∧ d.port = q.hdr.port ∧ d.session = q.hdr.session ∧
            d.at_ = q.hdr.loc.t ∧ y.hp.results = b.hp.results ++ [r] ∧ r.status = stOk)) ∧
    (op = 0x92 → b.admits q.hdr 2 [] → q.len = 114 →
      (b.sec.challenge = none → no (.debugResponse q) stLocked) ∧
      (∀ d, b.sec.challenge = some d → d.port = q.hdr.port → d.session = q.hdr.session →
        (d.persist && b.deferring) = false → s.chGets (.debugResponse q) ch fun y =>
          y = { b with sec := { b.sec with challenge := none } }.replied q.hdr false (pendAns 200)
            [.work (workOf q (.debugResponse d))])) ∧
    (op = 0x93 → b.admits q.hdr 2 [] → q.len = 114 → b.deferring = false →
      (lcPair b.nv.lc (q.arg.setWidth 3) = none → no (.lifecycleAdvance q) stBadParam) ∧
      (∀ ss, lcPair b.nv.lc (q.arg.setWidth 3) = some ss →
        (b.rd.level ≠ 4 → no (.lifecycleAdvance q) stMode) ∧
        (b.rd.level = 4 → b.sec.policy = false → b.levelAhead ≠ 0 → no (.lifecycleAdvance q) stMode) ∧
        (b.rd.level = 4 → (b.sec.policy = true ∨ b.levelAhead = 0) → ss (b.sessOf q.hdr).slot = false →
          no (.lifecycleAdvance q) stDenied) ∧
        (b.rd.level = 4 → (b.sec.policy = true ∨ b.levelAhead = 0) → ss (b.sessOf q.hdr).slot = true →
          pends (.lifecycleAdvance q) 400 (.lifecycle (q.arg.setWidth 3) (b.sessOf q.hdr).slot))))

/-- The frame: its start, on the grid of the cycle, holds the writes of pass P and swaps the snapshot, pass T is
compared with them, the passes' end compares signatures and counts and opens the drain, the commit clears the watchdog
and seals the replies, a mismatch latches its kind and stops the frame, and replies are published together; a word
stored in TCM is read back at its four bytes of its half and changes no other byte, the most significant one lowest in
the plain half (log entry 142); four frames in a row without the management core's heartbeat raise MG_CORE; a demand
that a dead flow feeds is invalid (R35, R84 to R86, R87, R89, R92 to R98,
R449, R450, R523, R524). -/
def Obligations.FramesCommitWhatBothPassesDid : Prop :=
  (∀ (m : List Host.Cell) (mir : Bool) (a : Nat) (v : Word), Memory.wf m = true →
    let at_ (i : Nat) : Nat := if mir = true then 0x80000 + ((a / 4 * 4 + i) ^^^ 0x7FFF) else a / 4 * 4 + i
    Memory.wf (storeWord m mir a v) = true ∧
    (∀ i, i < 4 → Memory.read (storeWord m mir a v) (at_ i) = (v >>> (8 * (3 - i))).setWidth 8) ∧
    (∀ b, (∀ i, i < 4 → b ≠ at_ i) → Memory.read (storeWord m mir a v) b = Memory.read m b)) ∧
  ∀ (s : State) (l : At) (run : PassRun) (ws : List CoreWrite) (r : Reply),
    let c := s.ch l.ch
    let bank := if c.exe.bankSel = true then c.exe.bank1 else c.exe.bank0
    (c.running = true → c.exe.stopping = false → c.pwr.entry = none → c.sec.halted = false → c.frameDue l.t = true →
      run.writes.length ≤ 512 → run.reads.length ≤ 1024 →
      s.chGets (.frameStart l run) l.ch fun y =>
        y.exe.seq = c.exe.seq + 1 ∧ y.exe.startAt = l.t ∧ c.net.nt.gridAt l.t = some y.exe.frame ∧ y.exe.pubDone = false ∧ y.exe.bad = false ∧
        y.exe.ph = .passP ∧ y.exe.held = run.writes ∧ y.exe.bankSel = !c.exe.bankSel ∧ y.exe.drain = [] ∧
        (if y.exe.bankSel = true then y.exe.bank1 else y.exe.bank0) = run.reads ∧ y.exe.usedP = run.used ∧
        y.hp.semSnap = c.hp.sem ∧ (0 < run.fixes → y.fcl.raised.contains (4, 0) = true) ∧
        (run.fixes = 0 → y.fcl.raised.contains (4, 0) = c.fcl.raised.contains (4, 0)) ∧
        (run.beat = true → y.exe.noBeat = 0) ∧
        (run.beat = false → y.exe.noBeat = c.exe.noBeat + 1 ∧
          (c.exe.noBeat = 3 → y.fcl.raised.contains (56, 0) = true))) ∧
    (c.running = false → c.exe.stopping = false → c.pwr.entry = none → c.frameDue l.t = true →
      s.chGets (.frameStart l run) l.ch fun y =>
        y.exe.seq = c.exe.seq + 1 ∧ y.exe.startAt = l.t ∧ y.exe.ph = .done ∧ y.hp.semSnap = c.hp.sem) ∧
    (c.running = true → c.exe.stopping = false → c.pwr.entry = none → c.sec.halted = false → c.frameDue l.t = true →
      512 < run.writes.length → c.exe.mismatch = false →
      s.chGets (.frameStart l run) l.ch fun y =>
        y.exe.bad = true ∧ y.exe.mismatch = true ∧ y.exe.kind = 5 ∧ y.exe.stopping = true ∧
        y.fcl.raised.contains (0, 0) = true) ∧
    (c.frameDue l.t = false → s.chGets (.frameStart l run) l.ch fun y => y = c) ∧
    (c.running = true → c.exe.ph = .passP → c.exe.startAt + 22000 ≤ l.t → c.exe.usedP ≤ 11000 → run.tcm = [] →
      run.fixes = 0 → replayBad bank run.reads = none →
      (firstBad 0 c.exe.held run.writes = none → s.chGets (.passT l run) l.ch fun y =>
        y.exe.ph = .passT ∧ y.exe.tSeq = run.writes.length ∧ y.exe.tReads = run.reads.length ∧
        y.exe.bad = c.exe.bad ∧ y.exe.mismatch = c.exe.mismatch ∧ y.exe.tcm = c.exe.tcm ∧ y.fcl = c.fcl) ∧
      (∀ k n p q, firstBad 0 c.exe.held run.writes = some (k, n, p, q) → s.chGets (.passT l run) l.ch fun y =>
        y.exe.bad = true ∧ y.exe.mismatch = true ∧ y.fcl.raised.contains (0, 0) = true ∧
        (c.exe.mismatch = false → y.exe.kind = k ∧ y.exe.addr = q.addr))) ∧
    (∀ e, c.running = true → c.exe.ph = .passP → c.exe.startAt + 22000 ≤ l.t → c.exe.usedP ≤ 11000 →
      replayBad bank run.reads = some e → s.chGets (.passT l run) l.ch fun y =>
        y.exe.bad = true ∧ y.exe.mismatch = true ∧
        (c.exe.mismatch = false → run.tcm = [] → firstBad 0 c.exe.held run.writes = none →
          y.exe.kind = 4 ∧ y.exe.addr = e.1)) ∧
    (c.running = true → c.exe.ph = .passT → c.exe.startAt + 44000 ≤ l.t → c.exe.usedT ≤ 11000 →
      (c.exe.sigP = c.exe.sigT → c.exe.held.length = c.exe.tSeq → bank.length = c.exe.tReads → c.exe.bad = false →
        s.chGets (.passTEnd l) l.ch fun y =>
          y.exe = { c.exe with ph := .checked, drain := c.exe.held } ∧ y.fcl = c.fcl) ∧
      (c.exe.sigP ≠ c.exe.sigT → c.exe.mismatch = false → s.chGets (.passTEnd l) l.ch fun y =>
        y.exe.bad = true ∧ y.exe.kind = 7 ∧ y.exe.drain = c.exe.drain ∧ y.fcl.raised.contains (0, 0) = true) ∧
      (c.exe.sigP = c.exe.sigT → (c.exe.held.length ≠ c.exe.tSeq ∨ bank.length ≠ c.exe.tReads) →
        c.exe.mismatch = false → s.chGets (.passTEnd l) l.ch fun y => y.exe.bad = true ∧ y.exe.kind = 6)) ∧
    (c.running = true → c.exe.ph = .checked → c.exe.bad = false → c.exe.stopping = false → (∀ p, (c.port p).sampled = []) →
      c.exe.startAt + 45040 ≤ l.t → s.chGets (.frameCommit l ws) l.ch fun y =>
        y.exe.ph = .done ∧ y.exe.wdg = 0 ∧ y.exe.drain = [] ∧ y.hp.results = [] ∧
        (c.hp.effects = [] → ws = [] → y.exe.last = c.exe.drain ∧ y.ce = c.ce ∧
          y.hp.publish = c.hp.publish ++ c.hp.results) ∧
        (∀ k v ok, c.hp.effects = [] → ws = [.demand k v ok] → c.demandIgnored k = false →
          y.ce.demCore[k] = ⟨v, ok && !c.demandStarved k⟩)) ∧
    (c.running = true → c.exe.ph = .checked → (c.exe.bad = true ∨ c.exe.stopping = true) → c.hp.effects = [] →
      (∀ p, (c.port p).sampled = []) → c.exe.startAt + 45040 ≤ l.t → s.chGets (.frameCommit l ws) l.ch fun y =>
        y.exe = { c.exe with ph := .done, drain := [] } ∧ y.ce = c.ce ∧ y.rd = c.rd ∧
        y.hp.publish = c.hp.publish ++ c.hp.results.map isoReply) ∧
    (c.alive = true → c.exe.seq ≠ 0 → c.exe.pubDone = false → c.exe.startAt + 2480 ≤ l.t →
      s.chGets (.replyPublish l) l.ch fun y =>
        y.exe.pubDone = true ∧ y.hp.publish = [] ∧ y.hp.done = [] ∧
        (c.hp.publish = [r] → c.hp.done = [] →
          (y.port r.port).replies = (c.port r.port).replies ++ [{ r with pubAt := l.t }]) ∧
        (c.hp.publish = [] → c.hp.done = [r] → (r.tag >>> 6).setWidth 2 ≠ (c.port r.port).epoch →
          ∃ z, (y.port r.port).replies = (c.port r.port).replies ++ [z] ∧ z.status = stStaleTag ∧ z.tag = r.tag ∧
            z.payload = [])) ∧
    (c.exe.pubDone = true → s.chGets (.replyPublish l) l.ch fun y => y = c) ∧
    (c.alive = true → s.chGets (.mgCoreMismatch l) l.ch fun y =>
      y.fcl.raised.contains (56, 0) = true ∧ y.exe = c.exe ∧ y.rd = c.rd)

/-- Work that was accepted as pending ends with its completion: signature checks in their order, where a stored image
whose read fails ends its check with INTERNAL_FAULT and line 8, MRAM writes with up to two retries, after which the
block reads as unwritten, a key's fuse; the health of the generator is held; and an access over the Eyelet is answered
by its class, the debug level and the state of the drives (R35, R448, R449, R452, R459, R464, R472, R473, R482, R483,
R493). -/
def Obligations.PendingWorkEnds : Prop :=
  ∀ (s : State) (l : At) (w : Work) (r : List Work) (j : MramJob) (rest : List MramJob) (acc : EyeletAcc),
    (s.ch l.ch).alive = true →
    let c := s.ch l.ch
    let ey (P : Channel → Prop) : Prop :=
      ∃ y n, exec (.eyeletAccess l acc) s = .next { s.setCh l.ch y with freeCtr := n } ∧ s.freeCtr ≤ n ∧ P y
    (c.hp.work = [] → s.chGets (.signatureCheckDone l) l.ch fun y => y = c) ∧
    (∀ nonce, c.hp.work = w :: r → w.kind = .attest nonce → s.chGets (.signatureCheckDone l) l.ch fun y =>
      y.hp.work = r ∧ ∃ z, y.hp.done = c.hp.done ++ [z] ∧ z.status = stOk ∧ z.tag = w.tag ∧ z.port = w.port) ∧
    (∀ slot, c.hp.work = w :: r → w.kind = .configActivate slot → c.cfgCheck slot = none →
      s.chGets (.signatureCheckDone l) l.ch fun y => y.hp.work = r ∧
        (if c.cfgLost l.t slot = true then
          y.nv.cfgNext = c.nv.cfgNext ∧ y.fcl.raised.contains (8, 0) = true ∧
            ∃ z, y.hp.done = c.hp.done ++ [z] ∧ z.status = stInternal ∧ z.tag = w.tag
        else
          y.nv.cfgNext = slot ∧ y.nv.curve = none ∧ y.nv.comb = none ∧ (∀ k : Fin 32, y.nv.loops[k] = none) ∧
            ∃ z, y.hp.done = c.hp.done ++ [z] ∧ z.status = stOk ∧ z.tag = w.tag)) ∧
    (∀ k, c.hp.work = w :: r → w.kind = .imageCommit → c.nv.partialBank = some k →
      s.chGets (.signatureCheckDone l) l.ch fun y =>
        (y.nv.bank k).st = (if c.bankLost l.t k = true then (c.nv.bank k).st
          else if c.nv.imageGood (c.nv.bank k) = true then 2 else 5) ∧
        y.nv.bank (!k) = c.nv.bank (!k) ∧ (c.bankLost l.t k = true → y.fcl.raised.contains (8, 0) = true) ∧
        ∃ z, y.hp.done = c.hp.done ++ [z] ∧
          z.status = (if c.bankLost l.t k = true then stInternal
            else if c.nv.imageGood (c.nv.bank k) = true then stOk else stDenied)) ∧
    (∀ k ch, c.hp.work = w :: r → w.kind = .sessionSig k ch →
      let x := (c.port w.port).sess[k]
      (x.st = .challenged → x.challenge = [] →
        c.verify x.slot "SP9430 SESSION" (sessionMsg c.id ch w.port k x.level x.slot) w.sig = true →
        s.chGets (.signatureCheckDone l) l.ch fun y =>
          ((y.port w.port).sess[k]).st = .opened ∧ ((y.port w.port).sess[k]).level = x.level ∧
          ((y.port w.port).sess[k]).idleAt = l.t) ∧
      (x.st = .challenged → x.challenge = [] →
        c.verify x.slot "SP9430 SESSION" (sessionMsg c.id ch w.port k x.level x.slot) w.sig = false →
        s.chGets (.signatureCheckDone l) l.ch fun y =>
          (y.port w.port).sess[k] = {} ∧ y.fcl.raised.contains (59, 0) = true ∧
          ∃ z, y.hp.done = c.hp.done ++ [z] ∧ z.status = stDenied)) ∧
    (c.nv.busy = true → c.nv.jobs = j :: rest → c.rst.pend = [] →
      (j.tries < 2 → s.chGets (.mramWriteAttemptEnd l false) l.ch fun y =>
        let left := { j with tries := j.tries + 1 } :: rest
        y.nv = { c.nv with jobs := pickJob (c.nv.passedBy j left) left, passed := c.nv.passedBy j left, busy := true } ∧
        y.nv.jobs.Perm left ∧ y.hp = c.hp) ∧
      (2 ≤ j.tries → s.chGets (.mramWriteAttemptEnd l false) l.ch fun y =>
        y.nv.jobs.Perm rest ∧ y.nv.latch = c.nv.latch ∧
        ((∀ e, j.data ≠ .log e) → y.nv.ring = c.nv.ring) ∧ (∀ e, j.data = .log e → y.nv.ring = c.nv.ring.take 1983) ∧
        (∀ p, j.data = .curve p → y.nv.curve = none) ∧
        (j.work = none → y.hp = c.hp) ∧
        (∀ v, j.work = some v → ∃ z, y.hp.done = c.hp.done ++ [z] ∧ z.status = stInternal ∧ z.tag = v.tag)) ∧
      (s.chGets (.mramWriteAttemptEnd l true) l.ch fun y =>
        y.nv.jobs.Perm rest ∧ (∀ on, j.data = .latch on → y.nv.latch = on) ∧
        (∀ p, j.data = .curve p → y.nv.curve = some p) ∧ (j.data = .freezeErase → y.nv.freeze = []) ∧
        (∀ v, j.work = some v → ∃ z, y.hp.done = c.hp.done ++ [z] ∧ z.status = stOk ∧ z.tag = v.tag))) ∧
    (∀ ok, c.nv.busy = false → s.chGets (.mramWriteAttemptEnd l ok) l.ch fun y => y = c) ∧
    (∀ k, c.sec.keyBusy = some k → s.chGets (.keyProgramDone l) l.ch fun y =>
      y.sec.keyBusy = none ∧ (y.nv.keys[keyIdx k]).programmed = true ∧
      ∀ i : Fin 4, i ≠ keyIdx k → y.nv.keys[i] = c.nv.keys[i]) ∧
    (c.sec.keyBusy = none → s.chGets (.keyProgramDone l) l.ch fun y => y = c) ∧
    (s.chGets (.trngHealthFail l) l.ch fun y => y = { c with sec := { c.sec with trngBad := true } }) ∧
    (s.chGets (.trngHealthPass l) l.ch fun y => y = { c with sec := { c.sec with trngBad := false } }) ∧
    (∀ k, acc = .ident k → ey fun y => y = { c with sec := { c.sec with ey := 0, eyData := c.eyIdent l.t k } }) ∧
    (∀ k, acc = .readStore k → ey fun y => y = { c with sec := { c.sec with ey := 2, eyData := 0 } }) ∧
    (∀ a, acc = .readTcm a → c.pwr.doze = false → c.sec.level = 0 →
      ey fun y => y = { c with sec := { c.sec with ey := 2, eyData := 0 } }) ∧
    (∀ a, acc = .readTcm a → c.pwr.doze = false → c.sec.level ≠ 0 → ey fun y =>
      y = { c with sec := { c.sec with ey := 0, eyData := (Memory.read c.exe.tcm a).setWidth 32 } }) ∧
    (∀ m x, acc = .readMem m → c.pwr.doze = false → c.sec.level ≠ 0 → inMram m = false → c.eyMem m = some x →
      ey fun y => y = { c with sec := { c.sec with ey := 0, eyData := x } }) ∧
    (accClass acc = 2 → c.pwr.doze = false → c.sec.level ≠ 2 →
      ey fun y => y = { c with sec := { c.sec with ey := 2, eyData := 0 } }) ∧
    (accClass acc = 4 → c.pwr.doze = false → c.nv.lc ≠ 0 →
      ey fun y => y = { c with sec := { c.sec with ey := 2, eyData := 0 } }) ∧
    (∀ a v, acc = .writeTcm a v → c.pwr.doze = false → c.sec.level = 2 → c.quiet = true → a < 0x100000 →
      ey fun y => y = { c with sec := { c.sec with ey := 0, eyData := 0 }
                               exe := { c.exe with tcm := storeD c.exe.tcm a v 0 } }) ∧
    (acc = .halt → c.pwr.doze = false → c.sec.level = 2 →
      (c.quiet = true → ey fun y => y.sec.halted = true ∧ y.sec.ey = 0) ∧
      (c.quiet = false → ey fun y => y = { c with sec := { c.sec with ey := 1, eyData := 0 } }))

/-- Sensors, tests, the sampler and the power states: a sensor update shows its values and VSUP with its minimum
(R81), a rail out of its range raises line 55 once, a test ends with its result, its parts and its feedback inputs,
the sampler stops when full; an entry's completion writes the image or drops it, SHELF stops the clocks, a wake source
starts the wake and the restore ends it (R79, R81, R503, R507 to R516, R526, R536, R537, R542). -/
def Obligations.SensorsTestsAndPowerStates : Prop :=
  ∀ (s : State) (l : At) (v : Vector F32 22) (mv : BitVec 16) (ok : Bool) (bad : TestFails) (d : BitVec 16)
    (x : SampleRec) (b0 b1 : Byte) (wb : WriteBack),
    let c := s.ch l.ch
    (c.alive = true → s.chGets (.sensorUpdate l v mv) l.ch fun y =>
      y.mg.sensors = v.set 20 (F32.ofFrac mv.toNat 1000) ∧ y.sup.vsupMv = mv ∧
      y.sup.minMv = (if mv < c.sup.minMv then mv else c.sup.minMv) ∧
      y.sup.warnMin = (if c.sup.warn = true ∧ mv < c.sup.warnMin then mv else c.sup.warnMin) ∧
      ((∀ k, railBad y.mg.sensors k = false) → y.mg.railOn = false) ∧
      (∀ k, railBad y.mg.sensors k = true → y.mg.railOn = true ∧
        (c.mg.railOn = false → ∃ j : Fin 22, y.fcl.raised.contains (55, BitVec.ofNat 16 j.val) = true))) ∧
    (c.alive = true → c.mg.bist = none → s.chGets (.bistTestEnd l ok bad d) l.ch fun y => y = c) ∧
    (∀ test p k, c.alive = true → c.mg.bist = some (test, p, k) → test ≠ 2 →
      s.chGets (.bistTestEnd l ok bad d) l.ch fun y =>
        y.mg.bist = none ∧ (ok = true → y.mg.unusable = c.mg.unusable &&& ~~~bistMask test) ∧
        (ok = false → y.mg.unusable = c.mg.unusable ||| (marksOf bad &&& bistMask test)) ∧
        (test = 0x11 → ok = true → y.mg.deadIn = 0) ∧
        (test = 0x11 → ok = false → y.mg.deadIn = c.mg.deadIn ||| bad.inputs)) ∧
    (c.running = true → bit (c.getA 0x6002) 0 = true → c.pct.full = false → c.pct.samples.length < 512 →
      s.chGets (.samplerRecord l x) l.ch fun y =>
        y.pct.samples = c.pct.samples ++ [{ x with info := x.info &&& 0xFFFFFF00 }] ∧
        (y.pct.full = true ↔ c.pct.samples.length = 511)) ∧
    (bit (c.getA 0x6002) 0 = false ∨ c.pct.full = true → s.chGets (.samplerRecord l x) l.ch fun y => y = c) ∧
    (∀ e, c.entryAt l.t = some e → c.exe.seq ≤ e.frame + 400 → c.entryReady = true → c.pwr.doze = false →
      (verified wb = true → s.chGets (.powerEntryComplete l wb) l.ch fun y =>
        y.pwr.entry = some { e with published := some l.t } ∧ y.pwr.writeback = writeUnits wb ∧
        ∃ i, y.nv.image = some i ∧ i.shelf = (e.target == 2) ∧
          i.cells = plainHalf c.exe.tcm ∧ i.params = c.params ∧ i.whole = true) ∧
      (verified wb = false → s.chGets (.powerEntryComplete l wb) l.ch fun y =>
        y.pwr.entry = none ∧ y.nv.image = none)) ∧
    (c.entryReady = false ∨ c.entryAt l.t = none → s.chGets (.powerEntryComplete l wb) l.ch fun y => y = c) ∧
    (∀ e, c.entryAt l.t = some e → e.frame + 400 < c.exe.seq → s.chGets (.powerEntryTimeout l) l.ch fun y =>
      y.pwr.entry = none ∧ y.pwr.doze = c.pwr.doze) ∧
    (∀ e, c.entryAt l.t = some e → c.exe.seq ≤ e.frame + 400 → s.chGets (.powerEntryTimeout l) l.ch fun y => y = c) ∧
    (c.clocksStop l.t = true → s.chFeeds (.shelfClockStop l) l.ch fun y =>
      y.rst.phase = .shelf ∧ y.exe.tcm = [] ∧ y.clk.pllLock = false ∧ y.pwr.shelves = satInc c.pwr.shelves ∧
      y.pwr.entry = none ∧ y.pwr.doze = false ∧ (∀ k : Fin 16, y.hp.sem[k] = none) ∧ y.hp.work = []) ∧
    (c.clocksStop l.t = false → s.chFeeds (.shelfClockStop l) l.ch fun y => y = c) ∧
    (bit (c.getA 0x0100) 1 = false → s.chGets (.wakePin l) l.ch fun y => y = c) ∧
    (bit (c.getA 0x0100) 1 = true → c.rst.phase = .shelf → s.chGets (.wakePin l) l.ch fun y =>
      y = { c with rst := { c.rst with phase := .wakeXtal }
                   pwr := { c.pwr with wakeAt := l.t, lastWake := 2, legsOn := true } }) ∧
    (bit (c.getA 0x0100) 1 = true → c.released = true → c.pwr.doze = true → c.pwr.waking = false → c.mg.bist = none →
      c.shelfPending = false → s.chGets (.wakePin l) l.ch fun y =>
        y = { c with pwr := { c.pwr with waking := true, wakeAt := l.t, lastWake := 2 } }) ∧
    ((b0 ≠ 0xFF ∨ b1.toNat ≠ c.af 0x0100 8 8) → s.chGets (.wakeAddressMatch l b0 b1) l.ch fun y => y = c) ∧
    (bit (c.getA 0x0100) 0 = true → b0 = 0xFF → b1.toNat = c.af 0x0100 8 8 → c.rst.phase = .shelf →
      s.chGets (.wakeAddressMatch l b0 b1) l.ch fun y =>
        y = { c with rst := { c.rst with phase := .wakeXtal }
                     pwr := { c.pwr with wakeAt := l.t, lastWake := 4, legsOn := true } }) ∧
    (∀ i, c.rst.phase = .wakeRestore → c.pwr.doze = false → c.nv.image = some i → i.whole = true →
      s.chGets (.wakeRestoreDone l true) l.ch fun y =>
        y.rst.phase = .run ∧ y.exe.tcm = bothHalves i.cells ∧ y.nv.image = none ∧ y.pwr.doze = false) ∧
    (∀ i, c.released = true → c.pwr.doze = true → c.pwr.waking = true → c.nv.image = some i → i.whole = true → c.fatalLines = [] →
      s.chGets (.wakeRestoreDone l true) l.ch fun y =>
        y.rst = c.rst ∧ y.pwr.doze = false ∧ y.pwr.waking = false ∧ y.exe.tcm = bothHalves i.cells ∧
        y.nv.image = none) ∧
    (c.rst.phase = .wakeRestore → (c.nv.image = none ∨ ok = false) → c.nv.busy = false → c.rst.pend = [] → c.rst.pinLow = false →
      c.rst.supLow = false → s.chGets (.wakeRestoreDone l ok) l.ch fun y =>
        y.rst.phase = .xtal ∧ y.rst.cause = 0x20 ∧ y.rst.lineValid = false)

/-- The Ollia ports: a comma turns a listening port to RX and silence back, a bad header is counted and its frame
dropped, a good one is kept and forwarded, a frame's end counts its error or hands a valid copy to the judgement 16 LCLK
later and closes a forwarded frame in its own slot, an own transmission starts in its open gate on the free ports and
ends after its length, a collision, a closed gate or the forwarder's guard ends it (R373, R377, R381 to R385, R388,
R389, R391, R392, R395, R418, R422 to R424). -/
def Obligations.OlliaPortsMoveFrames : Prop :=
  ∀ (s : State) (l : At) (p : OPort) (h : Vector Byte 8) (ce sd : Bool) (body : List Byte) (wrote : List Nat) (e : NetEnd)
    (cell : Fin 128) (x : Tx) (c z d : Channel), c = s.ch l.ch → z = c.netSettle l.t →
    d = ((z.setOl p { z.ol p with stalled := sd }).fifoBody l.t p body ce wrote e).fifoDrain l.t p →
    let q := OPort.other p
    (z.olState p = .listen → s.chGets (.portActivityStart l p) l.ch fun y =>
      (y.ol p).st = .rx ∧ (y.ol p).rxAt = l.t ∧ (y.ol p).hdr = none ∧ (y.ol p).fwdTo = false ∧
      (∀ r, r ≠ p → y.ol r = z.ol r) ∧ (z.backingOff = true → y.net.nt.backoffAt = none)) ∧
    (z.olState p ≠ .listen → s.chGets (.portActivityStart l p) l.ch fun y => y = z) ∧
    (z.olState p = .rx → s.chGets (.portActivityEnd l p) l.ch fun y =>
      (y.ol p).st = .listen ∧ (y.ol p).quietAt = l.t - lclk 32 ∧
      ((z.ol p).fwdTo = true → (y.ol q).freeAt = some (l.t + lclk 20)) ∧
      ((z.ol p).fwdTo = false → y.ol q = z.ol q)) ∧
    (z.olState p ≠ .rx → s.chGets (.portActivityEnd l p) l.ch fun y => y = z) ∧
    (z.olState p = .rx → (z.ol p).skip = false →
      (hdrBad (OPort.net p) h ce = true → s.chGets (.networkHeaderComplete l p h ce) l.ch fun y =>
        (y.ol p).hdrErr = satInc (z.ol p).hdrErr ∧ (y.ol p).skip = true ∧ (y.ol p).hdr = none) ∧
      (hdrBad (OPort.net p) h ce = false → hdrSrc h = z.olAddr → s.chGets (.networkHeaderComplete l p h ce) l.ch fun y =>
        (y.ol p).conflict = true ∧ (y.ol p).skip = true ∧ (y.ol p).hdr = none) ∧
      (hdrBad (OPort.net p) h ce = false → hdrSrc h ≠ z.olAddr → s.chGets (.networkHeaderComplete l p h ce) l.ch fun y =>
        (y.ol p).hdr = some h ∧ (y.ol p).heardAt = some l.t ∧ (y.ol p).skip = !z.takes h ∧
        ((z.ol p).fwdTo = true → hdrHops h ≠ 62 → (y.ol p).fwd = (z.ol p).fwd + 1 ∧
          (y.ol q).sentHdr = some (hdrForward h)) ∧
        ((z.ol p).fwdTo = false → hdrHops h ≠ 62 → z.olState q ≠ .off →
          (y.ol q).fwdBusy = satInc (z.ol q).fwdBusy))) ∧
    (z.olState p ≠ .rx ∨ (z.ol p).skip = true → s.chGets (.networkHeaderComplete l p h ce) l.ch fun y => y = z) ∧
    (c.olState p ≠ .rx → s.chGets (.networkFrameEnd l p body ce sd wrote e) l.ch fun y => y = c) ∧
    (∀ (k : EndKind) (f : Fin 256), k = endKind h body ce (d.ol p).lost e → f = Fin.ofNat 256 (h[2]).toNat →
      c.olState p = .rx → (z.ol p).hdr = some h →
      (k = .crc → s.chGets (.networkFrameEnd l p body ce sd wrote e) l.ch fun y =>
        (y.ol p).crcErr = satInc (z.ol p).crcErr ∧ (y.ol p).hdr = none ∧ (y.ol p).copy = (d.ol p).copy ∧
        ∀ j : Fin 256, (y.net.flows[j]).content = (z.net.flows[j]).content) ∧
      (k = .overflow → s.chGets (.networkFrameEnd l p body ce sd wrote e) l.ch fun y =>
        (y.ol p).overflow = true ∧ y.fcl.raised.contains (51, 0) = true ∧ (y.ol p).copy = (d.ol p).copy) ∧
      (k = .valid → (z.ol p).skip = false → sd = false → hdrType h = 0 →
        s.chGets (.networkFrameEnd l p body ce sd wrote e) l.ch fun y =>
          let ws := packWords (body.take (4 * hdrLen h))
          (∃ vs, (y.ol p).copy = some ⟨l.t + lclk 16, h, ws, vs⟩) ∧
          (if OPort.net p = .x then (y.net.flows[f]).landX else (y.net.flows[f]).landY) = ws ∧
          (y.net.flows[f]).content = (z.net.flows[f]).content) ∧
      (k = .valid → (z.ol p).skip = true → s.chGets (.networkFrameEnd l p body ce sd wrote e) l.ch fun y =>
        (y.ol p).copy = (d.ol p).copy ∧ y.net.flows = z.net.flows) ∧
      ((z.ol p).fwdTo = true → s.chGets (.networkFrameEnd l p body ce sd wrote e) l.ch fun y =>
        (y.ol p).fwdTo = false ∧ (y.ol q).closeAt =
          some ((d.ol p).starvedAt.getD (if k = .overflow then l.t else l.t + lclk 118),
            (d.ol p).starvedAt.isSome || !(k == .valid || k == .abort)) ∧
        ((d.ol p).starvedAt.isSome = true → y.fcl.raised.contains (51, 0) = true))) ∧
    (∀ (u : Copy) (f : Fin 256), c.firstCopy l.t = some (p, u) → f = Fin.ofNat 256 (u.hdr[2]).toNat → hdrType u.hdr = 0 →
      let y := Channel.judgeNext l.t c
      (y.ol p).copy = none ∧
      ((c.net.flows[f]).judge (hdrSeq u.hdr) = .commit →
        (y.net.flows[f]).content = u.words ∧ (y.net.flows[f]).last = hdrSeq u.hdr ∧ (y.net.flows[f]).committed = true ∧
        (y.net.flows[f]).stale = false ∧ (y.ol p).accepted = (c.ol p).accepted + 1) ∧
      ((c.net.flows[f]).judge (hdrSeq u.hdr) = .dup →
        y.net.flows = c.net.flows ∧ (y.ol p).dup = satInc (c.ol p).dup) ∧
      ((c.net.flows[f]).judge (hdrSeq u.hdr) = .old →
        y.net.flows = c.net.flows ∧ (y.ol p).old = satInc (c.ol p).old)) ∧
    (∀ (ent cfg : Word) (f : Fin 256), ent = z.combEntry z.net.nt.cycle cell.val → f = Fin.ofNat 256 (fld ent 6 8) →
      cfg = z.getA (0x1C00 + 4 * f.val) → c.released = true → cell.val < c.cells →
      l.t = c.mtAt (c.af (0x1880 + cell.val) 0 14) → 2 ≤ cell.val →
      fld ent 0 6 = z.olAddr.toNat → fld ent 0 6 ≠ 0 → bit cfg 11 = true → bit cfg 6 = true → z.pwr.doze = false →
      (z.net.nt.st = .sync ∨ z.net.nt.st = .reference) →
      (z.flowNext l.t f = none → s.chGets (.transmissionStart l cell) l.ch fun y => y = z) ∧
      (∀ ws, z.flowNext l.t f = some ws → z.gateOpen l.t cell.val = false →
        s.chGets (.transmissionStart l cell) l.ch fun y =>
          y.net.skippedCnt = satInc z.net.skippedCnt ∧ (y.net.flows[f]).skipped = satInc (z.net.flows[f]).skipped ∧
          (y.net.flows[f]).queue = (z.net.flows[f]).queue ∧ y.net.tx = z.net.tx ∧
          y.fcl.raised.contains (50, 0) = true) ∧
      (∀ ws, z.gateOpen l.t cell.val = true → z.flowNext l.t f = some ws → (∀ r, z.olState r = .listen) →
        s.chGets (.transmissionStart l cell) l.ch fun y =>
          (∃ u, y.net.tx = some u ∧ u.words = padTo (fld ent 14 7) ws ∧ u.seq = (z.net.flows[f]).last + 1 ∧
            u.cell = some cell ∧ u.at_ = l.t ∧ u.aborted = false ∧ (u.kind = .data f false ∨ u.kind = .data f true) ∧
            ∀ r, (y.ol r).sent = ownFrame z.olAddr (OPort.net r) u.kind.head.1 (BitVec.ofNat 8 f.val) u.seq u.words) ∧
          (y.net.flows[f]).last = (z.net.flows[f]).last + 1 ∧ (∀ r, (y.ol r).st = .tx))) ∧
    (c.released = false → s.chGets (.transmissionStart l cell) l.ch fun y => y = c) ∧
    (c.released = true → z.net.tx = none → s.chGets (.transmissionEnd l) l.ch fun y => y = z) ∧
    (c.released = true → z.net.tx = some x → x.aborted = false →
      (l.t < x.at_ + x.length → s.chGets (.transmissionEnd l) l.ch fun y => y = z) ∧
      (x.at_ + x.length ≤ l.t → s.chGets (.transmissionEnd l) l.ch fun y =>
        y.net.tx = none ∧ ((∃ r, x.ports[(OPort.idx r)] = true) → y.net.nt.guardEv = 0) ∧
        ((∀ r, x.ports[(OPort.idx r)] = false) → y.net.nt.guardEv = z.net.nt.guardEv) ∧
        ∀ r, x.ports[(OPort.idx r)] = true → (z.ol r).st = .tx → (y.ol r).freeAt = some (l.t + lclk 20))) ∧
    (z.olState p ≠ .tx → s.chGets (.txCollision l p) l.ch fun y => y = z) ∧
    (z.olState p = .tx → z.net.tx = some x → x.ports[(OPort.idx p)] = true →
      (x.kind ≠ .coldstart → s.chGets (.txCollision l p) l.ch fun y =>
        y.net.collision = satInc z.net.collision ∧ y.net.tx = some { x with ports := x.ports.set (OPort.idx p) false } ∧
        (y.ol p).freeAt = some (l.t + lclk 50) ∧ (y.ol q).fwdTo = false) ∧
      (x.kind = .coldstart → x.aborted = false → z.net.nt.collisions < 3 → s.chGets (.txCollision l p) l.ch fun y =>
        y.net.tx = some { x with aborted := true } ∧ y.net.nt.collisions = z.net.nt.collisions + 1 ∧
        y.net.nt.coldAt = none ∧ y.net.nt.st = z.net.nt.st) ∧
      (x.kind = .coldstart → x.aborted = true → s.chGets (.txCollision l p) l.ch fun y =>
        y.net.nt.collisions = z.net.nt.collisions ∧ y.net.nt.st = z.net.nt.st) ∧
      (x.kind = .coldstart → x.aborted = false → 3 ≤ z.net.nt.collisions → s.chGets (.txCollision l p) l.ch fun y =>
        y.net.nt.st = .listen ∧ y.net.nt.noCold = true ∧ y.fcl.raised.contains (49, 0) = true)) ∧
    (c.released = true → z.net.tx = some x →
      (z.gateClosed l.t x = true → s.chGets (.guardianGateClose l) l.ch fun y =>
        y.net.tx = some { x with aborted := true } ∧ y.net.cutCnt = satInc z.net.cutCnt ∧
        y.fcl.raised.contains (50, 0) = true) ∧
      (z.gateClosed l.t x = false → s.chGets (.guardianGateClose l) l.ch fun y => y = z)) ∧
    ((z.ol q).sentHdr = some h →
      (((z.ol p).fwdTo = true ∧ (z.ol p).hdr.isSome = true) ∨ (z.ol q).closeAt.isSome = true) →
      (z.fwdCutDue l.t h (z.ol p).sofAt = true → s.chGets (.forwarderGuardCut l p) l.ch fun y =>
        (y.ol p).fwdTo = false ∧ (y.ol q).abortTx = satInc (z.ol q).abortTx ∧ (y.ol q).closeAt = none ∧
        y.net.guardCut = satInc z.net.guardCut) ∧
      (z.fwdCutDue l.t h (z.ol p).sofAt = false → s.chGets (.forwarderGuardCut l p) l.ch fun y => y = z)) ∧
    ((z.ol q).sentHdr = none ∨ ((z.ol p).fwdTo = false ∧ (z.ol q).closeAt = none) →
      s.chGets (.forwarderGuardCut l p) l.ch fun y => y = z)

/-- The time unit: each cycle start counts one cycle or takes the adopted count, a waggle makes a listening node
COARSE or shows a MISMATCH and keeps an integrated one in time, a ping to the own address is echoed and its echo gives
the path delay, and the states LISTEN, COLD and REFERENCE follow their timers (R400, R407 to R411, R415 to R419). -/
def Obligations.TimeUnitFollowsItsStates : Prop :=
  ∀ (s : State) (l : At) (n : Net) (src hops a : BitVec 6) (ws : Vector Word 4) (stamp : Int) (rx : Nat) (w : Word),
    (s.ch l.ch).released = true →
    let c := s.ch l.ch
    let z := c.netSettle l.t
    (c.net.nt.adopt = none → l.t = c.cycDue → s.chGets (.cycleStart l) l.ch fun y =>
      y.net.nt.cycle = c.net.nt.cycle + 1 ∧ y.net.nt.cycStart = l.t ∧ y.net.nt.x.e = none ∧ y.net.nt.wag = false) ∧
    (∀ k, c.net.nt.st = .coarse → c.net.nt.adopt = some k → c.net.nt.adoptIn = 0 → c.net.nt.meanE = none →
      c.net.nt.pegged < 7 → c.net.nt.wag = true → l.t = c.cycDue → s.chGets (.cycleStart l) l.ch fun y =>
        y.net.nt.cycle = k ∧ y.net.nt.adopt = none ∧ y.net.nt.cycStart = l.t) ∧
    (c.net.nt.st = .listen → c.waggleCause ws = none → c.drivesOff = true →
      s.chGets (.waggleReceived l n src hops ws stamp) l.ch fun y =>
        y.net.nt.st = .coarse ∧ y.net.nt.refAddr = src ∧ y.net.nt.adopt.isSome = true ∧ y.net.nt.cause = 0 ∧
        y.net.nt.cycle = c.net.nt.cycle) ∧
    (∀ k, c.net.nt.st = .listen → c.waggleCause ws = some k →
      s.chGets (.waggleReceived l n src hops ws stamp) l.ch fun y =>
        y.net.nt.st = .mismatch ∧ y.net.nt.cause = k ∧ y.fcl.raised.contains (49, 0) = true) ∧
    (c.net.nt.st = .coarse ∨ c.net.nt.st = .sync → s.chGets (.waggleReceived l n src hops ws stamp) l.ch fun y =>
      y.net.nt.st = c.net.nt.st ∧ y.net.nt.wag = true ∧ y.net.nt.refAddr = src ∧ (y.nn n).shown = true ∧
      y.net.nt.cycle = c.net.nt.cycle) ∧
    (c.net.nt.st = .reference → fld ws[1] 16 6 < c.af 0x1040 17 6 →
      s.chGets (.waggleReceived l n src hops ws stamp) l.ch fun y =>
        y.net.nt.st = .listen ∧ y.net.nt.listenAt = l.t ∧ y.fcl.raised.contains (49, 0) = true) ∧
    (c.net.nt.st ≠ .down → a = c.olAddr → a ≠ 0 → s.chGets (.delayPingReceived l n a) l.ch fun y =>
      let k : Fin 2 := if n = .x then 0 else 1
      let a := l.t + c.toLocal l.t 32768 / 32 - lclk 160
      y = { c with net := { c.net with echoAt := c.net.echoAt.set k (some a) } } ∧
      (c.spreadDepth = 0 → a = l.t + lclk 1888)) ∧
    (a ≠ c.olAddr → s.chGets (.delayPingReceived l n a) l.ch fun y => y = c) ∧
    (∀ tx, c.net.nt.st = .reference → c.net.nt.pingAt = some (a, tx) → 32768 ≤ c.unspreadStamps tx rx →
      s.chGets (.echoReceived l n a rx) l.ch fun y =>
        (y.nn n).shown = true ∧ fld (y.nn n).reply 26 6 = a.toNat ∧
        fld (y.nn n).reply 0 26 = (c.unspreadStamps tx rx - 32768) / 2 % 2 ^ 26 ∧
        (c.spreadDepth = 0 → c.unspreadStamps tx rx = rx - tx)) ∧
    (c.net.nt.st ≠ .reference → s.chGets (.echoReceived l n a rx) l.ch fun y => y = c) ∧
    (c.net.nt.st = .listen → s.chGets (.coldstartReceived l w) l.ch fun y => y = c.setNt { c.net.nt with listenAt := l.t }) ∧
    (c.net.nt.st = .cold → fld w 0 6 < c.af 0x1040 17 6 → s.chGets (.coldstartReceived l w) l.ch fun y =>
      y.net.nt.st = .listen ∧ y.net.nt.listenAt = l.t) ∧
    (c.net.nt.st = .cold → c.af 0x1040 17 6 ≤ fld w 0 6 → s.chGets (.coldstartReceived l w) l.ch fun y => y = c) ∧
    (c.net.nt.st = .listen → bit (c.getA 0x1040) 16 = true → c.net.nt.noCold = false →
      (c.net.nt.listenAt + c.af 0x1040 23 6 * c.cycleRoot ≤ l.t → s.chGets (.listenTimeout l) l.ch fun y =>
        y.net.nt.st = .cold ∧ y.net.nt.coldAt = some l.t ∧ y.net.nt.backoffAt = none) ∧
      (l.t < c.net.nt.listenAt + c.af 0x1040 23 6 * c.cycleRoot → s.chGets (.listenTimeout l) l.ch fun y => y = c)) ∧
    (∀ k, c.net.nt.st = .cold → c.net.nt.coldAt = some k → l.t = k + c.cycleRoot →
      s.chGets (.coldstartCycle0 l) l.ch fun y =>
        y.net.nt.st = .reference ∧ y.net.nt.cycle = 0 ∧ y.net.nt.cycStart = l.t ∧ y.net.nt.coldAt = none ∧
        (c.clk.spread = 1 → y.clk.spread = 2)) ∧
    (∀ k, c.net.nt.st = .cold → c.net.nt.coldAt = none → c.net.nt.backoffAt = some k →
      k + usec (8 * c.af 0x1040 17 6) ≤ l.t →
      (z.portsQuiet = true → s.chGets (.coldstartBackoffEnd l) l.ch fun y =>
        y.net.nt.coldAt = some l.t ∧ y.net.nt.backoffAt = none) ∧
      (z.portsQuiet = false → s.chGets (.coldstartBackoffEnd l) l.ch fun y => y = z)) ∧
    (c.net.nt.st = .sync → c.net.nt.holdover = true → bit (c.getA 0x1040) 16 = true →
      2 + c.af 0x1040 17 6 ≤ c.net.nt.noWag → s.chGets (.holdoverTakeover l) l.ch fun y =>
        y.net.nt.st = .reference ∧ y.net.nt.holdover = false ∧ y.net.nt.refAddr = c.olAddr ∧
        y.net.nt.cycle = c.net.nt.cycle) ∧
    (c.net.nt.st ≠ .sync → s.chGets (.holdoverTakeover l) l.ch fun y => y = c)

/-- What reset leaves, by the reset values that the spec states: nothing waits, both Welts are safe, in INIT with
their outputs off, each channel under its own letter with cause POR, core released, its role OFFLINE, both drives OFF
with their gates off and PIS open, no line registered, every receive flow uncommitted, the semaphores free, session 0
open at OPERATOR and the others closed, 16 free slots, no sample kept, SUP_MIN_VSUP at 0xFFFF (R81, R82, R177, R206,
R327, R363, R440, R446, R451). -/
def Obligations.ResetHoldsTheStatedValues : Prop :=
  State.reset.Safe ∧ State.reset.pending = [] ∧
  (∀ w, (State.reset.welt w).st = .init ∧ (State.reset.welt w).so0 = false ∧ (State.reset.welt w).so1 = false ∧
    (State.reset.welt w).pkr = false ∧ (State.reset.welt w).sol0.on = false ∧ (State.reset.welt w).sol1.on = false) ∧
  ∀ k : Ch,
    let c := State.reset.ch k
    c.id = k ∧ c.rst.cause = 1 ∧ c.released = true ∧ c.rd.role = .offline ∧ c.sd.st = .off ∧ c.ad.st = .off ∧
    c.sd.pisClosed = false ∧ (∀ j : Fin 6, (c.gd.legs[j]).hs = false ∧ (c.gd.legs[j]).ls = false) ∧ c.gd.bch = false ∧
    c.fcl.regs = [] ∧ c.fcl.latched = false ∧ (∀ f : Fin 256, (c.net.flows[f]).committed = false) ∧
    c.net.nt.st = .down ∧ (∀ j : Fin 16, c.hp.sem[j] = none) ∧ c.hp.lockU = none ∧
    (∀ p : Port, ((c.port p).sess[0]).st = .opened ∧ ((c.port p).sess[0]).level = 1 ∧ (c.port p).used = 0 ∧
      ∀ j : Fin 8, j ≠ 0 → ((c.port p).sess[j]).st = .closed) ∧
    c.pct.samples = [] ∧ c.sup.minMv = 0xFFFF ∧ (∀ n : Fin 32, (c.ce.slots[n]).st = .empty) ∧
    Memory.wf c.exe.tcm = true

/-- Stores of pass T (R93): one whose register does not hold a valid transformed value (bits 2 to 0 zero, bits 39 to 35
equal to bit 34) is not written and is a mismatch of kind FORM, the others are written to the mirrored half. -/
def Obligations.PassTStoresAreChecked : Prop :=
  ∀ (s : State) (l : At) (run : PassRun),
    let c := s.ch l.ch
    let good (x : TcmStore) : Prop :=
      x.data.extractLsb' 0 3 = 0 ∧ ∀ i, 35 ≤ i → i < 40 → x.data.getLsbD i = x.data.getLsbD 34
    c.running = true → c.exe.ph = .passP → c.exe.startAt + 22000 ≤ l.t → c.exe.usedP ≤ 11000 →
    replayBad (if c.exe.bankSel = true then c.exe.bank1 else c.exe.bank0) run.reads = none →
    firstBad 0 c.exe.held run.writes = none →
    s.chGets (.passT l run) l.ch fun y =>
      (∀ xs, (∀ x, x ∈ xs → good x) → run.tcm = xs →
        y.exe.tcm = xs.foldl (fun (m : List Host.Cell) (x : TcmStore) =>
          storeWord m true x.addr.toNat ((x.data >>> 3).setWidth 32)) c.exe.tcm ∧
        y.exe.bad = c.exe.bad ∧ y.exe.mismatch = c.exe.mismatch) ∧
      (∀ x, ¬ good x → run.tcm = [x] → y.exe.tcm = c.exe.tcm) ∧
      (∀ x pre post, ¬ good x → (∀ u, u ∈ pre → good u) → run.tcm = pre ++ x :: post →
        y.exe.bad = true ∧ y.exe.mismatch = true ∧ (c.exe.mismatch = false → y.exe.kind = 3) ∧
        y.exe.tcm = (pre ++ post.filter fun u => formOk u.data).foldl
          (fun (m : List Host.Cell) (x : TcmStore) => storeWord m true x.addr.toNat ((x.data >>> 3).setWidth 32)) c.exe.tcm)
end

