-- ==== Sys2Proof/Laws/State.lean ====
section
/-! SUPPORT. Reading a state after an update: one lemma per field and update of the state's parts, and what the two
operations that every Welt command runs (settle, refresh) leave alone. -/

namespace Sys2Proof.Machine

@[simp] theorem ch_setCh (s : State) (k : Ch) (x : Channel) : (s.setCh k x).ch k = x := by cases k <;> rfl

theorem ch_setCh_ne (s : State) {k j : Ch} (x : Channel) (h : j ≠ k) : (s.setCh k x).ch j = s.ch j := by
  cases k <;> cases j <;> first | rfl | exact absurd rfl h

@[simp] theorem welt_setCh (s : State) (k : Ch) (x : Channel) (w : Wid) : (s.setCh k x).welt w = s.welt w := by
  cases k <;> cases w <;> rfl

@[simp] theorem pending_setCh (s : State) (k : Ch) (x : Channel) : (s.setCh k x).pending = s.pending := by
  cases k <;> rfl

@[simp] theorem freeCtr_setCh (s : State) (k : Ch) (x : Channel) : (s.setCh k x).freeCtr = s.freeCtr := by
  cases k <;> rfl

@[simp] theorem welt_setWelt (s : State) (w : Wid) (x : Welt) : (s.setWelt w x).welt w = x := by cases w <;> rfl

theorem welt_setWelt_ne (s : State) {w v : Wid} (x : Welt) (h : v ≠ w) : (s.setWelt w x).welt v = s.welt v := by
  cases w <;> cases v <;> first | rfl | exact absurd rfl h

@[simp] theorem ch_setWelt (s : State) (w : Wid) (x : Welt) (k : Ch) : (s.setWelt w x).ch k = s.ch k := by
  cases w <;> cases k <;> rfl

@[simp] theorem pending_setWelt (s : State) (w : Wid) (x : Welt) : (s.setWelt w x).pending = s.pending := by
  cases w <;> rfl

@[simp] theorem freeCtr_setWelt (s : State) (w : Wid) (x : Welt) : (s.setWelt w x).freeCtr = s.freeCtr := by
  cases w <;> rfl

/-- A command on one channel answers a next state, in which nothing else differs. -/
theorem onCh_next (k : Ch) (s : State) (f : Channel → Channel) :
    onCh k s f = .next (s.setCh k (f (s.ch k))) ∧ State.sameBut (.channel k) s (s.setCh k (f (s.ch k))) :=
  ⟨rfl, by simp, fun j h => ch_setCh_ne s _ fun e => h (e ▸ rfl), fun w _ => by simp⟩

/-- A command on one Welt answers a next state, in which nothing else differs. -/
theorem onWelt_next (w : Wid) (s : State) (f : Welt → Welt) :
    onWelt w s f = .next (s.setWelt w (f (s.welt w))) ∧ State.sameBut (.welt w) s (s.setWelt w (f (s.welt w))) :=
  ⟨rfl, by simp, fun k _ => by simp, fun v h => welt_setWelt_ne s _ fun e => h (e ▸ rfl)⟩

/-- A command on a powered Welt: what time has brought, the command, then states and outputs. -/
theorem onPowered_on (l : WAt) (s : State) (f : Welt → Welt) (h : (s.welt l.w).powered = true) :
    onPowered l s f = .next (s.setWelt l.w ((f (((s.welt l.w).resetStep l.t).settle l.t)).refresh l.t)) := by
  simp [onPowered, onWelt, h]

/-- A Welt with no deliberate reset due is left alone by resetStep (R316). -/
theorem resetStep_calm (w : Welt) (t : Nat) (h : w.calm t) : w.resetStep t = w := by
  unfold Welt.resetStep
  split
  · rename_i r e
    rw [if_neg (Nat.not_le.mpr (h r e))]
  · rfl

/-- An unpowered Welt takes no command. -/
theorem onPowered_off (l : WAt) (s : State) (f : Welt → Welt) (h : (s.welt l.w).powered = false) :
    onPowered l s f = .next (s.setWelt l.w (s.welt l.w)) := by
  simp [onPowered, onWelt, h]

/-- f where the condition holds. -/
@[simp] theorem when_true (f : Channel → Channel) (c : Channel) : when true f c = f c := rfl
@[simp] theorem when_false (f : Channel → Channel) (c : Channel) : when false f c = c := rfl

/-- What time brings a Welt changes orphSet and the solenoids' on bits alone (R304, R305). -/
theorem settle_eq (w : Welt) (t : Nat) : w.settle t =
    { w with orphSet := (w.settle t).orphSet, sol0 := { w.sol0 with on := (w.settle t).sol0.on },
             sol1 := { w.sol1 with on := (w.settle t).sol1.on } } := rfl

@[simp] theorem settle_st (w : Welt) (t : Nat) : (w.settle t).st = w.st := rfl
@[simp] theorem settle_cause (w : Welt) (t : Nat) : (w.settle t).cause = w.cause := rfl
@[simp] theorem settle_so0 (w : Welt) (t : Nat) : (w.settle t).so0 = w.so0 := rfl
@[simp] theorem settle_so1 (w : Welt) (t : Nat) : (w.settle t).so1 = w.so1 := rfl
@[simp] theorem settle_pkr (w : Welt) (t : Nat) : (w.settle t).pkr = w.pkr := rfl
@[simp] theorem settle_wstat (w : Welt) (t : Nat) : (w.settle t).wstat = w.wstat := rfl
@[simp] theorem settle_sol0 (w : Welt) (t : Nat) : (w.settle t).sol0 = w.sol0.past t := rfl
@[simp] theorem settle_sol1 (w : Welt) (t : Nat) : (w.settle t).sol1 = w.sol1.past t := rfl
@[simp] theorem settle_powered (w : Welt) (t : Nat) : (w.settle t).powered = w.powered := rfl
@[simp] theorem settle_lanes (w : Welt) (t : Nat) : (w.settle t).lanes = w.lanes := rfl
@[simp] theorem settle_accepted (w : Welt) (t : Nat) : (w.settle t).accepted = w.accepted := rfl
@[simp] theorem settle_apply (w : Welt) (t : Nat) : (w.settle t).apply = w.apply := rfl
@[simp] theorem settle_sp0 (w : Welt) (t : Nat) : (w.settle t).sp0 = w.sp0 := rfl
@[simp] theorem settle_sp1 (w : Welt) (t : Nat) : (w.settle t).sp1 = w.sp1 := rfl
@[simp] theorem settle_so0Req (w : Welt) (t : Nat) : (w.settle t).so0Req = w.so0Req := rfl
@[simp] theorem settle_so1Req (w : Welt) (t : Nat) : (w.settle t).so1Req = w.so1Req := rfl
@[simp] theorem settle_pkrReq (w : Welt) (t : Nat) : (w.settle t).pkrReq = w.pkrReq := rfl
@[simp] theorem settle_accSeq (w : Welt) (t : Nat) : (w.settle t).accSeq = w.accSeq := rfl
@[simp] theorem settle_orphan (w : Welt) (t : Nat) : (w.settle t).orphan = w.orphan := rfl
@[simp] theorem settle_pkrDrop (w : Welt) (t : Nat) : (w.settle t).pkrDrop = w.pkrDrop := rfl
@[simp] theorem settle_pkrArm (w : Welt) (t : Nat) : (w.settle t).pkrArm = w.pkrArm := rfl
@[simp] theorem settle_multi (w : Welt) (t : Nat) : (w.settle t).multi = w.multi := rfl
@[simp] theorem settle_causes (w : Welt) (t : Nat) : (w.settle t).causes = w.causes := rfl
@[simp] theorem settle_note (w : Welt) (t : Nat) : (w.settle t).note = w.note := rfl
@[simp] theorem settle_set1 (w : Welt) (t : Nat) : (w.settle t).set1 = w.set1 := rfl
@[simp] theorem settle_set2 (w : Welt) (t : Nat) : (w.settle t).set2 = w.set2 := rfl
@[simp] theorem settle_set3 (w : Welt) (t : Nat) : (w.settle t).set3 = w.set3 := rfl
@[simp] theorem settle_set4 (w : Welt) (t : Nat) : (w.settle t).set4 = w.set4 := rfl
@[simp] theorem settle_set5 (w : Welt) (t : Nat) : (w.settle t).set5 = w.set5 := rfl
@[simp] theorem settle_set6 (w : Welt) (t : Nat) : (w.settle t).set6 = w.set6 := rfl
@[simp] theorem settle_set7 (w : Welt) (t : Nat) : (w.settle t).set7 = w.set7 := rfl
@[simp] theorem settle_set8 (w : Welt) (t : Nat) : (w.settle t).set8 = w.set8 := rfl
@[simp] theorem settle_set9 (w : Welt) (t : Nat) : (w.settle t).set9 = w.set9 := rfl
@[simp] theorem settle_held (w : Welt) (t : Nat) : (w.settle t).held = w.held := rfl
@[simp] theorem settle_clamp (w : Welt) (t : Nat) : (w.settle t).clamp = w.clamp := rfl
@[simp] theorem settle_dither (w : Welt) (t : Nat) : (w.settle t).dither = w.dither := rfl
@[simp] theorem settle_pkrFault (w : Welt) (t : Nat) : (w.settle t).pkrFault = w.pkrFault := rfl
@[simp] theorem settle_si (w : Welt) (t : Nat) : (w.settle t).si = w.si := rfl
@[simp] theorem settle_pair0 (w : Welt) (t : Nat) : (w.settle t).pair0 = w.pair0 := rfl
@[simp] theorem settle_pair1 (w : Welt) (t : Nat) : (w.settle t).pair1 = w.pair1 := rfl
@[simp] theorem settle_tp0 (w : Welt) (t : Nat) : (w.settle t).tp0 = w.tp0 := rfl
@[simp] theorem settle_tp1 (w : Welt) (t : Nat) : (w.settle t).tp1 = w.tp1 := rfl
@[simp] theorem settle_tpSnap0 (w : Welt) (t : Nat) : (w.settle t).tpSnap0 = w.tpSnap0 := rfl
@[simp] theorem settle_tpSnap1 (w : Welt) (t : Nat) : (w.settle t).tpSnap1 = w.tpSnap1 := rfl
@[simp] theorem settle_tpGood (w : Welt) (t : Nat) : (w.settle t).tpGood = w.tpGood := rfl
@[simp] theorem settle_soAt (w : Welt) (t : Nat) : (w.settle t).soAt = w.soAt := rfl
@[simp] theorem settle_ditherAt (w : Welt) (t : Nat) : (w.settle t).ditherAt = w.ditherAt := rfl
@[simp] theorem settle_initAt (w : Welt) (t : Nat) : (w.settle t).initAt = w.initAt := rfl
@[simp] theorem settle_wrst (w : Welt) (t : Nat) : (w.settle t).wrst = w.wrst := rfl
@[simp] theorem settle_wrstAt (w : Welt) (t : Nat) : (w.settle t).wrstAt = w.wrstAt := rfl
@[simp] theorem settle_rstr (w : Welt) (t : Nat) : (w.settle t).rstr = w.rstr := rfl
@[simp] theorem settle_vload (w : Welt) (t : Nat) : (w.settle t).vload = w.vload := rfl
@[simp] theorem settle_sent (w : Welt) (t : Nat) : (w.settle t).sent = w.sent := rfl
@[simp] theorem settle_causeAt (w : Welt) (t : Nat) : (w.settle t).causeAt = w.causeAt := rfl
@[simp] theorem settle_siAt (w : Welt) (t : Nat) : (w.settle t).siAt = w.siAt := rfl
@[simp] theorem settle_tpLow0 (w : Welt) (t : Nat) : (w.settle t).tpLow0 = w.tpLow0 := rfl
@[simp] theorem settle_tpLow1 (w : Welt) (t : Nat) : (w.settle t).tpLow1 = w.tpLow1 := rfl
@[simp] theorem settle_tpAt0 (w : Welt) (t : Nat) : (w.settle t).tpAt0 = w.tpAt0 := rfl
@[simp] theorem settle_tpAt1 (w : Welt) (t : Nat) : (w.settle t).tpAt1 = w.tpAt1 := rfl
@[simp] theorem settle_soBad (w : Welt) (t : Nat) : (w.settle t).soBad = w.soBad := rfl
@[simp] theorem settle_resetAt (w : Welt) (t : Nat) : (w.settle t).resetAt = w.resetAt := rfl
@[simp] theorem settle_lockedAt (w : Welt) (t : Nat) : (w.settle t).lockedAt = w.lockedAt := rfl
@[simp] theorem settle_news (w : Welt) (t : Nat) : (w.settle t).news = w.news := rfl
@[simp] theorem settle_newsAt (w : Welt) (t : Nat) : (w.settle t).newsAt = w.newsAt := rfl
@[simp] theorem settle_upAt (w : Welt) (t : Nat) : (w.settle t).upAt = w.upAt := rfl
@[simp] theorem settle_resetBad (w : Welt) (t : Nat) : (w.settle t).resetBad = w.resetBad := rfl

/-- States and outputs: refresh changes st, cause, lockedAt, so0, so1, pkr, wstat, tp0, tp1 and the solenoids' on bits
alone (R312 to R315). -/
theorem refresh_eq (w : Welt) (t : Nat) : w.refresh t =
    { w with st := (w.refresh t).st, cause := (w.refresh t).cause,
             lockedAt := (w.refresh t).lockedAt, so0 := (w.refresh t).so0, so1 := (w.refresh t).so1,
             pkr := (w.refresh t).pkr, wstat := (w.refresh t).wstat, tp0 := (w.refresh t).tp0, tp1 := (w.refresh t).tp1,
             sol0 := { w.sol0 with on := (w.refresh t).sol0.on },
             sol1 := { w.sol1 with on := (w.refresh t).sol1.on } } := rfl

@[simp] theorem refresh_powered (w : Welt) (t : Nat) : (w.refresh t).powered = w.powered := rfl
@[simp] theorem refresh_lanes (w : Welt) (t : Nat) : (w.refresh t).lanes = w.lanes := rfl
@[simp] theorem refresh_accepted (w : Welt) (t : Nat) : (w.refresh t).accepted = w.accepted := rfl
@[simp] theorem refresh_apply (w : Welt) (t : Nat) : (w.refresh t).apply = w.apply := rfl
@[simp] theorem refresh_sp0 (w : Welt) (t : Nat) : (w.refresh t).sp0 = w.sp0 := rfl
@[simp] theorem refresh_sp1 (w : Welt) (t : Nat) : (w.refresh t).sp1 = w.sp1 := rfl
@[simp] theorem refresh_so0Req (w : Welt) (t : Nat) : (w.refresh t).so0Req = w.so0Req := rfl
@[simp] theorem refresh_so1Req (w : Welt) (t : Nat) : (w.refresh t).so1Req = w.so1Req := rfl
@[simp] theorem refresh_pkrReq (w : Welt) (t : Nat) : (w.refresh t).pkrReq = w.pkrReq := rfl
@[simp] theorem refresh_accSeq (w : Welt) (t : Nat) : (w.refresh t).accSeq = w.accSeq := rfl
@[simp] theorem refresh_orphan (w : Welt) (t : Nat) : (w.refresh t).orphan = w.orphan := rfl
@[simp] theorem refresh_orphSet (w : Welt) (t : Nat) : (w.refresh t).orphSet = w.orphSet := rfl
@[simp] theorem refresh_pkrDrop (w : Welt) (t : Nat) : (w.refresh t).pkrDrop = w.pkrDrop := rfl
@[simp] theorem refresh_pkrArm (w : Welt) (t : Nat) : (w.refresh t).pkrArm = w.pkrArm := rfl
@[simp] theorem refresh_multi (w : Welt) (t : Nat) : (w.refresh t).multi = w.multi := rfl
@[simp] theorem refresh_causes (w : Welt) (t : Nat) : (w.refresh t).causes = w.causes := rfl
@[simp] theorem refresh_note (w : Welt) (t : Nat) : (w.refresh t).note = w.note := rfl
@[simp] theorem refresh_set1 (w : Welt) (t : Nat) : (w.refresh t).set1 = w.set1 := rfl
@[simp] theorem refresh_set2 (w : Welt) (t : Nat) : (w.refresh t).set2 = w.set2 := rfl
@[simp] theorem refresh_set3 (w : Welt) (t : Nat) : (w.refresh t).set3 = w.set3 := rfl
@[simp] theorem refresh_set4 (w : Welt) (t : Nat) : (w.refresh t).set4 = w.set4 := rfl
@[simp] theorem refresh_set5 (w : Welt) (t : Nat) : (w.refresh t).set5 = w.set5 := rfl
@[simp] theorem refresh_set6 (w : Welt) (t : Nat) : (w.refresh t).set6 = w.set6 := rfl
@[simp] theorem refresh_set7 (w : Welt) (t : Nat) : (w.refresh t).set7 = w.set7 := rfl
@[simp] theorem refresh_set8 (w : Welt) (t : Nat) : (w.refresh t).set8 = w.set8 := rfl
@[simp] theorem refresh_set9 (w : Welt) (t : Nat) : (w.refresh t).set9 = w.set9 := rfl
@[simp] theorem refresh_held (w : Welt) (t : Nat) : (w.refresh t).held = w.held := rfl
@[simp] theorem refresh_clamp (w : Welt) (t : Nat) : (w.refresh t).clamp = w.clamp := rfl
@[simp] theorem refresh_dither (w : Welt) (t : Nat) : (w.refresh t).dither = w.dither := rfl
@[simp] theorem refresh_pkrFault (w : Welt) (t : Nat) : (w.refresh t).pkrFault = w.pkrFault := rfl
@[simp] theorem refresh_si (w : Welt) (t : Nat) : (w.refresh t).si = w.si := rfl
@[simp] theorem refresh_pair0 (w : Welt) (t : Nat) : (w.refresh t).pair0 = w.pair0 := rfl
@[simp] theorem refresh_pair1 (w : Welt) (t : Nat) : (w.refresh t).pair1 = w.pair1 := rfl
@[simp] theorem refresh_tp0 (w : Welt) (t : Nat) : (w.refresh t).tp0 = (w.tpStage && !w.tpLow0) := rfl
@[simp] theorem refresh_tp1 (w : Welt) (t : Nat) : (w.refresh t).tp1 = (w.tpStage && !w.tpLow1) := rfl
@[simp] theorem refresh_tpSnap0 (w : Welt) (t : Nat) : (w.refresh t).tpSnap0 = w.tpSnap0 := rfl
@[simp] theorem refresh_tpSnap1 (w : Welt) (t : Nat) : (w.refresh t).tpSnap1 = w.tpSnap1 := rfl
@[simp] theorem refresh_tpGood (w : Welt) (t : Nat) : (w.refresh t).tpGood = w.tpGood := rfl
@[simp] theorem refresh_soAt (w : Welt) (t : Nat) : (w.refresh t).soAt = w.soAt := rfl
@[simp] theorem refresh_ditherAt (w : Welt) (t : Nat) : (w.refresh t).ditherAt = w.ditherAt := rfl
@[simp] theorem refresh_initAt (w : Welt) (t : Nat) : (w.refresh t).initAt = w.initAt := rfl
@[simp] theorem refresh_wrst (w : Welt) (t : Nat) : (w.refresh t).wrst = w.wrst := rfl
@[simp] theorem refresh_wrstAt (w : Welt) (t : Nat) : (w.refresh t).wrstAt = w.wrstAt := rfl
@[simp] theorem refresh_rstr (w : Welt) (t : Nat) : (w.refresh t).rstr = w.rstr := rfl
@[simp] theorem refresh_vload (w : Welt) (t : Nat) : (w.refresh t).vload = w.vload := rfl
@[simp] theorem refresh_sent (w : Welt) (t : Nat) : (w.refresh t).sent = w.sent := rfl
@[simp] theorem refresh_causeAt (w : Welt) (t : Nat) : (w.refresh t).causeAt = w.causeAt := rfl
@[simp] theorem refresh_siAt (w : Welt) (t : Nat) : (w.refresh t).siAt = w.siAt := rfl
@[simp] theorem refresh_tpLow0 (w : Welt) (t : Nat) : (w.refresh t).tpLow0 = w.tpLow0 := rfl
@[simp] theorem refresh_tpLow1 (w : Welt) (t : Nat) : (w.refresh t).tpLow1 = w.tpLow1 := rfl
@[simp] theorem refresh_tpAt0 (w : Welt) (t : Nat) : (w.refresh t).tpAt0 = w.tpAt0 := rfl
@[simp] theorem refresh_tpAt1 (w : Welt) (t : Nat) : (w.refresh t).tpAt1 = w.tpAt1 := rfl
@[simp] theorem refresh_soBad (w : Welt) (t : Nat) : (w.refresh t).soBad = w.soBad := rfl
@[simp] theorem refresh_resetAt (w : Welt) (t : Nat) : (w.refresh t).resetAt = w.resetAt := rfl
@[simp] theorem refresh_news (w : Welt) (t : Nat) : (w.refresh t).news = w.news := rfl
@[simp] theorem refresh_newsAt (w : Welt) (t : Nat) : (w.refresh t).newsAt = w.newsAt := rfl
@[simp] theorem refresh_upAt (w : Welt) (t : Nat) : (w.refresh t).upAt = w.upAt := rfl
@[simp] theorem refresh_resetBad (w : Welt) (t : Nat) : (w.refresh t).resetBad = w.resetBad := rfl

end Sys2Proof.Machine
end

