-- ==== Sys2Proof/Laws/Channel.lean ====
section
/-! SUPPORT. What each operation that many commands share can do to a channel, said once: which part it writes, and what
that part then holds. -/

namespace Sys2Proof.Machine

/-- Raising a line writes nothing but the list of raised lines. -/
theorem raise_eq (c : Channel) (l : Fin 62) (d : BitVec 16) :
    ∃ r, c.raise l d = { c with fcl := { c.fcl with raised := r } } := by
  unfold Channel.raise
  split
  · exact ⟨c.fcl.raised, rfl⟩
  · exact ⟨_, rfl⟩

/-- A raised line waits for its registration. -/
@[simp] theorem raise_self (c : Channel) (l : Fin 62) (d : BitVec 16) : (l, d) ∈ (c.raise l d).fcl.raised := by
  unfold Channel.raise
  split
  · rename_i h; exact List.contains_iff_mem.mp h
  · simp

/-- Lines raised before stay raised. -/
theorem raise_keeps (c : Channel) (l : Fin 62) (d : BitVec 16) {p : Fin 62 × BitVec 16} (h : p ∈ c.fcl.raised) :
    p ∈ (c.raise l d).fcl.raised := by
  unfold Channel.raise
  split
  · exact h
  · simp [h]

/-- An event counts: nothing but the performance counters changes. -/
theorem bump_eq (c : Channel) (b i n : Nat) : ∃ p, c.bump b i n = { c with pct := p } := by
  unfold Channel.bump
  split
  rename_i base len h
  by_cases g : (decide (i > 0) && c.pct.chain.getLsbD (base + i - 1)) = true
  · rw [if_pos g]; exact ⟨c.pct, rfl⟩
  · rw [if_neg g]; exact ⟨_, rfl⟩

/-- A job joins the end of the MRAM writer's queue. -/
theorem mram_eq (c : Channel) (d : MramData) (w : Option Work) :
    c.mram d w = { c with nv := { c.nv with jobs := c.nv.jobs ++ [⟨d, 0, w⟩], busy := c.nv.busy || !c.deferring } } := rfl

/-- The writer's choice reorders the queue: no job is lost and none is added. -/
theorem pickJob_perm (n : Nat) (js : List MramJob) : (pickJob n js).Perm js := by
  unfold pickJob
  split
  · exact .refl _
  · split
    · rename_i j h
      obtain ⟨hj, a, b, e, ha⟩ := List.find?_eq_some_iff_append.mp h
      have hn : ∀ x ∈ a, ¬(x.work.isSome = true) := fun x hx => by simpa using ha x hx
      rw [e, List.eraseP_append_right _ hn, List.eraseP_cons_of_pos (p := fun x : MramJob => x.work.isSome) hj]
      exact List.perm_middle.symm
    · exact .refl _

/-- After 7 attempts of other work a waiting command's block comes first. -/
theorem pickJob_work {n : Nat} {js : List MramJob} (hn : 7 ≤ n) (h : ∃ j ∈ js, j.work.isSome = true) :
    ∃ j, (pickJob n js).head? = some j ∧ j.work.isSome = true := by
  unfold pickJob
  rw [if_neg (by omega)]
  cases f : js.find? fun j => j.work.isSome with
  | none =>
    obtain ⟨j, hj, w⟩ := h
    exact absurd w (by simpa using List.find?_eq_none.mp f j hj)
  | some j => exact ⟨j, rfl, List.find?_some (p := fun x : MramJob => x.work.isSome) f⟩

/-- A log entry: its sequence number, and either a job, or a place among those held in warning, or a loss. -/
theorem logEv_eq (c : Channel) (t a b : Nat) (d : List Word) :
    ∃ jobs busy log pct, c.logEv t a b d =
      { c with nv := { c.nv with seq := c.nv.seq + 1, jobs := jobs, busy := busy }, log := log, pct := pct } := by
  unfold Channel.logEv
  dsimp only
  split
  · split
    · obtain ⟨p, h⟩ := bump_eq
        { c with nv := { c.nv with seq := c.nv.seq + 1 }, log := { c.log with wait := c.log.wait ++ [_] } } 11 2 1
      rw [h]
      obtain ⟨q, h'⟩ := bump_eq
        { c with nv := { c.nv with seq := c.nv.seq + 1 }, log := { c.log with wait := c.log.wait ++ [_] }, pct := p } 11 3 1
      exact ⟨c.nv.jobs, c.nv.busy, _, q, h'⟩
    · exact ⟨c.nv.jobs, c.nv.busy, _, c.pct, rfl⟩
  · exact ⟨_, _, c.log, _, (Classical.choose_spec (bump_eq _ 11 2 1)).trans rfl⟩

/-- An entry enters the view. -/
theorem enterView_eq (c : Channel) (k : Fin 24) :
    c.enterView k = { c with rd := { c.rd with view := setBit c.rd.view k.val true, absent := c.rd.absent.set k none } } :=
  rfl

/-- The judgement of the own conditions writes the view and its times alone. -/
theorem viewSync_eq (c : Channel) (t : Nat) :
    ∃ v a, c.viewSync t = { c with rd := { c.rd with view := v, absent := a } } := by
  have step : ∀ (k : Fin 24) (c : Channel), ∃ v a, c.viewStep t k = { c with rd := { c.rd with view := v, absent := a } } := by
    intro k c
    unfold Channel.viewStep
    split
    · exact ⟨_, _, rfl⟩
    · split
      · exact ⟨c.rd.view, _, rfl⟩
      · exact ⟨c.rd.view, c.rd.absent, rfl⟩
  have all : ∀ (ks : List (Fin 24)) (c : Channel),
      ∃ v a, ks.foldl (Channel.viewStep t) c = { c with rd := { c.rd with view := v, absent := a } } := by
    intro ks
    induction ks with
    | nil => exact fun c => ⟨c.rd.view, c.rd.absent, rfl⟩
    | cons k ks ih =>
      intro c
      obtain ⟨v, a, h⟩ := step k c
      obtain ⟨v', a', h'⟩ := ih (c.viewStep t k)
      exact ⟨v', a', by rw [List.foldl_cons, h', h]⟩
  exact all _ c

/-- A role change writes the role and logs it. -/
theorem setRole_eq (c : Channel) (t : Nat) (r : Role) :
    ∃ seq jobs busy log pct, c.setRole t r =
      { c with rd := { c.rd with role := r }, nv := { c.nv with seq := seq, jobs := jobs, busy := busy }
               log := log, pct := pct } := by
  unfold Channel.setRole
  split
  · rename_i h; exact ⟨c.nv.seq, c.nv.jobs, c.nv.busy, c.log, c.pct, by rw [← h]⟩
  · extract_lets old
    obtain ⟨j, b, l, p, h⟩ := logEv_eq { c with rd := { c.rd with role := r } } t 8 1
      [put 24 old.toNat ||| put 16 (roleCode r).toNat]
    rw [h]; exact ⟨_, j, b, l, p, rfl⟩

/-- A level change writes the level and logs it. -/
theorem setLevel_eq (c : Channel) (t : Nat) (v : BitVec 3) :
    ∃ seq jobs busy log pct, c.setLevel t v =
      { c with rd := { c.rd with level := v }, nv := { c.nv with seq := seq, jobs := jobs, busy := busy }
               log := log, pct := pct } := by
  unfold Channel.setLevel
  split
  · rename_i h; exact ⟨c.nv.seq, c.nv.jobs, c.nv.busy, c.log, c.pct, by rw [← h]⟩
  · extract_lets old
    obtain ⟨j, b, l, p, h⟩ := logEv_eq { c with rd := { c.rd with level := v } } t 8 2
      [put 24 old.toNat ||| put 16 v.toNat]
    rw [h]; exact ⟨_, j, b, l, p, rfl⟩

/-- A partner's record is read back. -/
@[simp] theorem peer_setPeer (c : Channel) (k : Ch) (x : Partner) : (c.setPeer k x).peer k = x := by cases k <;> rfl

theorem peer_setPeer_ne (c : Channel) {k j : Ch} (x : Partner) (h : j ≠ k) : (c.setPeer k x).peer j = c.peer j := by
  cases k <;> cases j <;> first | rfl | exact absurd rfl h

@[simp] theorem wi_setWi (c : Channel) (w : Wid) (x : Wi) : (c.setWi w x).wi w = x := by cases w <;> rfl

theorem wi_setWi_ne (c : Channel) {w v : Wid} (x : Wi) (h : v ≠ w) : (c.setWi w x).wi v = c.wi v := by
  cases w <;> cases v <;> first | rfl | exact absurd rfl h

@[simp] theorem port_setPort (c : Channel) (p : Port) (x : HPort) : (c.setPort p x).port p = x := by
  cases p <;> simp [Channel.port, Channel.setPort]

theorem port_setPort_ne (c : Channel) {p q : Port} (x : HPort) (h : q ≠ p) : (c.setPort p x).port q = c.port q := by
  cases p <;> cases q <;> first | exact absurd rfl h | simp [Channel.port, Channel.setPort]

@[simp] theorem xp_setXp (c : Channel) (n : Bool) (x : Peer) : (c.setXp n x).xp n = x := by cases n <;> rfl

theorem xp_setXp_ne (c : Channel) {n m : Bool} (x : Peer) (h : m ≠ n) : (c.setXp n x).xp m = c.xp m := by
  cases n <;> cases m <;> first | rfl | exact absurd rfl h

end Sys2Proof.Machine
end

