-- ==== Sys2Proof/Laws/Memory.lean ====
section
/-! SUPPORT. TCM keeps its canonical form under every operation, and a byte written is the byte read. -/

namespace Sys2Proof.Machine

theorem wf_cons {p : Host.Cell} {r : List Host.Cell} :
    Memory.wf (p :: r) = true ↔ p.2 ≠ 0 ∧ (∀ q ∈ r, p.1 < q.1) ∧ Memory.wf r = true := by
  simp [Memory.wf, and_assoc]

theorem read_cons (p : Host.Cell) (r : List Host.Cell) (a : Nat) :
    Memory.read (p :: r) a = if p.1 = a then p.2 else Memory.read r a := by
  unfold Memory.read
  by_cases h : p.1 = a <;> simp [h]

/-- Below the first address a byte reads 0. -/
theorem read_below {m : List Host.Cell} {a : Nat} (h : ∀ q ∈ m, a < q.1) : Memory.read m a = 0 := by
  induction m with
  | nil => rfl
  | cons p r ih =>
    have := h p (by simp)
    rw [read_cons, if_neg (by omega), ih fun q hq => h q (by simp [hq])]

/-- Addresses after a write are those before it, and the written one. -/
theorem mem_storeD {m : List Host.Cell} {a : Nat} {v : Byte} {q : Host.Cell} (h : q ∈ storeD m a v 0) :
    q ∈ m ∨ q.1 = a := by
  induction m with
  | nil =>
    unfold storeD at h
    split at h
    · simp at h
    · exact .inr (by simp at h; rw [h])
  | cons p r ih =>
    unfold storeD at h
    split at h
    · split at h
      · exact .inl h
      · rcases List.mem_cons.mp h with h | h
        · exact .inr (by rw [h])
        · exact .inl h
    · split at h
      · rename_i e
        split at h
        · exact .inl (by simp [h])
        · rcases List.mem_cons.mp h with h | h
          · exact .inr (by rw [h])
          · exact .inl (by simp [h])
      · rcases List.mem_cons.mp h with h | h
        · exact .inl (by simp [h])
        · rcases ih h with h | h
          · exact .inl (by simp [h])
          · exact .inr h

/-- A write keeps the canonical form. -/
theorem wf_storeD {m : List Host.Cell} (h : Memory.wf m = true) (a : Nat) (v : Byte) :
    Memory.wf (storeD m a v 0) = true := by
  induction m with
  | nil => unfold storeD; split <;> simp_all [Memory.wf]
  | cons p r ih =>
    obtain ⟨h0, h1, h2⟩ := wf_cons.mp h
    unfold storeD
    split
    · rename_i hlt
      split
      · exact h
      · refine wf_cons.mpr ⟨by assumption, fun q hq => ?_, h⟩
        rcases List.mem_cons.mp hq with e | e
        · rw [e]; exact hlt
        · exact Nat.lt_trans hlt (h1 q e)
    · split
      · rename_i e
        split
        · exact h2
        · exact wf_cons.mpr ⟨by assumption, fun q hq => e ▸ h1 q hq, h2⟩
      · refine wf_cons.mpr ⟨h0, fun q hq => ?_, ih h2⟩
        rcases mem_storeD hq with e | e
        · exact h1 q e
        · omega

/-- A byte written is read back, and every other byte is as before. -/
theorem read_storeD {m : List Host.Cell} (h : Memory.wf m = true) (a b : Nat) (v : Byte) :
    Memory.read (storeD m a v 0) b = if b = a then v else Memory.read m b := by
  induction m with
  | nil =>
    unfold storeD
    by_cases hv : v = 0 <;> by_cases hb : b = a <;> simp_all [Memory.read, Ne.symm]
  | cons p r ih =>
    obtain ⟨h0, h1, h2⟩ := wf_cons.mp h
    unfold storeD
    split
    · rename_i hlt
      have out : Memory.read (p :: r) a = 0 := read_below fun q hq => by
        rcases List.mem_cons.mp hq with e | e
        · rw [e]; exact hlt
        · exact Nat.lt_trans hlt (h1 q e)
      split
      · rename_i hv; by_cases hb : b = a
        · rw [if_pos hb, hb, out, hv]
        · rw [if_neg hb]
      · rw [read_cons]; by_cases hb : b = a
        · rw [if_pos hb, if_pos hb.symm]
        · rw [if_neg hb, if_neg (Ne.symm hb)]
    · split
      · rename_i e
        split
        · rename_i hv; by_cases hb : b = a
          · rw [if_pos hb, hb, hv]; exact read_below fun q hq => e ▸ h1 q hq
          · rw [if_neg hb, read_cons, if_neg (by omega)]
        · rw [read_cons, read_cons]; by_cases hb : b = a
          · rw [if_pos hb, if_pos hb.symm]
          · rw [if_neg hb, if_neg (Ne.symm hb), if_neg (by omega)]
      · rw [read_cons, ih h2, read_cons]
        by_cases hb : p.1 = b
        · rw [if_pos hb, if_pos hb, if_neg (by omega)]
        · rw [if_neg hb, if_neg hb]

/-- Storing a word keeps the canonical form. -/
theorem wf_storeWord {m : List Host.Cell} (h : Memory.wf m = true) (k : Bool) (a : Nat) (v : Word) :
    Memory.wf (storeWord m k a v) = true := by
  unfold storeWord
  exact wf_storeD (wf_storeD (wf_storeD (wf_storeD h _ _) _ _) _ _) _ _

theorem wf_foldl {α : Type} (f : List Host.Cell → α → List Host.Cell)
    (hf : ∀ m x, Memory.wf m = true → Memory.wf (f m x) = true) (xs : List α) {m : List Host.Cell}
    (h : Memory.wf m = true) : Memory.wf (xs.foldl f m) = true := by
  induction xs generalizing m with
  | nil => exact h
  | cons x xs ih => exact ih (hf m x h)

/-- The stores of a pass keep the canonical form. -/
theorem wf_runP (e : Exe) (run : PassRun) (h : Memory.wf e.tcm = true) : Memory.wf (e.runP run).tcm = true :=
  wf_foldl _ (fun _ x hm => wf_storeWord hm false x.1 x.2) _ h

theorem wf_runT (e : Exe) (run : PassRun) (h : Memory.wf e.tcm = true) : Memory.wf (e.runT run).tcm = true :=
  wf_foldl _ (fun _ x hm => wf_storeWord hm true x.1 x.2) _ h

/-- An image restored is canonical, whatever it holds. -/
theorem wf_bothHalves (m : List Host.Cell) : Memory.wf (bothHalves m) = true :=
  wf_foldl _ (fun _ _ hm => wf_storeD (wf_storeD hm _ _) _ _) m rfl

/-- TCM at reset. -/
theorem wf_reset (k : Ch) : Memory.wf (Channel.reset k).exe.tcm = true := rfl

end Sys2Proof.Machine
end

