-- ==== Sys2Proof/Tests/Slice0.lean ====
section
/-! SUPPORT. Tests of the model and, for each statement, states and operands that meet its hypotheses: the theorem
witness_<Statement> gives for each clause a state, its hypotheses read on that state, the command, and what the command
leaves. Expected values come from the cited rules. -/

namespace Sys2Proof.Tests
open Sys2Proof Sys2Proof.Machine

/-- The reset state with another channel A, another Welt 1. -/
def chan (f : Channel → Channel) : State := { State.reset with chA := f State.reset.chA }
def weltS (f : Welt → Welt) : State := { State.reset with w1 := f State.reset.w1 }
def l (t : Nat) : At := ⟨.a, t⟩
def wl (t : Nat) : WAt := ⟨.w1, t⟩

/-- The hypotheses h hold on channel A; the command answers a next state whose channel A is as p says. -/
def meets (s : State) (h : Channel → Bool) (i : Instr) (p : Channel → Bool) : Bool :=
  h s.chA && match exec i s with
    | .next t => p t.chA && t.pending == s.pending
    | _ => false

/-- The same on Welt 1. -/
def meetsW (s : State) (h : Welt → Bool) (i : Instr) (p : Welt → Bool) : Bool :=
  h s.w1 && match exec i s with
    | .next t => p t.w1 && t.pending == s.pending
    | _ => false

/-- Every entry holds. -/
def all (xs : List Bool) : Bool := xs.all id

/-- The hypotheses alone, where what the command leaves rests on a free value. -/
def holds (s : State) (h : Channel → Bool) : Bool := h s.chA

/-- A step takes the front command; an empty queue idles (log entry 4). -/
theorem witness_StepRunsTheFrontCommand :
    (match step { State.reset with pending := [.trngHealthFail (l 0), .mgCoreMismatch (l 0)] } with
      | .next t => t.pending == [.mgCoreMismatch (l 0)] && t.chA.sec.trngBad
      | _ => false) = true ∧ step State.reset = .next State.reset := by
  constructor
  · decide +kernel
  · rfl

/-- A part outside partsOf and a packet of a running core (R98, R449). -/
theorem witness_CommandsLeaveTheOtherPartsAlone :
    (agentOf (.encoderEdge (l 0) 0 .aEdge) == .channel .a && !(partsOf (.encoderEdge (l 0) 0 .aEdge)).contains .gd &&
      isPacket (.nop ⟨⟨l 0, .hp0, 0, 0⟩, 0, 0, []⟩) && State.reset.chA.running) = true := by decide +kernel

/-- A claim word with its CRC-8 (R294). -/
def word (claim seq : BitVec 8) (sp : BitVec 12) (req : BitVec 4) : ClaimWord :=
  let w : ClaimWord := ⟨0xA, claim, 0, seq, sp, sp, req, 0, 0, true⟩
  { w with check := crc8 (claimBits w) }


/-- A running Welt with both outputs requested and accepted. -/
def runW (w : Welt) : Welt :=
  { w with st := .run, orphSet := false, orphan := none, so0Req := true, so1Req := true, wstat := true, set1 := 0 }

theorem witness_EveryCommandKeepsToItsPart : all [
    meets State.reset (fun _ => true) (.trngHealthFail (l 0)) (fun y => y.sec.trngBad),
    meetsW State.reset (fun _ => true) (.ditherToggle (wl 200000)) (fun x => !x.dither)] = true := by decide +kernel

/-- A Welt with every output off, its load supply within range and its settings below 3,000 mA is safe. -/
theorem safe_of_off (w : Welt) (h0 : w.so0 = false) (h1 : w.so1 = false) (hp : w.pkr = false) (k0 : w.sol0.on = false)
    (k1 : w.sol1.on = false) (hv : w.vload = true)
    (hs : w.sp0.toNat ≤ 3000 ∧ w.sp1.toNat ≤ 3000 ∧ w.set6.toNat ≤ 3000 ∧ w.set7.toNat ≤ 3000) : w.Safe := by
  constructor <;> simp_all

theorem welt_reset_safe : ({} : Welt).Safe := safe_of_off _ rfl rfl rfl rfl rfl rfl (by decide)

theorem witness_WeltSafetyIsKeptByEveryStep : State.reset.Safe ∧ step State.reset = .next State.reset :=
  ⟨⟨welt_reset_safe, welt_reset_safe⟩, rfl⟩

theorem witness_WeltStatesBoundTheOutputs : all [
    meetsW (weltS fun w => { w with st := .start, pair0 := { st := .closed }, orphSet := false, orphan := none })
      (fun w => w.powered && agentOf (.wstatAlternate (wl 9)) == .welt .w1) (.wstatAlternate (wl 9))
      (fun x => x.st == .start && x.st.code == 1 && !x.so0 && x.wstat),
    meetsW (weltS runW) (fun w => w.powered) (.weltStatusSend (wl 9)) (fun x => x.st == .run && x.wstat &&
          x.st.code == 2),
    meetsW (weltS runW) (fun w => w.powered) (.soFault (wl 9) ⟨0, true⟩) (fun x => x.st == .lockout && x.st.code == 3 &&
          !x.wstat),
    meetsW State.reset (fun w => w.powered) (.weltStatusSend (wl 9)) (fun x => x.st == .init && x.st.code == 0 &&
          !x.so0)]
    = true := by decide +kernel

theorem witness_StatusWordShowsOutputs : all [
    meetsW (weltS runW) (fun w => w.powered) (.weltStatusSend (wl 9)) (fun x => x.so0 && x.so1 &&
          x.sent == some x.status),
    meetsW State.reset (fun w => w.powered) (.weltStatusSend (wl 9)) (fun x => !x.so0 && !x.so1 && !x.pkr)]
    = true := by decide +kernel

/-- A LEAD claim of A without TAKE is 0xC1 (R295); the age of 1,200 WCLK is the bound. -/
theorem witness_ClaimsStayFreshFor1200Wclk : all [
    meetsW State.reset (fun w => w.powered && wordGood w.lanes[0] (word 0xC1 1 5 0) && claimValid 0 0xC1)
      (.claimWordDecode (wl 100) [(.a, word 0xC1 1 5 0)])
      (fun x => x.lanes[0].claim == 0xC1 && x.lanes[0].fresh && x.lanes[0].freshAt == 100 && x.accepted == some 0 &&
        x.orphan == none),
    meetsW State.reset (fun w => !wordGood w.lanes[0] { word 0xC1 1 5 0 with sync := 0 })
      (.claimWordDecode (wl 100) [(.a, { word 0xC1 1 5 0 with sync := 0 })])
      (fun x => !x.lanes[0].fresh && x.lanes[0].claim == 0),
    meetsW (weltS fun w => { w with lanes := w.lanes.set 0 { fresh := true, claim := 0xC1, freshAt := 100 } })
      (fun w => w.lanes[0].fresh && decide (w.lanes[0].freshAt + 1200 ≤ 1300)) (.claimStale (wl 1300) .a)
      (fun x => !x.lanes[0].fresh && x.lanes[0].claim == 0 && x.accepted == none),
    meetsW (weltS fun w => { w with lanes := w.lanes.set 0 { fresh := true, claim := 0xC1, freshAt := 100 } })
      (fun w => decide (1299 < w.lanes[0].freshAt + 1200)) (.claimStale (wl 1299) .a) (fun x => x.lanes[0].fresh)]
    = true := by decide +kernel

theorem witness_HighestFreshClaimIsAccepted : all [
    ({} : Welt).best == none,
    ({ lanes := #v[{ fresh := true, claim := 0x41 }, { fresh := true, claim := 0xC2 }, { fresh := false, claim := 0xFF }] }
      : Welt).best == some 1,
    meetsW (weltS fun w => { w with lanes := w.lanes.set 0 { fresh := true, claim := 0xC1, freshAt := 100 } })
      (fun w => w.powered && wordGood w.lanes[0] (word 0xC1 1 5 0) && claimValid 0 0xC1)
      (.claimWordDecode (wl 1300) [(.a, word 0xC1 1 5 0), (.b, word 0x42 1 5 0)])
      (fun x => x.lanes[0].fresh && x.accepted == some 0 && x.lanes[0].freshAt == 1300),
    meetsW (weltS fun w => { w with lanes := w.lanes.set 0 { fresh := true, claim := 0xC1, freshAt := 100 } })
      (fun w => w.powered && w.lanes[0].fresh && decide (w.lanes[0].freshAt + 1200 ≤ 1300)) (.claimStale (wl 1300) .a)
      (fun x => !x.lanes[0].fresh && x.accepted == none)] = true := by decide +kernel

theorem witness_AcceptedWordApplies : all [
    meetsW (weltS fun w => { w with apply := [(7, 0, word 0xC1 1 3001 0xE)], pkrDrop := true, pkrArm := true })
      (fun w => w.apply == [(7, 0, word 0xC1 1 3001 0xE)]) (.claimApply (wl 7))
      (fun x => x.apply.isEmpty && x.sp0 == 3000 && x.so0Req && x.so1Req && x.pkrReq && x.clamp &&
        x.accSeq == 1 && !x.pkrDrop),
    meetsW (weltS fun w => { w with apply := [(7, 0, word 0xC1 1 3000 0)], pkrDrop := true }) (fun w => w.powered)
      (.claimApply (wl 7)) (fun x => x.sp0 == 3000 && !x.clamp && x.pkrDrop)] = true := by decide +kernel

theorem witness_OrphanedWeltFallsBack : all [
    meetsW (weltS fun w => { w with orphSet := false }) (fun w => w.powered && w.orphan == some 0)
          (.weltStatusSend (wl 12))
      (fun x => x.orphSet && !x.so0),
    meetsW (weltS fun w => { w with sp0 := 50, set6 := 60, sp1 := 90, set7 := 80 })
      (fun w => w.orphan == some 0 && w.set8.toNat % 256 == 20) (.orphHoldExpiry (wl 800000))
      (fun x => x.sp0 == 60 && x.sp1 == 90),
    meetsW State.reset (fun w => w.orphan == some 0 && w.set8.toNat / 256 == 20) (.pkrDelayExpiry (wl 80000000))
      (fun x => x.pkrDrop && !x.pkrArm && !x.pkr)] = true := by decide +kernel

theorem welt_orphan_safe : ({ orphSet := false } : Welt).Safe ∧ ({ sp0 := 50, set6 := 60, sp1 := 90, set7 := 80 } : Welt).Safe := by
  exact ⟨safe_of_off _ rfl rfl rfl rfl rfl rfl (by decide), safe_of_off _ rfl rfl rfl rfl rfl rfl (by decide)⟩

theorem witness_SolenoidsAreRegulated : all [
    meetsW (weltS fun w => { runW w with sp0 := 500, sol0 := { onCount := 10 } }) (fun w => w.powered)
      (.solPwmPeriodStart (wl 50) 0) (fun x => x.sol0.on && x.sol0.perAt == 50 && x.sol1.onCount == 0),
    meetsW (weltS fun w => { runW w with sp0 := 0, sol0 := { onCount := 10 } }) (fun w => w.powered)
      (.solLoopInterval (wl 50) 0 7) (fun x => x.sol0.onCount == 0 && x.sol0.ma == 7 && x.sol0.openAt == none),
    meetsW (weltS fun w => { runW w with sp0 := 500, sol0 := { on := true, onCount := 10, perAt := 50 } })
      (fun w => decide (w.sol0.perAt + w.sol0.onCount ≤ 60)) (.weltStatusSend (wl 60))
      (fun x => !x.sol0.on && x.sol0.onCount == 10),
    meetsW State.reset (fun w => decide (w.ditherAt + 200000 ≤ 200000)) (.ditherToggle (wl 200000))
      (fun x => !x.dither && x.ditherAt == 200000),
    meetsW (weltS fun w => { runW w with sol0 := { on := true } }) (fun w => w.powered) (.solShort (wl 50) 0)
      (fun x => x.sol0.fault && !x.sol0.on && !x.sol1.fault),
    meetsW (weltS fun w => { w with sol0 := { openAt := some 5 } }) (fun w => w.sol0.openAt == some 5)
      (.solOpen (wl 800005) 0) (fun x => x.sol0.fault),
    ({ sp0 := 700, set9 := 0x264 } : Welt).target 0 == 800, ({ sp0 := 70, set9 := 0x264, dither := false } : Welt).target 0 == 0]
    = true := by decide +kernel

/-- Guard pair 0 enabled: SET1 bit 0 (R308, R323). -/
theorem witness_GuardPairsFollowTheirInputs : all [
    meetsW (weltS fun w => { w with set1 := 0 }) (fun w => !w.pairEn 0 && w.siReady 200000 0)
      (.siLevelAccepted (wl 200000) 0 true) (fun x => x.si == 1 && x.siAt[0] == some 200000 && x.pair0 == {}),
    meetsW State.reset (fun w => !w.siReady 157559 0) (.siLevelAccepted (wl 157559) 0 true) (fun x => x.si == 0),
    meetsW (weltS fun w => { w with siAt := w.siAt.set 0 (some 9) }) (fun w => !w.siReady 157568 0)
      (.siLevelAccepted (wl 157568) 0 true) (fun x => x.si == 0 && x.siAt[0] == some 9),
    meetsW (weltS fun w => { w with si := 3, pair0 := { st := .closed } })
      (fun w => w.pairEn 0 && w.pair0.st == .closed && !({ w with si := setBit w.si 0 false } : Welt).closedIn 0)
      (.siLevelAccepted (wl 200000) 0 false) (fun x => x.pair0.st == .transit && x.pair0.at_ == 200000 && x.pair1 == {}),
    meetsW (weltS fun w => { w with pair0 := { st := .open_ } })
      (fun w => w.pairEn 0 && w.pair0.st == .open_ && !({ w with si := setBit w.si 0 true } : Welt).openIn 0)
      (.siLevelAccepted (wl 200000) 0 true) (fun x => x.pair0.st == .transit && x.pair0.at_ == 200000),
    meetsW (weltS fun w => { w with si := 1, pair0 := { st := .transit } })
      (fun w => w.pairEn 0 && ({ w with si := setBit w.si 0 false } : Welt).openIn 0)
      (.siLevelAccepted (wl 200000) 0 false) (fun x => x.pair0.st == .open_),
    meetsW (weltS fun w => { w with si := 2, pair0 := { st := .transit } })
      (fun w => w.pairEn 0 && !w.pair0.fromClosed && ({ w with si := setBit w.si 0 true } : Welt).closedIn 0)
      (.siLevelAccepted (wl 200000) 0 true) (fun x => x.pair0.st == .closed && !x.pair0.passed),
    meetsW (weltS fun w => { w with st := .start, si := 2, pair0 := { st := .transit, fromOpen := true } })
      (fun w => w.pairEn 0 && w.pair0.fromOpen && w.st == .start) (.siLevelAccepted (wl 200000) 0 true)
      (fun x => x.pair0.st == .closed && x.pair0.passed),
    meetsW (weltS fun w => { w with pair0 := { st := .transit, at_ := 0 }, st := .run })
      (fun w => w.pairEn 0 && decide (39400 * w.set3.toNat ≤ 3940000)) (.siDiscrepancy (wl 3940000) 0)
      (fun x => x.st == .lockout && x.cause == some .discrepancy && x.causes.contains .discrepancy && x.pair0.disc)]
    = true := by decide +kernel

theorem witness_TestPulsesFindCrossCircuits : all [
    meetsW (weltS fun w => { w with st := .run }) (fun w => w.st != .init && w.tpStage && w.tpDue 9 0)
      (.tpPulseStart (wl 9) 0 5) (fun x => !x.tp0 && x.tpLow0 && x.tpAt0 == some 9 && x.tpSnap0 == 5),
    meetsW (weltS fun w => { w with st := .run, tpAt0 := some 9 }) (fun w => w.tpDue 1000009 1)
      (.tpPulseStart (wl 1000009) 1 5) (fun x => !x.tp1 && x.tpLow1),
    meetsW (weltS fun w => { w with st := .run }) (fun w => !w.tpDue 9 1) (.tpPulseStart (wl 9) 1 5)
      (fun x => !x.tpLow1 && x.tpSnap1 == 0),
    meetsW (weltS fun w => { runW w with tpLow0 := true, tpAt0 := some 9, tpGood := 2 })
      (fun w => w.tpStage && w.tpOver 20009 0) (.tpPulseEnd (wl 20009) 0 5 false)
      (fun x => x.tp0 && x.tpGood == 0 && x.causes.contains .crossCircuit && !x.so0),
    meetsW (weltS fun w => { w with st := .lockout, tpLow0 := true, tpAt0 := some 9, tpGood := 3, causes := [.crossCircuit],
                                    set1 := 0 })
      (fun w => w.tpOver 20009 0 && w.tpPair 0 w.tpSnap0 0 0 && w.tpPair 0 w.tpSnap0 0 1)
      (.tpPulseEnd (wl 20009) 0 0 true) (fun x => x.tp0 && x.causes.isEmpty),
    meetsW (weltS fun w => { w with tpLow0 := true, tpAt0 := some 9 }) (fun w => !w.tpOver 20008 0)
      (.tpPulseEnd (wl 20008) 0 0 true) (fun x => x.tpLow0 && x.tpGood == 0),
    meetsW (weltS fun w => { w with vload := false }) (fun w => !w.tpStage) (.weltStatusSend (wl 9))
      (fun x => !x.tp0 && !x.tp1)] = true := by decide +kernel

theorem witness_WeltFaultsTurnOutputsOff : all [
    meetsW (weltS fun w => { runW w with pkr := true }) (fun w => w.powered) (.pkrFault (wl 9))
      (fun x => x.pkrFault && !x.pkr && x.note == some .pkrFault),
    meetsW (weltS fun w => { runW w with so0 := true }) (fun w => w.st == .run) (.soFault (wl 9) ⟨0, true⟩)
      (fun x => !x.so0 && x.st == .lockout && x.causes.contains .soFault && x.soBad[0]),
    meetsW (weltS fun w => { w with soBad := #v[true, false], causes := [.soFault] }) (fun w => w.soBad[0])
      (.soFault (wl 9) ⟨0, false⟩) (fun x => !x.soBad[0] && x.soAt == 9 && x.causes == [.soFault]),
    meetsW (weltS runW) (fun w => w.st == .run) (.vloadLow (wl 9)) (fun x => !x.vload && x.st == .lockout),
    meetsW (weltS fun w => { w with vload := false, causes := [.vload] }) (fun w => w.powered)
          (.vloadRecovered (wl 9))
      (fun x => x.vload && x.causes.isEmpty),
    meetsW (weltS runW) (fun w => w.powered) (.weltClockStop (wl 9)) (fun x => x.dead && !x.tp0 && x.st == .lockout),
    meetsW (weltS runW) (fun w => w.powered) (.weltInternalFault (wl 9)) (fun x => x.dead && !x.tp1 &&
          x.st == .lockout)]
    = true := by decide +kernel

/-- Welt 1 with both of its channels without supply. -/
def dark (f : Welt → Welt) : State :=
  let off (c : Channel) : Channel := { c with rst := { c.rst with phase := .unpowered } }
  { State.reset with chA := off State.reset.chA, chB := off State.reset.chB, w1 := f State.reset.w1 }

theorem witness_WeltStartsFromItsResetValues : all [
    (weltS id).fed .w1 && meetsW (weltS fun w => { w with powered := false, set5 := 1 }) (fun w => !w.powered)
      (.weltPowerUp (wl 9)) (fun x => x.initAt == 9 && x.orphan == some 9 && x.set5 == 0xF && x.powered),
    !(dark runW).fed .w1 && meetsW (dark fun w => { w with powered := false }) (fun w => !w.powered) (.weltPowerUp (wl 9))
      (fun x => !x.powered),
    !(dark runW).feeds .w1 Channel.legUp && meetsW (dark runW) (fun w => w.powered) (.weltPowerLoss (wl 9))
      (fun x => !x.powered && !x.wstat && !x.tp0),
    (weltS runW).feeds .w1 Channel.legUp && meetsW (weltS runW) (fun w => w.powered) (.weltPowerLoss (wl 9))
      (fun x => x.powered && x.wstat),
    meetsW State.reset (fun w => w.st == .init && decide (w.initAt + 80000 ≤ 80000))
          (.weltSelfcheckDone (wl 80000) false)
      (fun x => x.st == .lockout && x.cause == some .internal && x.dead),
    meetsW State.reset (fun w => w.st == .init && w.causes.isEmpty) (.weltSelfcheckDone (wl 80000) true)
      (fun x => x.st == .start),
    meetsW (weltS fun w => { w with set1 := 0 }) (fun w => !w.pairEn 0 && !w.pairEn 1)
          (.weltSelfcheckDone (wl 80000) true)
      (fun x => x.st == .run),
    meetsW (weltS fun w => { w with held := [(5, 0xF)] }) (fun w => !w.so0 && !w.so1) (.weltSettingApply (wl 9))
      (fun x => x.held.isEmpty && x.set5 == 0xF),
    meetsW (weltS fun w => { runW w with so0 := true, held := [(5, 1)] }) (fun w => w.so0) (.weltSettingApply (wl 9))
      (fun x => x.held == [(5, 1)] && x.set5 == 0xF),
    meetsW (weltS fun w => { w with st := .start }) (fun w => w.causes.isEmpty && w.pairEn 0 && !w.pair0.passed)
      (.wstatAlternate (wl 9)) (fun x => x.wstat)] = true := by decide +kernel

/-- A lane with a fresh claim that asked for a reset at WCLK 3. -/
def seen (claim : BitVec 8) : Lane := { fresh := true, claim := claim, sight := some 3 }

theorem witness_DeliberateResetNeedsItsConditions : all [
    meetsW State.reset (fun w => !w.wrst) (.wrstHigh (wl 9)) (fun x => x.wrst && x.wrstAt == 9),
    meetsW (weltS fun w => { w with
                                 st := .lockout, wrst := true, set1 := 0, sol0 := { fault := true }
                                 lanes := #v[seen 0xC1, seen 0x42, {}] })
      (fun w => w.resetAllowed 20000000) (.weltDeliberateReset (wl 20000000))
      (fun x => !x.wrst && x.sol0.fault && x.rstr == 0 && x.resetAt == some 20000012),
    meetsW (weltS fun w => { w with st := .lockout, resetAt := some 12, set1 := 0, sol0 := { fault := true } })
      (fun w => w.resetAt == some 12 && !w.resetBad) (.weltStatusSend (wl 12))
      (fun x => x.resetAt == none && !x.sol0.fault && x.st == .run && x.rstr == 0),
    meetsW (weltS fun w => { w with st := .lockout, resetAt := some 12, resetBad := true, causes := [.soFault] })
      (fun w => w.resetBad) (.weltStatusSend (wl 12))
      (fun x => x.resetAt == none && x.rstr == 1 && x.causes == [.soFault]),
    meetsW (weltS fun w => { w with resetAt := some 21 }) (fun w => w.resetAt == some (9 + 12)) (.pkrFault (wl 9))
      (fun x => x.resetBad && x.resetAt == some 21),
    meetsW (weltS fun w => { w with wrst := true, causes := [.soFault] }) (fun w => !w.resetAllowed 9)
      (.weltDeliberateReset (wl 9)) (fun x => x.rstr == 1 && x.causes == [.soFault])] = true := by decide +kernel

/-- Leg k of channel A. -/
def leg0 (f : Leg → Leg) (c : Channel) : Channel := c.setLeg 0 (f c.gd.legs[0])

/-- Gate drive with HB0 driven: the drive in RUN and PIS closed (R176, R228). -/
def driven (c : Channel) : Channel :=
  { c with sd := { c.sd with st := .run, pisClosed := true, perAt := some 0 }, gd := { c.gd with pisEn := true, pisOk := 7 } }

theorem witness_LanesNeverTurnBothGatesOn : all [
    meets (chan driven) (fun c => c.alive && c.gd.legs[0].sto == .none) (.laneEdge (l 5) 0 true true)
      (fun y => y.gd.grpS.interlock == 1 && !y.gd.legs[0].hs && !y.gd.legs[0].ls && y.fcl.raised.contains (29, 0)),
    meets (chan driven) (fun c => c.request 5 0 != (false, true)) (.laneEdge (l 5) 0 false true)
      (fun y => !y.gd.legs[0].enable && !y.gd.legs[0].ls),
    meets State.reset (fun c => c.request 5 0 == (false, false)) (.laneEdge (l 5) 0 false false)
      (fun y => !y.gd.legs[0].enable && y.fcl == {}),
    meets (chan driven) (fun c => c.request 5 0 == (true, false) && c.legDriven 0 &&
        !(c.gd.legs[0].bstBlock && c.gd.legs[0].bstLow))
      (.laneEdge (l 5) 0 true false) (fun y => y.gd.legs[0].hs && !y.gd.legs[0].ls && y.gd.legs[0].pulse),
    meets (chan fun c => driven (c.setLeg 0 { Leg.reset with hs := true, onAt := 3 }))
      (fun c => c.request 5 0 == (true, false) && c.gd.legs[0].hs)
      (.laneEdge (l 5) 0 true false) (fun y => y.gd.legs[0].hs && y.gd.legs[0].onAt == 3),
    meets (chan driven) (fun c => c.request 0 0 == (false, true) && c.legDriven 0) (.laneEdge (l 0) 0 false true)
      (fun y => !y.gd.legs[0].hs && y.gd.legs[0].ls && !y.gd.legs[0].pulse),
    (State.reset.chA.request 5 0) == (false, false),
    { driven State.reset.chA with sd := { (driven State.reset.chA).sd with cmpA := 5000 } }.request 25000 0 ==
      (false, true)] = true := by decide +kernel

theorem witness_LegsLatchTheirFaults : all [
    meets State.reset (fun c => c.validTsw 2000 0 .lsOff 3200) (.switchTransition (l 2000) 0 .rise .lsOff 3200)
      (fun y => y.gd.legs[0].rise == 3200 && y.gd.legs[0].fall == 0),
    meets (chan (leg0 fun x => { x with hs := true, offAt := 9000 }))
      (fun c => c.validTsw 2000 0 .hsOn 3200 && c.gdf (legBase 0) 9 1 == 1) (.switchTransition (l 2000) 0 .fall .hsOn 3200)
      (fun y => y.gd.legs[0].fall == 3200 && y.gd.legs[0].codeHsOn == 9 && y.gd.legs[0].codeHsOff == 8),
    meets State.reset (fun c => !c.validTsw 2000 0 .lsOff 3201) (.switchTransition (l 2000) 0 .fall .lsOff 3201)
          (fun y => y.gd.legs[0].fall == 0),
    holds (chan (leg0 fun x => { x with hs := true, onAt := 5 })) (fun c => c.blanked 5 0 && c.gd.legs[0].isOn 5),
    holds (chan (leg0 fun x => { x with hs := true, onAt := 5 }))
      (fun c => !c.blanked 900000 0 && c.gd.legs[0].isOn 900000 && c.tripsShort 900000 0 0 12701),
    meets (chan (leg0 fun x => { x with hs := true })) (fun c => !c.gd.legs[0].trip && c.tripsShort 5 0 99999 0)
      (.shortTrip (l 5) ⟨0, 99999, 0⟩)
      (fun y => y.gd.legs[0].trip && y.gd.legs[0].scTrips == 1 && y.gd.grpS.tripFlag && y.gd.legs[0].sto == .level &&
        y.gd.legs[0].stoAt == 5),
    meets (chan fun c => { c with gd := { c.gd with firstTrip := some 5 } }) (fun c => c.gd.firstTrip == some 5)
      (.shortTrip (l 1005) ⟨0, 99999, 0⟩) (fun y => y.gd.grpS.sc2 && y.gd.grpA.sc2),
    meets (chan (leg0 fun x => { x with trip := true })) (fun c => c.gd.legs[0].trip) (.shortTrip (l 5) ⟨0, 99999, 0⟩)
      (fun y => y.gd.legs[0].scTrips == 0),
    meets State.reset (fun c => !c.tripsShort 5 0 0 0) (.shortTrip (l 5) ⟨0, 0, 0⟩) (fun y => !y.gd.legs[0].trip),
    meets (chan (leg0 fun x => { x with sto := .level, stoAt := 0, ls := true }))
      (fun c => c.gd.legs[0].sto == .level && decide (10 * c.gdf (grpBase .steer + 1) 4 8 ≤ 2550))
      (.stoHoldEnd (l 2550) 0) (fun y => y.gd.legs[0].sto == .none && !y.gd.legs[0].ls && y.gd.legs[0].offAt == 2550),
    meets (chan (leg0 fun x => { x with ls := true })) (fun c => c.alive) (.gateFault (l 5) 0)
      (fun y => y.gd.legs[0].gate && !y.gd.legs[0].ls && y.fcl.raised.contains (24, grpDetail .steer)),
    meets State.reset (fun c => !c.gd.legs[0].bstLow && !c.blanked 5 0) (.bootstrapUv (l 5) 0 true)
      (fun y => y.gd.legs[0].bstLow && y.gd.legs[0].bstBlock && y.gd.legs[0].bstUvCnt == 1 &&
        y.fcl.raised.contains (28, 0)),
    meets (chan (leg0 fun x => { x with hs := true, onAt := 5 })) (fun c => c.blanked 5 0) (.bootstrapUv (l 5) 0 true)
      (fun y => !y.gd.legs[0].bstLow),
    meets (chan (leg0 fun x => { x with bstLow := true })) (fun c => c.alive) (.bootstrapUv (l 5) 0 false)
      (fun y => !y.gd.legs[0].bstLow)] = true := by decide +kernel

theorem witness_GateGroupsFollowTheDie : all [
    meets (chan fun c => leg0
          (fun x => { x with hs := true }) { c with gd := { c.gd with dsNext := some 0, dsAt := 15 } })
      (fun c => c.gd.dsNext == some 0 && decide (c.gd.dsAt ≤ 5 + 10) && c.gd.nextOn 5 0 == some 0)
        (.doubleShortStep (l 5))
      (fun y => y.gd.legs[0].trip && y.gd.legs[0].sto == .level && y.gd.dsNext == some 1 && y.gd.dsAt == 105),
    meets (chan fun c => { c with gd := { c.gd with dsNext := some 0, bchGate := true } })
      (fun c => c.gd.nextOn 5 0 == some 6) (.doubleShortStep (l 5))
      (fun y => y.gd.dsNext == none && y.gd.bchTrip && y.gd.bchSto == .level && y.gd.bchGate),
    meets (chan fun c => { c with gd := { c.gd with dsNext := some 0 } })
      (fun c => c.gd.nextOn 5 0 == none) (.doubleShortStep (l 5)) (fun y => y.gd.dsNext == none && !y.gd.bchTrip),
    meets (chan fun c => { c with gd := { c.gd with bchSto := .level, bchGate := true } })
      (fun c => c.gd.bchSto == .level && decide (c.gd.bchStoAt + c.stoHold .steer ≤ 2550)) (.stoHoldEnd (l 2550) 6)
      (fun y => y.gd.bchSto == .none && !y.gd.bchGate),
    meets (chan fun c => { c with sd := { c.sd with st := .run }, gd := { c.gd with grpS := { c.gd.grpS with tripFlag := true, sc2 := true } } })
      (fun c => (c.grp .steer).tripFlag && (c.grp .steer).sc2 && c.sd.st == .run) (.shortReport (l 5) .steer)
      (fun y => !y.gd.grpS.tripFlag && y.fcl.raised.contains (21, 0) && y.fcl.raised.contains (23, 0) &&
        y.sd.st == .opening),
    meets (chan fun c => { c with gd := { c.gd with bch := true, grpS := { c.gd.grpS with sc2 := true, sc2Flag := true } } })
      (fun c => !(c.grp .steer).tripFlag && (c.grp .steer).sc2Flag && (c.grp .steer).sc2) (.shortReport (l 5) .steer)
      (fun y => !y.gd.grpS.sc2Flag && y.fcl.raised == [(23, 0)] && !y.gd.bch),
    meets (chan fun c => { c with ad := { c.ad with st := .run }, gd := { c.gd with grpA := { c.gd.grpA with tripFlag := true } } })
      (fun c => (c.grp .aux).tripFlag && c.ad.st != .off) (.shortReport (l 5) .aux)
      (fun y => y.fcl.raised.contains (22, 0) && y.ad.st == .off),
    meets (chan (leg0 fun x => { x with hs := true })) (fun c => c.alive) (.vgdUndervoltage (l 5))
      (fun y => !y.gd.legs[0].hs && y.gd.vgdLow && y.gd.vgdLowA && y.fcl.raised.contains (26, 0)),
    meets (chan driven) (fun c => c.gd.pisEn && decide (c.gd.pisAt + usec 100 ≤ 100000)) (.pisFault (l 100000) 2)
      (fun y => y.gd.pisOk == 3 && y.gd.pisLatched && y.fcl.raised.contains (25, 0)),
    meets (chan driven) (fun c => decide (99999 < c.gd.pisAt + usec 100)) (.pisFault (l 99999) 2)
      (fun y => y.gd.pisOk == 7 && !y.gd.pisLatched),
    meets State.reset (fun c => !c.gd.pisEn) (.pisFault (l 5) 2)
          (fun y => !y.gd.pisLatched)] = true := by decide +kernel

/-- The chopper enabled with ON 40,000 and OFF 39,000 (R245, R261). -/
def chopping (c : Channel) : Channel :=
  { c with params := [(0x3900, 39000 * 65536 + 40000), (0x3901, 1)], act := [(0x3900, 39000 * 65536 + 40000), (0x3901, 1)] }

theorem witness_ChopperAndLinkLimits : all [
    meets State.reset (fun c => !c.chopperOn) (.chopperSample (l 5) 9 true) (fun y => !y.gd.bch && y.gd.iSeen),
    meets (chan fun c => { c with gd := { c.gd with bch := true } }) (fun c => !c.chopperOn && c.gd.bch)
      (.chopperSample (l 5) 9 true) (fun y => !y.gd.bch && !y.gd.iSeen),
    meets (chan chopping) (fun c => c.chopperOn && !c.gd.bch && decide (c.af 0x3900 0 16 ≤ 40000))
      (.chopperSample (l 5) 40000 true) (fun y => y.gd.bch && y.gd.bchOnAt == 5 && y.gd.onCnt == 1),
    meets (chan chopping) (fun c => c.chopperOn && !c.gd.bch && decide (39999 < c.af 0x3900 0 16))
      (.chopperSample (l 5) 39999 true) (fun y => !y.gd.bch && y.gd.onCnt == 0),
    meets (chan fun c => chopping { c with gd := { c.gd with bch := true } })
      (fun c => c.chopperOn && c.gd.bch && decide (39000 ≤ c.af 0x3900 16 16) &&
        decide (39000 < c.af 0x3900 0 16 + 10 * c.af 0x3901 9 8) && decide (usec (c.af 0x3901 1 8) ≤ 50))
      (.chopperSample (l 50) 39000 false) (fun y => !y.gd.bch),
    meets (chan fun c => { c with gd := { c.gd with asc := true, pisEn := true }, sd := { c.sd with st := .asc } })
      (fun c => c.gd.asc && decide (msec (c.af 0x3901 25 7) ≤ 200000000)) (.ascTmaxExpiry (l 200000000))
      (fun y => !y.gd.asc && y.sd.st == .off && !y.gd.pisEn),
    meets (chan driven) (fun c => c.alive) (.vlinkAbs (l 5))
      (fun y => y.gd.vlinkAbs && y.sd.st == .off && y.gd.pisOk == 0 &&
        y.fcl.raised.contains (31, 0))] = true := by decide +kernel

/-- The interconnect test runs (R534). -/
def linkTest : State := chan fun c => { c with mg := { c.mg with bist := some (1, .hp0, 0) } }

theorem witness_GateDriverLinkAndTests : all [
    meets linkTest (fun c => c.linksOut && c.gd.gdlFails == 0) (.gdlFrame (l 5) ⟨.toDie, false⟩) (fun y => y.gd.gdlFails == 0),
    meets (chan driven) (fun c => c.alive) (.gclkLoss (l 5)) (fun y => y.gd.gclkHold && !y.gd.configured &&
          y.gd.pisOk == 0),
    meets (chan fun c => { c with gd := { c.gd with gdlFails := 1 } }) (fun c => c.gd.gdlFails != 2)
          (.gdlFrame (l 5) ⟨.toDie, false⟩)
      (fun y => y.gd.gdlFails == 2 && y.fcl == {}),
    meets (chan fun c => { c with gd := { c.gd with gdlFails := 2 } }) (fun c => c.gd.gdlFails == 2)
          (.gdlFrame (l 5) ⟨.toDie, false⟩)
      (fun y => y.gd.gdlFails == 3 && y.gd.gclkHold && !y.gd.configured && y.fcl.raised.contains (32, 0)),
    meets (chan fun c => { c with act := [(5, 1), (0x3800, 7)], gd := { c.gd with configured := false } })
      (fun c => !c.gd.configured) (.gdlFrame (l 5) ⟨.toDie, true⟩) (fun y => y.gd.configured && y.gd.dieCopy == [(0x3800, 7)]),
    meets (chan fun c => { c with gd := { c.gd with gdlFails := 2 } }) (fun c => c.gd.configured)
          (.gdlFrame (l 5) ⟨.toDie, true⟩)
      (fun y => y.gd.gdlFails == 0),
    meets (chan fun c => { c with gd := { c.gd with gdlFailsUp := 1 } }) (fun c => c.gd.gdlFailsUp != 2)
      (.gdlFrame (l 5) ⟨.fromDie, false⟩) (fun y => y.gd.gdlFailsUp == 2 && y.gd.gdlFails == 0 && y.fcl == {}),
    meets (chan fun c => { c with gd := { c.gd with gdlFailsUp := 2 } }) (fun c => c.gd.gdlFailsUp == 2)
      (.gdlFrame (l 5) ⟨.fromDie, false⟩) (fun y => y.gd.gclkHold && y.fcl.raised.contains (32, 0)),
    meets (chan fun c => { c with gd := { c.gd with gdlFailsUp := 2 } }) (fun c => c.alive) (.gdlFrame (l 5) ⟨.fromDie, true⟩)
      (fun y => y.gd.gdlFailsUp == 0),
    meets (chan fun c => c.setGrp .steer { c.gd.grpS with testBusy := true }) (fun c => !c.gd.testBchOff)
      (.gdSelftestEnd (l 5) .steer 1) (fun y => y.gd.grpS.testBusy && !y.gd.grpS.testDone),
    meets (chan fun c => { c with gd := { c.gd with testBchOff := true, grpS := { c.gd.grpS with testBusy := true } } })
      (fun c => c.gd.testBchOff && (c.grp .steer).testBusy) (.gdSelftestEnd (l 5) .steer 0)
      (fun y => y.gd.grpS.testDone && !y.gd.grpS.testFail),
    meets (chan fun c => c.setGrp .aux { c.gd.grpA with testBusy := true }) (fun c => (c.grp .aux).testBusy)
      (.gdSelftestEnd (l 5) .aux 0xF1)
      (fun y => y.gd.grpA.testDone && y.gd.grpA.testFail && y.gd.grpA.failed == 1 &&
        y.fcl.raised.contains (27, grpDetail .aux)),
    meets State.reset (fun c => !(c.grp .aux).testBusy) (.gdSelftestEnd (l 5) .aux 1) (fun y => !y.gd.grpA.testDone)]
    = true := by decide +kernel

/-- Encoder 0 of channel A. -/
def enc0 (f : Enc → Enc) : State := chan fun c => { c with fb := { c.fb with enc := c.fb.enc.set 0 (f c.fb.enc[0]) } }

theorem witness_EncodersAndHallsCount : all [
    meets State.reset (fun c => c.encLines 5 0 .aEdge && c.fb.enc[0].a == c.fb.enc[0].b) (.encoderEdge (l 5) 0 .aEdge)
      (fun y => y.fb.enc[0].a && y.fb.enc[0].count == 1),
    meets State.reset (fun c => c.encLines 5 0 .bEdge) (.encoderEdge (l 5) 0 .bEdge) (fun y => y.fb.enc[0].b &&
          y.fb.enc[0].count == 0xFFFFFFFF),
    meets (enc0 fun e => { e with aAt := some 5 }) (fun c => !c.encLines 20 0 .aEdge) (.encoderEdge (l 20) 0 .aEdge)
      (fun y => !y.fb.enc[0].a && y.fb.enc[0].count == 0),
    meets (enc0 fun e => { e with zAt := some 5 }) (fun c => !settled c.fb.enc[0].zAt (c.af 0x3DF0 0 8) 2 44)
      (.zIndex (l 44) 0) (fun y => !y.fb.enc[0].indexed),
    meets (chan fun c => c.setHall 0 { lineAt := Vector.replicate 3 (some 5) }) (fun c => !c.hallLines 20 0 5)
      (.hallEdge (l 20) 0 5) (fun y => y.fb.hall[0].prev == none),
    meets State.reset (fun c => c.encLines 5 1 .both) (.encoderEdge (l 5) 1 .both)
      (fun y => !y.fb.enc[1].valid && y.fb.enc[1].illegal == 1 && y.fcl.raised.contains (33, 0)),
    meets (chan fun c => { c with fb := { c.fb with enc := c.fb.enc.set 0 { count := 7 } } }) (fun c => c.alive)
          (.zIndex (l 5) 0)
      (fun y => y.fb.enc[0].nZ == 7 && y.fb.enc[0].indexed),
    meets State.reset (fun c => c.fb.hall[0].prev != some 7) (.hallEdge (l 5) 0 7)
      (fun y => !y.fb.hall[0].valid && y.fb.hall[0].invCode == 1 && y.fcl.raised.contains (34, 0)),
    meets State.reset (fun c => c.fb.hall[0].prev == none) (.hallEdge (l 5) 0 5) (fun y => y.fb.hall[0].valid &&
          y.fb.hall[0].code == 5),
    meets (chan fun c => c.setHall 0 { code := 5, prev := some 5, valid := true })
          (fun c => c.fb.hall[0].prev != some 4)
      (.hallEdge (l 5) 0 4) (fun y => y.fb.hall[0].valid && y.fb.hall[0].prev == some 4)] = true := by decide +kernel

/-- SENT input 0 of channel A. -/
def sent0 (f : Sent → Sent) : State := chan fun c => c.setSent 0 (f c.fb.sent[0])

theorem witness_SentFramesAreTimed : all [
    meets (sent0 id) (fun c => c.fb.sent[0].lastEdge == none && c.fb.sent[0].judge.isEmpty) (.sentPulse (l 200000) 0)
      (fun y => y.fb.sent[0].lastEdge == some 39958 && y.fb.sent[0].ph == .search),
    meets (sent0 fun x => { x with fellAt := some 199990 })
      (fun c => !settled c.fb.sent[0].fellAt (c.af 0x3DF0 16 8) 2 200000) (.sentPulse (l 200000) 0)
      (fun y => y.fb.sent[0].lastEdge == none),
    meets (sent0 fun x => { x with lastEdge := some 0 }) (fun c => isSync (39958 - 0) && c.fb.sent[0].ph == .search)
      (.sentPulse (l 200000) 0) (fun y => y.fb.sent[0].ph == .nibbles && y.fb.sent[0].syncLen == 39958),
    meets (sent0 fun x => { x with lastEdge := some 39950 }) (fun _ => !isSync 8) (.sentPulse (l 200000) 0)
      (fun y => y.fb.sent[0].ph == .search && y.fb.sent[0].lastEdge == some 39958),
    meets (sent0 fun x => { x with lastEdge := some 39950, ph := .nibbles, syncLen := 5600 })
      (fun _ => !decide (23 * 5600 ≤ 112 * 8)) (.sentPulse (l 200000) 0)
      (fun y => y.fb.sent[0].ph == .search && y.fb.sent[0].judge == [(200000 + tclk 40, .tick)]),
    meets (sent0 fun x => { x with valid := true, ph := .nibbles })
      (fun c => decide (100000 * c.af 0x3C40 13 8 ≤ 3000000)) (.sentTimeout (l 3000000) 0)
      (fun y => !y.fb.sent[0].valid && y.fb.sent[0].ph == .search && y.fcl.raised.contains (35, 0)),
    meets (sent0 fun x => { x with valid := true }) (fun c => decide (2999999 < 100000 * c.af 0x3C40 13 8))
      (.sentTimeout (l 2999999) 0) (fun y => y.fb.sent[0].valid)] = true := by decide +kernel

/-- A wheel-speed input at the end of a whole window. -/
def closing : Wss := { valid := true, clean := true, cnt := 3, odo := 9, nextCnt := 2, winAt := some 0 }

/-- Wheel-speed input 1, in a cycle that starts at 2 ms. -/
def windowed (x : Wss) : State :=
  chan fun c => { c with fb := { c.fb with wss := c.fb.wss.set 1 x }
                         net := { c.net with nt := { c.net.nt with cycStart := 2000000 } } }

theorem witness_WheelAndAnalogInputs : all [
    meets (chan fun c => { c with fb := { c.fb with wss := c.fb.wss.set 1 { valid := true } } })
          (fun c => c.fb.wss[1].valid && c.inputOn 7 && c.inputOn 10 && !c.wssDue 5 1)
      (.wssEdge (l 5) 1) (fun y => y.fb.wss[1].odo == 1 && y.fb.wss[1].cnt == 1),
    meets State.reset (fun c => !c.fb.wss[1].valid) (.wssEdge (l 5) 1)
      (fun y => y.fb.wss[1].odo == 0 && y.fb.wss[1].roseAt == some 5),
    meets (chan fun c => { c with fb := { c.fb with wss := c.fb.wss.set 1 { valid := true, roseAt := some 5 } } })
      (fun c => !settled c.fb.wss[1].roseAt (c.af 0x3DF0 24 8) 2 9) (.wssEdge (l 9) 1) (fun y => y.fb.wss[1].odo == 0),
    meets (windowed closing)
      (fun c => c.wssDue (1000000 * c.wssW 1) 1) (.wssWindowEnd (l (1000000 * (Channel.reset .a).wssW 1)) 1)
      (fun y => y.fb.wss[1].cnt == 2 && y.fb.wss[1].nextCnt == 0 && y.fb.wss[1].odo == 9 && y.fb.wss[1].spValid),
    meets (chan fun c => { c with fb := { c.fb with wss := c.fb.wss.set 1 { cnt := 3 } } })
      (fun c => !c.wssDue 50001 1) (.wssWindowEnd (l 50001) 1) (fun y => y.fb.wss[1].cnt == 3),
    meets (windowed { valid := true, cnt := 3 })
      (fun c => c.wssDue (1000000 * c.wssW 1) 1) (.wssEdge (l (1000000 * (Channel.reset .a).wssW 1)) 1)
      (fun y => y.fb.wss[1].odo == 1 && y.fb.wss[1].cnt == 3 && y.fb.wss[1].nextCnt == 1),
    meets (chan fun c => { c with fb := { c.fb with wss := c.fb.wss.set 1 { valid := true } }, mg := { c.mg with deadIn := 0x80 } }) (fun c => c.mg.deadIn.getLsbD 7)
      (.wssEdge (l 5) 1) (fun y => y.fb.wss[1].odo == 0),
    meets (chan fun c => { c with fb := { c.fb with wss := c.fb.wss.set 1 { valid := true } }, mg := { c.mg with bist := some (0x11, .hp0, 0) } }) (fun c => c.testRuns 0x11)
      (.wssEdge (l 5) 1) (fun y => y.fb.wss[1].odo == 0),
    meets State.reset (fun c => c.alive) (.wssCurrentTimer (l 5) 0 .open)
      (fun y => y.fb.wss[0].opn && y.fb.wss[0].faults == 1 && y.fcl.raised.contains (36, 0)),
    meets State.reset (fun c => c.alive) (.wssCurrentTimer (l 5) 0 .short) (fun y => y.fb.wss[0].shrt &&
          y.fb.wss[0].faults == 1),
    meets State.reset (fun c => c.alive) (.wssCurrentTimer (l 5) 0 .good) (fun y => y.fb.wss[0].valid && y.fcl == {}),
    meets (chan fun c => { c with fb := { c.fb with ainPend := true, ainSmp := c.fb.ainSmp.set 0 6000000 } })
      (fun c => c.fb.ainPend && decide (c.ad.pwmAt + tclk 420 ≤ 2100)) (.ainUpdate (l 2100)) (fun y => !y.fb.ainPend &&
        y.fb.ainOk[0]),
    meets (chan fun c => { c with fb := { c.fb with ainPend := true } })
      (fun c => c.fb.ainPend && decide (2099 < c.ad.pwmAt + tclk 420)) (.ainUpdate (l 2099)) (fun y => y.fb.ainPend)] = true := by decide +kernel

/-- A parameter of channel A at its default (files 04 to 10). -/
def dflt (id lo w : Nat) : Nat := (Channel.reset .a).af id lo w

/-- Channel A with another steering drive, another auxiliary drive. -/
def steer (f : Sd → Sd) : State := chan fun c => { c with sd := f c.sd }
def pump (f : Ad → Ad) : State := chan fun c => { c with ad := f c.ad }

def smp : PwmSample := ⟨1, 2, 3, 4, 5, 6, 7, 8, 9, 10, 11, 12, 13, 14, 15⟩

theorem witness_PeriodSamplesBecomeSignals : all [
    meets State.reset (fun c => c.periodDue 50000) (.pwmPeriodStart (l 50000) smp)
      (fun y => y.sd.smpIa == 1 && y.sd.smpVdc == 7 && y.sd.smpPend && y.sd.latchPend && y.ad.pwmAt == 50000 &&
        y.fb.ainPend && y.fb.ainSmp[7] == 15 && y.sd.sigIa == 0 && y.sd.perAt == some 50000),
    meets (steer fun d => { d with perAt := some 20 }) (fun c => c.periodDue 50000) (.pwmPeriodStart (l 50000) smp)
      (fun y => y.sd.loadAt == 50020),
    meets (chan fun c => { c with pwr := { c.pwr with doze := true } }) (fun c => c.pwr.doze)
      (.pwmPeriodStart (l 50000) smp) (fun y => !y.sd.smpPend),
    meets State.reset (fun c => !c.periodDue 50001) (.pwmPeriodStart (l 50001) smp) (fun y => !y.sd.smpPend),
    holds (steer fun d => { d with smpPend := true, smpIa := 9 })
      (fun c => c.sd.smpPend && decide (c.ad.pwmAt + tclk 120 ≤ 600)),
    meets (steer fun d => { d with smpPend := true, smpIa := 9 }) (fun c => c.sd.smpPend)
      (.currentSampleReady ⟨l 600, true⟩)
      (fun y => y.fcl.raised.contains (14, 0) && (y.exe.stopping || y.exe.stopped)),
    meets (steer fun d => { d with smpPend := true, smpIa := 9 }) (fun c => decide (599 < c.ad.pwmAt + tclk 120))
      (.currentSampleReady ⟨l 599, false⟩) (fun y => y.sd.sigIa == 0 && y.sd.smpPend)] = true := by decide +kernel

theorem witness_MissedCommandsLoadZeroVoltage : all [
    meets (steer fun d => { d with st := .run, latchPend := true })
      (fun c => decide (c.ad.pwmAt + tclk 9900 ≤ 49500) && !(c.ce.routedVd && c.ce.routedVq))
        (.voltageLatch (l 49500) false)
      (fun y => y.sd.nextA == 2500 && y.sd.nextC == 2500 && y.sd.missedCmd == 1 && y.sd.missedRun == 1 &&
        !y.sd.latchPend),
    holds (chan fun c => { c with sd := { c.sd with st := .run, latchPend := true, missedRun := 3 }, ce := { c.ce with routedVd := true, routedVq := true } })
      (fun c => c.ce.routedVd && c.ce.routedVq && c.sd.latchPend),
    meets (steer fun d => { d with latchPend := true, vsat := true }) (fun c => c.sd.st != .run)
      (.voltageLatch (l 49500) false) (fun y => !y.sd.latchPend && y.sd.missedCmd == 0 && !y.sd.vsat),
    meets (steer fun d => { d with latchPend := true }) (fun c => c.sd.latchPend) (.voltageLatch (l 49500) true)
      (fun y => y.fcl.raised.contains (14, 0) && (y.exe.stopping || y.exe.stopped))] = true := by decide +kernel

theorem witness_SteeringDriveLeavesRunOnFaults : all [
    meets (steer fun d => { d with st := .run, missedRun := 4, active := 7 }) (fun c => decide (4 ≤ c.sd.missedRun))
      (.missedCmdLimit (l 5)) (fun y => y.sd.st == .opening && y.sd.lastLeave == 5 && y.sd.wndFaults == 1 &&
        y.sd.active == 6 &&
        y.fcl.raised.contains (16, 0)),
    meets (steer fun d => { d with st := .run, missedRun := 3 }) (fun c => decide (c.sd.missedRun < 4))
          (.missedCmdLimit (l 5))
      (fun y => y.sd.st == .run),
    meets (steer fun d => { d with st := .run, isumRun := 8 }) (fun c => decide (8 ≤ c.sd.isumRun)) (.isumFault (l 5))
      (fun y => y.sd.st == .opening && y.sd.lastLeave == 3),
    meets (steer fun d => { d with st := .run, isumRun := 7 }) (fun c => decide (c.sd.isumRun < 8)) (.isumFault (l 5))
      (fun y => y.sd.st == .run),
    meets (steer fun d => { d with st := .closing }) (fun c => c.sd.closingAt == 0)
      (.settleElapsed (l (usec (100 * dflt 0x3003 0 8)))) (fun y => y.sd.settled),
    meets (steer fun d => { d with speedWait := true })
      (fun c => c.sd.st == .off && c.belowNmax 5 && !c.gd.grpS.testBusy && !c.sup.ov) (.speedBelowNmax (l 5))
      (fun y => y.sd.st == .closing && !y.sd.speedWait && y.gd.pisEn),
    meets (chan fun c => { c with sd := { c.sd with speedWait := true }, fb := { c.fb with enc := c.fb.enc.set 0 { speed := { cur := 0x4B000000 } } } })
      (fun c => !c.belowNmax 5) (.speedBelowNmax (l 5)) (fun y => y.sd.st == .off && y.sd.speedWait),
    meets (steer fun d => { d with st := .opening }) (fun c => c.sd.openingAt == 0)
      (.openTmaxExpiry (l (usec (10 * dflt 0x3003 8 8)))) (fun y => y.sd.st == .off &&
        !y.gd.pisEn)] = true := by decide +kernel

theorem witness_CommutationFollowsTheCrossing : all [
    meets (pump fun a => { a with st := .run, tExp := 100000, t60 := F32.ofInt 16000 })
      (fun c => !c.ad.fresh && c.ad.tZc == none && c.adSearch 100000 && !c.adBlanked 100000)
        (.zeroCrossing (l 100000))
      (fun y => y.ad.tZc == some 100000),
    meets (pump fun a => { a with st := .run, tZc := some 7 }) (fun c => c.ad.tZc.isSome) (.zeroCrossing (l 9))
      (fun y => y.ad.tZc == some 7),
    meets (pump fun a => { a with st := .run, t60 := F32.ofInt 16000, implausible := 1 })
          (fun c => decide (c.adNextComm ≤ 80000) && c.ad.tZc == none)
      (.commutation ⟨l 80000, false⟩) (fun y => y.ad.tComm == 80000 && y.ad.steps == 1 && y.ad.ramping &&
        y.ad.implausible == 2 &&
        y.ad.prevSector == some 0 && y.ad.sector == 1),
    meets (pump fun a => { a with st := .run, fresh := true, tComm := 5 }) (fun c => c.ad.fresh &&
          decide (c.ad.tComm ≤ 5))
      (.commutation ⟨l 5, false⟩) (fun y => !y.ad.fresh && y.ad.ramping && y.ad.sector == 0),
    meets (pump fun a => { a with st := .run, fresh := true, tComm := 5 }) (fun c => c.commutes 5)
      (.commutation ⟨l 5, true⟩) (fun y => y.fcl.raised.contains (17, 0) && (y.exe.stopping || y.exe.stopped)),
    meets (pump fun a => { a with st := .start, sectors := [1, 1, 1, 1, 1, 1] })
      (fun c => rampSwept (c.getA 0x340C) (c.af 0x3401 16 16) (c.af 0x3400 0 4) (c.ad.steps + 1) 1000000000 &&
        !c.reqFalls 1000000000)
      (.commutation ⟨l 1000000000, false⟩) (fun y => y.ad.tComm == 1000000000 && y.ad.sector == 1),
    meets (pump fun a => { a with ramping := true }) (fun c => decide (c.ad.tComm + usec (c.ad.rampK + 1) ≤ 1000))
      (.softRampStep (l 1000)) (fun y => y.ad.rampK == 1 && y.ad.ramping),
    meets (pump fun a => { a with st := .run, implausible := 18 }) (fun c => decide (18 ≤ c.ad.implausible) && !c.reqFalls 5)
      (.lossOfSynchronism (l 5)) (fun y => y.ad.st == .coast && y.ad.syncFails == 1 && y.fcl.raised.contains (18, 0)),
    meets (pump fun a => { a with st := .run, implausible := 18, fails := [4, 3] })
          (fun c => (c.ad.recent 5).length == 2)
      (.lossOfSynchronism (l 5)) (fun y => y.ad.st == .fault),
    meets (pump fun a => { a with st := .run, runReq := true, implausible := 18 }) (fun c => c.reqFalls 0)
      (.lossOfSynchronism (l 0)) (fun y => y.ad.st == .run && y.ad.syncFails == 0),
    meets (pump fun a => { a with st := .run, implausible := 17 }) (fun c => decide (c.ad.implausible < 18))
      (.lossOfSynchronism (l 5)) (fun y => y.ad.st == .run)] = true := by decide +kernel

/-- What a window of two samples of more than 0.25 V measures, the second vector p forward of the first. -/
def window (p : Word) (act : Words) : Channel × (Int × F32 × Word) :=
  let c := { State.reset.chA with ad := { State.reset.chA.ad with st := .catch }, act := act }
  (c, c.catchMeasureBy (fun a _ => if a = F32.ofFrac (128 * 72) 4096 then 0 else p) [⟨128, 0, 0, 0⟩, ⟨129, 0, 0, 0⟩])

/-- CATCH since 0 decided at 1,002,000 TCLK, with NMAX 4,000 (R210, R211). A measurement rests on free values: for the
SPINNING and REVERSE clauses a value of them meets the hypotheses, and the decision of that measurement is shown. Then
the elapsed times of R206, R207, R213 to R215, and their rows where RUN_REQ falls in the same TCLK. -/
theorem witness_PumpStartCourse : all [
    meets (pump fun a => { a with st := .catch }) (fun c => decide (0 < c.af 0x3401 0 16) && !c.reqFalls 5010000 &&
        F32.lt (c.catchMeasure []).2.1 f32Quarter)
      (.catchDecision (l 5010000) [] [] []) (fun y => y.ad.st == .align && y.ad.catchRes == 2 && y.ad.catches == 1),
    (let m := window 572662 [(0x3409, 0x3F800000), (0x340A, 0x42C80000)]
     let ke := F32.div (F32.mul m.2.2.1 (F32.ofInt 1000)) (F32.ofInt m.2.1.natAbs)
     let y := m.1.catchDecide 5010000 m.2.1 m.2.2.1 m.2.2.2
     !F32.lt m.2.2.1 f32Quarter && m.2.1 == 2000 && !m.1.keFails ke && y.ad.st == .run && y.ad.fresh && y.ad.catchRes == 1),
    (let m := window 572662 [(0x3409, 0x3F800000), (0x340A, 0)]
     let ke := F32.div (F32.mul m.2.2.1 (F32.ofInt 1000)) (F32.ofInt m.2.1.natAbs)
     let y := m.1.catchDecide 5010000 m.2.1 m.2.2.1 m.2.2.2
     m.1.keFails ke && y.ad.st == .fault && y.ad.lastFault == 2 && y.fcl.raised.contains (19, 0)),
    (let m := window (0 - 14317) []
     let y := m.1.catchDecide 5010000 m.2.1 m.2.2.1 m.2.2.2
     m.2.1 == -50 && decide (m.1.ad.brakeRound.toNat < m.1.af 0x3402 24 4) && y.ad.st == .brake && y.ad.catchRes == 3),
    (let m := window (0 - 14317) [(0x3402, 0)]
     let y := m.1.catchDecide 5010000 m.2.1 m.2.2.1 m.2.2.2
     decide (m.1.af 0x3402 24 4 ≤ m.1.ad.brakeRound.toNat) && y.ad.st == .fault && y.ad.lastFault == 3),
    meets (pump fun a => { a with st := .brake }) (fun c => c.ad.since == 0)
          (.brakeTElapsed (l (msec (dflt 0x3402 16 8))))
      (fun y => y.ad.st == .catch && y.ad.brakeRound == 1),
    meets (pump fun a => { a with st := .align }) (fun c => c.ad.since == 0)
          (.alignTElapsed (l (msec (dflt 0x3402 0 8))))
      (fun y => y.ad.st == .start && y.ad.sectors.length == 6),
    meets (pump fun a => { a with st := .start }) (fun c => c.ad.since == 0 && !c.handsOver (msec (10 * dflt 0x3402 8 8)))
      (.startTmaxElapsed (l (msec (10 * dflt 0x3402 8 8)))) (fun y => y.ad.st == .coast &&
        y.fcl.raised.contains (18, 0)),
    meets (chan fun c => { c with ad := { c.ad with st := .brake, runReq := true }, act := [(0x3402, 0)] })
      (fun c => c.reqFalls 0) (.brakeTElapsed (l 0)) (fun y => y.ad.st == .brake),
    meets (chan fun c => { c with ad := { c.ad with st := .align, runReq := true }, act := [(0x3402, 0)] })
      (fun c => c.reqFalls 0) (.alignTElapsed (l 0)) (fun y => y.ad.st == .align),
    meets (chan fun c => { c with ad := { c.ad with st := .start, plausible := 6, tZc := some 1, sectors := [1, 1, 1, 1, 1, 1] }
                                  act := [(0x3401, 100 * 65536 + 100), (0x3402, 0)] })
      (fun c => !c.reqFalls 20000000000 && c.handsOver 20000000000) (.startTmaxElapsed (l 20000000000))
      (fun y => y.ad.st == .start && y.fcl == {}),
    meets (pump fun a => { a with st := .coast }) (fun c => !c.ad.ovWait) (.coastElapsed (l (msec 1)))
      (fun y => y.ad.st == .catch && y.ad.since == msec 1)] = true := by decide +kernel

/-- Slot 0 of channel A, with source 0x3F (the DC-link voltage, always valid) as its first input. -/
def slot0 (f : Slot → Slot) : State :=
  chan fun c => { c with ce := { c.ce with clsAt := Vector.replicate 4 (some 1000)
                                           slots := c.ce.slots.set 0 (f Slot.reset) }, act := [(loopId 0 2, 0xFFFFFF3F)] }

theorem witness_SampleBoundariesRunTheLoop : all [
    meets (slot0 id) (fun c => !c.ce.slots[0].live && c.released && !c.pwr.doze) (.sampleBoundary (l 100) 0)
      (fun y => y.ce.slots[0].st == .empty),
    meets (slot0 fun x => { x with st := .running }) (fun c => !c.windowDue 1001 0) (.sampleBoundary (l 1001) 0)
      (fun y => y.ce.slots[0].pend == none && y.ce.slots[0].bAt == none),
    meets (slot0 fun x => { x with st := .running, stopReq := true })
      (fun c => c.ce.slots[0].live && c.windowDue 1000 0 && c.ce.clsAt[0] == some 1000 &&
        c.af (loopId 0 1) 0 18 == 0)
      (.sampleBoundary (l 1000) 0) (fun y => y.ce.slots[0].st == .stopped && !y.ce.slots[0].stopReq),
    meets (slot0 fun x => { x with st := .running })
      (fun c => (selectInput (c.af (loopId 0 0) 2 3) [c.input 1000 0 0, c.input 1000 0 1, c.input 1000 0 2,
          c.input 1000 0 3]).isSome && c.windowDue 1000 0 &&
        (c.refIn 1000 0).isSome && (List.finRange 8).all fun (m : Fin 8) => !(c.ce.rc[m]).clearReq)
      (.sampleBoundary (l 1000) 0) (fun y => y.ce.slots[0].st == .running && y.ce.slots[0].pend.isSome &&
        y.ce.slots[0].samples == 0 && y.ce.slots[0].bAt == some 1000),
    meets (chan fun c => { c with ce := { c.ce with
                               clsAt := Vector.replicate 4 (some 1000)
                               slots := c.ce.slots.set 0 { Slot.reset with st := .running } } })
      (fun c => c.windowDue 1000 0 && selectInput (c.af (loopId 0 0) 2 3) [c.input 1000 0 0, c.input 1000 0 1,
        c.input 1000 0 2, c.input 1000 0 3] == none)
      (.sampleBoundary (l 1000) 0)
      (fun y => y.ce.slots[0].st == .hold && y.ce.slots[0].noInput &&
        y.fcl.raised.contains (10, 0))] = true := by decide +kernel

def pend0 (bad : Bool) : Sample :=
  { st := { LoopState.zero with u1 := 7 }, nodes := Vector.replicate 8 3, at_ := 0, span := 50, mixed := false, unit := none,
    bin := 0, angleOk := false, learning := false, learned := none, skipped := false, wiped := false, bad := bad }

theorem witness_LoopResultsCommitOrMismatch : all [
    meets (slot0 fun x => { x with st := .running, pend := some (pend0 false) })
          (fun c => c.ce.slots[0].pend == some (pend0 false))
      (.loopResult (l (eclk 50)) 0 ⟨false, false⟩)
      (fun y => y.ce.slots[0].pend == none && y.ce.slots[0].out == 7 && y.ce.slots[0].samples == 1 &&
        !y.ce.slots[0].first),
    meets (chan fun c => { c with ce := { c.ce with slots := c.ce.slots.set 0 { Slot.reset with
                                                     st := .running, pend := some (pend0 false) } }
                                  act := [(loopId 0 3, 0x300)] })
      (fun c => c.routesTorque 0) (.loopResult (l (eclk 50)) 0 ⟨false, true⟩)
      (fun y => y.fcl.raised.contains (14, 0) && (y.exe.stopping || y.exe.stopped)),
    meets (slot0 fun x => { x with st := .running, pend := some (pend0 true) }) (fun c => c.released)
      (.loopResult (l (eclk 50)) 0 ⟨false, false⟩)
      (fun y => y.ce.slots[0].samples == 0 && y.exe.mismatch && y.exe.bad && y.fcl.raised.contains (1, 0)),
    meets (slot0 fun x => { x with st := .running, pend := some (pend0 false) }) (fun c => !c.exe.mismatch)
      (.loopResult (l (eclk 50)) 0 ⟨true, false⟩) (fun y => y.exe.mismatch && y.exe.kind == 9 &&
        y.ce.slots[0].state == LoopState.zero)]
    = true := by decide +kernel

def trace0 (f : TraceUnit → TraceUnit) : State :=
  chan fun c => c.setTrace 0 (f { TraceUnit.reset with cfg := 0x2001 })

theorem witness_WindowsAndTracesAdvance : all [
    meets (chan fun c => { c with ce := { c.ce with slots := c.ce.slots.set 0 { Slot.reset with st := .running, oscPos := 5, oscIsolate := true } }, act := [(loopId 0 0xA, 5)] })
      (fun c => c.af (loopId 0 0xA) 0 12 == 5) (.oscWindowEnd (l 100) 0)
      (fun y => y.ce.slots[0].oscPos == 0 && y.fcl.raised.contains (12, 0)),
    meets (trace0 fun r => { r with st := .filling, decim := 1 })
          (fun c => decide (c.ce.trace[0].every ≤ c.ce.trace[0].decim))
      (.traceRecord (l 100) 0 true)
      (fun y => y.ce.trace[0].recs.length == 1 && y.ce.trace[0].decim == 0 && y.ce.trace[0].invalid &&
        y.fcl.raised.contains (9, 0)),
    meets (trace0 fun r => { r with st := .post, postLeft := 2047, trigSeen := true, decim := 1 })
      (fun c => c.ce.trace[0].st == .post && decide (c.ce.trace[0].every ≤ 1)) (.traceRecord (l 100) 0 false)
      (fun y => y.ce.trace[0].st == .post && y.ce.trace[0].postLeft == 2046 && !y.ce.trace[0].trigSeen &&
        y.ce.trace[0].trigIdx == 1),
    meets (trace0 fun r => { r with st := .filling, recs := [⟨Vector.replicate 8 0, false⟩] })
      (fun c => decide (fld c.ce.trace[0].cfg 13 11 ≤ 1)) (.tracePreFilled (l 100) 0)
        (fun y => y.ce.trace[0].st == .armed),
    meets (trace0 fun r => { r with st := .post }) (fun c => c.ce.trace[0].postLeft == 0) (.tracePostDone (l 100) 0)
      (fun y => y.ce.trace[0].st == .done),
    meets (trace0 id) (fun c => c.ce.trace[0].st == .idle) (.traceRecord (l 100) 0 false)
          (fun y => y.ce.trace[0].recs.isEmpty)]
    = true := by decide +kernel

/-- The redundancy unit of channel A. -/
def red (f : Rd → Rd) : State := chan fun c => { c with rd := f c.rd }

theorem witness_MarkLatchesTheOwnBlock : all [
    meets (chan fun c => { c with pwr := { c.pwr with doze := true }, rd := { c.rd with cclIdx := 7 } })
          (fun c => c.pwr.doze)
      (.mark (l 0)) (fun y => y.rd.cclIdx == 7),
    meets (red fun r => { r with cclIdx := 7 }) (fun c => !c.markDue 5) (.mark (l 5)) (fun y => y.rd.cclIdx == 7),
    meets (chan fun c => { c with rd := { c.rd with cclIdx := 7 }, net := { c.net with nt := { c.net.nt with cycle := 9 } } })
      (fun c => c.released && !c.pwr.doze && c.markDue 0) (.mark (l 0))
      (fun y => y.rd.cclIdx == 0 && y.rd.markCyc == 9 && y.rd.b.latched == none &&
        (y.rd.ownLatched.map (·.cyc)) == some 9),
    meets (chan fun c => { c with exe := { c.exe with stopped := true }, rd := { c.rd with role := .lead, level := 1 } })
      (fun c => c.halted) (.mark (l 0)) (fun y => y.rd.role == .lead && y.rd.level == 1),
    meets (chan fun c => { c with rd := { c.rd with level := 0 }, ce := { c.ce with demCore := c.ce.demCore.set 3 ⟨9, true⟩ }
                                  exe := { c.exe with stopped := true } })
      (fun c => decide (c.rd.level < 3)) (.mark (l 0))
        (fun y => y.ce.demEngine[3] == ⟨9, true⟩)] = true := by decide +kernel

/-- R344: nothing holds; one network only; no network; every channel down; a Welt unpowered. -/
theorem witness_LevelFollowsTheFaultSet : all [
    levelOf 0 3 == 0, levelOf 0 1 != 0, decide (3 ≤ levelOf 0 0), levelOf 0x7 3 == 4 && !liveF 7 .a && !liveF 7 .b && !liveF 7 .c,
    (List.range 24).all fun k => decide (levelOf (flag k true) 3 ≤ 4)] = true := by decide +kernel

theorem witness_ClaimWordsGoOut : all [
    meets linkTest (fun c => c.linksOut) (.claimPeriodStart (l 10000)) (fun y => y.wi1.sent.isNone && y.wi2.seq == 0),
    meets State.reset (fun c => !c.periodAt 10001) (.claimPeriodStart (l 10001)) (fun y => y.wi1.sent.isNone),
    meets (red fun r => { r with claimAt := some 10000 }) (fun c => c.periodAt 10000 && c.rd.claimAt == some 10000)
      (.claimPeriodStart (l 10000)) (fun y => y.wi1.sent.isNone),
    meets (red fun r => { r with role := .standby }) (fun c => c.released && !c.rd.demote && c.periodAt 10000 && c.rd.claimAt == none) (.claimPeriodStart (l 10000))
      (fun y => y.wi1.seq == 1 && y.wi2.seq == 1 && y.wi1.setIdx == 1 &&
        y.wi1.claim == (y.wi1.sent.map (·.claim)).getD 0 &&
        y.wi1.claim == 0x4D),
    meets (chan fun c => { c with rd := { c.rd with role := .lead }, exe := { c.exe with stopped := true } })
          (fun c => c.halted)
      (.claimPeriodStart (l 10000)) (fun y => y.wi1.claim == 0 && y.wi1.sent.isSome),
    meets State.reset (fun c => c.rd.role == .offline) (.claimPeriodStart (l 10000)) (fun y => y.wi2.claim == 0 &&
          y.wi2.sent.isSome && y.rd.claimAt == some 10000),
    meets (chan fun c => { c with rd := { c.rd with role := .standby }
                                  wi1 := { c.wi1 with claim := 0x4D, kAt := 0, lowIdx := some 4 } })
      (fun c => c.wi1.lowRun (60000 / statPeriod) && !c.wi1.fault && c.periodAt 60000) (.claimPeriodStart (l 60000))
      (fun y => y.wi1.fault && y.wi1.claim == 0 && y.fcl.raised.contains (38, 0)),
    meets (chan fun c => { c with rst := { c.rst with phase := .recovery }, nv := { c.nv with lc := 5 } })
      (fun c => c.alive && !c.released && c.nv.lc == 5) (.claimPeriodStart (l 10000))
      (fun y => y.wi1.claim == 0 && y.wi1.sent.isSome && y.wi2.seq == 1),
    meets (red fun r => { r with role := .lead, demote := true }) (fun c => c.rd.demote && c.rd.role == .lead &&
          !c.halted)
      (.claimPeriodStart (l 10000)) (fun y => y.rd.role == .standby && !y.rd.demote)] = true := by decide +kernel

/-- A good status word (R318). -/
def stat (accClaim : BitVec 8) : StatusWord :=
  let x : StatusWord := ⟨0xA, 2, accClaim, 0, 0, 0, 0, 0, 0, 0, 0, 0, 4, 0, 0, true⟩
  { x with check := crc8 (statusBits x) }

theorem witness_StatusWordsAreJudged : all [
    meets linkTest (fun c => c.linksOut && statusGood (stat 0)) (.statusWordReceived (l 5) .w1 (stat 0))
      (fun y => y.wi1.stat == none),
    meets linkTest (fun c => c.linksOut) (.statusLaneSilence (l 30900) .w2) (fun y => !y.wi2.silent),
    meets State.reset (fun _ => !statusGood { stat 0 with sync := 0 })
          (.statusWordReceived (l 5) .w1 { stat 0 with sync := 0 })
      (fun y => y.wi1.bad == 1 && y.wi1.stat == none),
    meets (chan fun c => { c with wi1 := { c.wi1 with claim := 0xC1, lowIdx := some 3 } })
      (fun c => statusGood (stat 0) && !c.wi1.lowRun (4 * statPeriod / statPeriod) && (stat 0).flags.getLsbD 2)
      (.statusWordReceived (l (4 * statPeriod)) .w1 (stat 0))
      (fun y => y.wi1.stat == some (stat 0) && y.wi1.lastGood == 4 * statPeriod && y.wi1.lowIdx == some 4 && !y.wi1.fault &&
        y.fcl.raised.contains (39, 0)),
    meets (chan fun c => { c with wi1 := { c.wi1 with claim := 0xC1, lowIdx := some 4 } })
      (fun c => c.wi1.lowRun (5 * statPeriod / statPeriod)) (.statusWordReceived (l (5 * statPeriod)) .w1 (stat 0xC1))
      (fun y => y.wi1.fault && y.fcl.raised.contains (38, 0)),
    meets (chan fun c => { c with wi1 := { c.wi1 with claim := 0xC1, lowIdx := some 3, highIdx := some 2 } })
      (fun c => !c.wi1.lowRun (5 * statPeriod / statPeriod)) (.statusWordReceived (l (5 * statPeriod)) .w1 (stat 0xC1))
      (fun y => !y.wi1.fault && y.wi1.highIdx == some 5 && y.wi1.lowIdx == some 3),
    meets (chan fun c => { c with wi2 := { c.wi2 with claim := 0 } }) (fun c => c.wi2.claim == 0)
      (.statusWordReceived (l 5) .w2 (stat 0)) (fun y => y.wi2.lowIdx == none && y.wi2.highIdx == none),
    meets State.reset (fun c => !c.wi2.silent && decide (c.wi2.lastGood + tclk 6180 ≤ 30900))
          (.statusLaneSilence (l 30900) .w2)
      (fun y => y.wi2.silent && y.wi2.silentAt == 30900 && y.fcl.raised.contains (38, 0)),
    meets State.reset (fun c => decide (30899 < c.wi2.lastGood + tclk 6180)) (.statusLaneSilence (l 30899) .w2)
      (fun y => !y.wi2.silent)] = true := by decide +kernel

def rec0 : TrackRec := ⟨0, 1, LoopState.zero⟩

/-- A voting block of B for cycle 4, its blocks to A and to C, and a frame of them as it comes. -/
def voteB : Vote := ⟨0, false, 1, 4, false, 0, 0, noAnn, 0, 4, 0, 0, 0, 0, false, false⟩
def blockB (dst : Ch) (relayed : Bool) (recs : List TrackRec) : CclBlock := ⟨.b, dst, relayed, 0, 1, voteB, recs, none, []⟩
def frameB (dst : Ch) (carried : List CclBlock) (good : Bool) : CclFrame :=
  let f : CclFrame := { blockB dst false [] with carried := carried, crc := 0, good := good }
  { f with crc := crc32c (frameBytes f) }

theorem witness_CclFramesGoOut : all [
    meets linkTest (fun c => c.linksOut && c.released) (.cclPeriodStart (l 10000)) (fun y => y.rd.cclIdx == 0),
    meets (red fun r => { r with cclAt := some 10000 }) (fun c => c.periodAt 10000) (.cclPeriodStart (l 10000))
      (fun y => y.rd.cclIdx == 0),
    meets (red fun r => { r with cclIdx := 3, recs := [rec0, rec0, rec0, rec0, rec0] })
      (fun c => c.periodAt 10000 && !c.cutOff 10000 && c.id.next == .b && c.recsNow == 4 && !c.linkDown .b) (.cclPeriodStart (l 10000))
      (fun y => y.rd.cclIdx == 4 && y.rd.recs.length == 1 && ((y.rd.b.sent.map (·.recs.length)) == some 4) &&
        (y.rd.c.sent.map (·.idx)) == some 3 && y.rd.b.outSeq == 1),
    meets (red fun r => { r with c := { r.c with relay := some (blockB .c true [rec0]) } })
      (fun c => !c.cutOff 10000 && (c.peer .c).relay.isSome) (.cclPeriodStart (l 10000))
      (fun y => y.rd.c.relay == none && (y.rd.c.sent.map (·.carried.length)) == some 1 &&
        (y.rd.c.relayed.map (·.recs.length)) == some 1),
    meets (red fun r => { r with c := { r.c with judgeAt := some 0 } })
      (fun c => !c.cutOff 30000 && !c.rd.c.failed && decide (max 0 0 + threePeriods ≤ 30000)) (.cclPeriodStart (l 30000))
      (fun y => y.rd.c.failed && y.fcl.raised.contains (45, 0)),
    meets (red fun r => { r with role := .standby, b := { r.b with netAt := some 10000 } })
      (fun c => c.cutOff 10000 && !c.halted && c.rd.role == .standby && c.liveIn .b && c.liveIn .c) (.cclPeriodStart (l 10000))
      (fun y => y.fcl.raised.contains (47, 0) && (y.exe.stopping || y.exe.stopped))] = true := by decide +kernel

theorem witness_CclFramesAreTaken : all [
    meets linkTest (fun c => c.linksOut && c.released && frameGood (frameB .a [] true))
      (.cclFrameReceived (l 5) (frameB .a [] true)) (fun y => y.rd.b.latest == none),
    meets State.reset (fun _ => !frameGood (frameB .a [] false)) (.cclFrameReceived (l 5) (frameB .a [] false))
      (fun y => y.rd.b.latest == none),
    meets State.reset (fun c => frameGood (frameB .a [blockB .c false []] true) && c.id != .b)
      (.cclFrameReceived (l 5) (frameB .a [blockB .c false []] true))
      (fun y => y.rd.c.relay == some (blockB .c true []) && y.rd.b.latest == some voteB && y.rd.b.heardAt == some 5),
    (Channel.cclBlock 5 State.reset.chA (blockB .c true [])).rd.c.relay == none,
    (Channel.cclBlock 5 State.reset.chA { blockB .a false [] with src := .a }).rd.a.latest == none,
    (let c := (red fun r => { r with c := { r.c with relay := some (blockB .c true [rec0]) } }).chA
     let y := Channel.cclBlock 5 c (blockB .c false [])
     y.rd.c.relay == some (blockB .c true []) && y.rd.c.restRecs == [rec0]),
    (let c := (red fun r => { r with markCyc := 4 }).chA
     let y := Channel.cclBlock 5 c (blockB .a false [])
     c.rd.markCyc == voteB.cyc && c.rd.b.latched == none && voteB.role != 3 && y.rd.b.latest == some voteB &&
       y.rd.b.latched == some voteB && y.rd.b.goodAt == some 5 && y.rd.b.heardAt == some 5),
    (let y := Channel.cclBlock 5 State.reset.chA (blockB .a true [])
     voteB.cyc != State.reset.chA.rd.markCyc && y.rd.b.latest == some voteB && y.rd.b.latched == none &&
       y.rd.b.goodAt == none),
    (let c := (red fun r => { r with markCyc := 4, b := { r.b with latched := some { voteB with level := 0 } } }).chA
     (Channel.cclBlock 5 c (blockB .a false [])).rd.b.latched == some { voteB with level := 0 })]
    = true := by decide +kernel

/-- A delivery of box 1 toward the next channel, begun at 0, whose attempt began at 0, after some tries. -/
def deliver (box : Fin 5) (tries : Nat) : Deliver := ⟨box, 0, 2, tries, 0, some 0⟩
def sending (box : Fin 5) (tries : Nat) : State :=
  chan fun c => c.setXp true { c.xp true with cur := some (deliver box tries), out := (c.xp true).out.set 1 { full := true } }

theorem witness_DeliveriesRetryAndEnd : all [
    meets (sending 1 0) (fun c => (c.xp true).cur == some (deliver 1 0) && decide (0 < c.af 0x0801 0 2))
      (.xmbAttemptTimeout (l 80000) true) (fun y => (y.xp true).cur == some ⟨1, 0, 0, 1, 0, none⟩),
    meets (sending 1 0) (fun _ => decide (79999 < tclk 16000)) (.xmbAttemptTimeout (l 79999) true)
      (fun y => (y.xp true).cur == some (deliver 1 0)),
    meets (sending 1 3) (fun c => decide (c.af 0x0801 0 2 ≤ 3)) (.xmbAttemptTimeout (l 80000) true)
      (fun y => (y.xp true).cur == none && !((y.xp true).out[1]).full && (y.xp true).failed == 2),
    meets (sending 1 0) (fun _ => true) (.xmbDeliveryTimeout (l (usec (10 * dflt 0x0801 8 10))) true)
      (fun y => (y.xp true).cur == none && (y.xp true).failed == 2),
    meets (sending 4 0) (fun c => !(c.xp false).mbuDone) (.xmbDeliveryTimeout (l (usec (10 * dflt 0x0801 8 10))) true)
      (fun y => (y.xp true).cur == none && (y.xp true).mbuDone && y.hp.lockU == none),
    meets (sending 4 0) (fun c => decide (5 < usec (10 * c.af 0x0801 8 10))) (.xmbDeliveryTimeout (l 5) true)
      (fun y => (y.xp true).cur == some (deliver 4 0)),
    meets (let s := sending 4 0
           { s with chA := { s.chA with hp := { s.chA.hp with toPrev := { mbuDone := true }, mbu := { full := true }, lockU := some .hp0 } } })
      (fun c => (c.xp false).mbuDone && c.hp.mbu.full) (.xmbDeliveryTimeout (l (usec (10 * dflt 0x0801 8 10))) true)
      (fun y => !y.hp.mbu.full && y.hp.lockU == none)] = true := by decide +kernel

theorem witness_RotationAndHealthWindowsEnd : all [
    meets (red fun r => { r with role := .lead, level := 3 }) (fun c => c.running && !c.halted && !c.rd.rotExp)
      (.rotationTimerExpiry (l (60000000000 * dflt 0x4401 0 11))) (fun y => y.rd.rotExp && y.rd.ann == none),
    meets (red fun r => { r with
                          role := .lead, level := 0
                          b := { r.b with latched := some { voteB with role := 2 }, latest := some { voteB with role := 2 } } })
      (fun c => c.rd.ann == none && c.nextStandby == some .b && !c.swapForbidden State.reset.trackBad)
      (.rotationTimerExpiry (l (60000000000 * dflt 0x4401 0 11))) (fun y => y.rd.ann == some ⟨3, 2, 0, 4⟩),
    meets State.reset (fun c => c.rd.role != .lead) (.rotationTimerExpiry (l 5)) (fun y => !y.rd.rotExp),
    meets (red fun r => { r with ho := some ⟨0, .b, .a, 1⟩ }) (fun c => c.rd.ho == some ⟨0, .b, .a, 1⟩)
      (.handoverClaimTimeout (l (usec 10 + tclk 6180)))
      (fun y => y.rd.ho == none && bit y.rd.view 1 && y.fcl.raised.contains (44, 2)),
    meets (red fun r => { r with ho := some ⟨0, .b, .a, 3⟩ }) (fun _ => true)
          (.handoverClaimTimeout (l (usec 10 + tclk 6180)))
      (fun y => y.rd.ho == some ⟨0, .b, .a, 3⟩),
    meets State.reset (fun c => c.rd.ho == none) (.handoverClaimTimeout (l 5)) (fun y => y.rd.view == 0),
    meets (red fun r => { r with role := .resync, health := some 0 }) (fun c => !c.rd.healthOk &&
          !c.rd.healthBad && !c.snsCond)
      (.healthWindowEnd (l (msec 2000))) (fun y => y.rd.healthOk),
    meets (red fun r => { r with role := .resync, health := some 0, healthBad := true }) (fun c => c.rd.healthBad)
      (.healthWindowEnd (l (msec 2000))) (fun y => y.exe.stopping && !y.rd.healthOk && y.fcl.raised.contains (48, 0))]
    = true := by decide +kernel

/-- SAFE_STOP in course at level 3. -/
def stopping (h : Option Nat) (f : Rd → Rd) : State :=
  red fun r => f { r with role := .lead, level := 3, stop := some ⟨0, h, false⟩ }

/-- A 4 kHz class period starts at 5. -/
def at4k (f : Channel → Channel) : State :=
  chan fun c =>
    let x := f c
    { x with ce := { x.ce with clsAt := x.ce.clsAt.set 1 (some 5) } }

theorem witness_SafeStopRunsItsCourse : all [
    meets (stopping none fun r => { r with still := some 0 }) (fun c => c.running && c.rd.level == 3 &&
          c.rd.still == some 0)
      (.standstillHeld (l (msec 1000))) (fun y => y.rd.level == 4 &&
        (y.rd.stop.map (·.heldAt)) == some (some (msec 1000))),
    meets State.reset (fun c => c.rd.level != 3) (.standstillHeld (l 5)) (fun y => y.rd.level == 4 &&
          y.rd.stop == none),
    meets (stopping (some 0) fun r => { r with level := 4 }) (fun c => (c.rd.stop.map (·.heldAt)) == some (some 0))
      (.heldPressureRelease (l (msec 500))) (fun y => y.rd.stop == some ⟨0, some 0, true⟩),
    meets State.reset (fun c => c.rd.stop == none) (.heldPressureRelease (l 5)) (fun y => y.rd.stop == none),
    meets (at4k id) (fun c => c.ce.clsAt[1] == some 5 && c.ce.at4k != some 5) (.class4khzPeriod ⟨l 5, true⟩)
      (fun y => y.fcl.raised.contains (17, 0) && (y.exe.stopping || y.exe.stopped)),
    meets (at4k fun c => { c with ce := { c.ce with at4k := some 5 } }) (fun c => c.ce.at4k == some 5)
      (.class4khzPeriod ⟨l 5, false⟩) (fun y => !y.ad.inputInvalid && y.fcl == {}),
    meets State.reset (fun c => c.ce.clsAt[1] != some 5) (.class4khzPeriod ⟨l 5, false⟩) (fun y => y.fcl == {}),
    meets (at4k id) (fun c => c.rd.stop == none) (.class4khzPeriod ⟨l 5, false⟩) (fun y => y.rd.stop == none),
    meets (at4k id) (fun c => c.ad.st == .off && fld (c.getA 0x3404) 0 8 == 0xFF) (.class4khzPeriod ⟨l 5, false⟩)
      (fun y => y.ad.inputInvalid && y.fcl.raised.contains (20, 0)),
    meets (at4k fun _ => { (stopping none id).chA with act := [(0x4402, 5 * 64 + 6 * 4096)] })
      (fun c => c.af 0x4402 6 6 != c.af 0x4402 12 6 && !c.halted && c.ad.st == .off && c.ce.clsAt[1] == some 5)
      (.class4khzPeriod ⟨l 5, false⟩)
      (fun y => y.ce.demCore[5].valid && y.ce.demCore[6].valid && !y.ce.demCore[7].valid &&
        (y.rd.stop.map (·.heldAt)) == some none)] = true := by decide +kernel

/-- The fault collector of channel A. -/
def flt (f : Fcl → Fcl) : State := chan fun c => { c with fcl := f c.fcl }

theorem witness_LinesRegister : all [
    meets (flt fun f => { f with raised := [(4, 0)], regs := [⟨4, 0, some 1⟩] })
          (fun c => c.fcl.regs.any fun r => r.is 4 0)
      (.errorLineRegister (l 5) [(4, 0)]) (fun y => y.fcl.regs == [⟨4, 0, none⟩] && y.fcl.reraise == 1 &&
        y.fcl.raised.isEmpty),
    meets (flt fun f => { f with raised := [(4, 0)] }) (fun c => c.fcl.regs.isEmpty && lineClass 4 == 0)
      (.errorLineRegister (l 5) [(4, 0)])
      (fun y => y.fcl.status == 16 && y.fcl.first == none && y.fcl.hist.length == 1 && !y.exe.stopping),
    meets (chan fun c => { c with exe := { c.exe with stopped := true } }) (fun c => c.mg.bist == none &&
          lineClass 17 != 0)
      (.errorLineRegister (l 5) [(17, 0)]) (fun y => y.fcl.first == some 17 && y.fcl.status == 0x20000),
    meets (chan fun c => { c with exe := { c.exe with stopping := true } }) (fun c => c.halted && !c.exe.stopped)
      (.errorLineRegister (l 5) [(56, 0)])
      (fun y => y.rst == { State.reset.chA.rst with pend := [⟨.fault, false, some 56, 0⟩] }),
    meets (chan fun c => { c with sup := { c.sup with warn := true } })
      (fun c => c.deferring && !c.nv.busy && c.rst.pend.isEmpty && !c.rst.pinLow && !c.rst.supLow)
      (.errorLineRegister (l 5) [(56, 0)]) (fun y => y.rst.cause.getLsbD 5 && y.rst.line == 56 && y.rst.lineValid),
    meets (flt fun f => { f with raised := [(56, 0)] }) (fun c => c.exe.stopped == false && !c.deferring)
      (.errorLineRegister (l 5) [(56, 0)]) (fun y => y.rst.pend.length == 1 && y.nv.busy),
    meets State.reset (fun c => !c.halted && !c.pwr.doze && !c.sec.trial && isolates 17)
          (.errorLineRegister (l 5) [(17, 0)])
      (fun y => (y.exe.stopping || y.exe.stopped) && y.fcl.status == 0x20000),
    meets (chan fun c => { c with exe := { c.exe with stopped := true } }) (fun c => c.halted)
      (.errorLineRegister (l 5) [(61, 0)]) (fun y => y.fcl.latched)] = true := by decide +kernel

/-- The quiet time of FC_CFG at its default (R360). -/
def quiet : Nat := msec (10 * dflt 0x4804 0 10)

theorem witness_LinesRecover : all [
    meets (flt fun f => { f with status := 16, regs := [⟨4, 0, none⟩] }) (fun c => lineClass 4 == 0 && !c.asserting 4)
      (.lineSourceEnd (l 5) 4 0) (fun y => y.fcl.regs.isEmpty && y.fcl.status == 16),
    meets (flt fun f => { f with regs := [⟨15, 0, none⟩] }) (fun c => lineClass 15 == 1 && !c.asserting 15)
      (.lineSourceEnd (l 5) 15 0) (fun y => y.fcl.regs == [⟨15, 0, some 5⟩]),
    meets (flt fun f => { f with regs := [⟨17, 0, none⟩] }) (fun _ => decide (2 ≤ lineClass 17))
          (.lineSourceEnd (l 5) 17 0)
      (fun y => y.fcl.regs == [⟨17, 0, none⟩]),
    meets (flt fun f => { f with regs := [⟨15, 0, some 5⟩] })
      (fun c => c.quietDue (5 + quiet) 15 0 && decide ((c.recent (5 + quiet)).length < c.af 0x4804 10 4))
      (.quietTimerExpiry (l (5 + quiet)) 15 0)
      (fun y => y.fcl.regs.isEmpty && y.fcl.recov == 1 && !y.fcl.latched &&
        (y.fcl.hist.head?.map (·.kind)) == some 1),
    meets (flt fun f => { f with regs := [⟨15, 0, some 5⟩] }) (fun c => !c.quietDue (4 + quiet) 15 0)
      (.quietTimerExpiry (l (4 + quiet)) 15 0) (fun y => y.fcl.recov == 0),
    meets (chan fun c => { c with
                           fcl := { c.fcl with regs := [⟨15, 0, some 0⟩], stamps := List.replicate 15 quiet }
                           exe := { c.exe with stopped := true } })
      (fun c => c.quietDue quiet 15 0 && decide (c.af 0x4804 10 4 < (c.recent quiet).length + 1) && c.halted &&
        decide (0 < c.af 0x4804 14 11)) (.quietTimerExpiry (l quiet) 15 0) (fun y => y.fcl.latched && y.fcl.recov == 1),
    meets (red fun r => { r with view := 0x400, absent := r.absent.set 10 (some 0) })
      (fun c => bit c.rd.view 10 && !c.viewCond 10) (.faultAbsenceExpiry (l 2000000000) 10)
      (fun y => y.rd.view == 0 && y.rd.absent[10] == none),
    meets (red fun r => { r with view := 1 }) (fun _ => true) (.faultAbsenceExpiry (l 2000000000) 0)
          (fun y => y.rd.view == 1)]
    = true := by decide +kernel

/-- The supply monitor of channel A. -/
def supply (f : Sup → Sup) : State := chan fun c => { c with sup := f c.sup }

theorem witness_SupplyWarningsAndCuts : all [
    meets State.reset (fun c => !c.rst.hold && !c.sup.warn) (.vsupWarnEnter (l 5))
      (fun y => y.sup.warn && y.sup.warnAt == 5 && y.deferring),
    meets (supply fun u => { u with warn := true }) (fun c => c.sup.warn) (.vsupWarnEnter (l 5))
          (fun y => y.sup.warnAt == 0),
    meets (chan fun c => { c with rst := { c.rst with hold := true, belowWarn := true } }) (fun c => c.rst.hold)
      (.vsupWarnExit (l 5)) (fun y => !y.rst.hold && !y.rst.belowWarn),
    meets (supply fun u => { u with warn := true, acc := 1 })
          (fun c => decide (c.sup.acc + (99999998 - 0) < msec 100))
      (.vsupWarnExit (l 99999998)) (fun y => !y.sup.warn && y.sup.ramp && y.sup.warnCnt == 1 &&
        y.sup.acc == 99999999),
    meets (supply fun u => { u with warn := true, acc := 1 }) (fun c => decide (msec 100 ≤ c.sup.acc + 99999999))
      (.vsupWarnExit (l 99999999)) (fun y => !y.sup.ramp && y.sup.warnCnt == 0 && y.sup.rideOver && y.sup.iso &&
        y.fcl.raised.contains (3, 0)),
    meets State.reset (fun c => !c.sup.warn) (.vsupWarnExit (l 5)) (fun y => y.sup == {}),
    meets (supply fun u => { u with warn := true }) (fun c => !c.sup.rideOver) (.rideLimit (l (msec 100)))
      (fun y => y.sup.iso && y.sup.rideOver && y.fcl.raised.contains (3, 0)),
    meets (supply fun u => { u with warn := true }) (fun _ => true) (.rideLimit (l 99999999)) (fun y => !y.sup.iso),
    meets (supply fun u => { u with acc := 9, exitAt := some 0 }) (fun c => !c.sup.warn) (.rideClear (l (msec 1000)))
      (fun y => y.sup == {}),
    meets (supply fun u => { u with acc := 9, exitAt := some 1 }) (fun c => !c.sup.warn) (.rideClear (l (msec 1000)))
      (fun y => y.sup.acc == 9),
    meets (supply fun u => { u with ramp := true }) (fun c => c.sup.rampAt == 0) (.limitRampEnd (l (msec 20)))
      (fun y => !y.sup.ramp),
    meets (chan fun c => driven { c with ad := { c.ad with st := .run } }) (fun c => !c.sup.ov && c.sd.st != .off)
      (.ovCutEnter (l 5)) (fun y => y.sup.ov && y.sup.ovAt == 5 && !y.gd.gateSupply && !y.sd.pisClosed &&
        y.sd.st == .off &&
        y.sd.ovWait && y.sd.lastLeave == 6 && y.ad.st == .coast && y.ad.ovWait),
    meets (supply fun u => { u with ov := true }) (fun c => c.sup.ov) (.ovCutEnter (l 5)) (fun y => y.sup.ovAt == 0),
    meets (chan fun c => { c with sup := { c.sup with ov := true }, sd := { c.sd with ovWait := true }, ad := { c.ad with st := .coast, ovWait := true } })
      (fun c => decide (99999999 < c.sup.ovAt + msec 100)) (.ovCutExit (l 99999999))
      (fun y => !y.sup.ov && y.sup.ramp && y.sup.ovCnt == 1 && y.sd.st == .closing && y.ad.st == .catch &&
        !y.ad.ovWait),
    meets (chan fun c => { c with sup := { c.sup with ov := true }, sd := { c.sd with ovWait := true }
                                  gd := { c.gd with grpS := { c.gd.grpS with testBusy := true } } })
      (fun c => c.sd.ovWait && c.gd.grpS.testBusy) (.ovCutExit (l 99999999))
      (fun y => y.sd.st == .off && !y.sd.ovWait && y.sd.pendEnable),
    meets (supply fun u => { u with ov := true }) (fun c => decide (c.sup.ovAt + msec 100 ≤ 100000000))
      (.ovCutExit (l 100000000)) (fun y => !y.sup.ov && !y.sup.ramp && y.gd.gateSupply && y.sup.iso &&
        y.fcl.raised.contains (3, 0)),
    meets (supply fun u => { u with ov := true, iso := true }) (fun c => !c.sup.cutOver) (.ovCutTimeout (l (msec 100)))
      (fun y => y.sup.iso && y.sup.cutOver && y.fcl.raised.contains (3, 0)),
    meets (supply fun u => { u with ov := true }) (fun _ => true) (.ovCutTimeout (l 99999999)) (fun y => !y.sup.iso)]
    = true := by decide +kernel

/-- The reset block of channel A. -/
def rstS (f : Rst → Rst) : State := chan fun c => { c with rst := f c.rst }

theorem witness_ResetSourcesTakeTheChannel : all [
    meets (red fun r => { r with role := .lead }) (fun c => c.powered) (.vsupReset (l 5))
      (fun y => y.rst.phase == .held && y.rst.supLow && y.rst.belowWarn && y.rst.full && y.rst.cause.getLsbD 1 &&
        y.rd.role == .offline),
    meets (rstS fun r => { r with phase := .unpowered }) (fun c => !c.powered) (.vsupReset (l 5))
          (fun y => y.rst.phase == .unpowered),
    meets (rstS fun r => { r with phase := .unpowered, cause := 9 }) (fun c => !c.rst.pinLow)
          (.vsupPorRelease (l 5) 1 true)
      (fun y => y.rst.phase == .xtal && y.rst.cause == 1 && y.rst.tm && !y.clk.pllLock),
    meets (rstS fun r => { r with phase := .held, supLow := true }) (fun c => c.rst.full && !c.rst.pinLow)
      (.vsupPorRelease (l 5) 1 false) (fun y => y.rst.phase == .xtal && !y.rst.supLow && y.rst.cause == 1),
    meets (rstS fun r => { r with phase := .unpowered }) (fun _ => (2 : BitVec 2) != Ch.a.code)
          (.vsupPorRelease (l 5) 2 false)
      (fun y => y.rst.phase == .unpowered),
    meets (supply fun u => { u with acc := 3 }) (fun c => c.powered) (.vsupOff (l 5))
          (fun y => y.rst.phase == .unpowered && y.sup == {}),
    meets State.reset (fun c => c.powered && !c.rst.pinLow && !c.rst.supLow) (.railFault (l 5))
      (fun y => y.rst.phase == .xtal && y.rst.cause.getLsbD 2 && !y.clk.pllLock),
    meets (chan fun c => { c with nv := { c.nv with busy := true } }) (fun c => c.powered && c.nv.busy)
          (.pinReset (l 5))
      (fun y => y.rst.pinLow && y.rst.phase == .run && y.rst.pend.length == 1),
    meets State.reset (fun c => !c.nv.busy) (.pinReset (l 5)) (fun y => y.rst.phase == .held && y.rst.pinLow &&
          y.rst.cause.getLsbD 3),
    meets (rstS fun r => { r with phase := .held, pinLow := true, full := false }) (fun c => !c.rst.supLow)
          (.rstnRelease (l 5) false)
      (fun y => y.rst.phase == .interconnect && !y.rst.pinLow),
    meets (rstS fun r => { r with phase := .unpowered, pinLow := true }) (fun c => c.rst.pinLow)
      (.vsupPorRelease (l 5) 1 true) (fun y => y.rst.phase == .held && y.rst.cause == 9),
    meets (rstS fun r => { r with phase := .pll, clkHold := true, cause := 0x20, line := 2, lineValid := true })
      (fun c => c.heldReset && !c.nv.busy && c.rst.pend.isEmpty && c.rst.cause != 0) (.pinReset (l 5))
      (fun y => y.rst.cause == 0x28 && y.rst.line == 2 && y.rst.lineValid),
    meets State.reset (fun c => c.clockSeen true && !c.rst.pinLow && !c.rst.supLow) (.clockFailure (l 5) true)
      (fun y => y.rst.phase == .xtal && y.rst.clkHold && y.rst.cause.getLsbD 5 && y.rst.line == 2 && y.rst.lineValid &&
        y.fcl.status.getLsbD 2),
    meets (rstS fun r => { r with phase := .xtal }) (fun c => c.rst.phase == .xtal) (.xtalOk (l 5))
      (fun y => y.rst.phase == .pll && y.clk.xtalOk),
    meets (rstS fun r => { r with phase := .pll }) (fun c => c.rst.phase == .pll) (.pllLock (l 5))
      (fun y => y.rst.phase == .interconnect && y.clk.pllLock)] = true := by decide +kernel

/-- The clause on a bank that boots has no witness here: whether a bank verifies rests on a free value (Config). -/
theorem witness_CoreResetsAndBoot : all [
    meets (chan fun c => { c with hp := { c.hp with cmdReset := some (0, .hp1) } }) (fun c => c.alive &&
          decide (0 ≤ c.exe.seq) && !c.nv.busy)
      (.commandResetEffect (l 5)) (fun y => y.rst.phase == .interconnect && y.rst.cause == 0x40 &&
        y.rst.cmdPort == 2),
    meets (chan fun c => { c with hp := { c.hp with cmdReset := some (0, .hp1) }, nv := { c.nv with busy := true } }) (fun c => c.nv.busy)
      (.commandResetEffect (l 5)) (fun y => y.rst.phase == .run && y.rst.pend.length == 1 && y.hp.cmdReset == none),
    meets State.reset (fun c => c.hp.cmdReset == none) (.commandResetEffect (l 5)) (fun y => y.rst.phase == .run),
    meets (chan fun c => { c with exe := { c.exe with wdg := 31 } })
      (fun c => c.framed && c.exe.wdgArmed && !c.halted && decide (c.af 0x5801 0 5 ≤ 31)) (.watchdogExpiry (l 5))
      (fun y => y.rst.phase == .interconnect && y.rst.cause == 0x10),
    meets State.reset (fun c => decide (c.exe.wdg < c.af 0x5801 0 5)) (.watchdogExpiry (l 5))
          (fun y => y.rst.phase == .run),
    meets (rstS fun r => { r with phase := .interconnect }) (fun c => c.rst.phase == .interconnect)
      (.interconnectTestEnd (l 5) 0 7) (fun y => y.rst.phase == .verify && y.mg.powerup == 0x201),
    meets (rstS fun r => { r with phase := .interconnect }) (fun _ => (0x7FFF &&& bistMask 1) != 0)
      (.interconnectTestEnd (l 5) 0x7FFF 7) (fun y => y.rst.phase == .verify && y.mg.powerup == 0x70301),
    meets State.reset (fun c => c.rst.phase != .interconnect) (.interconnectTestEnd (l 5) 0 0)
          (fun y => y.rst.phase == .run),
    meets (chan fun c => { c with rst := { c.rst with phase := .verify }, nv := { c.nv with rootOk := false, bankA := {} } })
      (fun c => (c.pickBoot 5).bank == none) (.bootVerificationDone (l 5) ⟨true, false⟩)
      (fun y => y.rst.phase == .recovery && y.sec.recovery && y.rst.relAt == 5),
    meets State.reset (fun c => c.rst.phase != .verify) (.bootVerificationDone (l 5) ⟨true, false⟩)
          (fun y => y.rst.relAt == 0),
    holds (chan fun c => { c with sec := { c.sec with trial := true } })
      (fun c => c.released && c.sec.trial && decide (c.rst.relAt + tclk 2000000000 ≤ tclk 2000000000)),
    meets State.reset (fun c => !c.sec.trial) (.trialTimeout (l 5))
          (fun y => y.nv.bankA.st == 3)] = true := by decide +kernel

/-- Port HP0 of channel A. -/
def port0 (f : HPort → HPort) : State := chan fun c => c.setPort .hp0 (f (c.port .hp0))
def p0 (y : Channel) : HPort := y.port .hp0

theorem witness_TransactionsEndByTheirCrc : all [
    meets State.reset (fun c => c.portUp .hp0 && crc8Bytes (0x83 :: bytesOf [2]) != 0)
          (.spiTransactionEnd (l 50) .hp0 ⟨48, 49⟩ 0x83 [2] 0)
      (fun y => (p0 y).spiErr && (p0 y).spiCrc == 1 && (p0 y).epoch == 0 && (p0 y).lastAt == 50),
    meets State.reset (fun c => c.portUp .hp0)
          (.spiTransactionEnd (l 50) .hp0 ⟨48, 49⟩ 0x83 [2] (crc8Bytes (0x83 :: bytesOf [2])))
      (fun y => !(p0 y).spiErr && (p0 y).epoch == 2),
    meets State.reset (fun c => c.portUp .hp0) (.spiTransactionEnd (l 50) .hp0 ⟨40, 49⟩ 0x08 [] 0)
          (fun y => !(p0 y).addrErr),
    meets (port0 fun x => { x with dbMask := 6 }) (fun c => c.portUp .hp0) (.spiTransactionEnd (l 50) .hp0 ⟨48, 49⟩ 0x23 [0x80000000] 0)
      (fun y => (p0 y).sdo == [6] && (p0 y).undo == [] && (p0 y).lastAt == 50),
    meets (port0 fun x => { x with dbMask := 6 }) (fun _ => !readMarked [0]) (.spiTransactionEnd (l 50) .hp0 ⟨48, 49⟩ 0x23 [0] 0)
      (fun y => (p0 y).sdo != [6]),
    meets (port0 fun x => { x with undo := [.mbWord 3] }) (fun c => decide ((p0 c).lastAt + usec 10 ≤ 10000))
          (.sideEffectFinal (l 10000) .hp0)
      (fun y => (p0 y).undo.isEmpty),
    meets (port0 fun x => { x with undo := [.mbWord 3] }) (fun c => decide (9999 < (p0 c).lastAt + usec 10))
          (.sideEffectFinal (l 9999) .hp0)
      (fun y => (p0 y).undo == [.mbWord 3]),
    meets (port0 fun x => { x with undo := [.mbWord 3], mbWord := 4 }) (fun c => c.portUp .hp0) (.rewind (l 50) .hp0)
      (fun y => (p0 y).undo.isEmpty && (p0 y).mbWord == 3),
    meets State.reset (fun _ => true) (.windowRegisterWrite (l 50) .hp0 0x23 7) (fun y => (p0 y).dbMask == 7),
    meets State.reset (fun _ => true) (.windowRegisterWrite (l 50) .hp0 0x03 3) (fun y => (p0 y).epoch == 3),
    meets State.reset (fun _ => true) (.windowRegisterWrite (l 50) .hp0 0x01 3) (fun y => (p0 y).addrErr),
    meets State.reset (fun _ => true) (.woRegisterRead (l 50) .hp0 0x20) (fun y => (p0 y).sdo == [0] &&
          (p0 y).addrErr),
    meets (port0 fun x => { x with sess := x.sess.set 1 { st := .opened, level := 2 } }) (fun c => c.portUp .hp0)
          (.hostReset (l 50) .hp0)
      (fun y => (p0 y).sess[1] == {} && (p0 y).sess[0].st == .opened && (p0 y).f2hReset)] = true := by decide +kernel

theorem witness_SemaphoresAndLocksHaveOneOwner : all [
    meets State.reset (fun c => c.hp.sem[3] == none) (.semWrite (l 50) .hp0 3 1 false)
          (fun y => y.hp.sem[3] == some .hp0),
    meets State.reset (fun _ => decide (20 / 10 % 2 = 0)) (.semWrite (l 20) .hp0 3 1 true)
          (fun y => y.hp.sem[3] == some .hp0),
    meets State.reset (fun _ => true) (.semWrite (l 10) .hp0 3 1 true) (fun y => y.hp.sem[3] == none),
    meets (chan fun c => { c with hp := { c.hp with sem := c.hp.sem.set 3 (some .hp1) } })
          (fun c => c.hp.sem[3] == some .hp1)
      (.semWrite (l 50) .hp0 3 1 false) (fun y => y.hp.sem[3] == some .hp1),
    meets (chan fun c => { c with hp := { c.hp with sem := c.hp.sem.set 3 (some .hp1), semAt := c.hp.semAt.set 3 (some 2) } })
      (fun c => c.hp.sem[3] == some (otherPort .hp0) && c.hp.semAt[3] == some (20 / 10) && pclkWinner 20 == .hp0)
      (.semWrite (l 20) .hp0 3 1 false) (fun y => y.hp.sem[3] == some .hp0),
    meets (chan fun c => { c with hp := { c.hp with sem := c.hp.sem.set 3 (some .hp0) } })
          (fun c => c.hp.sem[3] == some .hp0)
      (.semWrite (l 50) .hp0 3 0 false) (fun y => y.hp.sem[3] == none),
    meets (chan fun c => { c with hp := { c.hp with sem := c.hp.sem.set 3 (some .hp1) } })
          (fun c => c.hp.sem[3] != some .hp0)
      (.semWrite (l 50) .hp0 3 0 false) (fun y => y.hp.sem[3] == some .hp1),
    meets State.reset (fun _ => true) (.semWrite (l 50) .hp0 3 2 false) (fun y => (p0 y).addrErr),
    meets (chan fun c => { c with hp := { c.hp with sem := (c.hp.sem.set 3 (some .hp0)).set 4 (some .hp1) } })
          (fun _ => true)
      (.releaseSem (l 50) .hp0) (fun y => y.hp.sem[3] == none && y.hp.sem[4] == some .hp1),
    meets State.reset (fun c => c.hp.lockU == none) (.lockURead (l 50) .hp0 false)
          (fun y => y.hp.lockU == some .hp0 && (p0 y).sdo == [0]),
    meets (chan fun c => { c with hp := { c.hp with lockU := some .hp0 } }) (fun c => c.hp.lockU == some .hp0)
          (.lockURead (l 50) .hp0 false)
      (fun y => (p0 y).sdo == [0]),
    meets (chan fun c => { c with hp := { c.hp with lockU := some .hp1 } }) (fun c => c.hp.lockU == some .hp1)
          (.lockURead (l 50) .hp0 false)
      (fun y => (p0 y).sdo == [2]),
    meets (chan fun c => { c with hp := { c.hp with lockU := some .hp1, lockAt := some 2 } })
      (fun c => c.hp.lockU == some (otherPort .hp0) && c.hp.lockAt == some (20 / 10) && pclkWinner 20 == .hp0 && !c.hp.mbu.full)
      (.lockURead (l 20) .hp0 false) (fun y => y.hp.lockU == some .hp0 && (p0 y).sdo == [0]),
    meets (chan fun c => { c with hp := { c.hp with lockU := some .hp0 } }) (fun c => !c.hp.mbu.full)
          (.lockUWrite (l 50) .hp0 0)
      (fun y => y.hp.lockU == none),
    meets (chan fun c => { c with hp := { c.hp with lockU := some .hp0, mbu := { full := true } } })
          (fun c => c.hp.mbu.full)
      (.lockUWrite (l 50) .hp0 0) (fun y => y.hp.lockU == some .hp0),
    meets State.reset (fun _ => true) (.doorbellRing (l 50) .hp0 0xFFF00001)
          (fun y => (p0 y).dbPend == 1)] = true := by decide +kernel

def rep0 : Reply := ⟨.hp0, 5, 0, 0, 0, 0, [], true, false, false, 0⟩

theorem witness_MailboxesAndFifosMove : all [
    meets (port0 fun x => { x with mbSel := 1, mbWord := 15 }) (fun c => decide ((p0 c).mbSel < 4) &&
          !((p0 c).h2f[1]).full)
      (.mbDataWrite (l 50) .hp0 9) (fun y => ((p0 y).h2f[1]).words[15] == 9 && ((p0 y).h2f[1]).full &&
        (p0 y).mbWord == 0),
    meets (port0 fun x => { x with mbSel := 1, h2f := x.h2f.set 1 { full := true } }) (fun c => ((p0 c).h2f[1]).full)
      (.mbDataWrite (l 50) .hp0 9) (fun y => (p0 y).mbErr && ((p0 y).h2f[1]).words[0] == 0 && (p0 y).mbWord == 1),
    meets (port0 fun x => { x with mbSel := 8 }) (fun c => c.hp.lockU != some .hp0) (.mbDataWrite (l 50) .hp0 9)
      (fun y => (p0 y).mbErr && y.hp.mbu == {}),
    meets (port0 fun x => { x with mbSel := 6, mbWord := 15, f2h := x.f2h.set 2 { full := true } })
          (fun c => decide (4 ≤ (p0 c).mbSel))
      (.mbDataRead (l 50) .hp0) (fun y => (p0 y).sdo == [0] && !((p0 y).f2h[2]).full && (p0 y).mbWord == 0),
    meets (port0 fun x => { x with used := 15 }) (fun c => decide ((p0 (c.transact .hp0 50 false)).used < 16))
      (.cmdFifoWrite (l 50) .hp0 [0x00AA0000, 7, crc32c (bytesOf [0x00AA0000, 7])])
      (fun y => (p0 y).used == 16 &&
        ((p0 y).cmds.getLast?.map fun q => (q.2.1.tag, q.2.1.arg, q.2.2)) == some (0xAA, 7, none)),
    meets (port0 fun x => { x with used := 16 }) (fun c => decide (16 ≤ (p0 (c.transact .hp0 50 false)).used))
      (.cmdFifoWrite (l 50) .hp0 [0x00AA0000, 7, crc32c (bytesOf [0x00AA0000, 7])])
      (fun y => (p0 y).credViol && (p0 y).cmds.isEmpty && y.fcl.raised.contains (53, 0)),
    meets (port0 fun x => { x with replies := [rep0] }) (fun c => !(p0 c).stream.isEmpty)
          (.replyFifoRead (l 50) .hp0 1)
      (fun y => (p0 y).popped == 1 && (p0 y).undo == [.pop 1] && (p0 y).sdo.length == 1),
    meets State.reset (fun c => (p0 c).stream.isEmpty) (.replyFifoRead (l 50) .hp0 1)
          (fun y => (p0 y).sdo == [0] && (p0 y).addrErr),
    meets (port0 fun x => { x with sess := x.sess.set 1 { st := .opened, level := 2 } }) (fun c => c.alive)
      (.sessionIdleTimeout (l (60000000000 * dflt 0x0800 24 8)) .hp0 1) (fun y => (p0 y).sess[1] == {}),
    meets (port0 fun x => { x with sess := x.sess.set 1 { st := .opened, level := 1 } }) (fun _ => true)
      (.sessionIdleTimeout (l (60000000000 * dflt 0x0800 24 8)) .hp0 1) (fun y => (p0 y).sess[1].st == .opened),
    meets (port0 fun x => { x with sess := x.sess.set 1 { st := .challenged, level := 2, challenge := [1] } })
          (fun _ => true)
      (.challengeExpiry (l 10000000000) (.session .hp0 1)) (fun y => (p0 y).sess[1] == {}),
    meets (chan fun c => { c with sec := { c.sec with challenge := some ⟨1, .hp0, 0, 1, false, [], 0⟩ } })
          (fun c => c.alive)
      (.challengeExpiry (l 10000000000) .debug) (fun y => y.sec.challenge == none),
    meets State.reset (fun c => c.sec.challenge == none) (.challengeExpiry (l 10000000000) .debug)
          (fun y => y.sec.challenge == none)]
    = true := by decide +kernel

/-- A channel whose session 1 on HP0 is open at MAINTENANCE and whose HP0 owns every semaphore in the snapshot (R451,
R440), changed by f. -/
def host (f : Channel → Channel) : State :=
  chan fun c =>
    let c := c.setPort .hp0 { c.port .hp0 with sess := (c.port .hp0).sess.set 1 { st := .opened, level := 2 } }
    f { c with hp := { c.hp with semSnap := Vector.replicate 16 (some .hp0) }, exe := { c.exe with startAt := 100 } }
def hd : Hdr := ⟨l 100, .hp0, 5, 1⟩
def rq (arg : Word) (payload : List Word) : Req := ⟨hd, arg, 4 * payload.length, payload⟩
def bq (arg : Word) (len : Nat) : Req := ⟨hd, arg, len, List.replicate ((len + 3) / 4) 0⟩

/-- Two packets sampled on HP0, of which that with tag 5 is the second (R431). -/
def later (c : Channel) : Channel :=
  c.setPort .hp0 { c.port .hp0 with sampled := [(⟨.hp0, 0, 4, 1, 0, 0, []⟩, none), (⟨.hp0, 0, 5, 1, 0, 0, []⟩, none)] }

/-- The checks of R448, as the statements put them, on the channel that has begun the packet. -/
def adm (c : Channel) (op : Byte) (level : BitVec 2) (sems : List (Fin 16)) : Bool :=
  let b := c.begun hd op
  b.running && hd.loc.t == b.exe.startAt && !b.rst.tm && !b.sec.recovery && b.pwr.entry == none && decide (hd.session.toNat < 8) &&
    (b.sessOf hd).st == .opened && decide (level ≤ (b.sessOf hd).level) &&
          sems.all fun i => b.hp.semSnap[i] == some hd.port

/-- What a command answers: the statuses of the frame's replies and the effects that wait. -/
def ans (y : Channel) (st : Byte) (es : List Effect) : Bool := y.hp.results.map (·.status) == [st] && y.hp.effects == es
def res (y : Channel) : List Word := y.hp.results.map (·.result)
def pay (y : Channel) : List Word := y.hp.results.flatMap (·.payload)

/-- admits of the statements is adm. -/
theorem adm_admits (c : Channel) (op : Byte) (level : BitVec 2) (sems : List (Fin 16)) (h : adm c op level sems = true) :
    (c.begun hd op).admits hd level sems := by
  simp only [adm, Bool.and_eq_true, Bool.not_eq_true', beq_iff_eq, decide_eq_true_eq, List.all_eq_true] at h
  obtain ⟨⟨⟨⟨⟨⟨⟨⟨h1, h2⟩, h3⟩, h4⟩, h5⟩, h6⟩, h7⟩, h8⟩, h9⟩ := h
  exact ⟨h1, h2, h3, h4, h5, h6, h7, h8, h9⟩

theorem witness_ReadsAnswerAfterTheChecks : all [
    meets (host id) (fun c => c.turn hd 0 && adm c 0 0 []) (.nop (rq 77 [])) (fun y => ans y stOk [] && res y == [77]),
    meets (host later) (fun c => !c.turn hd 0) (.nop (rq 77 [])) (fun y => y.hp.results.isEmpty && y.hp.effects.isEmpty),
    meets (host id) (fun c => adm c 1 0 []) (.identify (rq 0 [])) (fun y => ans y stOk [] &&
          (pay y).head? == some 0x9430),
    meets (host id) (fun c => adm c 0x10 0 [] && ((c.begun hd 0x10).paramRead 100 0x3003).isSome)
          (.paramRead (rq 0x3003 []))
      (fun y => ans y stOk [] && res y == [0x1E041414]),
    meets (host id) (fun c => adm c 0x10 0 [] && (pdef 0xFFFF).isNone) (.paramRead (rq 0xFFFF []))
          (fun y => ans y stBadParam []),
    meets (host id) (fun c => adm c 0x12 0 []) (.paramReadBlock (rq 0x00003003 [])) (fun y => ans y stBadParam []),
    meets (host id) (fun c => adm c 0x12 0 [] && (pdef 0x3003).isSome) (.paramReadBlock (rq 0x00013003 []))
      (fun y => ans y stOk [] && pay y == [0x1E041414]),
    meets (host fun c => c.setTrace 0 { TraceUnit.reset with st := .done, recs := [⟨Vector.replicate 8 6, false⟩] })
      (fun c => adm c 0x49 0 [] && c.ce.trace[0].st == .done) (.traceRead (rq 0x2000 []))
      (fun y => ans y stOk [] && (pay y).take 8 == List.replicate 8 6),
    meets (host id) (fun c => adm c 0x61 0 []) (.claimStatus (rq 0 [])) (fun y => ans y stOk []),
    meets (host id) (fun c => adm c 0x70 0 []) (.logRead (rq (64 * 2048 + 1920) [])) (fun y => ans y stOk [.fill 0
          (.log false 1920 64)]),
    meets (host fun c => { c with mg := { c.mg with sensors := c.mg.sensors.set 21 8 } })
          (fun c => adm c 0x72 0 []) (.sensorRead (rq 21 []))
      (fun y => ans y stOk [] && res y == [8]),
    meets (host id) (fun c => adm c 0x72 0 []) (.sensorRead (rq 7 [])) (fun y => ans y stBadParam []),
    meets (host id) (fun c => adm c 0x72 0 []) (.sensorRead (rq 22 [])) (fun y => ans y stBadParam []),
    meets (host id) (fun c => adm c 0xA1 0 [] && bistTests.contains 1) (.bistResult (rq 1 []))
          (fun y => ans y stOk [] && res y == [0x201]),
    meets (host id) (fun c => adm c 0xB1 2 []) (.pctRead (rq 0x100 [])) (fun y => ans y stOk [.fill 0 (.snapshot 0)]),
    meets (host id) (fun c => adm c 0xB1 2 []) (.pctRead (rq 11 [])) (fun y => ans y stOk [.fill 0 (.counters 11)]),
    meets (host id) (fun c => adm c 0xB2 2 []) (.pctSampleRead (rq (511 + 512) [])) (fun y => ans y stOk [] &&
          (pay y).length == 4),
    holds (host fun c => { c with nv := { c.nv with bankB := { st := 1, blocks := 2, missing := [0, 1] } } })
      (fun c => adm c 0x84 2 [] && c.nv.partialBank == some true && !c.deferring && !c.inTrial)]
    = true := by decide +kernel

/-- The order of R448 on LOOP_STOP. -/
theorem witness_ReadsAnswerAfterTheChecks_order : all [
    meets (host id) (fun c => (c.sessOf { hd with session := 2 }).st != .opened)
          (.loopStop { rq 0 [] with hdr := { hd with session := 2 } })
      (fun y => ans y stBadParam []),
    meets (host fun c => c.setPort .hp0 { c.port .hp0 with sess := (c.port .hp0).sess.set 1 { st := .opened, level := 0 } })
      (fun c => (c.sessOf hd).level == 0) (.loopStop (rq 0 [])) (fun y => ans y stDenied []),
    meets (host fun c => { c with hp := { c.hp with semSnap := Vector.replicate 16 none } })
          (fun c => c.hp.semSnap[slotSem 0] != some .hp0)
      (.loopStop (rq 0 [])) (fun y => ans y stNotOwner []),
    meets (host id) (fun c => adm c 0x42 1 [slotSem 0]) (.loopStop (rq 0 [1])) (fun y => ans y stBadLength []),
    meets (host id) (fun c => adm c 0x42 1 [slotSem 31]) (.loopStop (rq 31 [])) (fun y => ans y stOk [.loopStop 31])]
    = true := by decide +kernel

/-- A request that its packet's begin leaves to the checks of the write to id of v. -/
def takesWrite (c : Channel) (id : Nat) (v : Word) : Bool :=
  let b := c.begun hd 0x11
  adm c 0x11 (writeLevel id v) (semOf id) && (writeCheck b.getW id v).isNone && (b.writeLock hd id v).isNone &&
    ((pdef id).any fun d => !b.queueFull d id)

theorem witness_ParameterWritesActAtTheCommit : all [
    meets (host id) (fun c => c.turn hd 0x11 && takesWrite c 0x5801 4) (.paramWrite (rq 0x5801 [4]))
      (fun y => ans y stOk y.hp.effects && res y == [4] && y.act == [] && y.params == [(0x5801, 4)]),
    meets (host id) (fun c => adm c 0x11 (writeLevel 0xFFFF 4) (semOf 0xFFFF) && (pdef 0xFFFF).isNone)
      (.paramWrite (rq 0xFFFF [4])) (fun y => ans y stBadParam []),
    meets (host id) (fun c => adm c 0x11 (writeLevel 0x6002 3) (semOf 0x6002) &&
        writeCheck (c.begun hd 0x11).getW 0x6002 3 == some stRange)
      (.paramWrite (rq 0x6002 [3])) (fun y => ans y stRange [] && y.params == []),
    meets (host fun c => { c with nv := { c.nv with keys := c.nv.keys.set 0 { programmed := true } } })
      (fun c => adm c 0x11 (writeLevel 0x5004 9) (semOf 0x5004) && (writeCheck (c.begun hd 0x11).getW 0x5004 9).isNone &&
        (c.begun hd 0x11).writeLock hd 0x5004 9 == some stLocked)
      (.paramWrite (rq 0x5004 [9])) (fun y => ans y stLocked [] && y.params == []),
    meets (host fun c => { c with ce := { c.ce with slots := c.ce.slots.set 0 { Slot.reset with st := .running, queue := List.replicate 16 ⟨loopId 0 0x10, 0, 0⟩ } } })
      (fun c => let b := c.begun hd 0x11
        adm c 0x11 (writeLevel (loopId 0 0x10) 0) (semOf (loopId 0 0x10)) && (writeCheck b.getW (loopId 0 0x10) 0).isNone &&
          (b.writeLock hd (loopId 0 0x10) 0).isNone && (pdef (loopId 0 0x10)).any fun d => b.queueFull d (loopId 0 0x10))
      (.paramWrite (rq (BitVec.ofNat 32 (loopId 0 0x10)) [0])) (fun y => ans y stBusy [] && y.params == []),
    meets (host id) (fun c => c.turn hd 0x13 && adm c 0x13 2 (semOf 0x5801)) (.paramWriteSet (rq 1 [0x5801, 4]))
          (fun y => res y == [1] && y.params == [(0x5801, 4)]),
    meets (host id) (fun c => adm c 0x13 2 (semOf 0x5801 ++ semOf 0xFFFF))
          (.paramWriteSet (rq 2 [0x5801, 4, 0xFFFF, 1]))
      (fun y => y.params == [] && y.hp.results.map (·.status) == [stBadParam]),
    meets (host id) (fun c => adm c 0x11 (writeLevel 0x3D11 9) [9] && writeCheck (c.begun hd 0x11).getW 0x3D11 9 == none)
      (.compareWrite hd 4 true 9) (fun y => ans y stOk [.compare 4 false]),
    meets (host id) (fun c => adm c 0x11 1 [14]) (.biArm hd 0x50494E01)
          (fun y => y.mg.arm == some (0x50494E01, .hp0, 1, 100) && y.hp.effects == []),
    meets (host id) (fun c => adm c 0x11 2 [15]) (.samplerEnable hd 1024) (fun y => ans y stOk [.sampler]),
    meets (host id) (fun c => adm c 0x11 2 [15]) (.samplerEnable hd 1023) (fun y => ans y stRange [] &&
          y.params == [])] = true := by decide +kernel

/-- The writes that act on the engine, the drives and the counters (R81, R108, R138, R249, R369, R397). -/
theorem witness_EngineCommandsAreAccepted_writes : all [
    meets (host id) (fun c => c.turn hd 0x11 && adm c 0x11 1 [3]) (.ceReturn hd 3) (fun y => ans y stOk [.ceReturn 3]),
    meets (host id) (fun c => adm c 0x11 1 [4]) (.ceReturn hd 31) (fun y => ans y stOk [.ceReturn 31]),
    meets (host id) (fun c => adm c 0x11 1 [5]) (.rcClear hd 2 true)
      (fun y => ans y stOk [.inForce (rcId 2 6) (((Channel.reset .a).getW (rcId 2 6) &&& ~~~1) ||| 1), .rcClear 2]),
    meets (host id) (fun c => adm c 0x11 1 [] && (c.begun hd 0x11).testable .steer) (.gdTestStart hd .steer)
          (fun y => ans y stOk [.gdTest .steer]),
    meets (host fun c => { c with ad := { c.ad with st := .run } }) (fun c => adm c 0x11 1 [] &&
          !(c.begun hd 0x11).testable .aux)
      (.gdTestStart hd .aux) (fun y => ans y stLocked []),
    meets (host id) (fun c => adm c 0x11 1 []) (.minVsupRestart hd) (fun y => ans y stOk [.minVsup]),
    meets (host id) (fun c => adm c 0x11 1 []) (.exePeakRestart hd) (fun y => ans y stOk [.exePeak]),
    meets (host id) (fun c => adm c 0x11 2 [12]) (.fclLatchClear hd) (fun y => ans y stOk [.fclClear]),
    meets (host fun c => c.setPort .hp0 { c.port .hp0 with sess := (c.port .hp0).sess.set 1 { st := .opened, level := 1 } })
      (fun c => adm c 0x11 1 [] && ((c.begun hd 0x11).sessOf hd).level == 1) (.fclLatchClear hd)
      (fun y => ans y stDenied []),
    meets (host id) (fun c => adm c 0x11 1 [1]) (.clrCnt hd) (fun y => ans y stOk [.clrCnt])] = true := by decide +kernel

/-- A STANDBY channel with motor parameters that both drives accept (R178, R209). -/
def ready (c : Channel) : Channel :=
  { c with
    rd := { c.rd with role := .standby }, ad := { c.ad with curve := Vector.ofFn fun k => F32.ofInt k.val }
    params := [(0x3008, 0x3F800000), (0x3009, 0x3F800000), (0x3401, 80 * 65536 + 1000), (0x3408, 0x3F800000), (0x3409, 0x3F800000),
      (0x340B, 0x3F800000), (0x3410, 0x3F800000)] }
def rising : List Word := (List.range 64).map fun k => F32.ofInt k
def prog0 : List Word := (List.range 46).map fun o => (Channel.reset .a).getW (loopId 0 o)
def stopped0 (c : Channel) : Channel :=
  { c with ce := { c.ce with slots := c.ce.slots.set 0 { Slot.reset with st := .stopped } }, params := [(loopId 0 2, 0xFFFFFF3F)] }
def looping (c : Channel) : Channel :=
  { c with ce := { c.ce with slots := c.ce.slots.set 0 { Slot.reset with st := .running } } }
def comb (c : Channel) : Channel := { c with params := [(0x1000, 0x905)], net := { c.net with loaded := some [0] } }
def lead (c : Channel) : Channel := { c with rd := { c.rd with role := .lead, level := 0, view := 0x300 } }

theorem witness_EngineCommandsAreAccepted_drives : all [
    meets (host ready) (fun c => adm c 0x30 1 [6] && c.steerCheck == none) (.driveEnable (rq 0 []))
          (fun y => ans y stOk [.driveEnable .steer]),
    meets (host ready) (fun c => adm c 0x30 1 [7] && c.auxCheck == none) (.driveEnable (rq 1 []))
          (fun y => ans y stOk [.driveEnable .aux]),
    meets (host id) (fun c => c.rd.role == .offline) (.driveEnable (rq 0 [])) (fun y => ans y stLocked []),
    meets (host fun c => let c := ready c; { c with ad := { c.ad with st := .fault } })
          (fun c => c.ad.st == .fault) (.driveEnable (rq 1 []))
      (fun y => ans y stLocked []),
    meets (host id) (fun c => adm c 0x31 1 [7]) (.driveDisable (rq 1 [])) (fun y => ans y stOk [.driveDisable .aux]),
    meets (host ready) (fun c => adm c 0x34 2 [7] && c.curveCheck (rising.map F32.flush) == none)
          (.curveLoad (rq 0 rising))
      (fun y => ans y stOk [.curveLoad rising]),
    meets (host ready) (fun c => c.curveCheck ((List.replicate 64 0).map F32.flush) == some stBadParam)
      (.curveLoad (rq 0 (List.replicate 64 0))) (fun y => ans y stBadParam [])] = true := by decide +kernel

theorem witness_EngineCommandsAreAccepted_engine : all [
    meets (host looping) (fun c => adm c 0x40 2 [slotSem 0] && c.ce.slots[0].live) (.loopLoad (rq 0 prog0))
          (fun y => ans y stLocked []),
    meets (host id) (fun c => adm c 0x40 2 [slotSem 0] && c.progCheck 0 prog0 == none && !c.starting 0)
          (.loopLoad (rq 0 prog0))
      (fun y => ans y stOk [.loopLoad 0 prog0]),
    meets (host fun c => { c with nv := { c.nv with lc := 0 } }) (fun c => adm c 0x41 1 [slotSem 0] && c.lcShut)
          (.loopStart (rq 0 []))
      (fun y => ans y stLocked []),
    meets (host stopped0) (fun c => adm c 0x41 1 [slotSem 0] && c.loopStartCheck 0 == none) (.loopStart (rq 0 []))
      (fun y => ans y stOk [.loopStart 0]),
    meets (host id) (fun c => c.loopStartCheck 0 == some stLocked) (.loopStart (rq 0 []))
          (fun y => ans y stLocked []),
    meets (host id) (fun c => adm c 0x48 1 [5] && c.ce.trace[3].st == .idle) (.traceArm (rq 3 []))
          (fun y => ans y stOk [.traceArm 3]),
    meets (host fun c => c.setTrace 3 { TraceUnit.reset with st := .post }) (fun c => c.ce.trace[3].st == .post)
          (.traceArm (rq 3 []))
      (fun y => ans y stBusy [])] = true := by decide +kernel

theorem witness_EngineCommandsAreAccepted_net : all [
    meets (host fun c => { c with net := { c.net with nt := { c.net.nt with st := .listen } } })
          (fun c => adm c 0x50 2 [2])
      (.combLoad (rq 0 [1])) (fun y => ans y stLocked []),
    meets (host id) (fun c => c.net.nt.st == .down) (.combLoad (rq 0 [1])) (fun y => ans y stOk [] &&
          y.net.staging == some [1]),
    meets (host id) (fun c => c.net.nt.st == .down) (.combLoad (rq 0x80000000 [1]))
      (fun y => y.hp.results.map (·.status) == [stPending] && y.hp.effects.length == 1 && y.net.staging == none),
    meets (host comb) (fun c => adm c 0x51 1 [1] && c.netCheck == none) (.netStart (rq 0 []))
          (fun y => ans y stOk [.netStart]),
    meets (host id) (fun c => !c.lcShut && c.net.loaded == none) (.netStart (rq 0 [])) (fun y => ans y stBadParam []),
    meets (host fun c => { c with net := { c.net with loaded := some [0] } })
          (fun c => !c.lcShut && fld (c.getW 0x1000) 0 6 == 0) (.netStart (rq 0 [])) (fun y => ans y stBadParam []),
    meets (host fun c => { c with net := { c.net with nt := { c.net.nt with st := .listen } } })
          (fun c => c.net.nt.st != .down)
      (.netStart (rq 0 [])) (fun y => ans y stLocked []),
    meets (host id) (fun c => adm c 0x52 1 [1]) (.netStop (rq 0 [])) (fun y => ans y stOk [.netStop]),
    meets (host id) (fun c => adm c 0x60 1 []) (.lockoutResetReq (rq 2 []))
          (fun y => ans y stOk [.lockoutReq false true]),
    meets (host id) (fun c => adm c 0x60 1 []) (.lockoutResetReq (rq 4 []))
          (fun y => ans y stBadParam [])] = true := by decide +kernel

theorem witness_EngineCommandsAreAccepted_module : all [
    meets (host id) (fun c => adm c 0x20 1 [] && c.rd.role != .standby) (.modeRequest (rq 4 []))
      (fun y => y.hp.results.map (fun r => (r.status, r.result)) == [(stMode, 4)] && y.hp.effects == []),
    meets (host fun c => let c := lead c; { c with rd := { c.rd with comp := 0, still := some 0 }, exe := { c.exe with startAt := 1000000000 } })
          (fun c => c.standstill 1000000000 && c.rd.ann == none)
      (.modeRequest { rq 4 [] with hdr := { hd with loc := l 1000000000 } }) (fun y => ans y stOk [.level 4] &&
        res y == [4]),
    meets (host id) (fun c => adm c 0x20 1 []) (.modeRequest (rq 5 [])) (fun y => ans y stBadParam []),
    meets (host id) (fun c => adm c 0x21 1 [11]) (.roleRequest (rq 2 [])) (fun y => ans y stOk [.withdraw]),
    meets (host id) (fun c => c.rd.role != .lead) (.roleRequest (rq 1 [])) (fun y => ans y stLocked []),
    meets (host fun c => let c := lead c; { c with rd := { c.rd with b := { c.rd.b with latched := some { voteB with role := 2 }, latest := some { voteB with role := 2 } } } })
      (fun c => c.rd.role == .lead && !c.swapForbidden State.reset.trackBad) (.roleRequest (rq 1 []))
        (fun y => ans y stOk [.handover]),
    meets (host id) (fun _ => true) (.roleRequest (rq 3 [])) (fun y => ans y stBadParam []),
    meets (host id) (fun c => adm c 0x22 1 [0]) (.powerRequest (rq 0 [])) (fun y => ans y stOk []),
    meets (host id) (fun _ => true) (.powerRequest (rq 3 [])) (fun y => ans y stBadParam []),
    meets (host driven) (fun c => c.refuser 100 true == some 1) (.powerRequest (rq 2 []))
          (fun y => y.pwr.refuser == 1 && y.pwr.refused == 1),
    meets (host fun c => { c with rd := { c.rd with view := 0x300 } }) (fun c => c.refuser 100 true == none)
          (.powerRequest (rq 2 []))
      (fun y => y.pwr.entry.isSome && ans y stPending [.powerEntry 2] && res y == [400]),
    meets (host id) (fun c => adm c 0xA0 2 [14] && c.bistCheck hd 3 == none) (.bistRun (rq 3 []))
          (fun y => ans y stOk [.bist 3 .hp0 1]),
    meets (host id) (fun _ => !bistTests.contains 4) (.bistRun (rq 4 [])) (fun y => ans y stBadParam []),
    meets (host id) (fun c => adm c 0xB0 2 [15]) (.pctConfig (rq 12 [])) (fun y => ans y stBadParam []),
    meets (host id) (fun c => adm c 0xB0 2 [15]) (.pctConfig (rq 11 (List.replicate (pctBase 11).2 0)))
      (fun y => ans y stOk [.pctConfig 11 false (List.replicate (pctBase 11).2 0)])] = true := by decide +kernel

/-- Session k of HP0, an inactive bank in state PARTIAL, the level HELD. -/
def sess (k : Fin 8) (x : Sess) (c : Channel) : Channel := c.setPort .hp0 { c.port .hp0 with sess := (c.port .hp0).sess.set k x }
def part (missing : List Nat) (c : Channel) : Channel := { c with nv := { c.nv with bankB := { st := 1, blocks := 2, missing := missing } } }
def pends (y : Channel) (t : Word) : Bool :=
  y.hp.results.map (fun r => (r.status, r.result)) == [(stPending, t)] && y.hp.effects.length == 1

/-- The writes that program or revoke a key and that lower the debug level (R473, R474, R484). -/
theorem witness_SecureCommandsArePending_writes : all [
    meets (host id) (fun c => c.turn hd 0x11 && adm c 0x11 1 [13] && (c.begun hd 0x11).programLock hd 1 == none) (.keyProgram hd 1)
      (fun y => ans y stOk [.inForce 0x5004 (((Channel.reset .a).getW 0x5004 &&& ~~~7) ||| 1), .keyProgram 1]),
    meets (host id) (fun c => adm c 0x11 1 [13] && (c.begun hd 0x11).revokeLock hd 4 == none) (.keyRevoke hd 4)
      (fun y => ans y stOk [.inForce 0x5004 (((Channel.reset .a).getW 0x5004 &&& ~~~7) ||| 4), .keyRevoke 4]),
    meets (host fun c => { c with nv := { c.nv with keys := c.nv.keys.set 0 { programmed := true } } })
      (fun c => adm c 0x11 1 [13] && (c.begun hd 0x11).programLock hd 1 == some stLocked) (.keyProgram hd 1)
      (fun y => ans y stLocked []),
    meets (host (sess 1 { st := .opened, level := 2, slot := 4 }))
      (fun c => adm c 0x11 1 [13] && (c.begun hd 0x11).revokeLock hd 4 == some stDenied) (.keyRevoke hd 4)
      (fun y => ans y stDenied []),
    meets (host id) (fun c => adm c 0x11 1 [13]) (.debugRelock hd)
      (fun y => ans y stOk [.inForce 0x5002 ((Channel.reset .a).getW 0x5002), .relock])] = true := by decide +kernel

theorem witness_SecureCommandsArePending_sessions : all [
    meets (host id) (fun c => adm c 2 1 []) (.reset (rq 0xA55A [])) (fun y => ans y stOk [.reset .hp0]),
    meets (host id) (fun c => adm c 2 1 []) (.reset (rq 0xA55B [])) (fun y => ans y stBadParam []),
    meets (host id) (fun c => adm c 3 0 [] && ((c.begun hd 3).port .hp0).sess[7].st == .closed)
          (.sessionOpen (rq 0x17 []))
      (fun y => ans y stOk [] && (p0 y).sess[7].st == .opened && (p0 y).sess[7].level == 1 &&
        (p0 y).sess[7].idleAt == 100),
    meets (host id) (fun c => c.sessionAllowed 2 0 && !c.sec.trngBad) (.sessionOpen (rq 0x27 []))
      (fun y => (p0 y).sess[7].st == .challenged && (p0 y).sess[7].level == 2 && (p0 y).sess[7].chAt == 100),
    meets (host (sess 7 { st := .challenged, level := 2, challenge := [1] }))
          (fun c => (p0 (c.begun hd 3)).sess[7].waits)
      (.sessionOpen (bq 0x27 114)) (fun y => pends y 200 && (p0 y).sess[7].challenge.isEmpty),
    meets (host id) (fun c => (p0 c).sess[1].st == .opened) (.sessionOpen (rq 0x11 [])) (fun y => ans y stLocked []),
    meets (host id) (fun c => !c.sessionAllowed 2 4) (.sessionOpen (rq (4 * 64 + 0x27) []))
          (fun y => ans y stDenied []),
    meets (host (sess 7 { st := .opened })) (fun c => adm c 4 0 []) (.sessionClose (rq 7 []))
          (fun y => ans y stOk [] && (p0 y).sess[7] == {}),
    meets (host id) (fun c => adm c 4 0 []) (.sessionClose (rq 0 [])) (fun y => ans y stBadParam []),
    meets (host id) (fun c => adm c 4 0 []) (.sessionClose (rq 8 []))
          (fun y => ans y stBadParam [])] = true := by decide +kernel

theorem witness_SecureCommandsArePending_store : all [
    meets (host id) (fun c => adm c 0x18 2 [] && !c.deferring && !c.nv.cfgActive) (.configLoad (rq 0x10000 [1]))
          (fun y => pends y 40),
    meets (host id) (fun c => adm c 0x18 2 []) (.configLoad (rq 0 [1])) (fun y => ans y stLocked []),
    meets (host fun c => { c with rst := { c.rst with hold := true } }) (fun c => c.deferring)
          (.configLoad (rq 0x10000 [1])) (fun y => ans y stBusy []),
    meets (host id) (fun c => c.rd.level == 4 && adm c 0x19 2 []) (.configActivate (rq 1 [])) (fun y => pends y 800),
    meets (host lead) (fun c => c.rd.level != 4) (.configActivate (rq 1 [])) (fun y => ans y stMode []),
    meets (host id) (fun c => adm c 0x71 2 [14]) (.logFreezeClear (rq 0 [])) (fun y => pends y 40),
    meets (host fun c => { c with nv := { c.nv with bankB := { st := 4 } } }) (fun c => adm c 0x80 2 [] &&
          c.inTrial)
      (.imageBegin (bq 0 262)) (fun y => ans y stLocked []),
    meets (host id) (fun c => adm c 0x81 2 [] && c.nv.partialBank == none) (.imageBlock (bq 0 2048))
          (fun y => ans y stLocked []),
    meets (host (part [0, 1])) (fun c => c.nv.partialBank == some true && decide ((c.nv.bank true).blocks ≤ 2))
          (.imageBlock (bq 2 2048))
      (fun y => ans y stRange []),
    meets (host (part [0, 1])) (fun c => adm c 0x81 2 []) (.imageBlock (bq 1 2048)) (fun y => pends y 40 &&
          y.sec.staged.isSome),
    meets (host fun c => part [0, 1] { c with sec := { c.sec with staged := some (1, [9]) } })
          (fun c => c.sec.staged == some (1, [9]))
      (.imageBlock (bq 0x10001 2048)) (fun y => pends y 40 && y.sec.staged == none),
    meets (host (part [])) (fun c => adm c 0x82 2 [] && c.nv.partialBank == some true) (.imageCommit (rq 0 []))
          (fun y => pends y 3200),
    meets (host (part [1])) (fun c => adm c 0x82 2 []) (.imageCommit (rq 0 [])) (fun y => ans y stBadParam [] &&
          res y == [1])]
    = true := by decide +kernel

theorem witness_SecureCommandsArePending_trust : all [
    meets (host fun c => lead { c with nv := { c.nv with bankB := { st := 2 } } })
      (fun c => adm c 0x83 2 [] && (c.nv.bank c.nv.inactive).st == 2 && c.rd.level != 4)
        (.imageActivate (rq 0 [])) (fun y => ans y stMode []),
    meets (host fun c => { c with nv := { c.nv with bankB := { st := 2 } } }) (fun c => c.rd.level == 4 &&
          !c.partnerBusy) (.imageActivate (rq 0 []))
      (fun y => ans y stOk [.trial .hp0]),
    meets (host fun c => { c with nv := { c.nv with bankB := { st := 2 } }, rd := { c.rd with b := { c.rd.b with latest := some voteB } } })
      (fun c => c.partnerBusy) (.imageActivate (rq 0 [])) (fun y => ans y stBusy []),
    meets (host id) (fun c => adm c 0x90 0 [] && c.nv.lc == 2) (.attest (bq 0 32)) (fun y => pends y 200),
    meets (host fun c => { c with nv := { c.nv with lc := 5 } }) (fun c => c.nv.lc == 5) (.attest (bq 0 32))
          (fun y => ans y stLocked []),
    meets (host id) (fun c => adm c 0x91 2 []) (.debugChallenge (rq 0 [])) (fun y => ans y stBadParam []),
    meets (host fun c => sess 1 { st := .opened, level := 2, slot := 2 } { c with nv := { c.nv with keys := c.nv.keys.set 1 { programmed := true } }, sec := { c.sec with policy := true } })
      (fun c => c.slotGood 2 && c.sec.policy && c.nv.lc != 0 && !c.sec.trngBad) (.debugChallenge (rq 1 []))
      (fun y => (y.sec.challenge.map fun d => (d.level, d.session, d.at_)) == some (1, 1, 100)),
    meets (host id) (fun c => adm c 0x92 2 [] && c.sec.challenge == none) (.debugResponse (bq 0 114))
          (fun y => ans y stLocked []),
    meets (host fun c => { c with sec := { c.sec with challenge := some ⟨1, .hp0, 1, 1, false, [], 0⟩ } })
      (fun c => (c.begun hd 0x92).sec.challenge.isSome) (.debugResponse (bq 0 114)) (fun y => pends y 200 &&
        y.sec.challenge == none),
    meets (host id) (fun c => adm c 0x93 2 [] && (lcPair c.nv.lc 6).isNone) (.lifecycleAdvance (bq 6 114))
          (fun y => ans y stBadParam []),
    meets (host lead) (fun c => (lcPair c.nv.lc 3).isSome && c.rd.level != 4) (.lifecycleAdvance (bq 3 114))
          (fun y => ans y stMode []),
    meets (host fun c => { c with sec := { c.sec with policy := true } }) (fun c => (lcPair c.nv.lc 3).any
          (fun f => !f 0)) (.lifecycleAdvance (bq 3 114))
      (fun y => ans y stDenied []),
    meets (host fun c => sess 1 { st := .opened, level := 2, slot := 2 } { c with sec := { c.sec with policy := true } })
      (fun c => (lcPair c.nv.lc 3).any (fun f => f 2)) (.lifecycleAdvance (bq 3 114))
        (fun y => pends y 400)] = true := by decide +kernel

def run (ws : List BusWrite) (st : List TcmStore) : PassRun := ⟨ws, [], st, [], 100, 0, 0, 0, true⟩
/-- A write of 7 to 0x10 by pass P, and by pass T with the transformed register (R92, R96). -/
def wP : BusWrite := ⟨0x10, 15, 7⟩
def wT : BusWrite := ⟨0x10, 15, 56⟩
def exeS (f : Exe → Exe) : State := chan fun c => { c with exe := f c.exe }
/-- Pass P has run with the writes ws. -/
def inP (ws : List BusWrite) (f : Exe → Exe) : State := exeS fun e => f { e with ph := .passP, seq := 1, held := ws, usedP := 11000 }
def rep1 (tag : BitVec 8) : Reply := ⟨.hp0, tag, 1, 0, 9, 4, [9], true, false, false, 0⟩

theorem witness_FramesCommitWhatBothPassesDid_start : all [
    Memory.wf [] && Memory.read (storeWord [] false 8 0x01020304) 8 == 1 && Memory.read (storeWord [] true 8 0x01020304) (0x80000 + (8 ^^^ 0x7FFF)) == 1 &&
      Memory.wf (storeWord (storeWord [] true 8 0x01020304) true 8 0) && Memory.read (storeWord [] false 9 0x01020304) 12 == 0,
    meets State.reset (fun c => c.running && !c.exe.stopping && c.pwr.entry == none && !c.sec.halted &&
          c.frameDue 50000) (.frameStart (l 50000) (run [wP] []))
      (fun y => y.exe.seq == 1 && y.exe.startAt == 50000 && y.exe.frame == 1 && y.exe.ph == .passP && y.exe.held == [wP] &&
        y.exe.usedP == 100 && y.exe.bankSel),
    meets (exeS fun e => { e with seq := 1, ph := .done }) (fun c => c.frameDue 50000)
          (.frameStart (l 50000) (run (List.replicate 513 wP) []))
      (fun y => y.exe.bad && y.exe.mismatch && y.exe.kind == 5 && y.exe.stopping && y.fcl.raised.contains (0, 0)),
    meets (exeS fun e => { e with seq := 1, ph := .done }) (fun c => !c.frameDue 49999)
          (.frameStart (l 49999) (run [] []))
      (fun y => y.exe.seq == 1),
    meets State.reset (fun c => c.frameDue 50000) (.frameStart (l 50000) { run [] [] with beat := false })
      (fun y => y.exe.noBeat == 1 && !y.fcl.raised.contains (56, 0)),
    meets (exeS fun e => { e with noBeat := 3 }) (fun c => c.frameDue 50000 && c.exe.noBeat == 3)
      (.frameStart (l 50000) { run [] [] with beat := false }) (fun y => y.exe.noBeat == 4 && y.fcl.raised.contains (56, 0)),
    meets (chan fun c => { c with exe := { c.exe with stopped := true }, hp := { c.hp with sem := c.hp.sem.set 3 (some .hp0) } })
      (fun c => !c.running && !c.exe.stopping && c.pwr.entry == none && c.frameDue 50000) (.frameStart (l 50000) (run [] []))
      (fun y => y.exe.ph == .done && y.exe.startAt == 50000 && y.hp.semSnap[3] == some .hp0),
    meets State.reset (fun c => c.frameDue 50000) (.frameStart (l 50000) { run [] [] with fixes := 1 })
      (fun y => y.fcl.raised.contains (4, 0))] = true := by decide +kernel

theorem witness_FramesCommitWhatBothPassesDid_passes : all [
    meets (inP [wP] id) (fun c => decide (c.exe.usedP ≤ 11000) && firstBad 0 c.exe.held [wT] == none &&
          replayBad c.exe.bank [] == none)
      (.passT (l 22000) (run [wT] [])) (fun y => y.exe.ph == .passT && y.exe.tSeq == 1 && !y.exe.bad),
    meets (inP [wP] id) (fun _ => firstBad 0 [wP] [{ wT with data := 64 }] == some (1, 0, wP, { wT with data := 64 }))
      (.passT (l 22000) (run [{ wT with data := 64 }] [])) (fun y => y.exe.bad && y.exe.mismatch &&
        y.exe.kind == 1 && y.exe.addr == 0x10),
    meets (inP [] id) (fun c => replayBad c.exe.bank [(9, 1)] == some (9, 1))
          (.passT (l 22000) ⟨[], [(9, 1)], [], [], 100, 0, 0, 0, true⟩)
      (fun y => y.exe.bad && y.exe.kind == 4 && y.exe.addr == 9),
    meets (inP [] fun e => { e with ph := .passT, usedT := 11000 }) (fun c => c.exe.sigP == c.exe.sigT &&
          c.exe.held.length == c.exe.tSeq && c.exe.bank.length == c.exe.tReads)
      (.passTEnd (l 44000)) (fun y => y.exe.ph == .checked && !y.exe.bad && y.fcl == {}),
    meets (inP [] fun e => { e with ph := .passT, sigP := 1 }) (fun c => c.exe.sigP != c.exe.sigT)
          (.passTEnd (l 44000))
      (fun y => y.exe.bad && y.exe.kind == 7 && y.fcl.raised.contains (0, 0)),
    meets (inP [wP] fun e => { e with ph := .passT }) (fun c => c.exe.held.length != c.exe.tSeq) (.passTEnd (l 44000))
      (fun y => y.exe.bad && y.exe.kind == 6)] = true := by decide +kernel

theorem witness_FramesCommitWhatBothPassesDid_commit : all [
    meets (inP [] fun e => { e with ph := .checked, drain := [wP], wdg := 3 }) (fun c => !c.exe.bad &&
          c.hp.effects.isEmpty) (.frameCommit (l 45040) [])
      (fun y => y.exe.ph == .done && y.exe.wdg == 0 && y.exe.drain.isEmpty && y.exe.last == [wP]),
    meets (inP [] fun e => { e with ph := .checked }) (fun c => !c.demandIgnored 5)
          (.frameCommit (l 45040) [.demand 5 9 true])
      (fun y => y.ce.demCore[5].val == 9),
    meets (inP [] fun e => { e with ph := .checked, stopping := true, wdg := 3, drain := [wP] })
      (fun c => c.running && c.exe.stopping && c.hp.effects.isEmpty && (p0 c).sampled.isEmpty) (.frameCommit (l 45040) [])
      (fun y => y.exe.ph == .done && y.exe.wdg == 3 && y.exe.last.isEmpty && y.exe.drain.isEmpty),
    meets (let s := inP [] fun e => { e with ph := .checked, bad := true, wdg := 3, drain := [wP] }
           { s with chA := { s.chA with hp := { s.chA.hp with results := [rep1 0] } } }) (fun c => c.exe.bad && c.hp.effects.isEmpty)
      (.frameCommit (l 45040) [.demand 5 9 true])
      (fun y => y.exe.ph == .done && y.exe.wdg == 3 && y.exe.last.isEmpty && y.ce.demCore[5] == ⟨0, false⟩ &&
        y.hp.publish == [isoReply (rep1 0)]),
    meets (chan fun c => { c with exe := { c.exe with seq := 1 }, hp := { c.hp with publish := [rep1 0] } })
          (fun c => c.alive && !c.exe.pubDone)
      (.replyPublish (l 2480)) (fun y => y.exe.pubDone && (p0 y).replies == [{ rep1 0 with pubAt := 2480 }] && y.hp.publish.isEmpty),
    meets (chan fun c => { c with exe := { c.exe with seq := 1 }, hp := { c.hp with done := [rep1 0x40] } })
          (fun c => (p0 c).epoch == 0)
      (.replyPublish (l 2480)) (fun y => (p0 y).replies.map
        (fun r => (r.status, r.tag, r.payload)) == [(stStaleTag, 0x40, [])]),
    meets (exeS fun e => { e with pubDone := true }) (fun c => c.exe.pubDone) (.replyPublish (l 2480))
          (fun y => (p0 y).replies.isEmpty),
    meets State.reset (fun c => c.alive) (.mgCoreMismatch (l 5))
          (fun y => y.fcl.raised.contains (56, 0))] = true := by decide +kernel

/-- Work of session 1 on HP0. -/
def wk (k : WorkKind) : Work := ⟨k, .hp0, 0x05, 1, []⟩
def working (k : WorkKind) (f : Channel → Channel) : State := chan fun c => f { c with hp := { c.hp with work := [wk k] } }
def job (d : MramData) (tries : Nat) : State :=
  chan fun c => { c with nv := { c.nv with busy := true, jobs := [⟨d, tries, some (wk .freezeClear)⟩] } }
def done (y : Channel) : List Byte := y.hp.done.map (·.status)
def entry0 : LogEntry := ⟨1, 0, 0, 0, 0, 0, 0, 0⟩

theorem witness_PendingWorkEnds_work : all [
    meets State.reset (fun c => c.hp.work.isEmpty) (.signatureCheckDone (l 5)) (fun y => y.hp.done.isEmpty),
    meets (working (.attest []) id) (fun c => c.hp.work == [wk (.attest [])]) (.signatureCheckDone (l 5))
          (fun y => y.hp.work.isEmpty && done y == [stOk]),
    meets (working (.sessionSig 1 [1]) (sess 1 { st := .challenged, level := 2, slot := 3 }))
      (fun c => (p0 c).sess[1].challenge.isEmpty && !c.slotGood 3) (.signatureCheckDone (l 5))
      (fun y => (p0 y).sess[1] == {} && y.fcl.raised.contains (59, 0) && done y == [stDenied]),
    meets (job .freezeErase 1) (fun c => c.nv.busy && c.rst.pend.isEmpty) (.mramWriteAttemptEnd (l 5) false)
      (fun y => y.nv.jobs.map (·.tries) == [2] && y.nv.busy && done y == []),
    meets (job (.latch true) 2) (fun c => c.nv.busy) (.mramWriteAttemptEnd (l 5) false)
          (fun y => y.nv.jobs.isEmpty && !y.nv.latch && done y == [stInternal]),
    meets (let s := job (.log entry0) 2
           { s with chA := { s.chA with nv := { s.chA.nv with ring := List.replicate 1984 entry0 } } })
      (fun c => c.nv.busy) (.mramWriteAttemptEnd (l 5) false) (fun y => y.nv.ring.length == 1983),
    meets (let s := job (.curve [1]) 2; { s with chA := { s.chA with nv := { s.chA.nv with curve := some [2] } } })
      (fun c => c.nv.busy) (.mramWriteAttemptEnd (l 5) false) (fun y => y.nv.curve == none && y.nv.ring.isEmpty),
    meets (job (.latch true) 0) (fun c => c.nv.busy) (.mramWriteAttemptEnd (l 5) true)
          (fun y => y.nv.jobs.isEmpty && y.nv.latch && done y == [stOk]),
    meets (job (.curve [1]) 0) (fun c => c.nv.busy) (.mramWriteAttemptEnd (l 5) true)
          (fun y => y.nv.curve == some [1]),
    meets State.reset (fun c => !c.nv.busy) (.mramWriteAttemptEnd (l 5) true) (fun y => y.hp.done.isEmpty),
    meets (chan fun c => { c with sec := { c.sec with keyBusy := some 2 } }) (fun c => c.sec.keyBusy == some 2)
          (.keyProgramDone (l 5))
      (fun y => y.sec.keyBusy == none && y.nv.keys[1].programmed && !y.nv.keys[0].programmed),
    meets State.reset (fun c => c.sec.keyBusy == none) (.keyProgramDone (l 5)) (fun y => !y.nv.keys[0].programmed),
    meets State.reset (fun c => c.alive) (.trngHealthFail (l 5)) (fun y => y.sec.trngBad),
    meets (chan fun c => { c with sec := { c.sec with trngBad := true } }) (fun c => c.sec.trngBad)
          (.trngHealthPass (l 5)) (fun y => !y.sec.trngBad)]
    = true := by decide +kernel

/-- Whether a signature verifies rests on a free value (Config), and with it what a check of an image or a configuration
leaves; the hypotheses on the state are met so. -/
theorem witness_PendingWorkEnds_checks : all [
    holds (working .imageCommit (part [])) (fun c => c.alive && c.hp.work == [wk .imageCommit] &&
          c.nv.partialBank == some true),
    holds (working (.configActivate true) id) (fun c => c.hp.work == [wk
          (.configActivate true)])] = true := by decide +kernel

theorem witness_PendingWorkEnds_eyelet : all [
    meets State.reset (fun c => c.alive) (.eyeletAccess (l 5) (.ident 0)) (fun y => y.sec.ey == 0),
    meets State.reset (fun _ => true) (.eyeletAccess (l 5) (.readStore 0)) (fun y => y.sec.ey == 2 &&
          y.sec.eyData == 0),
    meets State.reset (fun c => !c.pwr.doze && c.sec.level == 0) (.eyeletAccess (l 5) (.readTcm 0))
          (fun y => y.sec.ey == 2),
    meets (chan fun c => { c with sec := { c.sec with level := 1 }, exe := { c.exe with tcm := [(4, 9)] } })
          (fun c => c.sec.level != 0)
      (.eyeletAccess (l 5) (.readTcm 4)) (fun y => y.sec.ey == 0 && y.sec.eyData == 9),
    meets (chan fun c => { c with sec := { c.sec with level := 1 }, ce := { c.ce with slots := c.ce.slots.set 2 { Slot.reset with state := { LoopState.zero with u1 := 7 } } } })
      (fun c => c.sec.level != 0 && !inMram (.loop 2 0) && (c.eyMem (.loop 2 0)).isSome)
      (.eyeletAccess (l 5) (.readMem (.loop 2 0))) (fun y => y.sec.ey == 0),
    meets (chan fun c => { c with sec := { c.sec with level := 1 } }) (fun c => accClass .halt == 2 && c.sec.level != 2)
      (.eyeletAccess (l 5) .halt) (fun y => !y.sec.halted && y.sec.ey == 2),
    meets State.reset (fun c => accClass (.setLevel 2) == 4 && c.nv.lc != 0) (.eyeletAccess (l 5) (.setLevel 2))
      (fun y => y.sec.ey == 2 && y.sec.level == 0),
    meets (chan fun c => { c with sec := { c.sec with level := 2 } }) (fun c => c.quiet) (.eyeletAccess (l 5) (.writeTcm 4 9))
      (fun y => y.sec.ey == 0 && y.exe.tcm == [(4, 9)]),
    meets (chan fun c => { c with sec := { c.sec with level := 2 } }) (fun c => c.quiet)
          (.eyeletAccess (l 5) .halt) (fun y => y.sec.halted && y.sec.ey == 0),
    meets (chan fun c => lead { c with sec := { c.sec with level := 2 } }) (fun c => !c.quiet)
          (.eyeletAccess (l 5) .halt)
      (fun y => !y.sec.halted && y.sec.ey == 1)] = true := by decide +kernel

/-- An entry of SHELF (2) or DOZE (1) at frame 0, in frame 1. -/
def ent (target : BitVec 2) (published : Option Nat) : Entry := ⟨target, .hp0, 5, 1, 0, 0, published, false⟩
def entering (target : BitVec 2) (published : Option Nat) (f : Channel → Channel) : State :=
  chan fun c => f { c with pwr := { c.pwr with entry := some (ent target published) }, exe := { c.exe with seq := 1 } }
/-- Every rail at its nominal value, but 0x99999999 nothing (R526). -/
def nominal : Vector F32 22 := Vector.ofFn fun k => match railNominal k.val with | some mv => F32.ofFrac mv 1000 | none => 0
def img0 (shelf : Bool) : TcmImage := ⟨shelf, [(4, 9)], [], false, imageHash [(4, 9)]⟩
def smp0 : SampleRec := ⟨1, 2, 3, 0x1FF⟩
def samplerOn (n : Nat) (c : Channel) : Channel :=
  { c with act := [(0x6002, 1)], params := [(0x6002, 1)], pct := { c.pct with samples := List.replicate n smp0 } }

theorem witness_SensorsTestsAndPowerStates_management : all [
    meets State.reset (fun c => c.alive &&
          (List.finRange 22).all fun k => !railBad (nominal.set 20 (F32.ofFrac 24000 1000)) k)
      (.sensorUpdate (l 5) nominal 24000) (fun y => y.sup.vsupMv == 24000 && y.sup.minMv == 24000 && !y.mg.railOn),
    meets State.reset (fun _ => (List.finRange 22).any fun k => railBad (Vector.replicate 22 0) k)
          (.sensorUpdate (l 5) (Vector.replicate 22 0) 24000)
      (fun y => y.mg.railOn && y.fcl.raised.any fun p => p.1 == 55),
    meets State.reset (fun c => c.mg.bist == none) (.bistTestEnd (l 5) true {} 0) (fun y => y.mg.results.isEmpty),
    meets (chan fun c => { c with mg := { c.mg with bist := some (1, .hp0, 1), unusable := 0x7FFF } })
          (fun c => c.mg.bist == some (1, .hp0, 1))
      (.bistTestEnd (l 5) true {} 0) (fun y => y.mg.bist == none && y.mg.unusable == 0x7FFF &&& ~~~bistMask 1),
    meets (chan fun c => { c with mg := { c.mg with bist := some (1, .hp0, 1) } }) (fun c => c.alive)
      (.bistTestEnd (l 5) false ⟨0x7FFF, 0⟩ 7) (fun y => y.mg.bist == none && y.mg.unusable == bistMask 1),
    meets (chan fun c => { c with mg := { c.mg with bist := some (0x11, .hp0, 1), deadIn := 3 } })
          (fun c => c.mg.bist == some (0x11, .hp0, 1)) (.bistTestEnd (l 5) true {} 0) (fun y => y.mg.bist == none && y.mg.deadIn == 0),
    meets (chan fun c => { c with mg := { c.mg with bist := some (0x11, .hp0, 1), deadIn := 3 } })
          (fun c => c.mg.bist == some (0x11, .hp0, 1)) (.bistTestEnd (l 5) false ⟨0, 8⟩ 0)
      (fun y => y.mg.bist == none && y.mg.deadIn == 11),
    meets (chan (samplerOn 510)) (fun c => c.running && !c.pct.full) (.samplerRecord (l 5) smp0)
          (fun y => y.pct.samples.length == 511 && !y.pct.full),
    meets (chan (samplerOn 511)) (fun c => decide (c.pct.samples.length < 512)) (.samplerRecord (l 5) smp0)
      (fun y => y.pct.full && (y.pct.samples.getLast?.map (·.info)) == some 0x100),
    meets State.reset (fun c => !bit (c.getA 0x6002) 0) (.samplerRecord (l 5) smp0)
          (fun y => y.pct.samples.isEmpty)] = true := by decide +kernel

theorem witness_SensorsTestsAndPowerStates_entry : all [
    meets (entering 2 none fun c => { c with exe := { c.exe with tcm := [(4, 9), (0x87FFB, 9)] } })
          (fun c => c.entryAt 2480 == some (ent 2 none) && c.entryReady)
      (.powerEntryComplete (l 2480) {})
        (fun y => (y.nv.image.map fun i => (i.shelf, i.cells)) == some (true, [(4, 9)]) &&
        y.pwr.entry == some (ent 2 (some 2480))),
    meets (entering 1 none id) (fun c => c.entryReady && !c.pwr.doze) (.powerEntryComplete (l 2480) ⟨1, 1, 0⟩)
          (fun y => y.pwr.entry == none && y.nv.image == none),
    meets State.reset (fun c => c.entryAt 2480 == none) (.powerEntryComplete (l 2480) {})
          (fun y => y.nv.image == none),
    meets (entering 1 none fun c => { c with exe := { c.exe with seq := 401 } })
          (fun c => c.entryAt 2480 == some (ent 1 none) && decide (0 + 400 < c.exe.seq))
      (.powerEntryTimeout (l 2480)) (fun y => y.pwr.entry == none && !y.pwr.doze),
    meets (entering 1 none fun c => { c with exe := { c.exe with seq := 400 } })
          (fun c => decide (c.exe.seq ≤ 0 + 400)) (.powerEntryTimeout (l 2480))
      (fun y => y.pwr.entry.isSome),
    meets (entering 2 (some 5) id) (fun c => c.clocksStop 100) (.shelfClockStop (l 100))
      (fun y => y.rst.phase == .shelf && y.exe.tcm.isEmpty && !y.clk.pllLock && y.pwr.shelves == 1 &&
        y.pwr.entry == none),
    meets State.reset (fun c => !c.clocksStop 100) (.shelfClockStop (l 100))
          (fun y => y.rst.phase == .run)] = true := by decide +kernel

/-- WAKE_CFG with both sources and address 0x21 (R513, R514). -/
def wakeable (c : Channel) : Channel := { c with act := [(0x0100, 0x2103)] }

theorem witness_SensorsTestsAndPowerStates_wake : all [
    meets (chan fun c => { c with act := [(0x0100, 0)], rst := { c.rst with phase := .shelf } })
          (fun c => !bit (c.getA 0x0100) 1) (.wakePin (l 5))
      (fun y => y.rst.phase == .shelf),
    meets (chan fun c => wakeable { c with rst := { c.rst with phase := .shelf } })
          (fun c => bit (c.getA 0x0100) 1) (.wakePin (l 5))
      (fun y => y.rst.phase == .wakeXtal && y.pwr.lastWake == 2 && y.pwr.wakeAt == 5),
    meets (chan fun c => wakeable { c with pwr := { c.pwr with doze := true } }) (fun c => c.pwr.doze &&
          !c.pwr.waking && c.mg.bist == none && !c.shelfPending)
      (.wakePin (l 5)) (fun y => y.pwr.waking && y.pwr.lastWake == 2),
    meets (chan fun c => wakeable { c with rst := { c.rst with phase := .shelf } })
          (fun c => c.af 0x0100 8 8 != 0x22) (.wakeAddressMatch (l 5) 0xFF 0x22)
      (fun y => y.rst.phase == .shelf),
    meets (chan fun c => wakeable { c with rst := { c.rst with phase := .shelf } })
          (fun c => c.af 0x0100 8 8 == 0x21) (.wakeAddressMatch (l 5) 0xFF 0x21)
      (fun y => y.rst.phase == .wakeXtal && y.pwr.lastWake == 4),
    meets (rstS fun r => { r with phase := .wakeRestore }) (fun c => c.nv.image == none && !c.nv.busy &&
          c.rst.pend.isEmpty)
      (.wakeRestoreDone (l 5) true) (fun y => y.rst.phase == .xtal &&
        y.rst.cause == 0x20)] = true := by decide +kernel

/-- An image whose stored H is that of its bytes is whole (R509); H itself is open (Config). -/
theorem img0_whole (shelf : Bool) : (img0 shelf).whole = true := by simp [TcmImage.whole, img0]

/-- The restore of a whole image: its hypotheses, whose H rests on a free value. -/
theorem witness_SensorsTestsAndPowerStates_restore : (∀ shelf, (img0 shelf).whole = true) ∧ all [
    holds (chan fun c => { c with rst := { c.rst with phase := .wakeRestore }, nv := { c.nv with image := some (img0 true) } })
      (fun c => c.rst.phase == .wakeRestore && !c.pwr.doze && (c.nv.image.map (·.shelf)) == some true),
    holds (chan fun c => { c with pwr := { c.pwr with doze := true, waking := true }, nv := { c.nv with image := some (img0 false) } })
      (fun c => c.released && c.pwr.doze && c.pwr.waking && c.fatalLines.isEmpty && (c.nv.image.map (·.shelf)) == some false),
    bothHalves (img0 true).cells == [(4, 9), (0x87FFB, 9)]] = true := ⟨img0_whole, by decide +kernel⟩

/-- Channel A with address 5, three cells, cell 2 from macrotick 100 for 10, and transmit flow 3 in it (R403, R404). -/
def node (st : NtSt) (g : Channel → Channel) : State :=
  chan fun c => g { c with
    act := [(0x1000, 5), (0x1800, 3), (0x1882, 10 * 16384 + 100), (0x1C0C, 0x840)]
    net := { c.net with comb := [0, 0, 2 * 16384 + 3 * 64 + 5], nt := { c.net.nt with st := st } } }
def portS (st : PortMode) (f : OlPort → OlPort) (c : Channel) : Channel := c.setOl .xUp (f { c.ol .xUp with st := st })
/-- A good header of network X with VER 1 (R378): its TYPE and VER byte, its source, flow 4, one word, SEQ 1, one hop.
-/
def hdr1 (b0 src : Byte) : Vector Byte 8 := hdrForward #v[b0, src, 4, 0, 0, 1, 1, 0]
/-- A whole body: one word and its trailer. -/
def body1 : List Byte := [1, 2, 3, 4] ++ trailerOf (hdr1 1 6) [1, 2, 3, 4]
def rxS (h : Option (Vector Byte 8)) (f : OlPort → OlPort) : Channel → Channel :=
  portS .rx fun x => f { x with hdr := h, judged := true }
/-- Flow 4 receives from node 6. -/
def flow4 (c : Channel) : Channel := { c with act := [(0x1000, 5), (0x1C10, 0x806)] }

theorem witness_OlliaPortsMoveFrames_activity : all [
    meets (node .sync id) (fun c => (c.netSettle 5).olState .xUp == .listen) (.portActivityStart (l 5) .xUp)
      (fun y => (y.ol .xUp).st == .rx && (y.ol .xUp).rxAt == 5 && (y.ol .xDn).st == .listen),
    meets (node .sync (portS .tx id)) (fun c => (c.netSettle 5).olState .xUp != .listen)
          (.portActivityStart (l 5) .xUp)
      (fun y => (y.ol .xUp).st == .tx),
    meets (node .sync (rxS none fun x => { x with fwdTo := true })) (fun c => (c.netSettle 5).olState .xUp == .rx)
          (.portActivityEnd (l 5) .xUp)
      (fun y => (y.ol .xUp).st == .listen && (y.ol .xUp).quietAt == 5 - lclk 32 && (y.ol .xDn).freeAt == some (5 + lclk 20)),
    meets (node .sync id) (fun c => (c.netSettle 5).olState .xUp != .rx) (.portActivityEnd (l 5) .xUp)
          (fun y => (y.ol .xUp).quietAt == 0),
    meets (node .sync (rxS none id)) (fun _ => hdrBad .x (hdr1 0x09 6) false)
          (.networkHeaderComplete (l 5) .xUp (hdr1 0x09 6) false)
      (fun y => (y.ol .xUp).hdrErr == 1 && (y.ol .xUp).skip && (y.ol .xUp).hdr == none),
    meets (node .sync (rxS none id)) (fun c => !hdrBad .x (hdr1 1 5) false &&
          hdrSrc (hdr1 1 5) == (c.netSettle 5).olAddr)
      (.networkHeaderComplete (l 5) .xUp (hdr1 1 5) false) (fun y => (y.ol .xUp).conflict && (y.ol .xUp).skip),
    meets (node .sync (rxS none fun x => { x with fwdTo := true })) (fun c => !hdrBad .x (hdr1 1 6) false &&
          hdrSrc (hdr1 1 6) != (c.netSettle 5).olAddr)
      (.networkHeaderComplete (l 5) .xUp (hdr1 1 6) false)
      (fun y => (y.ol .xUp).hdr == some (hdr1 1 6) && (y.ol .xUp).heardAt == some 5 &&
        (y.ol .xDn).sentHdr == some (hdrForward (hdr1 1 6))),
    meets (node .sync (rxS none id)) (fun c => !(c.ol .xUp).fwdTo && (c.netSettle 5).olState .xDn != .off)
      (.networkHeaderComplete (l 5) .xUp (hdr1 1 6) false) (fun y => (y.ol .xDn).fwdBusy == 1),
    meets (node .sync id) (fun c => (c.netSettle 5).olState .xUp != .rx)
          (.networkHeaderComplete (l 5) .xUp (hdr1 1 6) false)
      (fun y => (y.ol .xUp).hdr == none)] = true := by decide +kernel

/-- An entry that came long ago, and port X_UP when a frame's end at 5 has been read. -/
def entry1 : FifoEntry := { byte := 7, k := false, err := false, at_ := 0 }
def after (c : Channel) (body : List Byte) (sd : Bool) (wrote : List Nat) : OlPort :=
  let z := c.netSettle 5
  (((z.setOl .xUp { z.ol .xUp with stalled := sd }).fifoBody 5 .xUp body false wrote .eof).fifoDrain 5 .xUp).ol .xUp

theorem witness_OlliaPortsMoveFrames_ends : all [
    meets (node .sync id) (fun c => c.olState .xUp != .rx)
          (.networkFrameEnd (l 5) .xUp body1 false false [] .eof) (fun y => (y.ol .xUp).accepted == 0),
    meets (node .sync (rxS (some (hdr1 1 6)) id))
          (fun c => endKind (hdr1 1 6) (body1.set 0 9) false (after c (body1.set 0 9) false []).lost .eof == .crc)
      (.networkFrameEnd (l 5) .xUp (body1.set 0 9) false false [] .eof) (fun y => (y.ol .xUp).crcErr == 1 &&
        (y.ol .xUp).hdr == none && (y.ol .xUp).copy.isNone),
    meets (node .sync (rxS (some (hdr1 1 6)) fun x => { x with fifo := List.replicate 512 entry1 }))
      (fun c => endKind (hdr1 1 6) body1 false (after c body1 true []).lost .eof == .overflow)
      (.networkFrameEnd (l 5) .xUp body1 false true [] .eof) (fun y => (y.ol .xUp).overflow &&
        y.fcl.raised.contains (51, 0) && (y.ol .xUp).copy.isNone),
    meets (node .sync (rxS (some (hdr1 1 6)) id))
      (fun c => endKind (hdr1 1 6) body1 false (after c body1 false []).lost .eof == .valid && hdrType (hdr1 1 6) == 0)
      (.networkFrameEnd (l 5) .xUp body1 false false [] .eof)
      (fun y => ((y.ol .xUp).copy.map fun u => (u.due, u.hdr, u.words)) == some (5 + lclk 16, hdr1 1 6, [0x01020304]) &&
        (y.net.flows[4]).landX == [0x01020304] && (y.net.flows[4]).content.isEmpty && (y.ol .xUp).hdr == none),
    meets (node .sync (rxS (some (hdr1 1 6)) fun x => { x with skip := true })) (fun c => (c.netSettle 5 |>.ol .xUp).skip)
      (.networkFrameEnd (l 5) .xUp body1 false false [] .eof)
      (fun y => (y.ol .xUp).copy.isNone && (y.net.flows[4]).landX.isEmpty),
    meets (node .sync (rxS (some (hdr1 1 6)) fun x => { x with fwdTo := true, sofAt := 9000 }))
      (fun c => (c.netSettle 9780 |>.ol .xUp).fwdTo) (.networkFrameEnd (l 9780) .xUp body1 false false [] .eof)
      (fun y => !(y.ol .xUp).fwdTo && (y.ol .xDn).closeAt.isSome)]
    = true := by decide +kernel

/-- Channel A with a valid copy of flow 4 that is due at 100 on X and one of Y in the same LCLK (R392). -/
def copied (f : Flow → Flow) : Channel :=
  (node .sync fun c => (portS .rx (fun x => { x with copy := some ⟨100, hdr1 1 6, [9], []⟩ }) (flow4 c)).setFlow 4
    (f (c.net.flows[4]))).chA

theorem witness_OlliaPortsMoveFrames_judgement : all [
    (let c := copied id
     let y := Channel.judgeNext 100 c
     c.firstCopy 100 == some (.xUp, ⟨100, hdr1 1 6, [9], []⟩) && (c.net.flows[4]).judge 1 == .commit &&
       (y.net.flows[4]).content == [9] && (y.net.flows[4]).committed && (y.ol .xUp).accepted == 1 && (y.ol .xUp).copy.isNone),
    (copied id).firstCopy 99 == none,
    (let c := copied fun f => { f with committed := true, last := 1 }
     let y := Channel.judgeNext 100 c
     (c.net.flows[4]).judge 1 == .dup && (y.net.flows[4]).content.isEmpty && (y.ol .xUp).dup == 1),
    (let c := copied fun f => { f with committed := true, last := 2 }
     let y := Channel.judgeNext 100 c
     (c.net.flows[4]).judge 1 == .old && (y.net.flows[4]).content.isEmpty && (y.ol .xUp).old == 1)] = true := by decide +kernel

def tx1 (k : TxKind) (ab : Bool) : Tx := ⟨k, [1, 2], 1, Vector.replicate 4 true, 0, some 2, ab, [1, 2]⟩
def sendS (k : TxKind) (st : NtSt) (g : Channel → Channel) : State := node st fun c => g (portS .tx id { c with net := { c.net with tx := some (tx1 k false) } })

/-- A transmission that every port has ended. -/
def closed : Tx := { tx1 (.data 3 false) false with ports := Vector.replicate 4 false }

/-- Port X_UP receives a waggle, which X_DN sends on. -/
def cutting (st : NtSt) : State :=
  node st fun c =>
    let c := rxS (some (hdr1 0x11 6)) (fun x => { x with fwdTo := true }) c
    c.setOl .xDn { c.ol .xDn with st := .tx, sentHdr := some (hdr1 0x11 6) }

theorem witness_OlliaPortsMoveFrames_sends : all [
    meets (node .sync fun c => c.setNt { c.net.nt with guardAt := 601 }) (fun c => decide (2 < c.cells) &&
          c.mtAt (c.af 0x1882 0 14) == 20000 && !(c.netSettle 20000).gateOpen 20000 2)
      (.transmissionStart (l 20000) 2) (fun y => y.net.skippedCnt == 1 && (y.net.flows[3]).skipped == 1 &&
        y.net.tx == none && y.fcl.raised.contains (50, 0)),
    meets (node .sync id) (fun c => (c.netSettle 20000).gateOpen 20000 2 &&
          (c.netSettle 20000).flowNext 20000 3 == some [])
      (.transmissionStart (l 20000) 2)
        (fun y => (y.net.tx.map fun x => (x.words, x.seq, x.cell, x.at_)) == some ([0, 0], 1, some 2, 20000) &&
        (y.net.flows[3]).last == 1 && (y.ol .yDn).st == .tx &&
        (y.ol .yDn).sent == ownFrame y.olAddr .y 0 3 1 [0, 0]),
    meets (rstS fun r => { r with phase := .verify }) (fun c => !c.released) (.transmissionStart (l 20000) 2)
          (fun y => y.net.tx == none),
    meets (node .sync id) (fun c => (c.netSettle 5).net.tx == none) (.transmissionEnd (l 5))
          (fun y => y.net.nt.guardEv == 0),
    meets (sendS (.data 3 false) .sync id) (fun _ => decide (3199 < lclk 400)) (.transmissionEnd (l 3199))
          (fun y => y.net.tx.isSome),
    meets (sendS (.data 3 false) .sync id) (fun _ => (tx1 (.data 3 false) false).length == 3200)
          (.transmissionEnd (l 3200))
      (fun y => y.net.tx == none && (y.ol .xUp).freeAt == some (3200 + lclk 20)),
    meets (node .sync fun c => (portS .tx id { c with net := { c.net with tx := some closed } }).setNt { c.net.nt with guardEv := 1 })
      (fun c => (c.netSettle 3200).net.tx == some closed && closed.ports.all (!·)) (.transmissionEnd (l 3200))
      (fun y => y.net.tx == none && y.net.nt.guardEv == 1),
    meets (node .sync id) (fun c => (c.netSettle 5).olState .xUp != .tx) (.txCollision (l 5) .xUp)
          (fun y => y.net.collision == 0),
    meets (sendS (.data 3 false) .sync id) (fun c => (c.netSettle 5).olState .xUp == .tx) (.txCollision (l 5) .xUp)
      (fun y => y.net.collision == 1 &&
        (y.net.tx.map fun x => x.ports.toList) == some [false, true, true, true] &&
        (y.ol .xUp).freeAt == some (5 + lclk 50)),
    meets (sendS .coldstart .cold fun c => c.setNt { c.net.nt with collisions := 2, coldAt := some 0 })
          (fun c => decide (c.net.nt.collisions < 3))
      (.txCollision (l 5) .xUp) (fun y => (y.net.tx.map (·.aborted)) == some true && y.net.nt.collisions == 3 &&
        y.net.nt.coldAt == none && y.net.nt.st == .cold),
    meets (node .cold fun c => portS .tx id { c with net := { c.net with tx := some (tx1 .coldstart true)
                                                                         nt := { c.net.nt with collisions := 2 } } })
      (fun c => ((c.netSettle 5).net.tx.map (·.aborted)) == some true) (.txCollision (l 5) .xUp)
      (fun y => y.net.nt.collisions == 2 && y.net.nt.st == .cold),
    meets (sendS .coldstart .cold fun c => c.setNt { c.net.nt with collisions := 3 })
          (fun c => decide (3 ≤ c.net.nt.collisions))
      (.txCollision (l 5) .xUp) (fun y => y.net.nt.st == .listen && y.net.nt.noCold && y.fcl.raised.contains (49, 0)),
    meets (sendS (.data 3 false) .sync id) (fun c => (c.netSettle 22600).gateClosed 22600 (tx1
          (.data 3 false) false)) (.guardianGateClose (l 22600))
      (fun y => (y.net.tx.map (·.aborted)) == some true && y.net.cutCnt == 1 && y.fcl.raised.contains (50, 0)),
    meets (sendS (.data 3 false) .sync id) (fun c => !(c.netSettle 22599).gateClosed 22599 (tx1
          (.data 3 false) false)) (.guardianGateClose (l 22599))
      (fun y => y.net.cutCnt == 0),
    meets (cutting .sync)
      (fun c => (c.netSettle 900000).fwdCutDue 900000 (hdr1 0x11 6) 0 && (c.netSettle 900000 |>.ol .xUp).fwdTo &&
        (c.netSettle 900000 |>.ol .xUp).hdr.isSome && (c.netSettle 900000 |>.ol .xDn).sentHdr == some (hdr1 0x11 6))
      (.forwarderGuardCut (l 900000) .xUp) (fun y => !(y.ol .xUp).fwdTo && (y.ol .xDn).abortTx == 1 &&
        y.net.guardCut == 1 && (y.ol .xDn).closeAt.isNone),
    meets (cutting .sync) (fun c => !(c.netSettle 5).fwdCutDue 5 (hdr1 0x11 6) 0)
      (.forwarderGuardCut (l 5) .xUp) (fun y => (y.ol .xUp).fwdTo),
    meets (node .sync id) (fun c => (c.netSettle 5 |>.ol .xDn).sentHdr == none) (.forwarderGuardCut (l 5) .xUp)
          (fun y => y.net.guardCut == 0)]
    = true := by decide +kernel

def ntS (st : NtSt) (f : Nt → Nt) : State := node st fun c => c.setNt (f c.net.nt)
/-- A waggle payload that agrees with the channel's configuration and one that names another cycle length (R407,
R411). -/
def wag (c : Channel) : Vector Word 4 := #v[7, put 30 (c.af 0x1040 0 2) ||| put 28 (c.af 0x0200 0 2), c.getA 0x1801, 0]
def wag0 : Vector Word 4 := wag (node .sync id).chA
def wagBad : Vector Word 4 := #v[7, wag0[1] ^^^ 0xC0000000, wag0[2], 0]

/-- Without spread (R73). -/
def flat (s : State) : State := { s with chA := { s.chA with clk := { s.chA.clk with spread := 0 } } }

theorem witness_TimeUnitFollowsItsStates_cycles : all [
    meets (ntS .sync fun n => { n with cycle := 8 }) (fun c => c.net.nt.adopt == none && c.cycDue == 500000)
      (.cycleStart (l 500000)) (fun y => y.net.nt.cycle == 9 && y.net.nt.cycStart == 500000 && !y.net.nt.wag),
    meets (ntS .coarse fun n => { n with adopt := some 77, wag := true }) (fun c => c.net.nt.adoptIn == 0 &&
          c.net.nt.meanE == none && decide (c.net.nt.pegged < 7) && c.cycDue == 500000)
      (.cycleStart (l 500000)) (fun y => y.net.nt.cycle == 77 && y.net.nt.adopt == none),
    meets (ntS .listen id) (fun c => c.waggleCause wag0 == none && c.drivesOff)
          (.waggleReceived (l 5) .x 6 0 wag0 100)
      (fun y => y.net.nt.st == .coarse && y.net.nt.refAddr == 6 && y.net.nt.adopt.isSome),
    meets (ntS .listen id) (fun c => c.waggleCause wagBad == some 1) (.waggleReceived (l 5) .x 6 0 wagBad 100)
      (fun y => y.net.nt.st == .mismatch && y.net.nt.cause == 1 && y.fcl.raised.contains (49, 0)),
    meets (ntS .sync id) (fun c => c.net.nt.st == .sync) (.waggleReceived (l 5) .x 6 0 wag0 100)
      (fun y => y.net.nt.st == .sync && y.net.nt.wag && y.net.nt.refAddr == 6 && y.net.nt.x.shown),
    meets (let s := ntS .reference id; { s with chA := { s.chA with act := [(0x1000, 5), (0x1040, 3 * 131072)] } })
      (fun c => decide (fld wag0[1] 16 6 < c.af 0x1040 17 6)) (.waggleReceived (l 5) .x 6 0 wag0 100)
      (fun y => y.net.nt.st == .listen && y.net.nt.listenAt == 5 && y.fcl.raised.contains (49, 0)),
    meets (flat (ntS .sync id)) (fun c => c.olAddr == 5 && c.spreadDepth == 0) (.delayPingReceived (l 5) .y 5)
          (fun y => y.net.echoAt[1] == some (5 + lclk 1888)),
    meets (ntS .sync id) (fun c => c.olAddr != 6) (.delayPingReceived (l 5) .y 6) (fun y => y.net.echoAt[1] == none),
    meets (flat (ntS .reference fun n => { n with pingAt := some (6, 1000) }))
      (fun c => decide (32768 ≤ c.unspreadStamps 1000 (33768 + 200))) (.echoReceived (l 5) .x 6 (33768 + 200))
      (fun y => y.net.nt.x.shown && fld y.net.nt.x.reply 26 6 == 6 && fld y.net.nt.x.reply 0 26 == 100),
    meets (ntS .sync fun n => { n with pingAt := some (6, 1000) }) (fun c => c.net.nt.st != .reference)
          (.echoReceived (l 5) .x 6 40000)
      (fun y => !y.net.nt.x.shown)] = true := by decide +kernel

/-- NT_CFG with COLDSTART permitted, COLD_RANK 3 and LISTEN_T 2 (R427). -/
def cold (st : NtSt) (f : Nt → Nt) : State :=
  let s := ntS st f
  { s with chA := { s.chA with act := [(0x1000, 5), (0x1040, 2 * 8388608 + 3 * 131072 + 65536)] } }
def coldCycle : Nat := (cold .cold id).chA.cycleRoot

theorem witness_TimeUnitFollowsItsStates_cold : all [
    meets (cold .listen id) (fun c => c.net.nt.st == .listen) (.coldstartReceived (l 5) 9)
          (fun y => y.net.nt.listenAt == 5),
    meets (cold .cold id) (fun c => decide (fld 2 0 6 < c.af 0x1040 17 6)) (.coldstartReceived (l 5) 2)
          (fun y => y.net.nt.st == .listen && y.net.nt.listenAt == 5),
    meets (cold .cold id) (fun c => decide (c.af 0x1040 17 6 ≤ fld 3 0 6)) (.coldstartReceived (l 5) 3)
          (fun y => y.net.nt.st == .cold),
    meets (cold .listen id) (fun c => bit (c.getA 0x1040) 16 &&
          decide (c.af 0x1040 23 6 * c.cycleRoot ≤ 2 * coldCycle)) (.listenTimeout (l (2 * coldCycle)))
      (fun y => y.net.nt.st == .cold && y.net.nt.coldAt == some (2 * coldCycle)),
    meets (cold .listen id) (fun c => decide (5 < c.af 0x1040 23 6 * c.cycleRoot)) (.listenTimeout (l 5))
          (fun y => y.net.nt.st == .listen),
    meets (cold .cold fun n => { n with coldAt := some 0, cycle := 9 }) (fun c => 0 + c.cycleRoot == coldCycle)
          (.coldstartCycle0 (l coldCycle))
      (fun y => y.net.nt.st == .reference && y.net.nt.cycle == 0 && y.net.nt.cycStart == coldCycle &&
        y.clk.spread == 2),
    meets (cold .cold fun n => { n with backoffAt := some 0 }) (fun c => c.net.nt.coldAt == none &&
          (c.netSettle (usec 24)).portsQuiet) (.coldstartBackoffEnd (l (usec 24)))
      (fun y => y.net.nt.coldAt == some (usec 24) && y.net.nt.backoffAt == none),
    meets (let s := cold .cold fun n => { n with backoffAt := some 0 }; { s with chA := portS .rx id s.chA })
          (fun c => !(c.netSettle (usec 24)).portsQuiet)
      (.coldstartBackoffEnd (l (usec 24))) (fun y => y.net.nt.coldAt == none),
    meets (cold .sync fun n => { n with holdover := true, noWag := 5 })
          (fun c => decide (2 + c.af 0x1040 17 6 ≤ 5)) (.holdoverTakeover (l 5))
      (fun y => y.net.nt.st == .reference && !y.net.nt.holdover && y.net.nt.refAddr == 5),
    meets (cold .coarse id) (fun c => c.net.nt.st != .sync) (.holdoverTakeover (l 5))
          (fun y => y.net.nt.st == .coarse)] = true := by decide +kernel

/-- The values of reset, by the rules that state them. -/
theorem witness_ResetHoldsTheStatedValues : all [
    State.reset.pending.isEmpty, State.reset.chB.rst.cause == 1, State.reset.chC.rd.role == .offline, State.reset.chA.sup.minMv == 0xFFFF,
    (State.reset.chA.port .hp1).sess[0].level == 1, Memory.wf State.reset.chA.exe.tcm] = true := by decide +kernel

def good : TcmStore := ⟨8, 56⟩
def badStore : TcmStore := ⟨8, 57⟩

theorem witness_PassTStoresAreChecked : all [
    meets (inP [] id) (fun c => decide (c.exe.usedP ≤ 11000) && replayBad c.exe.bank [] == none &&
          good.data.extractLsb' 0 3 == 0)
      (.passT (l 22000) (run [] [good])) (fun y => y.exe.tcm == storeWord [] true 8 7 && !y.exe.bad),
    meets (inP [] id) (fun _ => badStore.data.extractLsb' 0 3 != 0) (.passT (l 22000) (run [] [badStore]))
      (fun y => y.exe.tcm.isEmpty && y.exe.bad && y.exe.mismatch && y.exe.kind == 3),
    meets (inP [] id) (fun _ => badStore.data.extractLsb' 0 3 != 0) (.passT (l 22000) (run [] [good, badStore]))
      (fun y => y.exe.tcm == storeWord [] true 8 7 && y.exe.bad && y.exe.kind == 3)] = true := by decide +kernel

/-- WellFormed refuses an ill-formed term for each of its checks, and takes a good one. -/
theorem wellFormed_smoke : all [
    !(Instr.nop (bq 0 2049)).wf, !(Instr.nop { bq 0 8 with payload := [] }).wf, (Instr.nop (bq 0 2048)).wf,
    !(Instr.catchDecision (l 0) [1] [] []).wf, (Instr.catchDecision (l 0) [1] [2] [3]).wf,
    !(Instr.cclFrameReceived (l 0) (frameB .b [] true)).wf,
    !(Instr.cclFrameReceived (l 0) { frameB .a [] true with idx := 200 }).wf,
    !(Instr.cclFrameReceived (l 0) { frameB .a [] true with recs := List.replicate 5 rec0 }).wf,
    !(Instr.cclFrameReceived (l 0) { frameB .a [] true with segs := List.replicate 2 ⟨0, false, 0, 0, 0, 0, 0, 0, 0⟩ }).wf,
    !(Instr.cclFrameReceived (l 0) { frameB .a [] true with segs := [⟨3, false, 0, 0, 0, 0, 0, 0, 0⟩] }).wf,
    !(Instr.cclFrameReceived (l 0) (frameB .a [blockB .c false (List.replicate 4 rec0), blockB .c true [rec0]] true)).wf,
    (Instr.cclFrameReceived (l 0) (frameB .a [blockB .c false (List.replicate 4 rec0)] true)).wf,
    !(Instr.eyeletAccess (l 0) (.readTcm 0x100000)).wf, !(Instr.eyeletAccess (l 0) (.readParam 0x10000)).wf,
    !(Instr.eyeletAccess (l 0) (.setLevel 3)).wf, (Instr.eyeletAccess (l 0) (.readTcm 0xFFFFF)).wf,
    !(Instr.frameCommit (l 0) [.flow 0 (List.replicate 65 0)]).wf, (Instr.frameCommit (l 0) [.flow 0 (List.replicate 64 0)]).wf,
    !(Instr.claimWordDecode (wl 0) []).wf, !(Instr.claimWordDecode (wl 0) [(.a, word 0 0 0 0), (.a, word 0 0 0 0)]).wf,
    (Instr.claimWordDecode (wl 0) [(.a, word 0 0 0 0), (.c, word 0 0 0 0)]).wf,
    !(Instr.spiTransactionEnd (l 0) .hp0 ⟨7, 49⟩ 0 [] 0).wf, !(Instr.replyFifoRead (l 0) .hp0 0).wf, !(Instr.errorLineRegister (l 0) []).wf,
    !(Instr.waggleReceived (l 0) .x 0 0 wag0 0).wf, !(Instr.waggleReceived (l 0) .x 1 63 wag0 0).wf,
    (Instr.waggleReceived (l 0) .x 1 62 wag0 0).wf] = true := by decide +kernel

/-- No row of the table has bits, so that no word spells a command. -/
theorem decodes_nothing : decodeTableWord 32 0x12345678 = none ∧ State.reset.withFetchWord 8 0 = State.reset := ⟨rfl, rfl⟩

/-- The examples of file 03: -2 written as entry 36 matches, a flipped bit 2 fails the form check, and a TCM store of
0x1234 to 0x1_0008 lands reversed at 0x9_7FF4. -/
theorem example_one_register_write : all [
    firstBad 36 [⟨0x40100020, 15, 0xFFFFFFFFFE⟩] [⟨0x40100020, 15, 0xFFFFFFFFF0⟩] == none,
    (firstBad 36 [⟨0x40100020, 15, 0xFFFFFFFFFE⟩] [⟨0x40100020, 15, 0xFFFFFFFFF4⟩]).map
          (fun x => (x.1, x.2.1)) == some (3, 36),
    storeWord [] true 0x10008 0x00001234 == [(0x97FF4, 0x34), (0x97FF5, 0x12)]] = true := by decide +kernel

/-- The example of file 02: a warning from 0.003 ms to 85 ms leaves the accumulator at 85 ms and starts the ramp,
which ends 20 ms later. -/
theorem example_two_dips : all [
    meets (supply fun u => { u with warn := true, warnAt := 0 }) (fun _ => true) (.vsupWarnExit (l (msec 85)))
      (fun y => !y.sup.warn && y.sup.ramp && y.sup.acc == msec 85 && y.sup.rampAt == msec 85),
    meets (supply fun u => { u with ramp := true, rampAt := msec 85 }) (fun _ => true)
          (.limitRampEnd (l (msec 105))) (fun y => !y.sup.ramp)]
    = true := by decide +kernel

end Sys2Proof.Tests
end

section
/-! PROOF. How a frame carries out a packet that the checks of R448 admit: what its begin leaves alone, that the checks
pass, and what its command then completes with. -/

namespace Sys2Proof.Machine

-- One proof after another: with each in a thread of its own the joined text nears the check's memory limit.
set_option Elab.async false

theorem setPort_eq (c : Channel) (p : Port) (x : HPort) : ∃ u, c.setPort p x = { c with hp := u } := by
  cases p <;> exact ⟨_, rfl⟩

/-- Steps that write the host ports alone do so one after another too. -/
theorem foldl_hp {α : Type} {f : Channel → α → Channel} (hf : ∀ c e, ∃ u, f c e = { c with hp := u })
    (es : List α) (c : Channel) : ∃ u, es.foldl f c = { c with hp := u } := by
  induction es generalizing c with
  | nil => exact ⟨c.hp, rfl⟩
  | cons e es ih =>
    obtain ⟨u, hu⟩ := hf c e
    obtain ⟨u', hu'⟩ := ih (f c e)
    exact ⟨u', by rw [List.foldl_cons, hu', hu]⟩

theorem answerEarly_eq (t : Nat) (c : Channel) (e : Packet × Option Byte) :
    ∃ u, Channel.answerEarly t c e = { c with hp := u } := by
  obtain ⟨p, _ | st⟩ := e
  · exact ⟨c.hp, rfl⟩
  · let x := c.port p.port
    obtain ⟨u, hu⟩ := setPort_eq c p.port
      { x with staleCnt := if st = stStaleTag then satInc x.staleCnt else x.staleCnt }
    exact ⟨_, by simp only [Channel.answerEarly]; rw [hu]⟩

theorem flushLead_eq (c : Channel) (t : Nat) (p : Port) : ∃ u, c.flushLead t p = { c with hp := u } := by
  unfold Channel.flushLead
  extract_lets x lead
  obtain ⟨u, hu⟩ := setPort_eq c p { x with sampled := x.sampled.drop lead.length }
  rw [hu]
  exact foldl_hp (answerEarly_eq t) lead _

theorem flushEarly_eq (c : Channel) (t : Nat) : ∃ u, c.flushEarly t = { c with hp := u } := by
  unfold Channel.flushEarly
  extract_lets p c'
  obtain ⟨u, hu⟩ : ∃ u, c' = { c with hp := u } := flushLead_eq c t p
  split
  · obtain ⟨u', hu'⟩ := flushLead_eq c' t (if p = .hp0 then .hp1 else .hp0)
    exact ⟨u', by rw [hu', hu]⟩
  · exact ⟨u, hu⟩

theorem takeSampled_eq (c : Channel) (h : Hdr) (op : Byte) : ∃ u, c.takeSampled h op = { c with hp := u } := by
  obtain ⟨u, hu⟩ := flushEarly_eq c h.loc.t
  unfold Channel.takeSampled
  extract_lets c' x
  obtain ⟨u', hu'⟩ := setPort_eq c' h.port
    { x with sampled := x.sampled.eraseP fun e => e.2.isNone && samePacket h op e.1 }
  exact ⟨u', by rw [hu', show c' = { c with hp := u } from hu]⟩

theorem useSession_eq (c : Channel) (h : Hdr) (op : Byte) :
    ∃ u sec, c.useSession h op = { c with hp := u, sec := sec } := by
  unfold Channel.useSession
  extract_lets k x c'
  obtain ⟨u, hu⟩ : ∃ u, c' = { c with hp := u } := by
    unfold c'
    split_ifs
    · exact ⟨c.hp, rfl⟩
    · exact setPort_eq ..
    · exact setPort_eq ..
    · exact ⟨c.hp, rfl⟩
  rw [hu]
  split
  · split_ifs
    · exact ⟨_, _, rfl⟩
    · exact ⟨_, _, rfl⟩
  · exact ⟨_, _, rfl⟩

/-- The begin of a packet writes the host ports and the challenge of the security unit alone (R431, R451, R483). -/
theorem begun_eq (c : Channel) (h : Hdr) (op : Byte) : ∃ u sec, c.begun h op = { c with hp := u, sec := sec } := by
  obtain ⟨u, hu⟩ := takeSampled_eq c h op
  obtain ⟨u', sec, hs⟩ := useSession_eq (c.takeSampled h op) h op
  exact ⟨u', sec, by rw [Channel.begun, hs, hu]⟩

@[simp] theorem begun_params (c : Channel) (h : Hdr) (op : Byte) : (c.begun h op).params = c.params := by
  obtain ⟨u, sec, e⟩ := begun_eq c h op
  rw [e]

@[simp] theorem begun_getW (c : Channel) (h : Hdr) (op : Byte) (id : Nat) : (c.begun h op).getW id = c.getW id := by
  rw [Channel.getW, begun_params]; rfl

@[simp] theorem begun_startAt (c : Channel) (h : Hdr) (op : Byte) : (c.begun h op).exe.startAt = c.exe.startAt := by
  obtain ⟨u, sec, e⟩ := begun_eq c h op
  rw [e]

@[simp] theorem begun_running (c : Channel) (h : Hdr) (op : Byte) : (c.begun h op).running = c.running := by
  obtain ⟨u, sec, e⟩ := begun_eq c h op
  rw [e]; rfl

theorem running_iff {c : Channel} :
    c.running = true ↔ c.rst.phase = .run ∧ c.exe.stopped = false ∧ c.pwr.doze = false := by
  simp [Channel.running, Channel.released, and_assoc]

/-- No state of the channel stops an admitted packet (R103, R363, R486, R496, R507, R512). -/
theorem stateStop_of_admits {c : Channel} {h : Hdr} {level : BitVec 2} {sems : List (Fin 16)}
    (ha : c.admits h level sems) (op : Byte) (k : CmdSpec) : c.stateStop op k = none := by
  obtain ⟨hrun, -, htm, hrec, hentry, -⟩ := ha
  obtain ⟨-, hstop, hdoze⟩ := running_iff.mp hrun
  simp [Channel.stateStop, Channel.g5, htm, hrec, hentry, hstop, hdoze]

/-- Checks 5 to 10 of R448 pass for an admitted packet of a taken length whose opcode the warning does not bar. -/
theorem judge_of_admits {c : Channel} {h : Hdr} {k : CmdSpec} {level : BitVec 2} {len : Nat}
    (ha : c.admits h level k.sems) (hk : k.level ≤ level)
    (hlen : k.len len = true) (hwarn : k.warn = false ∨ c.deferring = false) (op : Byte) :
    c.judge h op k len = none := by
  have hstate := stateStop_of_admits ha op k
  obtain ⟨-, -, -, -, -, hsess, hopen, hlevel, hsems⟩ := ha
  have hle : ¬ (c.sessOf h).level < k.level := BitVec.not_lt.mpr (BitVec.le_trans hk hlevel)
  have hbusy : (k.warn && c.deferring) = false := by rcases hwarn with e | e <;> simp [e]
  simpa [Channel.judge, hstate, hle, hlen, hbusy, hopen, Nat.not_le.mpr hsess] using hsems

/-- An admitted packet in its turn: the body of its opcode runs on the channel that has begun it, and its answer joins
the frame's replies; what else the body leaves waits for the commit (R86, R88, R98). -/
theorem command_of_admits {c : Channel} {q : Req} {op : Byte} {k : CmdSpec} {level : BitVec 2}
    {body : Channel → Channel × Ans}
    (ht : c.turn q.hdr op = true) (ha : (c.begun q.hdr op).admits q.hdr level k.sems) (hk : k.level ≤ level)
    (hlen : k.len q.len = true) (hwarn : k.warn = false ∨ (c.begun q.hdr op).deferring = false)
    (hbody : (body (c.begun q.hdr op)).1.running = (c.begun q.hdr op).running) :
    c.command q op k body =
      (body (c.begun q.hdr op)).1.replied q.hdr k.iso (body (c.begun q.hdr op)).2 [] := by
  have hj := judge_of_admits ha hk hlen hwarn op
  obtain ⟨hrun, hstart, -⟩ := ha
  have hrun' := hbody.trans hrun
  rw [begun_running] at hrun
  have halive : c.alive = true := by simp [Channel.alive, (running_iff.mp hrun).1]
  have hin : c.inFrame q.hdr.loc.t = true := by simp [Channel.inFrame, hstart]
  unfold Channel.begun at hj hrun' ⊢
  simp only [Channel.command, halive, hin, ht, hj, Bool.and_self, Bool.not_true, Bool.false_eq_true, if_false]
  rw [if_pos (by exact hrun')]
  simp [Channel.replied]

/-- What an admitted packet leaves of its channel is what its command completes with. b: the channel that has begun the
packet. -/
theorem chGets_of_admits {s : State} {i : Instr} {q : Req} {op : Byte} {k : CmdSpec} {level : BitVec 2}
    {body : Channel → Channel × Ans} {b c : Channel} {a : Ans} (hi : exec i s = cmd q s op (fun _ => k) body)
    (hb : (s.ch q.hdr.loc.ch).begun q.hdr op = b) (ht : (s.ch q.hdr.loc.ch).turn q.hdr op = true)
    (ha : b.admits q.hdr level k.sems) (hk : k.level ≤ level) (hlen : k.len q.len = true) (hwarn : k.warn = false)
    (hbody : body b = (c, a)) (hrun : c.running = b.running) :
    s.chGets i q.hdr.loc.ch (· = c.replied q.hdr k.iso a []) := by
  subst hb
  refine ⟨_, hi, ?_⟩
  have hc := command_of_admits (body := body) ht ha hk hlen (.inl hwarn) (by rw [hbody, hrun])
  rwa [hbody] at hc

/-- A command's outcome on a channel has every property that follows from another of its properties. -/
theorem chGets_imp {s : State} {i : Instr} {ch : Ch} {P Q : Channel → Prop} (h : s.chGets i ch P)
    (hPQ : ∀ y, P y → Q y) : s.chGets i ch Q := by
  obtain ⟨x, he, hx⟩ := h
  exact ⟨x, he, hPQ x hx⟩

/-- A command completes on a channel in one way. -/
theorem chGets_eq {s : State} {i : Instr} {ch : Ch} {x y : Channel} (hx : s.chGets i ch (· = x))
    (hy : s.chGets i ch (· = y)) : x = y := by
  obtain ⟨_, ex, rfl⟩ := hx
  obtain ⟨_, ey, rfl⟩ := hy
  have e : s.setCh ch _ = s.setCh ch _ := Host.Outcome.next.inj (ex.symm.trans ey)
  simpa using congrArg (State.ch · ch) e

end Sys2Proof.Machine
end

section
/-! PROOF. Writes of parameters: what an accepted one changes and what it leaves, how one is refused, and what
PARAM_WRITE and PARAM_WRITE_SET complete with (R13, R14, R43, R44, R91, R453). -/

namespace Sys2Proof.Machine

-- One proof after another: with each in a thread of its own the joined text nears the check's memory limit.
set_option Elab.async false

/-- A value stored at one address leaves what every other address holds. -/
theorem lookupD_storeD_ne (m : List (Nat × Word)) {a j : Nat} (hj : j ≠ a) (v d x : Word) :
    lookupD (storeD m a v d) j x = lookupD m j x := by
  have skip (r : List (Nat × Word)) (u : Word) : lookupD ((a, u) :: r) j x = lookupD r j x := by
    simp [lookupD, Ne.symm hj]
  have pass (b : Nat) (u : Word) (r r' : List (Nat × Word)) (hr : lookupD r j x = lookupD r' j x) :
      lookupD ((b, u) :: r) j x = lookupD ((b, u) :: r') j x := by
    by_cases hb : b = j
    · simp [lookupD, hb]
    · simpa [lookupD, hb] using hr
  induction m with
  | nil =>
    unfold storeD
    split
    · rfl
    · exact skip [] v
  | cons p r ih =>
    obtain ⟨b, u⟩ := p
    unfold storeD
    split
    · split
      · rfl
      · exact skip _ v
    · split
      · rename_i hab
        obtain rfl : a = b := hab
        rw [skip r u]
        split
        · rfl
        · exact skip r v
      · exact pass b u _ _ ih

theorem getW_of_params {c c' : Channel} {a j : Nat} {v d : Word} (hp : c'.params = storeD c.params a v d)
    (hj : j ≠ a) : c'.getW j = c.getW j := by
  rw [Channel.getW, hp, lookupD_storeD_ne _ hj]; rfl

theorem writeDone_eq (c : Channel) (h : Hdr) (d : PDef) (id : Nat) (v : Word) :
    ∃ u g, c.writeDone h d id v =
      { c with params := storeD c.params id (d.merge (c.getW id) v) (resetOf id), hp := u, mg := g } := by
  unfold Channel.writeDone
  extract_lets new es c'
  split
  · exact ⟨_, _, rfl⟩
  · exact ⟨_, _, rfl⟩

/-- An accepted write to any parameter but BI_ARM (R535). -/
theorem writeDone_of_ne (c : Channel) (h : Hdr) (d : PDef) {id : Nat} (hid : id ≠ 0x5C01) (v : Word) :
    c.writeDone h d id v = (c.putW id (d.merge (c.getW id) v)).push
      (c.writeEffects d id v (d.merge (c.getW id) v)) := by
  simp [Channel.writeDone, hid]

theorem written_of_pdef {id : Nat} {d : PDef} (hd : pdef id = some d) (h : Hdr) (c : Channel) (v : Word) :
    Channel.written h c (id, v) = c.writeDone h d id v := by simp [Channel.written, hd]

/-- A write leaves the values in force, the redundancy unit and the running core as they are (R44). -/
theorem written_frame (h : Hdr) (c : Channel) (e : Nat × Word) :
    (Channel.written h c e).act = c.act ∧ (Channel.written h c e).rd = c.rd ∧
      (Channel.written h c e).running = c.running := by
  unfold Channel.written
  split
  · rename_i d _
    obtain ⟨u, g, hw⟩ := writeDone_eq c h d e.1 e.2
    rw [hw]; exact ⟨rfl, rfl, rfl⟩
  · exact ⟨rfl, rfl, rfl⟩

theorem foldl_written_frame (h : Hdr) (es : List (Nat × Word)) (c : Channel) :
    (es.foldl (Channel.written h) c).act = c.act ∧ (es.foldl (Channel.written h) c).running = c.running := by
  induction es generalizing c with
  | nil => exact ⟨rfl, rfl⟩
  | cons e es ih =>
    obtain ⟨hact, hrun⟩ := ih (Channel.written h c e)
    obtain ⟨hact', -, hrun'⟩ := written_frame h c e
    exact ⟨hact.trans hact', hrun.trans hrun'⟩

theorem writeCheck_of_pdef_none {id : Nat} (hd : pdef id = none) (get : Nat → Word) (v : Word) :
    writeCheck get id v = some stBadParam := by simp [writeCheck, hd]

/-- A write that the map takes has a map. -/
theorem exists_pdef_of_writeCheck {get : Nat → Word} {id : Nat} {v : Word} (hc : writeCheck get id v = none) :
    ∃ d, pdef id = some d := by
  cases hd : pdef id with
  | none => simp [writeCheck_of_pdef_none hd] at hc
  | some d => exact ⟨d, rfl⟩

section
variable {c : Channel} {h : Hdr} {id : Nat} {v : Word} {st : Byte}

theorem writeOne_of_accepts (ha : c.accepts h (id, v)) : c.writeOne h id v = .ok (Channel.written h c (id, v)) := by
  obtain ⟨hc, hl, hq⟩ := ha
  obtain ⟨d, hd⟩ := exists_pdef_of_writeCheck hc
  simp only at hc hl hq
  simp [Channel.writeOne, Channel.written, hc, hl, hd, hq d hd]

theorem writeOne_of_writeCheck (hc : writeCheck c.getW id v = some st) : c.writeOne h id v = .error st := by
  simp [Channel.writeOne, hc]

theorem writeOne_of_writeLock (hc : writeCheck c.getW id v = none) (hl : c.writeLock h id v = some st) :
    c.writeOne h id v = .error st := by simp [Channel.writeOne, hc, hl]

theorem writeOne_of_queueFull {d : PDef} (hd : pdef id = some d) (hc : writeCheck c.getW id v = none)
    (hl : c.writeLock h id v = none) (hq : c.queueFull d id = true) : c.writeOne h id v = .error stBusy := by
  simp [Channel.writeOne, hc, hl, hd, hq]

theorem paramWrite_of_accepts (ha : c.accepts h (id, v)) :
    c.paramWrite h id v = (Channel.written h c (id, v),
      { status := stOk, result := (Channel.written h c (id, v)).paramRead h.loc.t id }) := by
  simp [Channel.paramWrite, writeOne_of_accepts ha]

theorem paramWrite_of_error (he : c.writeOne h id v = .error st) : c.paramWrite h id v = (c, refuseAns st) := by
  simp [Channel.paramWrite, he, Channel.refuse]

end

theorem writeSet_cons_ok {h : Hdr} {e : Nat × Word} {c c' : Channel} (he : c.writeOne h e.1 e.2 = .ok c')
    (r : List (Nat × Word)) : Channel.writeSet h (e :: r) c = Channel.writeSet h r c' := by
  obtain ⟨id, v⟩ := e
  simp only at he
  simp [Channel.writeSet, he]

theorem writeSet_cons_error {h : Hdr} {e : Nat × Word} {c : Channel} {st : Byte}
    (he : c.writeOne h e.1 e.2 = .error st) (r : List (Nat × Word)) : Channel.writeSet h (e :: r) c = .error st := by
  obtain ⟨id, v⟩ := e
  simp only at he
  simp [Channel.writeSet, he]

/-- Accepted writes at the head of a set: the rest is judged after them (R43, R44). -/
theorem writeSet_append {h : Hdr} {pre : List (Nat × Word)} {c : Channel} (ha : Channel.acceptsAll h pre c)
    (r : List (Nat × Word)) :
    Channel.writeSet h (pre ++ r) c = Channel.writeSet h r (pre.foldl (Channel.written h) c) := by
  induction pre generalizing c with
  | nil => rfl
  | cons e pre ih =>
    obtain ⟨he, hpre⟩ := ha
    rw [List.cons_append, writeSet_cons_ok (writeOne_of_accepts he), List.foldl_cons, ih hpre]

theorem writeSet_of_acceptsAll {h : Hdr} {es : List (Nat × Word)} {c : Channel} (ha : Channel.acceptsAll h es c) :
    Channel.writeSet h es c = .ok (es.foldl (Channel.written h) c) := by
  simpa [Channel.writeSet] using writeSet_append ha []

/-- The first refusal refuses the set (R43). -/
theorem writeSet_of_refused {h : Hdr} {pre post : List (Nat × Word)} {e : Nat × Word} {c : Channel} {st : Byte}
    (ha : Channel.acceptsAll h pre c) (hc : writeCheck (pre.foldl (Channel.written h) c).getW e.1 e.2 = some st) :
    Channel.writeSet h (pre ++ e :: post) c = .error st := by
  rw [writeSet_append ha, writeSet_cons_error (writeOne_of_writeCheck hc)]

/-- The body of PARAM_WRITE_SET within its number of entries: OK with that number, or the first refusal (R43, R455). -/
def Channel.setBody (q : Req) (c : Channel) : Channel × Ans :=
  match Channel.writeSet q.hdr (setEntries q.payload) c with
  | .error st => c.refuse st
  | .ok c => (c, okVal (BitVec.ofNat 32 (fld q.arg 0 9)))

theorem setBody_of_ok {q : Req} {c c' : Channel} (hset : Channel.writeSet q.hdr (setEntries q.payload) c = .ok c') :
    Channel.setBody q c = (c', okVal (BitVec.ofNat 32 (fld q.arg 0 9))) := by simp [Channel.setBody, hset]

theorem setBody_of_error {q : Req} {c : Channel} {st : Byte}
    (hset : Channel.writeSet q.hdr (setEntries q.payload) c = .error st) :
    Channel.setBody q c = (c, refuseAns st) := by simp [Channel.setBody, hset, Channel.refuse]

section
variable {s : State} {i : Instr} {q : Req} {id : Nat} {v : Word} {b : Channel}
  (hi : exec i s = cmd q s 0x11 (fun _ => writeSpec id v) fun c => c.paramWrite q.hdr id v)
  (hb : (s.ch q.hdr.loc.ch).begun q.hdr 0x11 = b) (ht : (s.ch q.hdr.loc.ch).turn q.hdr 0x11 = true)
  (ha : b.admits q.hdr (writeLevel id v) (semOf id)) (hlen : q.len = 4)
include hi hb ht ha hlen

/-- An accepted write (R44, R91, R453). -/
theorem chGets_write_of_accepts (hok : b.accepts q.hdr (id, v)) :
    s.chGets i q.hdr.loc.ch (· = (Channel.written q.hdr b (id, v)).wrote q.hdr id) := by
  obtain ⟨-, -, hrun⟩ := written_frame q.hdr b (id, v)
  exact chGets_of_admits hi hb ht ha (BitVec.le_refl _) (by simp [writeSpec, hlen]) rfl (paramWrite_of_accepts hok) hrun

/-- A refused write: its status is the answer, and nothing else changes (R14). -/
theorem chGets_write_of_error {st : Byte} (he : b.writeOne q.hdr id v = .error st) :
    s.chGets i q.hdr.loc.ch (· = b.replied q.hdr false (refuseAns st) []) :=
  chGets_of_admits hi hb ht ha (BitVec.le_refl _) (by simp [writeSpec, hlen]) rfl (paramWrite_of_error he) rfl

end

/-- What an accepted PARAM_WRITE leaves: its own working copy, the values in force and the role as they were, and the
other working copies (R44, R91). -/
theorem wrote_written (h : Hdr) (c : Channel) {id : Nat} (v : Word) :
    let y := (Channel.written h c (id, v)).wrote h id
    y.act = c.act ∧ y.rd = c.rd ∧ (∀ j, j ≠ id → y.getW j = c.getW j) ∧
      ∀ d, pdef id = some d → y.params = storeD c.params id (d.merge (c.getW id) v) (resetOf id) := by
  intro y
  obtain ⟨hact, hrd, -⟩ := written_frame h c (id, v)
  have hparams (d : PDef) (hd : pdef id = some d) :
      y.params = storeD c.params id (d.merge (c.getW id) v) (resetOf id) := by
    obtain ⟨u, g, hw⟩ := writeDone_eq c h d id v
    simp only [y, written_of_pdef hd, hw]
    rfl
  refine ⟨hact, hrd, fun j hj => ?_, hparams⟩
  cases hd : pdef id with
  | some d => exact getW_of_params (hparams d hd) hj
  | none => simp only [y, Channel.written, hd]; rfl

section
variable {s : State} {q : Req} {b : Channel}
  (hb : (s.ch q.hdr.loc.ch).begun q.hdr 0x13 = b) (ht : (s.ch q.hdr.loc.ch).turn q.hdr 0x13 = true)
  (hn : 0 < fld q.arg 0 9) (hn' : fld q.arg 0 9 ≤ 256) (hlen : q.len = 8 * fld q.arg 0 9)
  (ha : b.admits q.hdr 2 ((setEntries q.payload).flatMap fun e => semOf e.1))
include hb ht hn hn' hlen ha

/-- PARAM_WRITE_SET runs the writes of its entries in order (R43, R44). -/
theorem chGets_paramWriteSet {c : Channel} {a : Ans} (hset : Channel.setBody q b = (c, a))
    (hrun : c.running = b.running) : s.chGets (.paramWriteSet q) q.hdr.loc.ch (· = c.replied q.hdr false a []) := by
  have hbound : ¬ (fld q.arg 0 9 = 0 || 256 < fld q.arg 0 9) = true := by
    simp only [Bool.or_eq_true, decide_eq_true_eq]; omega
  refine chGets_of_admits (i := .paramWriteSet q) rfl hb ht ha ?_ ?_ rfl ((if_neg hbound).trans hset) hrun
  · dsimp only
    split <;> decide
  · simp [hlen]

/-- A set whose writes are all accepted (R43, R44). -/
theorem chGets_paramWriteSet_of_acceptsAll (hok : Channel.acceptsAll q.hdr (setEntries q.payload) b) :
    s.chGets (.paramWriteSet q) q.hdr.loc.ch fun y =>
      y = ((setEntries q.payload).foldl (Channel.written q.hdr) b).replied q.hdr false
        (okVal (BitVec.ofNat 32 (fld q.arg 0 9))) [] ∧ y.act = b.act := by
  obtain ⟨hact, hrun⟩ := foldl_written_frame q.hdr (setEntries q.payload) b
  have hset := setBody_of_ok (writeSet_of_acceptsAll hok)
  refine chGets_imp (chGets_paramWriteSet hb ht hn hn' hlen ha hset hrun) ?_
  rintro y rfl
  exact ⟨rfl, hact⟩

/-- A set whose first refused write is refused by its map (R13, R43). -/
theorem chGets_paramWriteSet_of_refused {st : Byte} {pre post : List (Nat × Word)} {e : Nat × Word}
    (hes : setEntries q.payload = pre ++ e :: post) (hok : Channel.acceptsAll q.hdr pre b)
    (hc : writeCheck (pre.foldl (Channel.written q.hdr) b).getW e.1 e.2 = some st) :
    s.chGets (.paramWriteSet q) q.hdr.loc.ch (· = b.replied q.hdr false (refuseAns st) []) :=
  chGets_paramWriteSet hb ht hn hn' hlen ha (setBody_of_error (hes ▸ writeSet_of_refused hok hc)) rfl

end

/-- A value that sets no reserved bit of a parameter with a writable one is judged by the parameter's own check (R13,
R600). -/
theorem writeCheck_of_reserved_clear {id : Nat} {d : PDef} {v : Word} (hd : pdef id = some d)
    (hw : d.wr ||| d.w1c ||| d.wo ≠ 0) (hv : v &&& ~~~(d.wr ||| d.w1c ||| d.wo ||| d.ro) = 0) (get : Nat → Word) :
    writeCheck get id v = d.check get (d.value v) := by
  simp only [writeCheck, hd, beq_eq_false_iff_ne.mpr hw, hv]
  rfl

end Sys2Proof.Machine
end

section
/-! PROOF. The writes that have a command of their own: COMPARE_WRITE, BI_ARM and SAMPLER_ENABLE (R182, R535, R542). -/

namespace Sys2Proof.Machine

-- One proof after another: with each in a thread of its own the joined text nears the check's memory limit.
set_option Elab.async false

/-- The map of PCT_SAMPLE_CFG: EN and INTERVAL (R546). -/
theorem pdef_sampleCfg : pdef 0x6002 = some (cfgP 21 0x800 .mark fun v => inR v 1 20 1024 1048575) := rfl

/-- The map of BI_ARM (R545). -/
theorem pdef_biArm : pdef 0x5C01 = some { wo := mask 32, keep := false } := rfl

/-- The ID of FB_CMP_VALUE or FB_CMP_CFG of a compare channel (R290). -/
def compareId (m : Fin 8) (isV : Bool) : Nat := 0x3D00 + 4 * m.val + (if isV = true then 1 else 0)

/-- The maps of FB_CMP_VALUE and FB_CMP_CFG (R290). -/
def comparePDef (isV : Bool) : PDef :=
  if isV = true then { cfgP 32 0 .imm with keep := false }
  else { cfgP 6 0 .imm with
    keep := false, check := fun _ v => rangeIf (inR v 0 3 0 5 && !(decide (2 ≤ fld v 0 3) && bit v 3)) }

theorem pdef_compareId (m : Fin 8) (isV : Bool) : pdef (compareId m isV) = some (comparePDef isV) := by
  fin_cases m <;> cases isV <;> rfl

theorem compareId_fields (m : Fin 8) (isV : Bool) :
    0x3D00 ≤ compareId m isV ∧ compareId m isV < 0x3D20 ∧ (compareId m isV - 0x3D00) / 4 = m.val ∧
      compareId m isV % 4 = if isV = true then 1 else 0 := by
  unfold compareId
  split <;> omega

theorem semOf_compareId (m : Fin 8) (isV : Bool) : semOf (compareId m isV) = [9] := by
  fin_cases m <;> cases isV <;> rfl

/-- A compare channel is locked only while the drive engine owns it, which it may of channels 0 to 3 alone (R182). -/
theorem writeLock_compareId {c : Channel} {m : Fin 8} (hown : 4 ≤ m.val ∨ c.esOwns = false) {h : Hdr} {isV : Bool}
    (v : Word) : c.writeLock h (compareId m isV) v = none := by
  obtain ⟨hlo, hhi, hm, -⟩ := compareId_fields m isV
  generalize compareId m isV = id at hlo hhi hm
  unfold Channel.writeLock
  rw [if_neg (by omega)]
  split
  · rename_i hleft
    have hes : c.esOwns = false := hown.resolve_left (by omega)
    simp [hes]
  · split
    · omega
    · omega
    · omega
    · rfl

theorem writeEffects_compareId (c : Channel) (m : Fin 8) (isV : Bool) (v new : Word) :
    c.writeEffects (comparePDef isV) (compareId m isV) v new = [.compare m (!isV)] := by
  obtain ⟨hlo, hhi, hm, hmod⟩ := compareId_fields m isV
  have hstart : startedBy (compareId m isV) v = [] := by fin_cases m <;> cases isV <;> rfl
  have hwr : (comparePDef isV).wr ≠ 0#32 := by cases isV <;> decide
  have happly : (comparePDef isV).apply = .imm := by cases isV <;> rfl
  have hw1c : (comparePDef isV).w1c = 0 := by cases isV <;> rfl
  cases isV <;> simp [Channel.writeEffects, hstart, hwr, happly, hw1c, hlo, hhi, hm, hmod]

theorem merge_comparePDef (isV : Bool) (old v : Word) :
    (comparePDef isV).merge old v = if isV = true then v else (old &&& ~~~0x3F) ||| (v &&& 0x3F) := by
  cases isV with
  | false => rfl
  | true =>
    have hall : (comparePDef true).wr = BitVec.allOnes 32 := rfl
    have hval : (comparePDef true).value v = v := rfl
    rw [PDef.merge, hall, hval, BitVec.not_allOnes, BitVec.and_zero, BitVec.zero_or, BitVec.and_allOnes, if_pos rfl]

/-- The value that SAMPLER_ENABLE writes: EN = 1 with its INTERVAL (R542). -/
def samplerWord (iv : BitVec 20) : Word := 1 ||| put 1 iv.toNat

theorem toNat_samplerWord (iv : BitVec 20) : (samplerWord iv).toNat = 2 * iv.toNat + 1 := by
  have hiv := iv.isLt
  have hput : (put 1 iv.toNat).toNat = 2 ^ 1 * iv.toNat := by
    rw [put, BitVec.toNat_ofNat, Nat.mod_eq_of_lt (by omega)]; omega
  have hor := Nat.two_pow_add_eq_or_of_lt (show 1 < 2 ^ 1 by decide) iv.toNat
  rw [samplerWord, BitVec.or_comm, BitVec.toNat_or, hput]
  exact hor.symm

theorem fld_samplerWord (iv : BitVec 20) : fld (samplerWord iv) 1 20 = iv.toNat := by
  have hiv := iv.isLt
  rw [fld, toNat_samplerWord]; omega

theorem samplerWord_and_mask (iv : BitVec 20) : samplerWord iv &&& mask 21 = samplerWord iv := by
  have hiv := iv.isLt
  apply BitVec.eq_of_toNat_eq
  rw [BitVec.toNat_and, show (mask 21).toNat = 2 ^ 21 - 1 from rfl, Nat.and_two_pow_sub_one_eq_mod, toNat_samplerWord]
  omega

theorem samplerWord_and_not_mask (iv : BitVec 20) : samplerWord iv &&& ~~~mask 21 = 0 := by
  rw [← samplerWord_and_mask, BitVec.and_assoc, BitVec.and_not_self]; simp

/-- INTERVAL below 1,024 is out of range (R546). -/
theorem writeCheck_sampleCfg (get : Nat → Word) (iv : BitVec 20) :
    writeCheck get 0x6002 (samplerWord iv) = rangeIf (decide (1024 ≤ iv.toNat)) := by
  have hiv := iv.isLt
  have hin : inR (samplerWord iv) 1 20 1024 1048575 = decide (1024 ≤ iv.toNat) := by
    simp only [inR, fld_samplerWord]
    simp; omega
  have hres := samplerWord_and_not_mask iv
  rw [writeCheck_of_reserved_clear pdef_sampleCfg (by decide) (by simpa [cfgP] using hres), ← hin]
  rfl

theorem bit_samplerWord (iv : BitVec 20) : bit (samplerWord iv) 0 = true := by
  rw [bit, ← BitVec.testBit_toNat, toNat_samplerWord, Nat.testBit_zero]
  simp

section
variable {s : State} {h : Hdr} {b : Channel} (hb : (s.ch h.loc.ch).begun h 0x11 = b)
  (ht : (s.ch h.loc.ch).turn h 0x11 = true)
include hb ht

/-- A command that is an accepted write to a parameter other than BI_ARM: the writable fields change alone, and what the
write starts waits for the commit (R44, R91, R601). -/
theorem chGets_paramCmd {i : Instr} {id : Nat} {v : Word} {d : PDef} (hi : exec i s = paramCmd h s id v)
    (hd : pdef id = some d) (hid : id ≠ 0x5C01) (ha : b.admits h (writeLevel id v) (semOf id))
    (hok : b.accepts h (id, v)) :
    s.chGets i h.loc.ch (· = ((b.putW id (d.merge (b.getW id) v)).push
      (b.writeEffects d id v (d.merge (b.getW id) v))).wrote h id) := by
  rw [← writeDone_of_ne b h d hid v, ← written_of_pdef hd]
  exact chGets_write_of_accepts (q := ⟨h, put 0 id, 4, [v]⟩) hi hb ht ha rfl hok

/-- SAMPLER_ENABLE of an INTERVAL within range: EN and INTERVAL change alone, and the sampler starts at the commit
(R542, R601). -/
theorem chGets_samplerEnable {iv : BitVec 20} (ha : b.admits h 2 [15]) (hiv : 1024 ≤ iv) :
    s.chGets (.samplerEnable h iv) h.loc.ch
      (· = ((b.putW 0x6002 ((b.getW 0x6002 &&& ~~~mask 21) ||| samplerWord iv)).push [.sampler]).wrote h 0x6002) := by
  have hc : writeCheck b.getW 0x6002 (samplerWord iv) = none := by
    rw [writeCheck_sampleCfg, decide_eq_true (show 1024 ≤ iv.toNat from hiv)]; rfl
  have hq (d : PDef) (hd : pdef 0x6002 = some d) : b.queueFull d 0x6002 = false := by
    obtain rfl := Option.some.inj (pdef_sampleCfg.symm.trans hd)
    rfl
  have hw := chGets_paramCmd hb ht (i := .samplerEnable h iv) (v := samplerWord iv) rfl pdef_sampleCfg (by decide) ha
    ⟨hc, rfl, hq⟩
  simpa [PDef.merge, PDef.value, cfgP, samplerWord_and_mask, Channel.writeEffects, startedBy, bit_samplerWord] using hw

/-- SAMPLER_ENABLE of an INTERVAL below 1,024 (R546). -/
theorem chGets_samplerEnable_of_range {iv : BitVec 20} (ha : b.admits h 2 [15]) (hiv : iv < 1024) :
    s.chGets (.samplerEnable h iv) h.loc.ch (· = b.replied h false (refuseAns stRange) []) := by
  have hc : writeCheck b.getW 0x6002 (samplerWord iv) = some stRange := by
    rw [writeCheck_sampleCfg, decide_eq_false (Nat.not_le.mpr (show iv.toNat < 1024 from hiv))]; rfl
  exact chGets_write_of_error (i := .samplerEnable h iv) (q := ⟨h, put 0 0x6002, 4, [samplerWord iv]⟩) rfl hb ht ha
    rfl (writeOne_of_writeCheck hc)

/-- BI_ARM: the arming value is held with the session that wrote it, at once (R535). -/
theorem chGets_biArm {v : Word} (ha : b.admits h 1 [14]) :
    s.chGets (.biArm h v) h.loc.ch fun y =>
      y.mg = { b.mg with arm := some (v, h.port, h.session, h.loc.t) } ∧ y.hp.effects = b.hp.effects ∧
      ∃ r, y.hp.results = b.hp.results ++ [r] ∧ r.status = stOk := by
  have hc : writeCheck b.getW 0x5C01 v = none := by
    rw [writeCheck_of_reserved_clear pdef_biArm (by decide) (by simp [mask])]
  have hq (d : PDef) (hd : pdef 0x5C01 = some d) : b.queueFull d 0x5C01 = false := by
    obtain rfl := Option.some.inj (pdef_biArm.symm.trans hd)
    rfl
  refine chGets_imp (chGets_write_of_accepts (i := .biArm h v) (q := ⟨h, put 0 0x5C01, 4, [v]⟩) rfl hb ht ha rfl
    ⟨hc, rfl, hq⟩) ?_
  rintro y rfl
  rw [written_of_pdef pdef_biArm]
  refine ⟨rfl, ?_, _, rfl, rfl⟩
  simp [Channel.wrote, Channel.replied, Channel.writeDone, Channel.push, Channel.putW, Channel.writeEffects, startedBy]

/-- COMPARE_WRITE of a channel that the drive engine does not own: the configuration or the value changes, and the
comparator follows at the commit (R182, R283). -/
theorem chGets_compareWrite {m : Fin 8} {isV : Bool} {v : Word}
    (ha : b.admits h (writeLevel (compareId m isV) v) [9]) (hc : writeCheck b.getW (compareId m isV) v = none)
    (hown : 4 ≤ m.val ∨ b.esOwns = false) :
    s.chGets (.compareWrite h m isV v) h.loc.ch (· =
      ((b.putW (compareId m isV)
          (if isV = true then v else (b.getW (compareId m isV) &&& ~~~0x3F) ||| (v &&& 0x3F))).push
        [.compare m (!isV)]).wrote h (compareId m isV)) := by
  have hq (d : PDef) (hd : pdef (compareId m isV) = some d) : b.queueFull d (compareId m isV) = false := by
    obtain rfl := Option.some.inj ((pdef_compareId m isV).symm.trans hd)
    cases isV <;> rfl
  have hw := chGets_paramCmd hb ht (i := .compareWrite h m isV v) (id := compareId m isV) rfl (pdef_compareId m isV)
    (by have := (compareId_fields m isV).2.1; omega)
    (by rwa [semOf_compareId]) ⟨hc, writeLock_compareId hown v, hq⟩
  rwa [writeEffects_compareId, merge_comparePDef] at hw

end

end Sys2Proof.Machine
end

section
/-! PROOF. ParameterWritesActAtTheCommit (O51): where it holds, and a state in which it does not. -/

namespace Sys2Proof.Machine

-- One proof after another: with each in a thread of its own the joined text nears the check's memory limit.
set_option Elab.async false

/-- What O51 says of one state and the operands of its commands. -/
def ParameterWritesAct (s : State) (q : Req) (h : Hdr) (m : Fin 8) (v : Word) (iv : BitVec 20) (isV : Bool) : Prop :=
  let id := fld q.arg 0 16
  let w := q.payload.getD 0 0
  let a := (s.ch q.hdr.loc.ch).begun q.hdr 0x11
  let es := setEntries q.payload
  let k := fld q.arg 0 9
  let c := (s.ch q.hdr.loc.ch).begun q.hdr 0x13
  let no (st : Byte) : Prop := s.chGets (.paramWrite q) q.hdr.loc.ch fun y =>
    y = a.replied q.hdr false (refuseAns st) []
  let b := (s.ch h.loc.ch).begun h 0x11
  let cmp := 0x3D00 + 4 * m.val + (if isV = true then 1 else 0)
  ((s.ch q.hdr.loc.ch).turn q.hdr 0x11 = true → a.admits q.hdr (writeLevel id w) (semOf id) → q.len = 4 →
    (a.accepts q.hdr (id, w) → s.chGets (.paramWrite q) q.hdr.loc.ch fun y =>
      y = (Channel.written q.hdr a (id, w)).wrote q.hdr id ∧ y.act = a.act ∧ y.rd = a.rd ∧
      (∀ j, j ≠ id → y.getW j = a.getW j) ∧
      ∀ d, pdef id = some d → y.params = storeD a.params id (d.merge (a.getW id) w) (resetOf id)) ∧
    (pdef id = none → no stBadParam) ∧
    (∀ st, writeCheck a.getW id w = some st → no st) ∧
    (∀ st, writeCheck a.getW id w = none → a.writeLock q.hdr id w = some st → no st) ∧
    (∀ d, pdef id = some d → writeCheck a.getW id w = none → a.writeLock q.hdr id w = none →
      a.queueFull d id = true → no stBusy)) ∧
  ((s.ch q.hdr.loc.ch).turn q.hdr 0x13 = true → 0 < k → k ≤ 256 → q.len = 8 * k →
    c.admits q.hdr 2 (es.flatMap fun e => semOf e.1) →
    (Channel.acceptsAll q.hdr es c → s.chGets (.paramWriteSet q) q.hdr.loc.ch fun y =>
      y = (es.foldl (Channel.written q.hdr) c).replied q.hdr false (okVal (BitVec.ofNat 32 k)) [] ∧ y.act = c.act) ∧
    (∀ st pre e post, es = pre ++ e :: post → Channel.acceptsAll q.hdr pre c →
      writeCheck (pre.foldl (Channel.written q.hdr) c).getW e.1 e.2 = some st →
      s.chGets (.paramWriteSet q) q.hdr.loc.ch fun y => y = c.replied q.hdr false (refuseAns st) [])) ∧
  ((s.ch h.loc.ch).turn h 0x11 = true →
    (b.admits h (writeLevel cmp v) [9] → writeCheck b.getW cmp v = none → (4 ≤ m.val ∨ b.esOwns = false) →
      s.chGets (.compareWrite h m isV v) h.loc.ch fun y =>
        y = ((b.putW cmp (if isV = true then v else (b.getW cmp &&& ~~~0x3F) ||| (v &&& 0x3F))).push
          [.compare m (!isV)]).wrote h cmp) ∧
    (b.admits h 1 [14] → s.chGets (.biArm h v) h.loc.ch fun y =>
      y.mg = { b.mg with arm := some (v, h.port, h.session, h.loc.t) } ∧ y.hp.effects = b.hp.effects ∧
      ∃ r, y.hp.results = b.hp.results ++ [r] ∧ r.status = stOk) ∧
    (b.admits h 2 [15] → 1024 ≤ iv → s.chGets (.samplerEnable h iv) h.loc.ch fun y =>
      y = ((b.putW 0x6002 (1 ||| put 1 iv.toNat)).push [.sampler]).wrote h 0x6002) ∧
    (b.admits h 2 [15] → iv < 1024 → s.chGets (.samplerEnable h iv) h.loc.ch fun y =>
      y = b.replied h false (refuseAns stRange) []))

theorem parameterWritesActAtTheCommit_iff :
    Obligations.ParameterWritesActAtTheCommit ↔ ∀ s q h m v iv isV, ParameterWritesAct s q h m v iv isV := Iff.rfl

/-- What O51 says holds wherever the reserved bits of PCT_SAMPLE_CFG are 0 in the working copy that SAMPLER_ENABLE
finds. -/
theorem parameterWritesAct_of_reserved_clear {s : State} {h : Hdr}
    (hclear : (s.ch h.loc.ch).getW 0x6002 &&& ~~~mask 21 = 0#32) (q : Req) (m : Fin 8) (v : Word) (iv : BitVec 20)
    (isV : Bool) : ParameterWritesAct s q h m v iv isV := by
  unfold ParameterWritesAct
  intro id w a es k c no b cmp
  refine ⟨fun ht ha hlen => ?_, fun ht hn hn' hlen ha => ?_, fun ht => ?_⟩
  · have refused (st : Byte) (he : a.writeOne q.hdr id w = .error st) : no st :=
      chGets_write_of_error (i := .paramWrite q) rfl rfl ht ha hlen he
    refine ⟨fun hok => ?_, fun hd => ?_, fun st hc => ?_, fun st hc hl => ?_, fun d hd hc hl hq => ?_⟩
    · refine chGets_imp (chGets_write_of_accepts (i := .paramWrite q) rfl rfl ht ha hlen hok) ?_
      rintro y rfl
      exact ⟨rfl, wrote_written q.hdr a w⟩
    · exact refused _ (writeOne_of_writeCheck (writeCheck_of_pdef_none hd _ _))
    · exact refused st (writeOne_of_writeCheck hc)
    · exact refused st (writeOne_of_writeLock hc hl)
    · exact refused _ (writeOne_of_queueFull hd hc hl hq)
  · exact ⟨chGets_paramWriteSet_of_acceptsAll rfl ht hn hn' hlen ha,
      fun st pre e post hes hok hc => chGets_paramWriteSet_of_refused rfl ht hn hn' hlen ha hes hok hc⟩
  · refine ⟨chGets_compareWrite rfl ht, chGets_biArm rfl ht, fun ha hiv => ?_,
      chGets_samplerEnable_of_range rfl ht⟩
    have hw := chGets_samplerEnable rfl ht ha hiv
    rwa [begun_getW, hclear, BitVec.zero_or] at hw

/-- The state at reset is one of those. -/
theorem parameterWritesAct_reset (h : Hdr) (q : Req) (m : Fin 8) (v : Word) (iv : BitVec 20) (isV : Bool) :
    ParameterWritesAct State.reset q h m v iv isV :=
  parameterWritesAct_of_reserved_clear (by cases h.loc.ch <;> rfl) q m v iv isV

/-- Channel A at the start of a frame, its port 0 with MAINTAINER sessions and every semaphore, and reserved bit 31 of
PCT_SAMPLE_CFG set in the working copy. -/
def reservedSet : State :=
  { State.reset with
    chA := { Channel.reset .a with
      hp := { ports := Vector.replicate 2 { sess := Vector.replicate 8 { st := .opened, level := 2 } }
              semSnap := Vector.replicate 16 (some .hp0) }
      params := [(0x6002, 0x80000000)] } }

/-- A packet of session 0 of port 0 in that frame. -/
def reservedHdr : Hdr := ⟨⟨.a, 0⟩, .hp0, 5, 0⟩

theorem reservedSet_turn : reservedSet.chA.turn reservedHdr 0x11 = true := by decide +kernel

theorem reservedSet_admits : (reservedSet.chA.begun reservedHdr 0x11).admits reservedHdr 2 [15] := by
  unfold Channel.admits
  decide +kernel

/-- SAMPLER_ENABLE keeps bit 31 there, since a write changes the writable fields alone (R601); by O51 the working copy
would hold EN and INTERVAL and nothing else. -/
theorem not_parameterWritesAct_reservedSet :
    ¬ ParameterWritesAct reservedSet ⟨reservedHdr, 0, 0, []⟩ reservedHdr 0 0 1024 false := by
  intro hact
  obtain ⟨-, -, hcmds⟩ := hact
  obtain ⟨-, -, hsampler, -⟩ := hcmds reservedSet_turn
  have hsays := hsampler reservedSet_admits (by decide)
  have hdoes := chGets_samplerEnable (s := reservedSet) (h := reservedHdr) (iv := 1024) rfl reservedSet_turn
    reservedSet_admits (by decide)
  have hparams := congrArg Channel.params (chGets_eq hsays hdoes)
  simp only [Channel.wrote, Channel.replied, Channel.push, Channel.putW, begun_params, begun_getW] at hparams
  exact absurd hparams (by decide)

/-- Refutes O51: it takes every state, and where a reserved bit of PCT_SAMPLE_CFG stands in the working copy
SAMPLER_ENABLE does not clear it. -/
theorem not_parameterWritesActAtTheCommit : ¬ Obligations.ParameterWritesActAtTheCommit := fun hall =>
  not_parameterWritesAct_reservedSet (parameterWritesActAtTheCommit_iff.mp hall ..)

end Sys2Proof.Machine
end

section
/-! PROOF. EveryCommandKeepsToItsPart (O2): a command writes one channel or one Welt, and nothing else of the module. -/

namespace Sys2Proof.Machine

-- One proof after another: with each in a thread of its own the joined text nears the check's memory limit.
set_option Elab.async false

/-- An outcome is a next state that differs in one part of the module alone. -/
def KeepsTo (a : Agent) (s : State) (o : Out) : Prop := ∃ u, o = .next u ∧ State.sameBut a s u

theorem keepsTo_self (a : Agent) (s : State) : KeepsTo a s (.next s) := ⟨s, rfl, rfl, fun _ _ => rfl, fun _ _ => rfl⟩

theorem keepsTo_setCh (s : State) (ch : Ch) (x : Channel) : KeepsTo (.channel ch) s (.next (s.setCh ch x)) :=
  ⟨_, onCh_next ch s fun _ => x⟩

theorem keepsTo_setWelt (s : State) (w : Wid) (x : Welt) : KeepsTo (.welt w) s (.next (s.setWelt w x)) :=
  ⟨_, onWelt_next w s fun _ => x⟩

theorem ch_freeCtr (s : State) (n : Nat) (ch : Ch) : { s with freeCtr := n }.ch ch = s.ch ch := by cases ch <;> rfl

theorem welt_freeCtr (s : State) (n : Nat) (w : Wid) : { s with freeCtr := n }.welt w = s.welt w := by cases w <;> rfl

/-- The model's own counter for free values is no part of the module. -/
theorem keepsTo_freeCtr (s : State) (ch : Ch) (x : Channel) (n : Nat) :
    KeepsTo (.channel ch) s (.next { s.setCh ch x with freeCtr := n }) := by
  obtain ⟨-, hpending, hch, hwelt⟩ := onCh_next ch s fun _ => x
  exact ⟨_, rfl, hpending, fun k hk => (ch_freeCtr ..).trans (hch k hk),
    fun w hw => (welt_freeCtr ..).trans (hwelt w hw)⟩

theorem keepsTo_alignTElapsed (l : At) (s : State) : KeepsTo (.channel l.ch) s (execAlignTElapsed l s) := by
  unfold execAlignTElapsed
  extract_lets c times
  split
  · exact keepsTo_freeCtr ..
  · exact keepsTo_self ..

theorem keepsTo_eyeletAccess (l : At) (acc : EyeletAcc) (s : State) :
    KeepsTo (.channel l.ch) s (execEyeletAccess l acc s) := by
  unfold execEyeletAccess
  split
  · exact keepsTo_self ..
  · exact keepsTo_freeCtr ..

theorem keepsTo_loopResult (l : At) (slot : Fin 32) (j : LoopJudge) (s : State) :
    KeepsTo (.channel l.ch) s (execLoopResult l slot j s) := by
  unfold execLoopResult
  extract_lets c
  split
  · split
    · split
      · exact keepsTo_freeCtr ..
      · exact keepsTo_setCh ..
    · exact keepsTo_self ..
  · exact keepsTo_self ..

theorem keepsTo_doubleShortStep (l : At) (s : State) : KeepsTo (.channel l.ch) s (execDoubleShortStep l s) := by
  unfold execDoubleShortStep
  extract_lets c
  split
  · exact keepsTo_setCh ..
  · exact keepsTo_self ..

theorem keepsTo_handoverClaimTimeout (l : At) (s : State) :
    KeepsTo (.channel l.ch) s (execHandoverClaimTimeout l s) := by
  unfold execHandoverClaimTimeout
  extract_lets c
  split
  · exact keepsTo_setCh ..
  · exact keepsTo_self ..

theorem keepsTo_heldPressureRelease (l : At) (s : State) :
    KeepsTo (.channel l.ch) s (execHeldPressureRelease l s) := by
  unfold execHeldPressureRelease
  extract_lets c
  split
  · exact keepsTo_setCh ..
  · exact keepsTo_self ..

theorem keepsTo_challengeExpiry (l : At) (of : ChallengeOf) (s : State) :
    KeepsTo (.channel l.ch) s (execChallengeExpiry l of s) := by
  cases of with
  | session p k => exact keepsTo_setCh ..
  | debug => exact keepsTo_setCh ..

/-- Settles O2: a command that may take supply legs down writes its channel, and the Welts follow; every other command
writes its channel or its Welt, where it writes anything. -/
theorem everyCommandKeepsToItsPart : Obligations.EveryCommandKeepsToItsPart := by
  intro i s
  have plain (hd : dropsSupply i = false) (hk : KeepsTo (agentOf i) s (exec i s)) :
      ∃ u, exec i s = .next (if dropsSupply i then u.feed else u) ∧ State.sameBut (agentOf i) s u := by
    simpa [hd, KeepsTo] using hk
  cases i with
  | vsupReset l | vsupOff l | shelfClockStop l => exact ⟨_, rfl, (onCh_next l.ch s fun _ => _).2⟩
  | alignTElapsed l => exact plain rfl (keepsTo_alignTElapsed ..)
  | eyeletAccess l acc => exact plain rfl (keepsTo_eyeletAccess ..)
  | loopResult l slot j => exact plain rfl (keepsTo_loopResult ..)
  | doubleShortStep l => exact plain rfl (keepsTo_doubleShortStep ..)
  | handoverClaimTimeout l => exact plain rfl (keepsTo_handoverClaimTimeout ..)
  | heldPressureRelease l => exact plain rfl (keepsTo_heldPressureRelease ..)
  | challengeExpiry l of => exact plain rfl (keepsTo_challengeExpiry ..)
  | claimWordDecode l | claimStale l | claimApply l | orphHoldExpiry l | pkrDelayExpiry l | weltSettingApply l
  | solPwmPeriodStart l | solLoopInterval l | ditherToggle l | solShort l | solOpen l | pkrFault l | siLevelAccepted l
  | siDiscrepancy l | tpPulseStart l | tpPulseEnd l | soFault l | vloadLow l | vloadRecovered l | weltPowerUp l
  | weltPowerLoss l | weltSelfcheckDone l | weltClockStop l | weltInternalFault l | weltDeliberateReset l
  | weltStatusSend l | wrstHigh l | wstatAlternate l => exact plain rfl (keepsTo_setWelt s l.w _)
  | _ => exact plain rfl (keepsTo_setCh s _ _)

end Sys2Proof.Machine
end

section
/-! PROOF. WeltStartsFromItsResetValues (O15): supply, self-check, waiting settings and START of a Welt (R24, R313, R314,
R320). -/

namespace Sys2Proof.Machine

-- One proof after another: with each in a thread of its own the joined text nears the check's memory limit.
set_option Elab.async false

/-- The supply of a Welt rests on the channels alone. -/
theorem fed_setWelt (s : State) (v w : Wid) (x : Welt) : (s.setWelt v x).fed w = s.fed w := by
  cases v <;> cases w <;> rfl

theorem feed_eq (s : State) : s.feed =
    if s.fed .w2 then (if s.fed .w1 then s else s.setWelt .w1 s.w1.lost)
    else (if s.fed .w1 then s else s.setWelt .w1 s.w1.lost).setWelt .w2 s.w2.lost := by
  unfold State.feed
  cases s.fed .w1 <;> rfl

theorem fed_feed (s : State) (w : Wid) : s.feed.fed w = s.fed w := by
  rw [feed_eq]
  split
  · split
    · rfl
    · exact fed_setWelt ..
  · split
    · exact fed_setWelt ..
    · rw [fed_setWelt, fed_setWelt]

/-- A Welt keeps its state as long as a leg feeds it, and is lost else (R24). -/
theorem welt_feed (s : State) (w : Wid) : s.feed.welt w = if s.fed w then s.welt w else (s.welt w).lost := by
  rw [feed_eq]
  cases w <;> cases h1 : s.fed .w1 <;> cases h2 : s.fed .w2 <;> rfl

@[simp] theorem powered_lost (w : Welt) : w.lost.powered = false := by
  unfold Welt.lost
  split
  · rfl
  · rename_i h; simpa using h

/-- With no cause active and none arisen in this WCLK no Welt locks out (R315). -/
theorem locks_of_no_cause {w : Welt} {t : Nat} (hc : w.causes = []) (ha : ∀ c, w.arisen t c = false) :
    w.locks t = false := by
  have hact : w.acting t = [] := by simp [Welt.acting, Welt.causeActive, hc, ha]
  simp [Welt.locks, hact]

/-- A Welt in LOCKOUT stays there until a deliberate reset (R314). -/
theorem nextSt_lockout {w : Welt} (h : w.st = .lockout) (t : Nat) : w.nextSt t = .lockout := by
  simp [Welt.nextSt, h]

/-- From START a Welt that does not lock out goes to RUN once both pairs are tested (R314). -/
theorem nextSt_start {w : Welt} {t : Nat} (h : w.st = .start) (hl : w.locks t = false) :
    w.nextSt t = if w.tested 0 && w.tested 1 then .run else .start := by
  simp [Welt.nextSt, h, hl]

theorem refresh_st (w : Welt) (t : Nat) : (w.refresh t).st = w.nextSt t := rfl

/-- After a failed self-check: LOCKOUT by INTERNAL, which keeps the outputs off (R314, R315). -/
theorem refresh_selfcheckFailed {w : Welt} {t : Nat} (hst : w.st = .lockout) (hcause : w.cause = some .internal)
    (hat : w.lockedAt = none) (hin : w.causes.contains .internal = true) :
    (w.refresh t).st = .lockout ∧ (w.refresh t).cause = some .internal ∧ (w.refresh t).dead = true ∧
      (w.refresh t).so0 = false ∧ (w.refresh t).so1 = false := by
  have hnext := nextSt_lockout hst t
  refine ⟨hnext, ?_, ?_, ?_, ?_⟩
  · simp [Welt.refresh, Welt.locks, hst, hat, hcause]
  · show (w.causes.contains .clock || w.causes.contains .internal) = true
    rw [hin, Bool.or_true]
  · simp [Welt.refresh, Welt.soOn, hnext]
  · simp [Welt.refresh, Welt.soOn, hnext]

theorem causes_addCause (w : Welt) (t : Nat) (c : WCause) : (w.addCause t c).causes.contains c = true := by
  simp only [Welt.addCause]
  split <;> split <;> simp_all

/-- The self-check passes with no cause: START where a pair is enabled, RUN else (R314). -/
theorem refresh_selfcheckPassed {w : Welt} {t : Nat} (hc : w.causes = []) (ha : ∀ c, w.arisen t c = false) :
    let x := (((w.dropCause .clock).dropCause .internal).enterStart).refresh t
    x.st = (if w.pairEn 0 || w.pairEn 1 then .start else .run) ∧ x.causes = [] := by
  intro x
  have hcauses : (((w.dropCause .clock).dropCause .internal).enterStart).causes = [] := by
    simp [Welt.enterStart, Welt.dropCause, hc]
  have hst := nextSt_start (w := ((w.dropCause .clock).dropCause .internal).enterStart) rfl
    (locks_of_no_cause hcauses ha)
  have htested (p : Fin 2) : (((w.dropCause .clock).dropCause .internal).enterStart).tested p = !w.pairEn p := by
    fin_cases p <;> simp [Welt.tested, Welt.enterStart, Welt.dropCause, Welt.pair] <;> rfl
  refine ⟨?_, hcauses⟩
  rw [refresh_st, hst, htested, htested]
  cases w.pairEn 0 <;> cases w.pairEn 1 <;> rfl

/-- In START with a pair still untested and no cause the state stays, and WSTAT stands as it is (R313, R314). -/
theorem refresh_start {w : Welt} {t : Nat} (h : w.st = .start) (hc : w.causes = []) (ha : ∀ c, w.arisen t c = false)
    (hen : w.pairEn 0 = true) (hp : w.pair0.passed = false) :
    (w.refresh t).st = .start ∧ (w.refresh t).wstat = w.wstat := by
  have htested : w.tested 0 = false := by simp [Welt.tested, Welt.pair, hen, hp]
  have hst : w.nextSt t = .start := by rw [nextSt_start h (locks_of_no_cause hc ha), htested]; rfl
  exact ⟨hst, by simp [Welt.refresh, hst]⟩

/-- Settles O15: each command in turn, by what it leaves of its Welt. -/
theorem weltStartsFromItsResetValues : Obligations.WeltStartsFromItsResetValues := by
  intro s l w
  refine ⟨fun hoff hfed => ?_, fun hfed => ?_, fun hon hlegs => ?_, fun hlegs => ?_, fun hfed => ?_, fun hfed => ?_,
    fun hon hcalm hst hinit => ⟨?_, fun hc ha => ?_⟩, fun hon hcalm hso v hheld => ?_, fun hon hcalm hso => ?_,
    fun hon hcalm hst hc ha hen hp => ?_⟩
  · exact ⟨_, rfl, by simp [show (s.welt l.w).powered = false from hoff, hfed]⟩
  · exact ⟨_, rfl, by simp [hfed, w]⟩
  · refine ⟨_, rfl, ?_⟩
    beta_reduce
    rw [if_neg (by simp [hlegs]), Welt.lost, if_pos hon]
    exact ⟨rfl, rfl, rfl, rfl, rfl, rfl, rfl, rfl, rfl⟩
  · exact ⟨_, rfl, if_pos hlegs⟩
  · rw [fed_feed] at hfed
    rw [welt_feed, hfed]
    exact powered_lost _
  · rw [welt_feed, if_pos hfed]
  · refine ⟨_, rfl, ?_⟩
    beta_reduce
    rw [if_pos hon, resetStep_calm _ _ hcalm]
    simp only [settle_st, settle_initAt, show (s.welt l.w).st = .init from hst, hinit, decide_true, Bool.and_true,
      Bool.false_eq_true, if_false, w]
    exact refresh_selfcheckFailed rfl rfl rfl (causes_addCause ..)
  · refine ⟨_, rfl, ?_⟩
    beta_reduce
    rw [if_pos hon, resetStep_calm _ _ hcalm]
    simp only [settle_st, settle_initAt, show (s.welt l.w).st = .init from hst, hinit, decide_true, Bool.and_true,
      if_true, w]
    exact refresh_selfcheckPassed hc ha
  · refine ⟨_, rfl, ?_⟩
    beta_reduce
    rw [if_pos hon, resetStep_calm _ _ hcalm]
    simp [show ((s.welt l.w).settle l.t).soEither l.t = false from hso, show (s.welt l.w).held = [(5, v)] from hheld,
      Welt.settingOk, Welt.putSetting, w]
  · refine ⟨_, rfl, ?_⟩
    beta_reduce
    rw [if_pos hon, resetStep_calm _ _ hcalm]
    simp [show ((s.welt l.w).settle l.t).soEither l.t = true from hso, w]
  · refine ⟨_, rfl, ?_⟩
    beta_reduce
    rw [if_pos hon, resetStep_calm _ _ hcalm]
    rw [if_pos (show ((s.welt l.w).settle l.t).st = .start from hst)]
    exact refresh_start hst hc ha hen hp

end Sys2Proof.Machine
end

section
/-! PROOF. Commands that run on a channel where a condition holds, what counted and
logged events leave alone, and what the reaction ISOLATE does. -/

namespace Sys2Proof.Machine

-- One proof after another: with each in a thread of its own the joined text nears the check's memory limit.
set_option Elab.async false

section
variable {s : State} {i : Instr} {ch : Ch} {b : Bool} {f : Channel → Channel} {P : Channel → Prop}

theorem chGets_onCh (hi : exec i s = onCh ch s f) (hP : P (f (s.ch ch))) : s.chGets i ch P := ⟨_, hi, hP⟩

/-- A command whose condition holds. -/
theorem chGets_when (hi : exec i s = onCh ch s (when b f)) (hb : b = true) (hP : P (f (s.ch ch))) :
    s.chGets i ch P := by
  subst hb; exact ⟨_, hi, hP⟩

/-- A command whose condition fails leaves its channel alone. -/
theorem chGets_skip (hi : exec i s = onCh ch s (when b f)) (hb : b = false) (hP : P (s.ch ch)) : s.chGets i ch P := by
  subst hb; exact ⟨_, hi, hP⟩

end

/-- A counted event leaves every part of the channel but its counters alone. -/
@[simp] theorem bump_rst (c : Channel) (b i n : Nat) : (c.bump b i n).rst = c.rst := by
  obtain ⟨p, h⟩ := bump_eq c b i n; rw [h]
@[simp] theorem bump_hp (c : Channel) (b i n : Nat) : (c.bump b i n).hp = c.hp := by
  obtain ⟨p, h⟩ := bump_eq c b i n; rw [h]
@[simp] theorem bump_nv (c : Channel) (b i n : Nat) : (c.bump b i n).nv = c.nv := by
  obtain ⟨p, h⟩ := bump_eq c b i n; rw [h]

/-- An entry of the event log leaves alone what the log does not hold. -/
@[simp] theorem logEv_hp (c : Channel) (t a b : Nat) (d : List Word) : (c.logEv t a b d).hp = c.hp := by
  obtain ⟨_, _, _, _, h⟩ := logEv_eq c t a b d; rw [h]

@[simp] theorem logEv_port (c : Channel) (t a b : Nat) (d : List Word) (p : Port) :
    (c.logEv t a b d).port p = c.port p := by
  obtain ⟨_, _, _, _, h⟩ := logEv_eq c t a b d; rw [h]; rfl

@[simp] theorem logEv_sec (c : Channel) (t a b : Nat) (d : List Word) : (c.logEv t a b d).sec = c.sec := by
  obtain ⟨_, _, _, _, h⟩ := logEv_eq c t a b d; rw [h]

@[simp] theorem logEv_rd (c : Channel) (t a b : Nat) (d : List Word) : (c.logEv t a b d).rd = c.rd := by
  obtain ⟨_, _, _, _, h⟩ := logEv_eq c t a b d; rw [h]

@[simp] theorem logEv_keys (c : Channel) (t a b : Nat) (d : List Word) : (c.logEv t a b d).nv.keys = c.nv.keys := by
  obtain ⟨_, _, _, _, h⟩ := logEv_eq c t a b d; rw [h]

@[simp] theorem logEv_bank (c : Channel) (t a b : Nat) (d : List Word) (k : Bool) :
    (c.logEv t a b d).nv.bank k = c.nv.bank k := by
  obtain ⟨_, _, _, _, h⟩ := logEv_eq c t a b d; rw [h]; rfl

theorem bit_setBit_of_bit {v : Word} {k : Nat} (h : bit v k = true) (j : Nat) : bit (setBit v j true) k = true := by
  have h' : v.getLsbD k = true := h
  simp [bit, setBit, h']

theorem bit_setBit_self (v : Word) {k : Nat} (hk : k < 32) : bit (setBit v k true) k = true := by
  simp [bit, setBit, hk]

/-- What the operations of the drives and of the gate-driver die leave alone: the frame, the
results of the die's self-tests, and every raised line but the two that the row order of R206 may take back. -/
structure Channel.Drives (c y : Channel) : Prop where
  exe : y.exe = c.exe
  grpS : y.gd.grpS = c.gd.grpS
  grpA : y.gd.grpA = c.gd.grpA
  lines : ∀ p ∈ c.fcl.raised, p.1 ≠ 18 → p.1 ≠ 19 → p ∈ y.fcl.raised

namespace Channel.Drives
variable {c y z : Channel}

theorem refl (c : Channel) : c.Drives c := ⟨rfl, rfl, rfl, fun _ h _ _ => h⟩

theorem trans (h : c.Drives y) (k : y.Drives z) : c.Drives z :=
  ⟨k.exe.trans h.exe, k.grpS.trans h.grpS, k.grpA.trans h.grpA,
    fun p hp h8 h9 => k.lines p (h.lines p hp h8 h9) h8 h9⟩

end Channel.Drives

section Isolate
variable (c : Channel) (t : Nat)

/-- Row order of R206 takes back lines 18 and 19 alone. -/
theorem adTakeBack_drives : c.Drives (c.adTakeBack t) := by
  unfold Channel.adTakeBack
  split
  · split
    · exact .refl c
    · refine ⟨rfl, rfl, rfl, fun p hp h8 h9 => List.mem_filter.mpr ⟨hp, ?_⟩⟩
      have e8 : (p == (18, 0)) = false := beq_false_of_ne fun e => h8 (by rw [e])
      have e9 : (p == (19, 0)) = false := beq_false_of_ne fun e => h9 (by rw [e])
      simp only [e8, e9, Bool.false_and, Bool.or_false, Bool.not_false]
  · exact .refl c

theorem dropGrp_drives (g : Grp) : c.Drives (c.dropGrp t g) := by
  cases g with
  | steer => unfold Channel.dropGrp; dsimp only; split <;> exact ⟨rfl, rfl, rfl, fun _ h _ _ => h⟩
  | aux =>
    unfold Channel.dropGrp
    dsimp only
    split
    · exact (adTakeBack_drives c t).trans ⟨rfl, rfl, rfl, fun _ h _ _ => h⟩
    · exact (adTakeBack_drives c t).trans ⟨rfl, rfl, rfl, fun _ h _ _ => h⟩

/-- The enables are dropped (R102). -/
theorem dropEnables_drives : c.Drives (c.dropEnables t) :=
  ((dropGrp_drives c t .steer).trans (dropGrp_drives _ t .aux)).trans ⟨rfl, rfl, rfl, fun _ h _ _ => h⟩

/-- The channel goes ISOLATED: of the core its stop alone, of the collector nothing (R102, R327). -/
theorem isolateNow_frame : (c.isolateNow t).exe = { c.exe with stopping := false, stopped := true } ∧
    (c.isolateNow t).fcl = c.fcl := by
  obtain ⟨_, _, _, _, _, h⟩ := setRole_eq c t .isolated
  unfold Channel.isolateNow
  rw [h]
  exact ⟨rfl, rfl⟩

/-- The reaction ISOLATE writes the core's stop alone (R102). -/
theorem beginIsolate_exe : ∃ a b, (c.beginIsolate t).exe = { c.exe with stopping := a, stopped := b } ∧
    (a || b) = true := by
  unfold Channel.beginIsolate
  split
  · rename_i h; exact ⟨c.exe.stopping, c.exe.stopped, rfl, h⟩
  · have hd := dropEnables_drives c t
    extract_lets d x s e
    have he : e.exe = { c.exe with stopping := true } := congrArg (fun x : Exe => { x with stopping := true }) hd.exe
    split
    · exact ⟨true, c.exe.stopped, he, rfl⟩
    · exact ⟨false, true, (isolateNow_frame e t).1.trans
        (congrArg (fun x : Exe => { x with stopping := false, stopped := true }) he), rfl⟩

/-- The reaction ISOLATE keeps every raised line but the two of the pump (R206). -/
theorem beginIsolate_lines {p : Fin 62 × BitVec 16} (hp : p ∈ c.fcl.raised) (h8 : p.1 ≠ 18) (h9 : p.1 ≠ 19) :
    p ∈ (c.beginIsolate t).fcl.raised := by
  unfold Channel.beginIsolate
  split
  · exact hp
  · have hd := (dropEnables_drives c t).lines p hp h8 h9
    extract_lets d x s e
    split
    · exact hd
    · rw [(isolateNow_frame e t).2]; exact hd

end Isolate

end Sys2Proof.Machine
end

section
/-! PROOF. CclFramesAreTaken (O38): what a block of a good frame leaves on the channel that takes it (R31, R32, R329 to
R333). -/

namespace Sys2Proof.Machine

-- One proof after another: with each in a thread of its own the joined text nears the check's memory limit.
set_option Elab.async false

section
variable {t : Nat} {c : Channel} {b : CclBlock}

/-- A channel's own block does not come back to it. -/
theorem cclBlock_of_own (h : b.src = c.id) : Channel.cclBlock t c b = c := if_pos h

theorem cclBlock_of_mine (hsrc : b.src ≠ c.id) (hdst : b.dst = c.id) : Channel.cclBlock t c b = c.takeBlock t b := by
  rw [Channel.cclBlock, if_neg hsrc, if_pos hdst]

/-- A block is relayed once, and never to its source (R32). -/
theorem cclBlock_of_relayed (hsrc : b.src ≠ c.id) (hdst : b.dst ≠ c.id) (h : b.relayed = true ∨ b.dst = b.src) :
    Channel.cclBlock t c b = c := by
  rw [Channel.cclBlock, if_neg hsrc, if_neg hdst, if_pos (by simpa using h)]

theorem cclBlock_of_third (hsrc : b.src ≠ c.id) (hdst : b.dst ≠ c.id) (hne : b.dst ≠ b.src)
    (hrel : b.relayed = false) : Channel.cclBlock t c b = c.queueRelay b := by
  rw [Channel.cclBlock, if_neg hsrc, if_neg hdst, if_neg (by simp [hrel, hne])]

end

theorem setPeer_ce (c : Channel) (k : Ch) (x : Partner) : (c.setPeer k x).ce = c.ce := by cases k <;> rfl

theorem setPeer_demote (c : Channel) (k : Ch) (x : Partner) : (c.setPeer k x).rd.demote = c.rd.demote := by
  cases k <;> rfl

/-- What waits to be relayed to a channel: the new block, behind the records and segments of one that waited (R32). -/
theorem queueRelay_peer (c : Channel) (b : CclBlock) :
    let y := c.queueRelay b
    (y.peer b.dst).relay = some { b with relayed := true } ∧ (y.peer b.dst).latest = (c.peer b.dst).latest ∧
      ((c.peer b.dst).relay = none → (y.peer b.dst).restRecs = (c.peer b.dst).restRecs) ∧
      (∀ o, (c.peer b.dst).relay = some o → (y.peer b.dst).restRecs = (c.peer b.dst).restRecs ++ o.recs ∧
        (y.peer b.dst).restSegs = (c.peer b.dst).restSegs ++ o.segs) ∧
      y.ce = c.ce ∧ ∀ ch, ch ≠ b.dst → y.peer ch = c.peer ch := by
  intro y
  refine ⟨?_, ?_, fun hn => ?_, fun o ho => ?_, setPeer_ce .., fun ch hch => peer_setPeer_ne _ _ hch⟩
  · simp [y, Channel.queueRelay]
  · simp [y, Channel.queueRelay]
  · simp [y, Channel.queueRelay, hn]
  · simp [y, Channel.queueRelay, ho]

/-- A partner's mailbox traffic begun anew writes the host ports alone. -/
theorem xmbReset_eq (c : Channel) (next : Bool) : ∃ u, c.xmbReset next = { c with hp := u } := by
  cases next <;> exact ⟨_, rfl⟩

/-- A block without segments from a channel that does not lead: its vote alone is taken, once the mailbox traffic of a
partner that was silent has begun anew (R330, R463). -/
theorem takeBlock_of_vote {c : Channel} {t : Nat} {b : CclBlock} (hsegs : b.segs = []) (hrole : b.vote.role ≠ 3) :
    ∃ u, c.takeBlock t b = Channel.takeVote { c with hp := u } t b := by
  unfold Channel.takeBlock
  extract_lets p back next c1 c2 lead c3 c4 c5
  obtain ⟨u, hu⟩ : ∃ u, c1 = { c with hp := u } := by
    unfold c1
    split
    · exact xmbReset_eq ..
    · exact ⟨c.hp, rfl⟩
  have hlead : lead = false := by simpa [lead] using hrole
  have h3 : c3 = c2 := by simp [c3, hlead]
  have h4 : c4 = c2 := by simp only [c4, hlead, Bool.false_and, Bool.false_eq_true, if_false, h3]; split <;> rfl
  have h5 : c5 = c2 := by simp [c5, hsegs, h4]
  refine ⟨u, ?_⟩
  rw [hlead, Bool.false_and, if_neg Bool.false_ne_true, h5, ← hu]

/-- What a channel then knows of the source (R330, R332, R333). -/
theorem takeVote_peer (c : Channel) (t : Nat) (b : CclBlock) :
    let y := c.takeVote t b
    (y.peer b.src).latest = some b.vote ∧ (y.peer b.src).heardAt = some t ∧
      (y.peer b.src).goodAt = (if b.relayed = true then (c.peer b.src).goodAt else some t) ∧
      (b.vote.cyc ≠ c.rd.markCyc → (y.peer b.src).latched = (c.peer b.src).latched) ∧
      (∀ v, (c.peer b.src).latched = some v → (y.peer b.src).latched = some v) ∧
      ((c.peer b.src).latched = none → b.vote.cyc = c.rd.markCyc → (y.peer b.src).latched = some b.vote) ∧
      y.ce = c.ce ∧ y.rd.demote = c.rd.demote ∧ ∀ ch, ch ≠ b.src → y.peer ch = c.peer ch := by
  intro y
  refine ⟨?_, ?_, ?_, fun hcyc => ?_, fun v hv => ?_, fun hn hcyc => ?_, setPeer_ce .., setPeer_demote ..,
    fun ch hch => peer_setPeer_ne _ _ hch⟩
  · simp [y, Channel.takeVote]
  · simp [y, Channel.takeVote]
  · simp [y, Channel.takeVote]
  · simp [y, Channel.takeVote, hcyc]
  · simp [y, Channel.takeVote, hv]
  · simp [y, Channel.takeVote, hn, hcyc]

/-- Settles O38: by what becomes of the frame, and of each block. -/
theorem cclFramesAreTaken : Obligations.CclFramesAreTaken := by
  intro s l f hrel hdoze c
  have hup (hout : c.linksOut = false) : c.linksUp = true := by
    simp [Channel.linksUp, show c.released = true from hrel, show c.pwr.doze = false from hdoze, hout]
  refine ⟨fun h => ?_, fun hout hgood hsrc => ?_, fun b => ⟨cclBlock_of_own, cclBlock_of_relayed,
    fun hs hd hne hr => ?_, fun hs hd hsegs hrole => ?_⟩⟩
  · cases hout : c.linksOut with
    | true => exact chGets_skip (b := c.linksUp) rfl (by simp [Channel.linksUp, hout]) rfl
    | false =>
      refine chGets_when (b := c.linksUp) rfl (hup hout) (if_pos ?_)
      simpa [hout] using h
  · exact chGets_when (b := c.linksUp) rfl (hup hout) (if_neg (by simpa [hgood] using hsrc))
  · rw [cclBlock_of_third hs hd hne hr]
    exact queueRelay_peer c b
  · obtain ⟨u, hu⟩ := takeBlock_of_vote (c := c) (t := l.t) hsegs hrole
    rw [cclBlock_of_mine hs hd, hu]
    exact takeVote_peer { c with hp := u } l.t b

end Sys2Proof.Machine
end

section
/-! PROOF. PendingWorkEnds (O55): the ends of signature checks and MRAM writes, the fuse, the generator and the answers
over the Eyelet (R35, R448, R449, R452, R464, R473, R482, R483, R493). -/

namespace Sys2Proof.Machine

-- One proof after another: with each in a thread of its own the joined text nears the check's memory limit.
set_option Elab.async false

@[simp] theorem bank_setBank (n : Nv) (k : Bool) (x : Bank) : (n.setBank k x).bank k = x := by cases k <;> rfl

@[simp] theorem bank_setBank_not (n : Nv) (k : Bool) (x : Bank) : (n.setBank k x).bank (!k) = n.bank (!k) := by
  cases k <;> rfl

@[simp] theorem port_setSess (c : Channel) (p : Port) (k : Fin 8) (x : Sess) :
    (c.setSess p k x).port p = { c.port p with sess := (c.port p).sess.set k x } := port_setPort ..

section Checks
variable (c : Channel) (t : Nat) (w : Work)

/-- The reply of a completion stands last among those that wait for their publication (R449). -/
theorem complete_done (a : Ans) : ∃ z, (c.complete t w a).hp.done = c.hp.done ++ [z] ∧ z.status = a.status ∧
    z.tag = w.tag ∧ z.port = w.port := ⟨_, rfl, rfl, rfl, rfl⟩

/-- CONFIG_ACTIVATE of a slot that passes its checks ends (R459, R491). -/
theorem configDone_of_good {slot : Bool} (hc : c.cfgCheck slot = none) :
    let y := c.configDone t w slot
    y.hp.work = c.hp.work ∧
      (if c.cfgLost t slot = true then
        y.nv.cfgNext = c.nv.cfgNext ∧ y.fcl.raised.contains (8, 0) = true ∧
          ∃ z, y.hp.done = c.hp.done ++ [z] ∧ z.status = stInternal ∧ z.tag = w.tag
      else
        y.nv.cfgNext = slot ∧ y.nv.curve = none ∧ y.nv.comb = none ∧ (∀ k : Fin 32, y.nv.loops[k] = none) ∧
          ∃ z, y.hp.done = c.hp.done ++ [z] ∧ z.status = stOk ∧ z.tag = w.tag) := by
  intro y
  by_cases hl : c.cfgLost t slot = true
  · have hy : y = (c.raise 8).complete t w (refuseAns stInternal) := if_pos hl
    obtain ⟨r, hr⟩ := raise_eq c 8 0
    rw [if_pos hl, hy]
    refine ⟨by rw [hr]; rfl, by rw [hr]; rfl, List.contains_iff_mem.mpr (raise_self c 8 0), ?_⟩
    rw [hr]; exact ⟨_, rfl, rfl, rfl⟩
  · have hy : y = _ := if_neg hl
    rw [if_neg hl, hy, hc]
    exact ⟨rfl, rfl, rfl, rfl, fun k => by simp [Channel.complete], _, rfl, rfl, rfl⟩

/-- IMAGE_COMMIT ends: the bank as its image is judged (R493). -/
theorem imageDone_of_partial {k : Bool} (hk : c.nv.partialBank = some k) :
    let y := c.imageDone t w
    (y.nv.bank k).st = (if c.bankLost t k = true then (c.nv.bank k).st
        else if c.nv.imageGood (c.nv.bank k) = true then 2 else 5) ∧
      y.nv.bank (!k) = c.nv.bank (!k) ∧ (c.bankLost t k = true → y.fcl.raised.contains (8, 0) = true) ∧
      ∃ z, y.hp.done = c.hp.done ++ [z] ∧
        z.status = (if c.bankLost t k = true then stInternal
          else if c.nv.imageGood (c.nv.bank k) = true then stOk else stDenied) := by
  intro y
  have hy : y = c.imageDone t w := rfl
  simp only [Channel.imageDone, hk] at hy
  by_cases hl : c.bankLost t k = true
  · rw [if_pos hl] at hy
    obtain ⟨r, hr⟩ := raise_eq c 8 0
    simp only [if_pos hl]
    refine ⟨by rw [hy, hr]; rfl, by rw [hy, hr]; rfl,
      fun _ => by rw [hy]; exact List.contains_iff_mem.mpr (raise_self c 8 0), ?_⟩
    rw [hy, hr]; exact ⟨_, rfl, rfl⟩
  · rw [if_neg hl] at hy
    simp only [if_neg hl]
    by_cases hg : c.nv.imageGood (c.nv.bank k) = true
    · rw [if_pos hg] at hy
      simp only [if_pos hg]
      exact ⟨by simp [hy, Channel.complete], by simp [hy, Channel.complete], fun h => absurd h hl,
        by rw [hy]; exact ⟨_, rfl, rfl⟩⟩
    · rw [if_neg hg] at hy
      simp only [if_neg hg]
      exact ⟨by simp [hy, Channel.complete], by simp [hy, Channel.complete], fun h => absurd h hl,
        by simp [hy, Channel.complete, Channel.replyOf, refuseAns]⟩

variable {c t w} {k : Fin 8} {ch : List Word}

/-- A session that waits for the answer to its challenge, and for no other (R452). -/
theorem sessCheck_eq (hst : ((c.port w.port).sess[k]).st = .challenged)
    (hch : ((c.port w.port).sess[k]).challenge = []) :
    c.sessCheck t w k ch = (if c.verify ((c.port w.port).sess[k]).slot "SP9430 SESSION"
      (sessionMsg c.id ch w.port k ((c.port w.port).sess[k]).level ((c.port w.port).sess[k]).slot) w.sig = true
      then c.sessAccept t w k else c.sessRefuse t w k) := by
  unfold Channel.sessCheck
  simp only [hst, hch, List.isEmpty_nil, beq_self_eq_true, Bool.and_true, Bool.true_and]

theorem sessAccept_sess : (((c.sessAccept t w k).port w.port).sess[k]) =
    { (c.port w.port).sess[k] with st := .opened, challenge := [], idleAt := t } := by
  have h : (c.sessAccept t w k).port w.port =
      (c.setSess w.port k { (c.port w.port).sess[k] with st := .opened, challenge := [], idleAt := t }).port w.port :=
    logEv_port ..
  rw [h, port_setSess]
  simp

/-- A session whose signature fails closes: line 59, and SEC_DENIED as its completion (R452). -/
theorem sessRefuse_of_waits (hst : ((c.port w.port).sess[k]).st = .challenged)
    (hch : ((c.port w.port).sess[k]).challenge = []) :
    let y := c.sessRefuse t w k
    (y.port w.port).sess[k] = {} ∧ y.fcl.raised.contains (59, 0) = true ∧
      ∃ z, y.hp.done = c.hp.done ++ [z] ∧ z.status = stDenied := by
  intro y
  have hy : y = ((c.setSess w.port k {}).raise 59).complete t w (refuseAns stDenied) := by
    simp only [y, Channel.sessRefuse, hst, hch, List.isEmpty_nil, decide_true, Bool.and_true, if_true]
  obtain ⟨r, hr⟩ := raise_eq (c.setSess w.port k {}) 59 0
  have hdone : (c.setSess w.port k {}).hp.done = c.hp.done := by
    unfold Channel.setSess Channel.setPort; cases w.port <;> rfl
  refine ⟨?_, by rw [hy]; exact List.contains_iff_mem.mpr (raise_self _ 59 0), ?_⟩
  · have h : y.port w.port = (c.setSess w.port k {}).port w.port := by rw [hy, hr]; rfl
    rw [h, port_setSess]; simp
  · rw [hy, hr, ← hdone]; exact ⟨_, rfl, rfl⟩

theorem sessCheck_of_verified (hst : ((c.port w.port).sess[k]).st = .challenged)
    (hch : ((c.port w.port).sess[k]).challenge = [])
    (hv : c.verify ((c.port w.port).sess[k]).slot "SP9430 SESSION"
      (sessionMsg c.id ch w.port k ((c.port w.port).sess[k]).level ((c.port w.port).sess[k]).slot) w.sig = true) :
    let y := c.sessCheck t w k ch
    ((y.port w.port).sess[k]).st = .opened ∧ ((y.port w.port).sess[k]).level = ((c.port w.port).sess[k]).level ∧
      ((y.port w.port).sess[k]).idleAt = t := by
  intro y
  have hy : (y.port w.port).sess[k] =
      { (c.port w.port).sess[k] with st := .opened, challenge := [], idleAt := t } := by
    rw [show y = c.sessAccept t w k from (sessCheck_eq hst hch).trans (if_pos hv), sessAccept_sess]
  rw [hy]
  exact ⟨rfl, rfl, rfl⟩

theorem sessCheck_of_failed (hst : ((c.port w.port).sess[k]).st = .challenged)
    (hch : ((c.port w.port).sess[k]).challenge = [])
    (hv : c.verify ((c.port w.port).sess[k]).slot "SP9430 SESSION"
      (sessionMsg c.id ch w.port k ((c.port w.port).sess[k]).level ((c.port w.port).sess[k]).slot) w.sig = false) :
    let y := c.sessCheck t w k ch
    (y.port w.port).sess[k] = {} ∧ y.fcl.raised.contains (59, 0) = true ∧
      ∃ z, y.hp.done = c.hp.done ++ [z] ∧ z.status = stDenied := by
  intro y
  rw [show y = c.sessRefuse t w k from (sessCheck_eq hst hch).trans (if_neg (by rw [hv]; exact Bool.false_ne_true))]
  exact sessRefuse_of_waits hst hch

end Checks

/-- SIGNATURE_CHECK_DONE with a check pending ends the oldest (R449). -/
theorem chGets_signatureDone {s : State} {l : At} {w : Work} {r : List Work} {P : Channel → Prop}
    (ha : (s.ch l.ch).alive = true) (hw : (s.ch l.ch).hp.work = w :: r)
    (hP : P (Channel.checkDone
      { s.ch l.ch with hp := { (s.ch l.ch).hp with work := r } } l.t w)) :
    s.chGets (.signatureCheckDone l) l.ch P :=
  chGets_when (i := .signatureCheckDone l) (hi := rfl) ha
    (by simp only [Channel.signatureDone, hw]; exact hP)

section Writes
variable {c : Channel} {t : Nat} {j : MramJob} {rest : List MramJob}

/-- Without a reset that waits, the end of an attempt is the writer's alone (R61). -/
theorem mramEnd_of_calm {ok : Bool} (hj : c.nv.jobs = j :: rest) (hr : (c.attemptEnd t ok j rest).rst.pend = []) :
    c.mramEnd t ok = c.attemptEnd t ok j rest := by
  simp [Channel.mramEnd, hj, hr]

/-- The command of a block write ends in the host's part alone. -/
@[simp] theorem jobDone_nv (w : Option Work) (a : Ans) : (c.jobDone t w a).nv = c.nv := by cases w <;> rfl
@[simp] theorem jobDone_rst (w : Option Work) (a : Ans) : (c.jobDone t w a).rst = c.rst := by cases w <;> rfl

theorem attemptEnd_rst (ok : Bool) : (c.attemptEnd t ok j rest).rst = c.rst := by
  unfold Channel.attemptEnd
  split
  · simp [Channel.nextJob]
  · split <;> simp [Channel.nextJob]

/-- A stored block leaves the writer's queue alone. -/
theorem store_jobs (n : Nv) (d : MramData) : (n.store d).jobs = n.jobs := by
  cases d with
  | configChunk slot k ws => cases slot <;> rfl
  | imageHeader ws => unfold Nv.store Nv.putHeader Nv.setBank; dsimp only; split <;> rfl
  | imageBlock b ws =>
    unfold Nv.store Nv.putBlock; dsimp only
    split
    · rfl
    · unfold Nv.setBank; split <;> rfl
  | _ => rfl

/-- A block left unwritten: the writer's queue and the latch stay, the log loses its oldest place to a failed entry
alone (R448, R464). -/
theorem unwritten_frame (n : Nv) (d : MramData) :
    (n.unwritten d).jobs = n.jobs ∧ (n.unwritten d).latch = n.latch ∧
      ((∀ e, d ≠ .log e) → (n.unwritten d).ring = n.ring) := by
  cases d with
  | log e => exact ⟨rfl, rfl, fun h => absurd rfl (h e)⟩
  | configChunk slot k ws => cases slot <;> exact ⟨rfl, rfl, fun _ => rfl⟩
  | imageHeader ws => unfold Nv.unwritten Nv.setBank; dsimp only; split <;> exact ⟨rfl, rfl, fun _ => rfl⟩
  | imageBlock b ws =>
    unfold Nv.unwritten; dsimp only
    split
    · exact ⟨rfl, rfl, fun _ => rfl⟩
    · unfold Nv.setBank; split <;> exact ⟨rfl, rfl, fun _ => rfl⟩
  | _ => exact ⟨rfl, rfl, fun _ => rfl⟩

/-- A failed attempt with a retry left: the block waits again, and the writer goes on (R448, R464). -/
theorem attemptEnd_of_retry (h : j.tries < 2) :
    let y := c.attemptEnd t false j rest
    let left := { j with tries := j.tries + 1 } :: rest
    y.nv = { c.nv with jobs := pickJob (c.nv.passedBy j left) left, passed := c.nv.passedBy j left, busy := true } ∧
      y.nv.jobs.Perm left ∧ y.hp = c.hp := by
  intro y left
  have hy : y = Channel.bump { c.nextJob j left with nv := { (c.nextJob j left).nv with busy := true } } 11 1 :=
    (if_neg Bool.false_ne_true).trans (if_pos h)
  have hnv : y.nv = { c.nv with jobs := pickJob (c.nv.passedBy j left) left,
                                 passed := c.nv.passedBy j left, busy := true } := by rw [hy, bump_nv]; rfl
  exact ⟨hnv, by rw [hnv]; exact pickJob_perm _ _, by rw [hy, bump_hp]; rfl⟩

/-- A failed attempt with none left: the block reads as unwritten, and its command ends with INTERNAL_FAULT (R448). -/
theorem attemptEnd_of_spent (h : 2 ≤ j.tries) :
    let y := c.attemptEnd t false j rest
    y.nv.jobs.Perm rest ∧ y.nv.latch = c.nv.latch ∧
      ((∀ e, j.data ≠ .log e) → y.nv.ring = c.nv.ring) ∧ (∀ e, j.data = .log e → y.nv.ring = c.nv.ring.take 1983) ∧
      (∀ p, j.data = .curve p → y.nv.curve = none) ∧ (j.work = none → y.hp = c.hp) ∧
      (∀ v, j.work = some v → ∃ z, y.hp.done = c.hp.done ++ [z] ∧ z.status = stInternal ∧ z.tag = v.tag) := by
  intro y
  have hy : y = Channel.jobDone { c.nextJob j rest with nv := (c.nextJob j rest).nv.unwritten j.data } t j.work
      (refuseAns stInternal) := (if_neg Bool.false_ne_true).trans (if_neg (by omega))
  have hnv : y.nv = (c.nextJob j rest).nv.unwritten j.data := by rw [hy, jobDone_nv]
  obtain ⟨hjobs, hlatch, hring⟩ := unwritten_frame (c.nextJob j rest).nv j.data
  refine ⟨?_, by rw [hnv, hlatch]; rfl, fun hne => by rw [hnv, hring hne]; rfl, fun e he => by rw [hnv, he]; rfl,
    fun p hp => by rw [hnv, hp]; rfl, fun hw => by rw [hy, hw]; rfl, fun v hv => ?_⟩
  · rw [hnv, hjobs]; exact pickJob_perm _ _
  · rw [hy, hv]; exact ⟨_, rfl, rfl, rfl⟩

/-- An attempt that commits: the block is stored, and its command ends with OK (R448, R464). -/
theorem attemptEnd_of_ok :
    let y := c.attemptEnd t true j rest
    y.nv.jobs.Perm rest ∧ (∀ on, j.data = .latch on → y.nv.latch = on) ∧
      (∀ p, j.data = .curve p → y.nv.curve = some p) ∧ (j.data = .freezeErase → y.nv.freeze = []) ∧
      (∀ v, j.work = some v → ∃ z, y.hp.done = c.hp.done ++ [z] ∧ z.status = stOk ∧ z.tag = v.tag) := by
  intro y
  obtain ⟨p, hp⟩ := bump_eq (c.nextJob j rest) 11 0 1
  have hy : y = Channel.jobDone { c.nextJob j rest with
      pct := p, nv := (c.nextJob j rest).nv.store j.data } t j.work okAns := by
    simp only [y, Channel.attemptEnd, if_true, hp]
  have hnv : y.nv = (c.nextJob j rest).nv.store j.data := by rw [hy, jobDone_nv]
  refine ⟨?_, fun on he => by rw [hnv, he]; rfl, fun q he => by rw [hnv, he]; rfl, fun he => by rw [hnv, he]; rfl,
    fun v hv => ?_⟩
  · rw [hnv, store_jobs]; exact pickJob_perm _ _
  · rw [hy, hv]; exact ⟨_, rfl, rfl, rfl⟩

/-- MRAM_WRITE_ATTEMPT_END on the first job, with no reset that waits. -/
theorem chGets_attemptEnd {s : State} {l : At} {ok : Bool} {P : Channel → Prop}
    (ha : (s.ch l.ch).alive = true) (hb : (s.ch l.ch).nv.busy = true) (hj : (s.ch l.ch).nv.jobs = j :: rest)
    (hr : (s.ch l.ch).rst.pend = []) (hP : P ((s.ch l.ch).attemptEnd l.t ok j rest)) :
    s.chGets (.mramWriteAttemptEnd l ok) l.ch P :=
  chGets_when (i := .mramWriteAttemptEnd l ok) (hi := rfl) (by rw [ha, hb]; rfl)
    (by rw [mramEnd_of_calm hj (by rw [attemptEnd_rst, hr])]; exact hP)

end Writes

/-- A fuse is programmed (R473). -/
theorem keyDone_of_busy {c : Channel} {t : Nat} {k : BitVec 3} (hk : c.sec.keyBusy = some k) :
    let y := c.keyDone t
    y.sec.keyBusy = none ∧ (y.nv.keys[keyIdx k]).programmed = true ∧
      ∀ i : Fin 4, i ≠ keyIdx k → y.nv.keys[i] = c.nv.keys[i] := by
  intro y
  have hy : y = c.keyDone t := rfl
  simp only [Channel.keyDone, hk] at hy
  have hkeys : y.nv.keys = c.nv.keys.set (keyIdx k) { c.nv.keys[keyIdx k] with programmed := true } := by
    rw [hy, logEv_keys]
  refine ⟨by rw [hy, logEv_sec], by rw [hkeys]; simp, fun i hi => ?_⟩
  rw [hkeys]
  have hne : (keyIdx k).val ≠ i.val := fun h => hi (Fin.ext h.symm)
  simp [Vector.getElem_set_ne _ _ hne]

section Eyelet
variable {c : Channel} {t : Nat} {free : Word} {a : EyeletAcc}

/-- An access that is not served: its answer alone (R482, R485). -/
theorem eyelet_of_unserved {k : BitVec 2} (hk : c.eyAnswer a = k) (h0 : k ≠ 0) :
    c.eyelet t free a = { c with sec := { c.sec with ey := k, eyData := 0 } } := by
  simp only [Channel.eyelet, hk, h0, if_false, decide_false, Bool.false_and, Bool.false_eq_true]

/-- An access that is served: its data, then its effect (R482). -/
theorem eyelet_of_served (hk : c.eyAnswer a = 0) (hf : c.eyFails t a = false) :
    c.eyelet t free a = Channel.eyAct { c with sec := { c.sec with ey := 0, eyData := c.eyRead t free a } } t a := by
  simp [Channel.eyelet, hk, hf]

/-- The classes of an access that a channel out of DOZE answers (R482, R483). -/
theorem eyAnswer_of_store (ha : accClass a = 3) : c.eyAnswer a = 2 := by simp [Channel.eyAnswer, ha]
theorem eyAnswer_of_observe (ha : accClass a = 1) (hd : c.pwr.doze = false) :
    c.eyAnswer a = (if c.sec.level = 0 then 2 else 0) := by simp [Channel.eyAnswer, ha, hd]
theorem eyAnswer_of_blank (ha : accClass a = 4) (hd : c.pwr.doze = false) :
    c.eyAnswer a = (if c.nv.lc = 0 then 0 else 2) := by simp [Channel.eyAnswer, ha, hd]
theorem eyAnswer_of_intrusive (ha : accClass a = 2) (hd : c.pwr.doze = false) :
    c.eyAnswer a = (if c.sec.level ≠ 2 then 2 else if c.quiet = true then 0 else 1) := by
  simp [Channel.eyAnswer, ha, hd]

/-- EYELET_ACCESS on a channel that answers (R482). -/
theorem eyeletAccess_of_alive {s : State} {l : At} {P : Channel → Prop} (ha : (s.ch l.ch).alive = true)
    (hP : ∀ free, P ((s.ch l.ch).eyelet l.t free a)) :
    ∃ y n, exec (.eyeletAccess l a) s = .next { s.setCh l.ch y with freeCtr := n } ∧ s.freeCtr ≤ n ∧ P y := by
  refine ⟨_, if opensData a then s.freeCtr + 1 else s.freeCtr, ?_, by split <;> omega, hP (Config.freeWord s.freeCtr)⟩
  show execEyeletAccess l a s = _
  rw [execEyeletAccess, ha]
  rfl

end Eyelet

/-- Settles O55: by the kind of the work that waits, and by the class of the Eyelet access. -/
theorem pendingWorkEnds : Obligations.PendingWorkEnds := by
  intro s l w r j rest acc ha c ey
  have eyGets {P : Channel → Prop} (hP : ∀ free, P (c.eyelet l.t free acc)) : ey P := eyeletAccess_of_alive ha hP
  refine ⟨fun hw => ?_, fun nonce hw hk => ?_, fun slot hw hk hc => ?_, fun k hw hk hp => ?_, fun k ch hw hk => ?_,
    fun hb hj hr => ⟨fun h => ?_, fun h => ?_, ?_⟩, fun ok hb => ?_, fun k hk => ?_, fun hk => ?_, ?_, ?_,
    fun k hacc => eyGets fun free => ?_, fun k hacc => eyGets fun free => ?_,
    fun a hacc hd h0 => eyGets fun free => ?_, fun a hacc hd h0 => eyGets fun free => ?_,
    fun m x hacc hd h0 hm hx => eyGets fun free => ?_, fun hacc hd h2 => eyGets fun free => ?_,
    fun hacc hd hlc => eyGets fun free => ?_, fun a v hacc hd h2 hq hlt => eyGets fun free => ?_,
    fun hacc hd h2 => ⟨fun hq => eyGets fun free => ?_, fun hq => eyGets fun free => ?_⟩⟩
  -- signature checks
  · exact chGets_when (i := .signatureCheckDone l) (hi := rfl) ha
      (by simp only [Channel.signatureDone, show (s.ch l.ch).hp.work = [] from hw]; rfl)
  · refine chGets_signatureDone ha hw ?_
    simp only [Channel.checkDone, hk]
    exact ⟨rfl, complete_done ..⟩
  · refine chGets_signatureDone ha hw ?_
    simp only [Channel.checkDone, hk]
    exact configDone_of_good _ l.t w hc
  · refine chGets_signatureDone ha hw ?_
    simp only [Channel.checkDone, hk]
    exact imageDone_of_partial _ l.t w hp
  · refine ⟨fun hst hch hv => chGets_signatureDone ha hw ?_, fun hst hch hv => chGets_signatureDone ha hw ?_⟩
    · simp only [Channel.checkDone, hk]
      exact sessCheck_of_verified hst hch hv
    · simp only [Channel.checkDone, hk]
      exact sessCheck_of_failed hst hch hv
  -- MRAM writes
  · exact chGets_attemptEnd ha hb hj hr (attemptEnd_of_retry h)
  · exact chGets_attemptEnd ha hb hj hr (attemptEnd_of_spent h)
  · exact chGets_attemptEnd ha hb hj hr attemptEnd_of_ok
  · exact chGets_skip (i := .mramWriteAttemptEnd l ok) (hi := rfl)
      (by rw [show (s.ch l.ch).nv.busy = false from hb, Bool.and_false]) rfl
  -- the fuse and the generator
  · exact chGets_when (i := .keyProgramDone l) (hi := rfl) ha (keyDone_of_busy hk)
  · exact chGets_when (i := .keyProgramDone l) (hi := rfl) ha
      (by simp only [Channel.keyDone, show (s.ch l.ch).sec.keyBusy = none from hk]; rfl)
  · exact chGets_when (i := .trngHealthFail l) (hi := rfl) ha rfl
  · exact chGets_when (i := .trngHealthPass l) (hi := rfl) ha rfl
  -- accesses over the Eyelet
  · subst hacc
    exact eyelet_of_served rfl rfl
  · subst hacc
    exact eyelet_of_unserved (eyAnswer_of_store rfl) (by decide)
  · subst hacc
    exact eyelet_of_unserved ((eyAnswer_of_observe rfl hd).trans (if_pos h0)) (by decide)
  · subst hacc
    exact eyelet_of_served ((eyAnswer_of_observe rfl hd).trans (if_neg h0)) rfl
  · subst hacc
    have hf : c.eyFails l.t (.readMem m) = false := by simp [Channel.eyFails, hm]
    have hr : c.eyRead l.t free (.readMem m) = x := by simp [Channel.eyRead, hf, hx]
    rw [eyelet_of_served ((eyAnswer_of_observe rfl hd).trans (if_neg h0)) hf, hr]
    rfl
  · exact eyelet_of_unserved ((eyAnswer_of_intrusive hacc hd).trans (if_pos h2)) (by decide)
  · exact eyelet_of_unserved ((eyAnswer_of_blank hacc hd).trans (if_neg hlc)) (by decide)
  · subst hacc
    rw [eyelet_of_served (by rw [eyAnswer_of_intrusive rfl hd, if_neg (not_not_intro h2), if_pos hq]) rfl]
    simp [Channel.eyAct, Channel.eyRead, hlt]
  · subst hacc
    rw [eyelet_of_served (by rw [eyAnswer_of_intrusive rfl hd, if_neg (not_not_intro h2), if_pos hq]) rfl]
    exact ⟨rfl, rfl⟩
  · subst hacc
    refine eyelet_of_unserved ?_ (by decide)
    rw [eyAnswer_of_intrusive rfl hd, if_neg (not_not_intro h2), if_neg (by simp [hq])]

end Sys2Proof.Machine
end

section
/-! PROOF. ResetSourcesTakeTheChannel (O45): what a reset that takes effect records and clears, and the sequence after it
(R60 to R64, R70, R71, R82, R603). -/

namespace Sys2Proof.Machine

-- One proof after another: with each in a thread of its own the joined text nears the check's memory limit.
set_option Elab.async false

/-- What a reset leaves of the queues, the parameters and the engines of a channel (R16, R61, R63). -/
structure Channel.Blank (c y : Channel) : Prop where
  jobs : y.nv.jobs = []
  params : y.params = c.img
  act : y.act = c.img
  ce : y.ce = (Channel.reset c.id).ce
  rd : y.rd = (Channel.reset c.id).rd
  hp : y.hp = (Channel.reset c.id).hp
  fcl : y.fcl = (Channel.reset c.id).fcl

/-- What a reset that takes effect records: it holds the channel with the causes that held it, none waits any more, and
its own cause, line and sequence stand (R61, R63, R82). -/
structure Channel.Entered (c y : Channel) (q : ResetReq) : Prop where
  phase : y.rst.phase = .held
  pend : y.rst.pend = []
  pinLow : y.rst.pinLow = c.rst.pinLow
  supLow : y.rst.supLow = c.rst.supLow
  full : q.full = true → y.rst.full = true
  cause : y.rst.cause.getLsbD q.cause.bit = true
  line : ∀ k, q.line = some k → y.rst.line = k ∧ y.rst.lineValid = true

section Enter
variable (c : Channel) (q : ResetReq)

theorem heldReset_of_held (h : c.rst.phase = .held) : c.heldReset = true := by simp [Channel.heldReset, h]

theorem getLsbD_setBit_cause (x : BitVec 8) (k : Cause) : (setBit x k.bit true).getLsbD k.bit = true := by
  have hk : k.bit < 8 := by cases k <;> decide
  simp [setBit, hk]

/-- The base of a reset: the cleared channel, or the held one that a further cause joins (R63). -/
def Channel.resetBase (c : Channel) (q : ResetReq) : Channel :=
  if c.heldReset then c.joined else c.cleared (q.cause == .supply || q.cause == .por)

theorem resetBase_rst : (c.resetBase q).rst.phase = .held ∧ (c.resetBase q).rst.pend = [] ∧
    (c.resetBase q).rst.pinLow = c.rst.pinLow ∧ (c.resetBase q).rst.supLow = c.rst.supLow := by
  unfold Channel.resetBase
  split <;> exact ⟨rfl, rfl, rfl, rfl⟩

theorem enterReset_frame : ∃ r sec image, c.enterReset q =
    { c.resetBase q with rst := r, sec := sec, nv := { (c.resetBase q).nv with image := image } } := ⟨_, _, _, rfl⟩

/-- A reset enters: its record (R61, R63, R82). -/
theorem enterReset_entered : c.Entered (c.enterReset q) q := by
  obtain ⟨hphase, hpend, hpin, hsup⟩ := resetBase_rst c q
  obtain ⟨y, hy⟩ : ∃ y, y = c.enterReset q := ⟨_, rfl⟩
  rw [← hy]
  cases hl : q.line with
  | some k =>
    simp only [Channel.enterReset, hl] at hy
    subst y
    refine ⟨hphase, hpend, hpin, hsup, fun h => by simp [h], getLsbD_setBit_cause .., fun j hj => ?_⟩
    rw [hl] at hj; cases hj; exact ⟨rfl, rfl⟩
  | none =>
    have hline : ∀ k, q.line = some k → y.rst.line = k ∧ y.rst.lineValid = true := by simp [hl]
    by_cases h0 : (if c.heldReset = true then c.rst.cause.toNat else 0) = 0
    · simp only [Channel.enterReset, hl, if_pos h0] at hy
      subst y
      exact ⟨hphase, hpend, hpin, hsup, fun h => by simp [h], getLsbD_setBit_cause .., hline⟩
    · simp only [Channel.enterReset, hl, if_neg h0] at hy
      subst y
      exact ⟨hphase, hpend, hpin, hsup, fun h => by simp [h], getLsbD_setBit_cause .., hline⟩

/-- The first reset that takes effect clears the channel (R61, R63). -/
theorem enterReset_blank (h : c.heldReset = false) : c.Blank (c.enterReset q) := by
  obtain ⟨r, sec, image, he⟩ := enterReset_frame c q
  have hb : c.resetBase q = c.cleared (q.cause == .supply || q.cause == .por) := by simp [Channel.resetBase, h]
  rw [he, hb]
  exact ⟨rfl, rfl, rfl, rfl, rfl, rfl, rfl⟩

/-- A cause that joins a held reset clears nothing anew (R63). -/
theorem Channel.Blank.enterReset {y : Channel} (hy : c.Blank y) (h : y.heldReset = true) :
    c.Blank (y.enterReset q) := by
  obtain ⟨r, sec, image, he⟩ := enterReset_frame y q
  have hb : y.resetBase q = y.joined := by simp [Channel.resetBase, h]
  rw [he, hb]
  exact ⟨hy.jobs, hy.params, hy.act, hy.ce, hy.rd, hy.hp, hy.fcl⟩

/-- A cause of the pin that joins a held reset with a cause recorded keeps the rest of the record (R63, R82). -/
theorem enterReset_pin_of_held (h : c.heldReset = true) (hc : c.rst.cause ≠ 0) :
    let y := c.enterReset ⟨.pin, false, none, 0⟩
    y.rst.cause = setBit c.rst.cause 3 true ∧ y.rst.line = c.rst.line ∧ y.rst.lineValid = c.rst.lineValid ∧
      y.rst.cmdPort = c.rst.cmdPort := by
  intro y
  have h0 : c.rst.cause.toNat ≠ 0 := fun e => hc (BitVec.eq_of_toNat_eq e)
  have hy : y = c.enterReset ⟨.pin, false, none, 0⟩ := rfl
  simp only [Channel.enterReset, h, if_true, h0, if_false, reduceCtorEq] at hy
  rw [hy]
  exact ⟨by simp [Cause.bit], rfl, rfl, rfl⟩

end Enter

section Pending
variable {c : Channel}

/-- The resets that wait take effect one after another; the last leaves its record (R61). -/
theorem foldl_entered (qs : List ResetReq) (q : ResetReq) :
    c.Entered ((qs ++ [q]).foldl (fun c q => c.enterReset q) c) q := by
  have hpins : ((qs.foldl (fun c q => c.enterReset q) c).rst.pinLow = c.rst.pinLow ∧
      (qs.foldl (fun c q => c.enterReset q) c).rst.supLow = c.rst.supLow) := by
    induction qs generalizing c with
    | nil => exact ⟨rfl, rfl⟩
    | cons p qs ih =>
      have he := enterReset_entered c p
      obtain ⟨h1, h2⟩ := ih (c := c.enterReset p)
      exact ⟨h1.trans he.pinLow, h2.trans he.supLow⟩
  rw [List.foldl_append]
  have he := enterReset_entered (qs.foldl (fun c q => c.enterReset q) c) q
  exact ⟨he.phase, he.pend, he.pinLow.trans hpins.1, he.supLow.trans hpins.2, he.full, he.cause, he.line⟩

/-- Of the resets that wait the first clears a channel that none holds (R61, R63). -/
theorem foldl_blank (h : c.heldReset = false) (qs : List ResetReq) (q : ResetReq) :
    c.Blank ((qs ++ [q]).foldl (fun c q => c.enterReset q) c) := by
  have joins (rs : List ResetReq) (y : Channel) (hy : c.Blank y) (hh : y.heldReset = true) :
      c.Blank (rs.foldl (fun c q => c.enterReset q) y) := by
    induction rs generalizing y with
    | nil => exact hy
    | cons p rs ih => exact ih _ (hy.enterReset c p hh) (heldReset_of_held _ (enterReset_entered y p).phase)
  cases qs with
  | nil => exact enterReset_blank c q h
  | cons p qs =>
    exact joins (qs ++ [q]) _ (enterReset_blank c p h) (heldReset_of_held _ (enterReset_entered c p).phase)

/-- A pin or the supply holds the reset (R60, R603). -/
theorem sequence_of_low (h : c.rst.pinLow = true ∨ c.rst.supLow = true) : c.sequence = c :=
  if_pos (by rcases h with h | h <;> simp [h])

/-- Nothing holds the reset: the sequence starts (R64). -/
theorem sequence_of_free (hp : c.rst.phase = .held) (hpin : c.rst.pinLow = false) (hsup : c.rst.supLow = false) :
    c.sequence = if c.rst.full = true then
        { c with rst := { c.rst with phase := .xtal }, clk := { c.clk with xtalOk := false, pllLock := false } }
      else { c with rst := { c.rst with phase := .interconnect } } :=
  if_neg (by simp [hp, hpin, hsup])

/-- A sequence that runs is not started again. -/
theorem sequence_of_started (hp : c.rst.phase ≠ .held) : c.sequence = c := if_pos (by simp [hp])

/-- A reset that takes effect at once: what the waiting ones and it leave, then the sequence (R61). -/
theorem resetNow_eq (q : ResetReq) :
    ∃ x, c.resetNow q = x.sequence ∧ c.Entered x q ∧ (c.heldReset = false → c.Blank x) := by
  have hne : c.rst.pend ++ [q] ≠ [] := by simp
  refine ⟨(c.rst.pend ++ [q]).foldl (fun c q => c.enterReset q) { c with rst := { c.rst with pend := c.rst.pend ++ [q] } },
    ?_, ?_, fun h => ?_⟩
  · obtain ⟨p, ps, hps⟩ := List.exists_cons_of_ne_nil hne
    simp only [Channel.resetNow, Channel.pendingReset, hps]
  · have he := foldl_entered (c := { c with rst := { c.rst with pend := c.rst.pend ++ [q] } }) c.rst.pend q
    exact ⟨he.phase, he.pend, he.pinLow, he.supLow, he.full, he.cause, he.line⟩
  · have hb := foldl_blank (c := { c with rst := { c.rst with pend := c.rst.pend ++ [q] } }) h c.rst.pend q
    exact ⟨hb.jobs, hb.params, hb.act, hb.ce, hb.rd, hb.hp, hb.fcl⟩

/-- A reset that asks for the full sequence, on a channel that neither pin nor supply holds (R60, R64). -/
theorem resetNow_of_free {q : ResetReq} (hfull : q.full = true) (hpin : c.rst.pinLow = false)
    (hsup : c.rst.supLow = false) :
    ∃ x, c.Entered x q ∧ (c.heldReset = false → c.Blank x) ∧ c.resetNow q =
      { x with rst := { x.rst with phase := .xtal }, clk := { x.clk with xtalOk := false, pllLock := false } } := by
  obtain ⟨x, hx, he, hb⟩ := resetNow_eq (c := c) q
  refine ⟨x, he, hb, ?_⟩
  rw [hx, sequence_of_free he.phase (he.pinLow.trans hpin) (he.supLow.trans hsup), if_pos (he.full hfull)]

/-- RAIL_FAULT (R60). -/
theorem railFault_of_free (hpin : c.rst.pinLow = false) (hsup : c.rst.supLow = false) :
    let y := (c.resetNow ⟨.rail, true, none, 0⟩).sequence
    y.rst.phase = .xtal ∧ y.rst.cause.getLsbD 2 = true ∧ y.clk.pllLock = false ∧
      (c.heldReset = false → y.nv.jobs = []) := by
  intro y
  obtain ⟨x, he, hb, hx⟩ := resetNow_of_free (c := c) (q := ⟨.rail, true, none, 0⟩) rfl hpin hsup
  have hy : y = _ := (sequence_of_started (by rw [hx]; exact nofun)).trans hx
  rw [hy]
  exact ⟨rfl, he.cause, rfl, fun h => (hb h).jobs⟩

/-- VSUP_POR_RELEASE of an unpowered channel that x_RSTN holds (R60, R603). -/
theorem porRelease_of_pin (tm : Bool) (hu : c.rst.phase = .unpowered) (hpin : c.rst.pinLow = true) :
    (c.porRelease tm).rst.phase = .held ∧ (c.porRelease tm).rst.cause = 9 := by
  have hy : c.porRelease tm = _ := (if_pos hu).trans (sequence_of_low (.inl hpin))
  rw [hy]
  exact ⟨rfl, if_pos hpin⟩

/-- VSUP_POR_RELEASE of an unpowered channel that x_RSTN does not hold (R60, R64, R603). -/
theorem porRelease_of_free (tm : Bool) (hu : c.rst.phase = .unpowered) (hpin : c.rst.pinLow = false) :
    let y := c.porRelease tm
    y.rst = { c.rst with phase := .xtal, cause := 1, line := 0, lineValid := false, cmdPort := 0, full := true,
                         supLow := false, tm := tm } ∧ y.clk.pllLock = false ∧ y.clk.xtalOk = false := by
  intro y
  have hy : y = _ := if_pos hu
  rw [hy, sequence_of_free]
  · exact ⟨by simp [hpin], rfl, rfl⟩
  · rfl
  · exact hpin
  · rfl

/-- VSUP_POR_RELEASE of a full reset that the supply alone holds (R63, R64, R603). -/
theorem porRelease_of_held (tm : Bool) (hh : c.rst.phase = .held) (hpin : c.rst.pinLow = false)
    (hfull : c.rst.full = true) :
    (c.porRelease tm).rst = { c.rst with phase := .xtal, supLow := false, tm := tm } := by
  have hy : c.porRelease tm = _ := if_neg (by rw [hh]; exact nofun)
  rw [hy, sequence_of_free]
  · rw [if_pos hfull]
  · exact hh
  · exact hpin
  · rfl

/-- RSTN_RELEASE of a reset that the pin alone holds (R60, R64). -/
theorem rstnRelease_of_held (tm : Bool) (hh : c.rst.phase = .held) (hsup : c.rst.supLow = false) :
    (Channel.sequence { c with rst := { c.rst with pinLow := false, tm := tm } }).rst =
      { c.rst with phase := if c.rst.full = true then .xtal else .interconnect, pinLow := false, tm := tm } := by
  rw [sequence_of_free]
  · by_cases hf : c.rst.full = true
    · simp [hf]
    · simp [hf]
  · exact hh
  · rfl
  · exact hsup

/-- VSUP_RESET (R47, R603). -/
theorem vsupReset_held :
    let x := { c with rst := { c.rst with supLow := true } }.resetNow ⟨.supply, true, none, 0⟩
    let y : Channel := { x with rst := { x.rst with belowWarn := true } }
    y.rst.phase = .held ∧ y.rst.supLow = true ∧ y.rst.belowWarn = true ∧ y.rst.full = true ∧
      y.rst.cause.getLsbD 1 = true ∧ y.rst.pend = [] ∧
      (c.heldReset = false → y.nv.jobs = [] ∧ y.params = c.img ∧ y.act = c.img ∧
        y.ce = (Channel.reset c.id).ce ∧ y.rd = (Channel.reset c.id).rd ∧ y.hp = (Channel.reset c.id).hp) := by
  intro x y
  obtain ⟨z, hz, he, hb⟩ := resetNow_eq (c := { c with rst := { c.rst with supLow := true } }) ⟨.supply, true, none, 0⟩
  have hx : x = z := hz.trans (sequence_of_low (.inr he.supLow))
  subst hx
  exact ⟨he.phase, he.supLow, rfl, he.full rfl, he.cause, he.pend, fun h =>
    ⟨(hb h).jobs, (hb h).params, (hb h).act, (hb h).ce, (hb h).rd, (hb h).hp⟩⟩

/-- x_RSTN falls while an MRAM attempt runs: the reset waits for its end (R60, R61). -/
theorem pinReset_of_busy (hpow : c.powered = true) (hb : c.nv.busy = true) :
    c.pinReset = { c with rst := { c.rst with pinLow := true, pend := c.rst.pend ++ [⟨.pin, false, none, 0⟩] } } :=
  (if_pos hpow).trans (if_pos hb)

/-- x_RSTN falls with the writer at rest: the reset enters and is held (R60, R61). -/
theorem pinReset_of_idle (hpow : c.powered = true) (hb : c.nv.busy = false) :
    c.pinReset = ({ c with rst := { c.rst with pinLow := true } } : Channel).resetNow ⟨.pin, false, none, 0⟩ :=
  (if_pos hpow).trans (if_neg (by simp [hb]))

theorem pinReset_held (hpow : c.powered = true) (hb : c.nv.busy = false) :
    let y := c.pinReset
    y.rst.phase = .held ∧ y.rst.pinLow = true ∧ y.rst.cause.getLsbD 3 = true := by
  intro y
  obtain ⟨x, hx, he, -⟩ := resetNow_eq (c := { c with rst := { c.rst with pinLow := true } }) ⟨.pin, false, none, 0⟩
  have hy : y = x := ((pinReset_of_idle hpow hb).trans hx).trans (sequence_of_low (.inl he.pinLow))
  rw [hy]
  exact ⟨he.phase, he.pinLow, he.cause⟩

theorem powered_of_heldReset (h : c.heldReset = true) : c.powered = true := by
  unfold Channel.powered
  cases hp : c.rst.phase <;> simp [Channel.heldReset, hp] at h ⊢

/-- x_RSTN falls while a reset is held: the cause joins it (R60, R63). -/
theorem pinReset_of_held (hh : c.heldReset = true) (hb : c.nv.busy = false) (hp : c.rst.pend = [])
    (hc : c.rst.cause ≠ 0) :
    let y := c.pinReset
    y.rst.cause = setBit c.rst.cause 3 true ∧ y.rst.line = c.rst.line ∧ y.rst.lineValid = c.rst.lineValid ∧
      y.rst.cmdPort = c.rst.cmdPort := by
  intro y
  let b : Channel := { c with rst := { c.rst with pinLow := true, pend := [⟨.pin, false, none, 0⟩] } }
  have he := enterReset_entered b ⟨.pin, false, none, 0⟩
  have hy : y = b.enterReset ⟨.pin, false, none, 0⟩ := by
    refine ((pinReset_of_idle (powered_of_heldReset hh) hb).trans ?_).trans (sequence_of_low (.inl he.pinLow))
    simp only [Channel.resetNow, Channel.pendingReset, hp]
    rfl
  rw [hy]
  exact enterReset_pin_of_held b hh hc

end Pending

section Clock
variable (c : Channel) (t : Nat)

/-- A history entry writes the collector's history, the log and its write job (R365, R370). -/
theorem hist_frame (l : Fin 62) (k : BitVec 2) (d : BitVec 16) : (c.hist t l k d).rst = c.rst ∧
    (c.hist t l k d).clk = c.clk ∧ (c.hist t l k d).fcl.status = c.fcl.status := by
  unfold Channel.hist
  extract_lets f cls h overflowed newest f2
  obtain ⟨_, _, _, _, he⟩ := logEv_eq { c with fcl := f2 } t 1 l.val [put 24 cls.toNat ||| put 16 k.toNat ||| put 0 d.toNat]
  rw [he]
  exact ⟨rfl, rfl, rfl⟩

theorem lineView_clk (d : BitVec 16) : c.lineView t 2 d = c.viewSync t := rfl

/-- Line 2 registers: the reset domain and the clocks stay, and a collector without registrations shows it (R355). -/
theorem registerLine_clk : let y := (c.registerLine t 2 0).1
    y.rst = c.rst ∧ y.clk = c.clk ∧ (c.fcl.regs = [] → y.fcl.status.getLsbD 2 = true) := by
  intro y
  have hy : y = (c.registerLine t 2 0).1 := rfl
  unfold Channel.registerLine at hy
  extract_lets spoilt b x g f regs first f2 e at hy
  split at hy
  · rename_i hany
    rw [hy]
    refine ⟨rfl, rfl, fun h => ?_⟩
    have hregs : f.regs = [] := h
    rw [hregs] at hany
    exact absurd hany (by simp)
  · dsimp only at hy
    rw [lineView_clk] at hy
    generalize (if (2 : Fin 62) = 61 then (2 : BitVec 2) else 0) = k at hy
    obtain ⟨hr, hc, hs⟩ := hist_frame e t 2 k 0
    obtain ⟨v, a, hv⟩ := viewSync_eq (e.hist t 2 k 0) t
    have hstatus : y.fcl.status = setBit f.status 2 true := by rw [hy, hv]; exact hs
    refine ⟨by rw [hy, hv]; exact hr, by rw [hy, hv]; exact hc, fun _ => ?_⟩
    rw [hstatus]
    simp [setBit]

/-- CLOCK_FAILURE on a channel that neither pin nor supply holds (R70, R71). -/
theorem clockReset_of_free {c : Channel} (hpin : c.rst.pinLow = false) (hsup : c.rst.supLow = false) :
    let y := c.clockReset t
    y.rst.phase = .xtal ∧ y.rst.cause.getLsbD 5 = true ∧ y.rst.line = 2 ∧ y.rst.lineValid = true ∧
      y.rst.clkHold = true ∧ (c.heldReset = false → y.fcl.status.getLsbD 2 = true) ∧ y.clk.xtalOk = false ∧
      y.clk.pllLock = false := by
  intro y
  obtain ⟨x, he, hb, hx⟩ := resetNow_of_free (c := c) (q := ⟨.fault, true, some 2, 0⟩) rfl hpin hsup
  let z : Channel := { x with rst := { x.rst with phase := .xtal, clkHold := true },
                              clk := { x.clk with xtalOk := false, pllLock := false } }
  obtain ⟨hrst, hclk, hline⟩ := registerLine_clk z t
  obtain ⟨hk, hv⟩ := he.line 2 rfl
  have hphase : (z.registerLine t 2 0).1.rst.phase ≠ .held := by rw [hrst]; exact nofun
  have hy : y = { (z.registerLine t 2 0).1 with nv := { (z.registerLine t 2 0).1.nv with busy := false } } := by
    simp only [y, Channel.clockReset, hx]
    exact sequence_of_started hphase
  rw [hy]
  refine ⟨?_, ?_, ?_, ?_, ?_, fun h => hline ?_, ?_, ?_⟩
  · exact congrArg Rst.phase hrst
  · exact (congrArg (fun r : Rst => r.cause.getLsbD 5) hrst).trans he.cause
  · exact (congrArg Rst.line hrst).trans hk
  · exact (congrArg Rst.lineValid hrst).trans hv
  · exact congrArg Rst.clkHold hrst
  · exact congrArg Fcl.regs (hb h).fcl
  · exact congrArg Clk.xtalOk hclk
  · exact congrArg Clk.pllLock hclk

end Clock

theorem chFeeds_when {s : State} {i : Instr} {ch : Ch} {b : Bool} {f : Channel → Channel} {P : Channel → Prop}
    (hi : exec i s = onLegs ch s (when b f)) (hP : P (if b = true then f (s.ch ch) else s.ch ch)) : s.chFeeds i ch P :=
  ⟨_, hi, hP⟩

/-- Settles O45: each source in turn, by whether a reset already holds the channel. -/
theorem resetSourcesTakeTheChannel : Obligations.ResetSourcesTakeTheChannel := by
  intro s l tm lost c
  refine ⟨fun hp => chFeeds_when (i := .vsupReset l) (hi := rfl) ?_,
    fun hp => chFeeds_when (i := .vsupReset l) (hi := rfl) (if_neg (by simp [show (s.ch l.ch).powered = false from hp])),
    fun hu hpin => chGets_when (i := .vsupPorRelease l l.ch.code tm) (hi := rfl) ?_ ?_,
    fun hu hpin => chGets_when (i := .vsupPorRelease l l.ch.code tm) (hi := rfl) ?_ ?_,
    fun hh hsup hpin hfull => chGets_when (i := .vsupPorRelease l l.ch.code tm) (hi := rfl) ?_ ?_,
    fun x hx => chGets_skip (i := .vsupPorRelease l x tm) (hi := rfl) (by simp [hx]) rfl,
    fun hp => chFeeds_when (i := .vsupOff l) (hi := rfl) ?_,
    fun hp hpin hsup => chGets_when (i := .railFault l) (hi := rfl) hp (railFault_of_free hpin hsup),
    fun hp hb => chGets_onCh (i := .pinReset l) (hi := rfl) (pinReset_of_busy hp hb),
    fun hp hb => chGets_onCh (i := .pinReset l) (hi := rfl) (pinReset_held hp hb),
    fun hh hpin hsup => chGets_when (i := .rstnRelease l tm) (hi := rfl) hpin ?_,
    fun hs hpin hsup => chGets_when (i := .clockFailure l lost) (hi := rfl) hs ?_,
    fun hh hb hp hc => chGets_onCh (i := .pinReset l) (hi := rfl) (pinReset_of_held hh hb hp hc),
    fun hx => ⟨_, rfl, ?_⟩, fun hx => ⟨_, rfl, ?_⟩⟩
  · rw [if_pos hp]
    exact vsupReset_held
  · simp [show (s.ch l.ch).rst.phase = .unpowered from hu]
  · exact porRelease_of_pin tm hu hpin
  · simp [show (s.ch l.ch).rst.phase = .unpowered from hu]
  · exact porRelease_of_free tm hu hpin
  · simp [show (s.ch l.ch).rst.phase = .held from hh, show (s.ch l.ch).rst.supLow = true from hsup]
  · exact porRelease_of_held tm hh hpin hfull
  · rw [if_pos hp]
    exact ⟨rfl, rfl, rfl, rfl, rfl⟩
  · exact rstnRelease_of_held tm hh hsup
  · exact clockReset_of_free l.t (c := { c with clk := { c.clk with
      pllLock := c.clk.pllLock && lost, xtalOk := c.clk.xtalOk && !lost } }) hpin hsup
  · beta_reduce
    rw [show (s.ch l.ch).rst.phase = .xtal from hx]
  · beta_reduce
    rw [show (s.ch l.ch).rst.phase = .pll from hx]

end Sys2Proof.Machine
end

section
/-! PROOF. ClaimWordsGoOut (O35): the judgement of the lanes and the claim words of a period (R294 to R296, R326,
R341). -/

namespace Sys2Proof.Machine

-- One proof after another: with each in a thread of its own the joined text nears the check's memory limit.
set_option Elab.async false

theorem bit_of_id_lt (k : Ch) : Ch.bit k < 24 := by cases k <;> decide

section Lane
variable (c : Channel) (t : Nat) (w : Wid)

/-- The lane that three status periods have shown to be faulty (R341). -/
def Channel.lateLane (c : Channel) (t : Nat) (w : Wid) : Bool :=
  (c.wi w).claim != 0 && !(c.wi w).fault && (c.wi w).lowRun ((t - (c.wi w).kAt) / statPeriod)

theorem setWi_self : c.setWi w (c.wi w) = c := by cases w <;> rfl

/-- What the judgement of one lane writes: the lane's fault, line 38 and the own CH entry of the view (R340, R341). -/
structure Channel.Judged (c y : Channel) (t : Nat) (w : Wid) : Prop where
  frame : ∃ x r v a n, y = { c.setWi w x with fcl := { c.fcl with raised := r },
                                              rd := { c.rd with view := v, absent := a, laneCh := n } }
  wi : y.wi w = { c.wi w with fault := (c.wi w).fault || c.lateLane t w }
  keeps : ∀ k, bit c.rd.view k = true → bit y.rd.view k = true
  enters : c.lateLane t w = true → bit y.rd.view (Ch.bit c.id) = true
  raises : c.lateLane t w = true → (38, 0) ∈ y.fcl.raised
  lines : ∀ p ∈ c.fcl.raised, p ∈ y.fcl.raised

theorem judgeLane_of_calm (h : c.lateLane t w = false) : c.judgeLane t w = c :=
  if_neg (fun e => Bool.false_ne_true (h.symm.trans e))

theorem judgeLane_of_late (h : c.lateLane t w = true) :
    c.judgeLane t w = ((c.setWi w { c.wi w with fault := true }).raise 38).laneFault := if_pos h

theorem judgeLane_judged : c.Judged (c.judgeLane t w) t w := by
  cases h : c.lateLane t w with
  | false =>
    rw [judgeLane_of_calm c t w h]
    exact ⟨⟨_, _, _, _, _, by rw [setWi_self]⟩, by rw [h, Bool.or_false], fun _ => id, fun e => by simp [h] at e,
      fun e => by simp [h] at e, fun _ => id⟩
  | true =>
    rw [judgeLane_of_late c t w h]
    obtain ⟨r, hr⟩ := raise_eq (c.setWi w { c.wi w with fault := true }) 38 0
    have hself := raise_self (c.setWi w { c.wi w with fault := true }) 38 0
    have hkeep {p} := raise_keeps (c.setWi w { c.wi w with fault := true }) 38 0 (p := p)
    have hfcl : (c.setWi w { c.wi w with fault := true }).fcl = c.fcl := by cases w <;> rfl
    have hrd : (c.setWi w { c.wi w with fault := true }).rd = c.rd := by cases w <;> rfl
    have hid : (c.setWi w { c.wi w with fault := true }).id = c.id := by cases w <;> rfl
    rw [hr] at hself hkeep
    rw [hr]
    have hk : (Fin.ofNat 24 (Ch.bit c.id)).val = Ch.bit c.id := Nat.mod_eq_of_lt (bit_of_id_lt _)
    have hview : (Channel.laneFault { c.setWi w { c.wi w with fault := true } with
        fcl := { (c.setWi w { c.wi w with fault := true }).fcl with raised := r } }).rd.view =
        setBit c.rd.view (Ch.bit c.id) true := by
      rw [← hk, ← hrd, ← hid]; rfl
    refine ⟨?_, ?_, fun k hb => ?_, fun _ => ?_, fun _ => hself,
      fun p hp => hkeep (by rw [hfcl]; exact hp)⟩
    · cases w <;> exact ⟨{ c.wi _ with fault := true }, r, _, _, _, rfl⟩
    · rw [h, Bool.or_true]; cases w <;> rfl
    · rw [hview]; exact bit_setBit_of_bit hb _
    · rw [hview]; exact bit_setBit_self _ (by have := bit_of_id_lt c.id; omega)

/-- What the judgement of both lanes leaves (R341). -/
structure Channel.BothJudged (c y : Channel) (t : Nat) : Prop where
  frame : ∃ x1 x2 r v a n, y = { c with wi1 := x1, wi2 := x2, fcl := { c.fcl with raised := r },
                                        rd := { c.rd with view := v, absent := a, laneCh := n } }
  wi : ∀ w, y.wi w = { c.wi w with fault := (c.wi w).fault || c.lateLane t w }
  self : (c.selfCh = true ∨ c.lateLane t .w1 = true ∨ c.lateLane t .w2 = true) → y.selfCh = true
  raises : c.lateLane t .w1 = true → (38, 0) ∈ y.fcl.raised
  calm : c.lateLane t .w1 = false → c.lateLane t .w2 = false → y = c

theorem judgeLanes_judged : c.BothJudged ((c.judgeLane t .w1).judgeLane t .w2) t := by
  have h1 := judgeLane_judged c t .w1
  have h2 := judgeLane_judged (c.judgeLane t .w1) t .w2
  obtain ⟨x, r, v, a, n, hx⟩ := h1.frame
  have hlate : (c.judgeLane t .w1).lateLane t .w2 = c.lateLane t .w2 := by rw [hx]; rfl
  have hid : (c.judgeLane t .w1).id = c.id := by rw [hx]; rfl
  obtain ⟨x', r', v', a', n', hx'⟩ := h2.frame
  have hy : (c.judgeLane t .w1).judgeLane t .w2 = { c with
      wi1 := x, wi2 := x', fcl := { c.fcl with raised := r' },
      rd := { c.rd with view := v', absent := a', laneCh := n' } } := by
    rw [hx', hx]; rfl
  have hfaults : ((c.judgeLane t .w1).judgeLane t .w2).rd.faults = c.rd.faults := by rw [hy]
  have hid2 : ((c.judgeLane t .w1).judgeLane t .w2).id = c.id := by rw [hy]; rfl
  refine ⟨⟨_, _, _, _, _, _, hy⟩, fun w => ?_, fun h => ?_, fun h => h2.lines _ (h1.raises h), fun c1 c2 => ?_⟩
  · cases w with
    | w1 =>
      have e1 : ((c.judgeLane t .w1).judgeLane t .w2).wi1 = (c.judgeLane t .w1).wi1 := by rw [hx']; rfl
      exact e1.trans h1.wi
    | w2 =>
      have e2 : (c.judgeLane t .w1).wi .w2 = c.wi .w2 := by rw [hx]; rfl
      rw [h2.wi, e2, hlate]
  · have view (hb : bit ((c.judgeLane t .w1).judgeLane t .w2).rd.view (Ch.bit c.id) = true) :
        ((c.judgeLane t .w1).judgeLane t .w2).selfCh = true := by
      rw [Channel.selfCh, hid2, hb, Bool.true_or]
    rcases h with h | h | h
    · rcases Bool.or_eq_true_iff.mp h with h | h
      · exact view (h2.keeps _ (h1.keeps _ h))
      · rw [Channel.selfCh, hid2, hfaults, h, Bool.or_true]
    · exact view (h2.keeps _ (h1.enters h))
    · exact view (by rw [← hid]; exact h2.enters (hlate.trans h))
  · rw [judgeLane_of_calm _ t .w2 (hlate.trans c2), judgeLane_of_calm c t .w1 c1]

end Lane

section Send
variable (c : Channel) (t : Nat)

/-- A word that goes out does not change what the channel claims. -/
theorem claimNumber_sendClaim (w : Wid) : (c.sendClaim t w).claimNumber t = c.claimNumber t := by cases w <;> rfl

/-- What the two words of a period write: both lanes alone (R294, R295). -/
theorem sendClaims_frame : ∃ x1 x2, (c.sendClaim t .w1).sendClaim t .w2 = { c with wi1 := x1, wi2 := x2 } ∧
    x1.sent = some (c.claimWord t .w1) ∧ x2.sent = some ((c.sendClaim t .w1).claimWord t .w2) ∧
    x1.claim = c.claimNumber t ∧ x2.claim = c.claimNumber t ∧ x1.seq = c.wi1.seq + 1 ∧
    x1.setIdx = (c.wi1.setIdx + 1) % 9 ∧ x2.setIdx = (c.wi2.setIdx + 1) % 9 ∧
    x1.fault = c.wi1.fault ∧ x2.fault = c.wi2.fault :=
  ⟨_, _, rfl, rfl, rfl, rfl, claimNumber_sendClaim c t .w1, rfl, rfl, rfl, rfl, rfl⟩

theorem claimNumber_of_zero (h : c.halted = true ∨ c.selfCh = true ∨ c.wi1.fault = true ∨ c.wi2.fault = true ∨
    c.nv.lc = 0 ∨ c.nv.lc = 5) : c.claimNumber t = 0 :=
  if_pos (by rcases h with h | h | h | h | h | h <;> simp [h])

/-- A channel that is neither LEAD nor STANDBY claims nothing (R296). -/
theorem claimNumber_of_role (hl : c.rd.role ≠ .lead) (hs : c.rd.role ≠ .standby) : c.claimNumber t = 0 := by
  unfold Channel.claimNumber
  split
  · rfl
  · cases hr : c.rd.role <;> simp_all

end Send

/-- The lanes are judged and the words go out (R294, R341). -/
theorem judged_and_sent (c : Channel) (t : Nat) :
    let y := (((c.judgeLane t .w1).judgeLane t .w2).sendClaim t .w1).sendClaim t .w2
    let zero := c.halted = true ∨ c.selfCh = true ∨ c.wi1.fault = true ∨ c.wi2.fault = true ∨ c.lateLane t .w1 = true ∨
      c.lateLane t .w2 = true
    (∃ u1 u2, y.wi1.sent = some u1 ∧ y.wi2.sent = some u2 ∧ y.wi1.claim = u1.claim ∧ y.wi2.claim = u2.claim ∧
      u1.claim = y.claimNumber t ∧ u2.claim = y.claimNumber t ∧ u1.seq = c.wi1.seq + 1 ∧ u2.seq = c.wi2.seq + 1 ∧
      u1.check = crc8 (claimBits u1) ∧ u2.check = crc8 (claimBits u2) ∧ (zero → u1.claim = 0 ∧ u2.claim = 0) ∧
      (c.lateLane t .w1 = false → c.lateLane t .w2 = false → u1.claim = c.claimNumber t ∧ u2.claim = c.claimNumber t) ∧
      (c.nv.lc = 0 ∨ c.nv.lc = 5 → u1.claim = 0 ∧ u2.claim = 0) ∧
      (c.rd.role ≠ .lead → c.rd.role ≠ .standby → u1.claim = 0 ∧ u2.claim = 0)) ∧
    (∀ w, (y.wi w).fault = ((c.wi w).fault || c.lateLane t w)) ∧
    (c.lateLane t .w1 = true → y.fcl.raised.contains (38, 0) = true) ∧
    y.wi1.setIdx = (c.wi1.setIdx + 1) % 9 ∧ y.wi2.setIdx = (c.wi2.setIdx + 1) % 9 ∧ y.wi1.seq = c.wi1.seq + 1 ∧
    y.rd.claimAt = c.rd.claimAt ∧ y.rd.role = c.rd.role ∧ y.rd.level = c.rd.level ∧ y.rd.demote = c.rd.demote := by
  intro y zero
  obtain ⟨b, hb⟩ : ∃ b, b = (c.judgeLane t .w1).judgeLane t .w2 := ⟨_, rfl⟩
  have hj := judgeLanes_judged c t
  rw [← hb] at hj
  have hn : y.claimNumber t = b.claimNumber t := by
    simp only [y, ← hb]; rw [claimNumber_sendClaim, claimNumber_sendClaim]
  obtain ⟨x1, x2, hy, hs1, hs2, hc1, hc2, hq, hi1, hi2, hf1, hf2⟩ := sendClaims_frame b t
  obtain ⟨x1', x2', r, v, a, n, hfr⟩ := hj.frame
  rw [hb] at hy
  have hy : y = { b with wi1 := x1, wi2 := x2 } := by rw [hb]; exact hy
  have hw1 : b.wi1 = { c.wi1 with fault := c.wi1.fault || c.lateLane t .w1 } := hj.wi .w1
  have hw2 : b.wi2 = { c.wi2 with fault := c.wi2.fault || c.lateLane t .w2 } := hj.wi .w2
  have hu1 : (b.claimWord t .w1).claim = b.claimNumber t := rfl
  have hu2 : ((b.sendClaim t .w1).claimWord t .w2).claim = b.claimNumber t := claimNumber_sendClaim b t .w1
  have both (h : b.claimNumber t = 0) : (b.claimWord t .w1).claim = 0 ∧
      ((b.sendClaim t .w1).claimWord t .w2).claim = 0 := ⟨hu1.trans h, hu2.trans h⟩
  have hq1 : b.wi1.seq = c.wi1.seq := by rw [hw1]
  have hq2 : b.wi2.seq = c.wi2.seq := by rw [hw2]
  have hx1 : b.wi1.setIdx = c.wi1.setIdx := by rw [hw1]
  have hx2 : b.wi2.setIdx = c.wi2.setIdx := by rw [hw2]
  have hexe : b.exe = c.exe := by rw [hfr]
  have hlc : b.nv = c.nv := by rw [hfr]
  have hrole : b.rd.role = c.rd.role := by rw [hfr]
  refine ⟨⟨_, _, by rw [hy]; exact hs1, by rw [hy]; exact hs2, by rw [hy]; exact hc1,
    by rw [hy]; exact hc2.trans hu2.symm, hn.symm, hu2.trans hn.symm, ?_, ?_, rfl, rfl, fun h => both ?_,
    fun h1 h2 => ?_, fun h => both ?_, fun hl hs => both ?_⟩, fun w => ?_, fun h => ?_, ?_, ?_, ?_, ?_, ?_, ?_, ?_⟩
  · exact congrArg (· + 1) hq1
  · exact congrArg (· + 1) hq2
  · refine claimNumber_of_zero b t ?_
    rcases h with h | h | h | h | h | h
    · exact .inl (by rw [Channel.halted, hexe]; exact h)
    · exact .inr (.inl (hj.self (.inl h)))
    · exact .inr (.inr (.inl (by rw [hw1]; simp [h])))
    · exact .inr (.inr (.inr (.inl (by rw [hw2]; simp [h]))))
    · exact .inr (.inl (hj.self (.inr (.inl h))))
    · exact .inr (.inl (hj.self (.inr (.inr h))))
  · rw [hu1, hu2, hj.calm h1 h2]; exact ⟨rfl, rfl⟩
  · exact claimNumber_of_zero b t (.inr (.inr (.inr (.inr (by rw [hlc]; exact h)))))
  · exact claimNumber_of_role b t (by rw [hrole]; exact hl) (by rw [hrole]; exact hs)
  · rw [hy]
    cases w with
    | w1 => exact hf1.trans (congrArg Wi.fault hw1)
    | w2 => exact hf2.trans (congrArg Wi.fault hw2)
  · rw [hy]; exact List.contains_iff_mem.mpr (hj.raises h)
  · rw [hy]; dsimp only; rw [hi1, hx1]
  · rw [hy]; dsimp only; rw [hi2, hx2]
  · rw [hy]; dsimp only; rw [hq, hq1]
  · rw [hy, hfr]
  · rw [hy, hfr]
  · rw [hy, hfr]
  · rw [hy, hfr]

/-- The end of a trial does not touch the redundancy unit (R497). -/
theorem trialPass_rd (c : Channel) (t : Nat) : (c.trialPass t).rd = c.rd := by
  unfold Channel.trialPass
  split
  · rfl
  · exact logEv_rd ..

theorem takeRole_standby (c : Channel) (t : Nat) :
    (c.takeRole t .standby).rd.role = .standby ∧ (c.takeRole t .standby).rd.demote = false := by
  refine ⟨?_, rfl⟩
  obtain ⟨_, _, _, _, _, h⟩ := setRole_eq c t .standby
  have e : ((c.setRole t .standby).trialPass t).rd.role = .standby := by rw [trialPass_rd, h]
  exact e

/-- A period without a demotion that is due (R294, R327). -/
theorem claimPeriod_of_stays {c : Channel} {t : Nat} (h : c.rd.demote = false ∨ c.rd.role ≠ .lead ∨ c.halted = true) :
    c.claimPeriod t = (((c.judgeLane t .w1).judgeLane t .w2).sendClaim t .w1).sendClaim t .w2 := by
  have hd : (c.rd.demote && c.rd.role == .lead && !c.halted) = false := by
    rcases h with h | h | h <;> simp [h]
  simp only [Channel.claimPeriod, hd, Bool.false_eq_true, if_false]

theorem claimPeriod_of_demoted {c : Channel} {t : Nat} (hd : c.rd.demote = true) (hr : c.rd.role = .lead)
    (hh : c.halted = false) :
    (c.claimPeriod t).rd.role = .standby ∧ (c.claimPeriod t).rd.demote = false := by
  have hy : c.claimPeriod t = (((((c.takeRole t .standby).judgeLane t .w1).judgeLane t .w2).sendClaim t .w1).sendClaim
      t .w2) := by
    simp [Channel.claimPeriod, hd, hr, hh]
  obtain ⟨-, -, -, -, -, -, -, hrole, -, hdem⟩ := judged_and_sent (c.takeRole t .standby) t
  obtain ⟨h1, h2⟩ := takeRole_standby c t
  rw [hy]
  exact ⟨hrole.trans h1, hdem.trans h2⟩

/-- Settles O35: the period judges both lanes, then numbers and sends one word on each; off the grid nothing moves. -/
theorem claimWordsGoOut : Obligations.ClaimWordsGoOut := by
  intro s l ha c due late
  have hdue (hd : due = true) (ho : c.linksOut = false) :
      ((s.ch l.ch).alive && !(s.ch l.ch).linksOut && (s.ch l.ch).periodAt l.t && (s.ch l.ch).rd.claimAt != some l.t) =
        true := by
    rw [ha, show (s.ch l.ch).linksOut = false from ho]
    simpa [due] using hd
  refine ⟨fun h => chGets_skip (i := .claimPeriodStart l) (hi := rfl) ?_ rfl,
    fun hd ho hs => chGets_when (i := .claimPeriodStart l) (hi := rfl) (hdue hd ho) ?_,
    fun hd ho hm hr hh => chGets_when (i := .claimPeriodStart l) (hi := rfl) (hdue hd ho)
      (claimPeriod_of_demoted (c := { c with rd := { c.rd with claimAt := some l.t } }) hm hr hh)⟩
  · rcases h with h | h
    · rw [show (s.ch l.ch).linksOut = true from h]; simp
    · rw [Bool.and_assoc, show ((s.ch l.ch).periodAt l.t && (s.ch l.ch).rd.claimAt != some l.t) = false from h,
        Bool.and_false]
  · rw [claimPeriod_of_stays (c := { c with rd := { c.rd with claimAt := some l.t } }) hs]
    obtain ⟨hw, hf, h38, hi1, hi2, hq, hat, hrole, hlevel, -⟩ :=
      judged_and_sent { c with rd := { c.rd with claimAt := some l.t } } l.t
    exact ⟨hw, hf, h38, hi1, hi2, hq, hat, hrole, hlevel⟩

end Sys2Proof.Machine
end

section
/-! PROOF. CclFramesGoOut (O37): the judgement of the direct links, the bytes of a frame, and the frames of a period
(R31, R32, R329, R332, R335). -/

namespace Sys2Proof.Machine

-- One proof after another: with each in a thread of its own the joined text nears the check's memory limit.
set_option Elab.async false

/-! The bytes of mailbox segments (R31, R463). -/

/-- The bytes of segments. -/
def segSum (gs : List MbSeg) : Nat := (gs.map MbSeg.bytes).sum

theorem segSum_append (a b : List MbSeg) : segSum (a ++ b) = segSum a + segSum b := by
  simp [segSum]

/-- An answer takes four bytes. -/
theorem segSum_answers (xs : List (Bool × Bool × Fin 4 × BitVec 4)) : segSum (xs.map answerSeg) = 4 * xs.length := by
  induction xs with
  | nil => rfl
  | cons a xs ih =>
    have ha : (answerSeg a).bytes = 4 := by
      rcases a with ⟨b, r⟩
      cases b <;> rfl
    have hc : segSum ((a :: xs).map answerSeg) = (answerSeg a).bytes + segSum (xs.map answerSeg) := by simp [segSum]
    rw [hc, ha, ih, List.length_cons]
    omega

/-- The segments that are taken fit. -/
theorem takeSegs_fit (room : Nat) (gs : List MbSeg) : segSum (takeSegs room gs).1 ≤ room := by
  induction gs generalizing room with
  | nil => exact Nat.zero_le _
  | cons g r ih =>
    unfold takeSegs
    split
    · rename_i h
      have hc : segSum (g :: (takeSegs (room - g.bytes) r).1) = g.bytes + segSum (takeSegs (room - g.bytes) r).1 := by
        simp [segSum]
      have := ih (room - g.bytes)
      show segSum (g :: (takeSegs (room - g.bytes) r).1) ≤ room
      omega
    · exact Nat.zero_le _

section Xmb
variable (c : Channel) (t : Nat) (next : Bool) (room : Nat)

theorem setXp_hp (p : Peer) : ∃ u, c.setXp next p = { c with hp := u } := by
  cases next <;> exact ⟨_, rfl⟩

theorem xmbBegin_hp : ∃ u, c.xmbBegin t next = { c with hp := u } := by
  unfold Channel.xmbBegin
  extract_lets p
  split
  · exact setXp_hp ..
  · exact ⟨c.hp, rfl⟩

/-- A partner's segments write the host's part alone. -/
theorem xmbSegs_hp : ∃ u, (c.xmbSegs t next room).2 = { c with hp := u } := by
  obtain ⟨u, hu⟩ := xmbBegin_hp c t next
  have set (p : Peer) : ∃ v, (c.xmbBegin t next).setXp next p = { c with hp := v } := by
    obtain ⟨v, hv⟩ := setXp_hp (c.xmbBegin t next) next p
    exact ⟨v, by rw [hv, hu]⟩
  unfold Channel.xmbSegs
  extract_lets d p n acks q
  split
  · split
    · exact set _
    · exact set _
  · exact set _

/-- A partner's segments fit the bytes they have (R31, R463). -/
theorem xmbSegs_fit : segSum (c.xmbSegs t next room).1 ≤ room := by
  unfold Channel.xmbSegs
  extract_lets d p n acks q
  have hn : 4 * n ≤ room := by
    simp only [n]
    split
    · omega
    · split <;> omega
  have hacks : segSum acks ≤ 4 * n := by
    simp only [acks]
    rw [segSum_answers]
    exact Nat.mul_le_mul_left 4 (List.length_take_le _ _)
  split
  · rename_i k hk
    split
    · rename_i h
      have hroom : 4 * n + 20 ≤ room := by simp only [Bool.and_eq_true, decide_eq_true_eq] at h; exact h.2
      have hdata : segSum [d.xmbData next k] = 20 := rfl
      show segSum (acks ++ [d.xmbData next k]) ≤ room
      rw [segSum_append, hdata]
      omega
    · exact hacks.trans hn
  · exact hacks.trans hn

end Xmb

/-! The frame to one partner. -/

section Frame
variable (o c : Channel) (t n : Nat) (chunk : Option ResyncChunk) (ch : Ch)

/-- The own records and the chunk of the own blocks fit a frame. -/
def Channel.OwnFits (o : Channel) (n : Nat) (chunk : Option ResyncChunk) (ch : Ch) : Prop :=
  o.ownShare ch * (44 * n + 20 * b2n chunk.isSome) ≤ o.frameRoom ch

/-- What the frame of a period to a partner is, and what it leaves on the channel (R31, R32, R329, R335). -/
structure Channel.SentTo (o c y : Channel) (t n : Nat) (ch : Ch) (f : CclFrame) : Prop where
  frame : ∃ u p x, y = { c with hp := u, pct := p }.setPeer ch x
  sent : (y.peer ch).sent = some f
  src : f.src = o.id
  dst : f.dst = ch
  direct : f.relayed = false
  idx : f.idx = o.rd.cclIdx
  seq : f.seq = (o.peer ch).outSeq + 1
  outSeq : (y.peer ch).outSeq = f.seq
  good : frameGood f = true
  size : ((f.toCclBlock :: f.carried).map CclBlock.size).sum ≤ 256
  recs : f.recs = if o.linkDown ch then [] else o.rd.recs.take n
  relay : (y.peer ch).relay = none
  relayed : (y.peer ch).relayed.isSome = (o.peer ch).relay.isSome
  carried : ∀ b, (y.peer ch).relayed = some b → b ∈ f.carried
  vote : f.vote = c.vote t
  failed : (y.peer ch).failed = (c.peer ch).failed

theorem size_eq (b : CclBlock) :
    b.size = 32 + 44 * b.recs.length + 20 * b2n b.chunk.isSome + segSum b.segs := by
  unfold CclBlock.size segSum b2n
  split <;> rfl

/-- An own block of a frame: to a partner with content, or with voting data and segments alone (R32, R329). -/
def Channel.ownBlock (o : Channel) (n : Nat) (chunk : Option ResyncChunk) (v : Vote) (dst : Ch) (full : Bool)
    (gs : List MbSeg) : CclBlock :=
  { src := o.id, dst := dst, relayed := false, idx := o.rd.cclIdx, seq := (o.peer dst).outSeq + 1, vote := v
    recs := if full then o.rd.recs.take n else [], chunk := if full then chunk else none, segs := gs }

theorem ownBlock_size (v : Vote) (full : Bool) (gs : List MbSeg) : (o.ownBlock n chunk v ch full gs).size =
    32 + 44 * (b2n full * (o.rd.recs.take n).length) + 20 * (b2n full * b2n chunk.isSome) + segSum gs := by
  rw [size_eq]
  cases full <;> simp [Channel.ownBlock, b2n]

/-- The own block that a frame carries for the third channel, where that one's link is down (R32). -/
theorem ownBlock_carried (v : Vote) (down : Bool) (gs : List MbSeg) :
    ((if down = true then [o.ownBlock n chunk v ch true gs] else []).map CclBlock.size).sum =
      b2n down * (32 + 44 * (o.rd.recs.take n).length + 20 * b2n chunk.isSome + segSum gs) := by
  cases down
  · simp [b2n]
  · simp [b2n, ownBlock_size]

/-- A relayed block with the content that its frame has room for. -/
theorem relayed_size (b : Option CclBlock) (recs : List TrackRec) (k : Nat) (far : Option ResyncChunk)
    (gs : List MbSeg) :
    ((b.map fun x => { x with recs := recs.take k, chunk := far, segs := gs }).toList.map CclBlock.size).sum ≤
      b2n b.isSome * (32 + 44 * k + 20 * b2n far.isSome + segSum gs) := by
  have hk : (recs.take k).length ≤ k := List.length_take_le _ _
  cases b with
  | none => exact Nat.zero_le _
  | some x =>
    simp only [Option.map_some, Option.toList_some, List.map_cons, List.map_nil, List.sum_cons, List.sum_nil, size_eq,
      Option.isSome_some, b2n, if_true]
    omega

/-- The relayed chunk goes along where it has room (R339). -/
theorem relayed_chunk (b : Option CclBlock) (room : Nat) :
    20 * b2n (match b with
      | some x => if 20 ≤ room then x.chunk else none
      | none => none).isSome ≤ room := by
  cases b with
  | none => exact Nat.zero_le _
  | some x =>
    dsimp only
    split
    · cases x.chunk <;> simp [b2n]; omega
    · exact Nat.zero_le _

variable {c t} in
/-- The segments for a partner, or none: they fit, and write the host's part alone. -/
theorem sideSegs {room : Nat} {r : List MbSeg × Channel}
    (h : r = ([], c) ∨ ∃ next, r = c.xmbSegs t next (min 28 room)) :
    segSum r.1 ≤ room ∧ ∃ u, r.2 = { c with hp := u } := by
  rcases h with rfl | ⟨next, rfl⟩
  · exact ⟨Nat.zero_le _, c.hp, rfl⟩
  · exact ⟨(xmbSegs_fit ..).trans (Nat.min_le_right _ _), xmbSegs_hp ..⟩

/-- The bytes of a frame: what its own blocks hold, and what the room behind them lets relayed content take. -/
theorem frame_bytes {down downZ relay : Bool} {n m x room k far g h r : Nat} (hm : m ≤ n)
    (hroom : room = 256 - 32 * (1 + b2n downZ + b2n relay))
    (hfit : (b2n (!down) + b2n downZ) * (44 * n + 20 * x) ≤ room)
    (hrest : 44 * k + far + g + h + r ≤ room - (b2n (!down) + b2n downZ) * (44 * n + 20 * x)) :
    (32 + 44 * (b2n (!down) * m) + 20 * (b2n (!down) * x) + g) +
      (b2n downZ * (32 + 44 * m + 20 * x + h) + b2n relay * (32 + 44 * k + far + r)) ≤ 256 := by
  cases down <;> cases downZ <;> cases relay <;>
    simp only [b2n, Bool.not_true, Bool.not_false, if_true, if_false, Bool.false_eq_true] at * <;> omega

theorem sendCcl_sent (hfit : o.OwnFits n chunk ch) : ∃ f, o.SentTo c (o.sendCcl t n chunk c ch) t n ch f := by
  obtain ⟨y, hy⟩ : ∃ y, y = o.sendCcl t n chunk c ch := ⟨_, rfl⟩
  rw [← hy]
  unfold Channel.sendCcl at hy
  extract_lets z p v block room0 wait k room1 far room2 g room3 h room4 r fwd carried b0 f0 f x d1 d2 at hy
  -- What goes along fits the room behind the own blocks.
  have hk : 44 * k ≤ room0 := by
    simp only [k]
    split <;> omega
  have hfar : 20 * b2n far.isSome ≤ room1 := relayed_chunk p.relay room1
  obtain ⟨hgs, ug, hug⟩ := sideSegs (c := c) (t := t) (room := room2) (r := g) (by
    simp only [g]; split
    · exact .inl rfl
    · exact .inr ⟨_, rfl⟩)
  obtain ⟨hhs, uh, huh⟩ := sideSegs (c := g.2) (t := t) (room := room3) (r := h) (by
    simp only [h]; split
    · exact .inr ⟨_, rfl⟩
    · exact .inl rfl)
  have hrs : segSum r.1 ≤ room4 := by
    refine (takeSegs_fit ..).trans ?_
    split
    · exact Nat.min_le_right _ _
    · exact Nat.zero_le _
  have hrest : 44 * k + 20 * b2n far.isSome + segSum g.1 + segSum h.1 + segSum r.1 ≤ room0 := by
    have h1 : room1 = room0 - 44 * k := rfl
    have h2 : room2 = room1 - 20 * b2n far.isSome := rfl
    have h3 : room3 = room2 - segSum g.1 := rfl
    have h4 : room4 = room3 - segSum h.1 := rfl
    omega
  have hsize : ((f.toCclBlock :: f.carried).map CclBlock.size).sum ≤ 256 := by
    have hbytes := frame_bytes (down := o.linkDown ch) (downZ := o.linkDown z) (relay := (o.peer ch).relay.isSome)
      (List.length_take_le n o.rd.recs) rfl hfit hrest
    have h0 : b0.size = _ := ownBlock_size o n chunk ch v (!o.linkDown ch) g.1
    have hz : ((if o.linkDown z = true then [block z true h.1] else []).map CclBlock.size).sum = _ :=
      ownBlock_carried o n chunk z v (o.linkDown z) h.1
    have hfwd : (fwd.toList.map CclBlock.size).sum ≤ _ := relayed_size (o.peer ch).relay wait k far r.1
    have hsum : ((f.toCclBlock :: f.carried).map CclBlock.size).sum = b0.size +
        (((if o.linkDown z = true then [block z true h.1] else []).map CclBlock.size).sum +
          (fwd.toList.map CclBlock.size).sum) := by
      simp [f, f0, carried, List.map_append, List.sum_append]
    rw [hsum, hz, h0]
    omega
  -- The partner's record takes the frame; nothing else but the mailboxes and the counters changes.
  have hu : h.2 = { c with hp := uh } := by rw [huh, hug]
  obtain ⟨q, hq⟩ : ∃ q, y = { d1 with pct := q } := by
    obtain ⟨q1, h1⟩ := bump_eq d1 9 0 1
    obtain ⟨q2, h2⟩ := bump_eq d2 9 2 1
    have hd2 : d2 = { d1 with pct := q1 } := h1
    rw [hy]
    split
    · exact ⟨q2, by rw [h2, hd2]⟩
    · exact ⟨q1, hd2⟩
  have hx : x = c.peer ch := by simp only [x]; rw [hu]; rfl
  have hpeer : y.peer ch = { x with outSeq := p.outSeq + 1, sent := some f, relayed := fwd, relay := none,
                                    restRecs := wait.drop k, restSegs := r.2 } := by
    rw [hq]; exact peer_setPeer ..
  refine ⟨f, ⟨⟨uh, q, y.peer ch, ?_⟩, by rw [hpeer], rfl, rfl, rfl, rfl, rfl, by rw [hpeer], ?_, hsize, ?_,
    by rw [hpeer], ?_, fun b hb => ?_, rfl, by rw [hpeer, hx]⟩⟩
  · rw [hpeer, hq]; simp only [d1]; rw [hu]; cases ch <;> rfl
  · simp [frameGood, f, f0, frameBytes]
  · simp only [f, f0, b0, block]
    cases o.linkDown ch <;> rfl
  · rw [hpeer]
    simp only [fwd, p, Option.isSome_map]
  · rw [hpeer] at hb
    have hb' : fwd = some b := hb
    show b ∈ carried
    simp only [carried, hb', Option.toList_some]
    exact List.mem_append_right _ (List.mem_singleton_self b)

end Frame

/-! The judgement of the direct links (R332). -/

section Links
variable (c : Channel) (t : Nat) (ch : Ch)

/-- What the judgement of links leaves alone, and what stays once it stands (R332). -/
structure Channel.LinksKept (c y : Channel) : Prop where
  exe : y.exe = c.exe
  rst : y.rst = c.rst
  act : y.act = c.act
  role : y.rd.role = c.rd.role
  recs : y.rd.recs = c.rd.recs
  idx : y.rd.cclIdx = c.rd.cclIdx
  faults : y.rd.faults = c.rd.faults
  heardAt : ∀ k, (y.peer k).heardAt = (c.peer k).heardAt
  netAt : ∀ k, (y.peer k).netAt = (c.peer k).netAt
  failed : ∀ k, (c.peer k).failed = true → (y.peer k).failed = true
  view : ∀ k, bit c.rd.view k = true → bit y.rd.view k = true
  lines : ∀ p ∈ c.fcl.raised, p ∈ y.fcl.raised

theorem Channel.LinksKept.refl (c : Channel) : c.LinksKept c :=
  ⟨rfl, rfl, rfl, rfl, rfl, rfl, rfl, fun _ => rfl, fun _ => rfl, fun _ h => h, fun _ h => h,
    fun _ h => h⟩

theorem Channel.LinksKept.trans {c y z : Channel} (h : c.LinksKept y) (k : y.LinksKept z) : c.LinksKept z :=
  ⟨k.exe.trans h.exe, k.rst.trans h.rst, k.act.trans h.act, k.role.trans h.role, k.recs.trans h.recs,
    k.idx.trans h.idx, k.faults.trans h.faults, fun i => (k.heardAt i).trans (h.heardAt i),
    fun i => (k.netAt i).trans (h.netAt i), fun i e => k.failed i (h.failed i e), fun i e => k.view i (h.view i e),
    fun p e => k.lines p (h.lines p e)⟩

/-- A direct link whose three periods have passed without a good frame (R332). -/
def Channel.LinkLate (c : Channel) (t : Nat) (ch : Ch) : Prop :=
  ∃ j, (c.peer ch).judgeAt = some j ∧ (c.peer ch).failed = false ∧
    max j ((c.peer ch).goodAt.getD 0) + threePeriods ≤ t

/-- A link that has failed shows in its record, in the view and on line 45. -/
def Channel.LinkShown (y : Channel) (me ch : Ch) : Prop :=
  (y.peer ch).failed = true ∧ bit y.rd.view (cclBit me ch).val = true ∧ (45, 0) ∈ y.fcl.raised

theorem Channel.LinksKept.shown {c y : Channel} {me ch : Ch} (h : c.LinksKept y) (k : c.LinkShown me ch) :
    y.LinkShown me ch := ⟨h.failed _ k.1, h.view _ k.2.1, h.lines _ k.2.2⟩

/-- A link is marked as failed (R332). -/
def Channel.failLink (c : Channel) (ch : Ch) : Channel :=
  ((c.setPeer ch { c.peer ch with failed := true }).enterView (cclBit c.id ch)).raise 45

/-- The judgement of a link marks it, or it was not late (R332). -/
theorem judgeLink_cases : c.judgeLink t ch = c.failLink ch ∨ (c.judgeLink t ch = c ∧ ¬c.LinkLate t ch) := by
  unfold Channel.judgeLink
  extract_lets p
  split
  · rename_i hj
    exact .inr ⟨rfl, fun ⟨j, h, _⟩ => by cases hj.symm.trans h⟩
  · rename_i j hj
    split
    · rename_i h
      refine .inr ⟨rfl, fun ⟨i, hi, hf, ht⟩ => ?_⟩
      cases hj.symm.trans hi
      rw [show p.failed = false from hf] at h
      simp only [Bool.false_or, decide_eq_true_eq] at h
      exact absurd ht (Nat.not_le_of_lt h)
    · exact .inl rfl

theorem failLink_peer (k : Ch) :
    (c.failLink ch).peer k = if k = ch then { c.peer ch with failed := true } else c.peer k := by
  obtain ⟨r, hr⟩ := raise_eq ((c.setPeer ch { c.peer ch with failed := true }).enterView (cclBit c.id ch)) 45 0
  have h : (c.failLink ch).peer k = (c.setPeer ch { c.peer ch with failed := true }).peer k := by
    rw [Channel.failLink, hr]; cases k <;> rfl
  rw [h]
  by_cases hk : k = ch
  · rw [if_pos hk, hk]; exact peer_setPeer ..
  · rw [if_neg hk]; exact peer_setPeer_ne _ _ hk

/-- A link marked as failed: what it keeps, and what it shows. -/
theorem failLink_kept : c.LinksKept (c.failLink ch) ∧ (c.failLink ch).LinkShown c.id ch := by
  have hfield {α : Type} (g : Partner → α) (hg : g { c.peer ch with failed := true } = g (c.peer ch)) (k : Ch) :
      g ((c.failLink ch).peer k) = g (c.peer k) := by
    rw [failLink_peer]
    split
    · rename_i e; rw [hg, e]
    · rfl
  obtain ⟨r, hr⟩ := raise_eq ((c.setPeer ch { c.peer ch with failed := true }).enterView (cclBit c.id ch)) 45 0
  have hy : c.failLink ch = _ := hr
  have hview : (c.failLink ch).rd.view = setBit c.rd.view (cclBit c.id ch).val true := by rw [hy]; cases ch <;> rfl
  refine ⟨⟨?_, ?_, ?_, ?_, ?_, ?_, ?_, hfield _ rfl, hfield _ rfl, fun k hf => ?_, fun k hb => ?_,
    fun p hp => raise_keeps _ 45 0 ?_⟩, ?_, ?_, raise_self _ 45 0⟩
  · rw [hy]; cases ch <;> rfl
  · rw [hy]; cases ch <;> rfl
  · rw [hy]; cases ch <;> rfl
  · rw [hy]; cases ch <;> rfl
  · rw [hy]; cases ch <;> rfl
  · rw [hy]; cases ch <;> rfl
  · rw [hy]; cases ch <;> rfl
  · rw [failLink_peer]
    split
    · rfl
    · exact hf
  · rw [hview]; exact bit_setBit_of_bit hb _
  · cases ch <;> exact hp
  · rw [failLink_peer, if_pos rfl]
  · rw [hview]; exact bit_setBit_self _ (by have := (cclBit c.id ch).isLt; omega)

/-- The judgement of one link: what it keeps, the other links' records, and its finding (R332). -/
theorem judgeLink_kept : c.LinksKept (c.judgeLink t ch) ∧ (∀ k, k ≠ ch → (c.judgeLink t ch).peer k = c.peer k) ∧
    (c.LinkLate t ch → (c.judgeLink t ch).LinkShown c.id ch) := by
  rcases judgeLink_cases c t ch with h | ⟨h, hn⟩
  · rw [h]
    exact ⟨(failLink_kept c ch).1, fun k hk => by rw [failLink_peer, if_neg hk], fun _ => (failLink_kept c ch).2⟩
  · rw [h]
    exact ⟨.refl c, fun _ _ => rfl, fun hl => absurd hl hn⟩

/-- Both links are judged at a period start (R332). -/
theorem judgeLinks_kept : let y := (c.judgeLink t c.id.next).judgeLink t c.id.prev
    c.LinksKept y ∧ ∀ ch, (ch = c.id.next ∨ ch = c.id.prev) → c.LinkLate t ch → y.LinkShown c.id ch := by
  intro y
  obtain ⟨k1, others, late1⟩ := judgeLink_kept c t c.id.next
  obtain ⟨k2, -, late2⟩ := judgeLink_kept (c.judgeLink t c.id.next) t c.id.prev
  have hne : c.id.prev ≠ c.id.next := by cases c.id <;> decide
  have hid : (c.judgeLink t c.id.next).id = c.id := by rw [Channel.id, k1.rst]; rfl
  have hprev := others c.id.prev hne
  refine ⟨k1.trans k2, fun ch hch hl => ?_⟩
  rcases hch with rfl | rfl
  · exact k2.shown (late1 hl)
  · have := late2 (by rw [Channel.LinkLate, hprev]; exact hl)
    rwa [hid] at this

variable {c} in
/-- A cut-off is judged by what the links' judgement keeps (R332). -/
theorem Channel.LinksKept.cutOff {y : Channel} (h : c.LinksKept y) : y.cutOff t = c.cutOff t := by
  have hid : y.id = c.id := by rw [Channel.id, h.rst]; rfl
  have hcyc : y.cycleTclk = c.cycleTclk := by
    simp only [Channel.cycleTclk, Channel.getA, h.act]
  simp only [Channel.cutOff, Channel.heard, Channel.heardNet, h.heardAt, h.netAt, hid, hcyc]

end Links

/-! The frames of a period. -/

section Period
variable (c : Channel) (t : Nat)

theorem recsNow_fits {ch : Ch} (hch : ch = c.id.next ∨ ch = c.id.prev) :
    c.ownShare ch * (44 * c.recsNow) ≤ c.frameRoom ch := by
  have hle : c.recsNow ≤ (if c.ownShare ch = 0 then 4 else c.frameRoom ch / (44 * c.ownShare ch)) := by
    simp only [Channel.recsNow]
    rcases hch with rfl | rfl <;> omega
  by_cases h0 : c.ownShare ch = 0
  · rw [h0, Nat.zero_mul]; exact Nat.zero_le _
  · rw [if_neg h0] at hle
    calc c.ownShare ch * (44 * c.recsNow) = 44 * c.ownShare ch * c.recsNow := by ring
      _ ≤ 44 * c.ownShare ch * (c.frameRoom ch / (44 * c.ownShare ch)) := Nat.mul_le_mul_left _ hle
      _ ≤ c.frameRoom ch := Nat.mul_div_le _ _

/-- The own records of a period fit both frames, and so does the chunk where one goes along (R31, R335, R339). -/
theorem ownFits_of_now {ch : Ch} (hch : ch = c.id.next ∨ ch = c.id.prev) (halt : Bool) :
    c.OwnFits c.recsNow (if halt = true then none else c.chunkNow c.recsNow) ch := by
  have none_fits : c.OwnFits c.recsNow none ch := by simpa [Channel.OwnFits, b2n] using recsNow_fits c hch
  split
  · exact none_fits
  · unfold Channel.chunkNow
    dsimp only
    split
    · rename_i h
      simp only [Bool.and_eq_true, Channel.chunkFits, decide_eq_true_eq] at h
      obtain ⟨-, h1, h2⟩ := h
      rcases hch with rfl | rfl
      · simpa [Channel.OwnFits, b2n] using h1
      · simpa [Channel.OwnFits, b2n] using h2
    · exact none_fits

variable {c} in
/-- What a frame that goes out leaves alone. -/
theorem Channel.SentTo.keeps {o y : Channel} {n : Nat} {ch : Ch} {f : CclFrame} (h : o.SentTo c y t n ch f) :
    y.exe = c.exe ∧ y.fcl = c.fcl ∧ y.rd.view = c.rd.view ∧ y.rd.role = c.rd.role ∧ y.rd.recs = c.rd.recs ∧
      y.rd.cclIdx = c.rd.cclIdx ∧ ∀ k, k ≠ ch → y.peer k = c.peer k := by
  obtain ⟨u, p, x, hy⟩ := h.frame
  rw [hy]
  refine ⟨?_, ?_, ?_, ?_, ?_, ?_, fun k hk => peer_setPeer_ne _ _ hk⟩ <;> cases ch <;> rfl

/-- A period in which the links' judgement leaves the channel as y: both frames go out (R329, R335). -/
theorem cclPeriod_sent {y : Channel}
    (hy : ((c.judgeLink t c.id.next).judgeLink t c.id.prev).judgeCutOff t = y) :
    let z := c.cclPeriod t
    (∀ ch, (ch = c.id.next ∨ ch = c.id.prev) → ∃ v w f, v.exe = y.exe ∧ v.rd.role = y.rd.role ∧
      c.SentTo v w t c.recsNow ch f ∧ z.peer ch = w.peer ch ∧ (w.peer ch).failed = (y.peer ch).failed) ∧
    z.exe = y.exe ∧ z.fcl = y.fcl ∧ z.rd.view = y.rd.view ∧ z.rd.role = y.rd.role ∧
    z.rd.recs = y.rd.recs.drop c.recsNow ∧ z.rd.cclIdx = y.rd.cclIdx + 1 := by
  intro z
  obtain ⟨f1, h1⟩ := sendCcl_sent c y t c.recsNow (if y.halted = true then none else c.chunkNow c.recsNow) c.id.next
    (ownFits_of_now c (.inl rfl) _)
  obtain ⟨d, hd⟩ : ∃ d, d = c.sendCcl t c.recsNow (if y.halted = true then none else c.chunkNow c.recsNow) y
    c.id.next := ⟨_, rfl⟩
  rw [← hd] at h1
  obtain ⟨f2, h2⟩ := sendCcl_sent c d t c.recsNow (if y.halted = true then none else c.chunkNow c.recsNow) c.id.prev
    (ownFits_of_now c (.inr rfl) _)
  obtain ⟨e, he⟩ : ∃ e, e = c.sendCcl t c.recsNow (if y.halted = true then none else c.chunkNow c.recsNow) d
    c.id.prev := ⟨_, rfl⟩
  rw [← he] at h2
  have hz : ∃ pos, z = { e with rd := { e.rd with
      recs := e.rd.recs.drop c.recsNow, cclIdx := e.rd.cclIdx + 1, chunkPos := pos } } := by
    simp only [z, Channel.cclPeriod, hy, ← hd, ← he]
    exact ⟨_, rfl⟩
  obtain ⟨pos, hz⟩ := hz
  obtain ⟨x1, l1, v1, r1, c1, i1, o1⟩ := h1.keeps
  obtain ⟨x2, l2, v2, r2, c2, i2, o2⟩ := h2.keeps
  have hne : c.id.next ≠ c.id.prev := by cases c.id <;> decide
  have hpeer (ch : Ch) : z.peer ch = e.peer ch := by rw [hz]; cases ch <;> rfl
  refine ⟨fun ch hch => ?_, ?_, ?_, ?_, ?_, ?_, ?_⟩
  · rcases hch with rfl | rfl
    · exact ⟨y, d, f1, rfl, rfl, h1, (hpeer _).trans (o2 _ hne), h1.failed⟩
    · exact ⟨d, e, f2, x1, r1, h2, hpeer _, h2.failed.trans (congrArg Partner.failed (o1 _ hne.symm))⟩
  · rw [hz]; exact x2.trans x1
  · rw [hz]; exact l2.trans l1
  · rw [hz]; exact v2.trans v1
  · rw [hz]; exact r2.trans r1
  · rw [hz]; exact congrArg (List.drop c.recsNow) (c2.trans c1)
  · rw [hz]; exact congrArg (· + 1) (i2.trans i1)

/-- A period without a cut-off (R329, R332). -/
theorem cclPeriod_of_heard (hcut : c.cutOff t = false) :
    let y := c.cclPeriod t
    y.rd.cclIdx = c.rd.cclIdx + 1 ∧ y.rd.recs = c.rd.recs.drop c.recsNow ∧ y.rd.role = c.rd.role ∧
      ∀ ch, (ch = c.id.next ∨ ch = c.id.prev) →
        ∃ f, (y.peer ch).sent = some f ∧ f.src = c.id ∧ f.dst = ch ∧ f.relayed = false ∧ f.idx = c.rd.cclIdx ∧
          f.seq = (c.peer ch).outSeq + 1 ∧ (y.peer ch).outSeq = f.seq ∧ frameGood f = true ∧
          (f.toCclBlock :: f.carried |>.map CclBlock.size).sum ≤ 256 ∧
          f.recs = (if c.linkDown ch then [] else c.rd.recs.take c.recsNow) ∧
          (y.peer ch).relay = none ∧ (y.peer ch).relayed.isSome = (c.peer ch).relay.isSome ∧
          (∀ b, (y.peer ch).relayed = some b → b ∈ f.carried) ∧
          f.vote.role = (if c.halted = true then 4 else roleCode c.rd.role) ∧
          (∀ j, (c.peer ch).judgeAt = some j → (c.peer ch).failed = false →
            max j ((c.peer ch).goodAt.getD 0) + threePeriods ≤ t →
            (y.peer ch).failed = true ∧ bit y.rd.view (cclBit c.id ch).val = true ∧
            y.fcl.raised.contains (45, 0) = true) := by
  intro y
  obtain ⟨hk, hlate⟩ := judgeLinks_kept c t
  have hj : ((c.judgeLink t c.id.next).judgeLink t c.id.prev).judgeCutOff t =
      (c.judgeLink t c.id.next).judgeLink t c.id.prev :=
    if_neg (by rw [hk.cutOff, hcut]; simp)
  obtain ⟨hs, -, hl, hv, hr, hc, hi⟩ := cclPeriod_sent c t hj
  refine ⟨by rw [← hk.idx]; exact hi, by rw [← hk.recs]; exact hc, hr.trans hk.role, fun ch hch => ?_⟩
  obtain ⟨v, w, f, hve, hvr, h, hp, hf⟩ := hs ch hch
  have hyp : y.peer ch = w.peer ch := hp
  refine ⟨f, by rw [hyp]; exact h.sent, h.src, h.dst, h.direct, h.idx, h.seq, by rw [hyp]; exact h.outSeq, h.good, h.size,
    h.recs, by rw [hyp]; exact h.relay, by rw [hyp]; exact h.relayed, by rw [hyp]; exact h.carried, ?_,
    fun j hj1 hj2 hj3 => ?_⟩
  · rw [h.vote]
    simp only [Channel.vote, Channel.halted, hve, hk.exe, hvr, hk.role]
    rfl
  · obtain ⟨s1, s2, s3⟩ := hlate ch hch ⟨j, hj1, hj2, hj3⟩
    refine ⟨by rw [hyp, hf]; exact s1, ?_, ?_⟩
    · rw [show y.rd.view = _ from hv]; exact s2
    · rw [show y.fcl = _ from hl]; exact List.contains_iff_mem.mpr s3

/-- A period of a channel that is cut off while a third one is live (R332). -/
theorem cclPeriod_of_cutOff (hcut : c.cutOff t = true) (hh : c.halted = false)
    (hr : c.rd.role = .resync ∨ c.rd.role = .standby ∨ c.rd.role = .lead) (hn : c.liveIn c.id.next = true)
    (hp : c.liveIn c.id.prev = true) :
    let y := c.cclPeriod t
    y.fcl.raised.contains (47, 0) = true ∧ (y.exe.stopping || y.exe.stopped) = true := by
  intro y
  obtain ⟨hk, -⟩ := judgeLinks_kept c t
  obtain ⟨j, hj⟩ : ∃ j, j = (c.judgeLink t c.id.next).judgeLink t c.id.prev := ⟨_, rfl⟩
  rw [← hj] at hk
  have hid : j.id = c.id := by rw [Channel.id, hk.rst]; rfl
  have hup : (j.rd.role == .resync || j.rd.role == .standby || j.rd.role == .lead) = true := by
    rw [hk.role]; rcases hr with h | h | h <;> simp [h]
  have hlive (k : Ch) : j.liveIn k = c.liveIn k := by simp only [Channel.liveIn, hk.faults]
  have hcond : ((j.rd.role == .resync || j.rd.role == .standby || j.rd.role == .lead) && !j.halted && j.cutOff t &&
      j.liveIn j.id.next && j.liveIn j.id.prev) = true := by
    have hjh : j.halted = false := by rw [Channel.halted, hk.exe]; exact hh
    rw [hup, hjh, hk.cutOff, hcut, hid, hlive, hlive, hn, hp]; rfl
  have hcutoff : j.judgeCutOff t = ((j.enterView (Fin.ofNat 24 (Ch.bit j.id))).raise 47).beginIsolate t := if_pos hcond
  obtain ⟨-, hx, hl, -⟩ := cclPeriod_sent c t (y := j.judgeCutOff t) (by rw [hj])
  obtain ⟨a, b, he, hab⟩ := beginIsolate_exe ((j.enterView (Fin.ofNat 24 (Ch.bit j.id))).raise 47) t
  refine ⟨?_, ?_⟩
  · rw [show y.fcl = _ from hl, hcutoff]
    exact List.contains_iff_mem.mpr (beginIsolate_lines _ t (raise_self _ 47 0) (by decide) (by decide))
  · rw [show y.exe = _ from hx, hcutoff, he]
    exact hab

end Period

/-- Settles O37: by whether the judgement of the links cuts the channel off, and the two frames of the period. -/
theorem cclFramesGoOut : Obligations.CclFramesGoOut := by
  intro s l hrel hdoze c due
  have hdue (hd : due = true) (ho : c.linksOut = false) :
      ((s.ch l.ch).linksUp && (s.ch l.ch).periodAt l.t && (s.ch l.ch).rd.cclAt != some l.t) = true := by
    rw [Channel.linksUp, hrel, hdoze, show (s.ch l.ch).linksOut = false from ho]
    simpa [due] using hd
  refine ⟨fun h => chGets_skip (i := .cclPeriodStart l) (hi := rfl) ?_ rfl,
    fun hd ho hcut => chGets_when (i := .cclPeriodStart l) (hi := rfl) (hdue hd ho) ?_,
    fun hd ho hcut hh hr hn hp => chGets_when (i := .cclPeriodStart l) (hi := rfl) (hdue hd ho) ?_⟩
  · rcases h with h | h
    · rw [Channel.linksUp, show (s.ch l.ch).linksOut = true from h]; simp
    · rw [Bool.and_assoc, show ((s.ch l.ch).periodAt l.t && (s.ch l.ch).rd.cclAt != some l.t) = false from h,
        Bool.and_false]
  · exact cclPeriod_of_heard { c with rd := { c.rd with cclAt := some l.t } } l.t hcut
  · exact cclPeriod_of_cutOff { c with rd := { c.rd with cclAt := some l.t } } l.t hcut hh hr hn hp

end Sys2Proof.Machine
end

section
/-! PROOF. GateDriverLinkAndTests (O21): the die's clock and link, and the end of a group's self-test, whose result no
start of a drive touches (R30, R249 to R251). -/

namespace Sys2Proof.Machine

-- One proof after another: with each in a thread of its own the joined text nears the check's memory limit.
set_option Elab.async false

section Starts
variable (c : Channel) (t : Nat)

theorem raise_drives (l : Fin 62) (d : BitVec 16) : c.Drives (c.raise l d) := by
  have hk {p} := raise_keeps c l d (p := p)
  obtain ⟨r, h⟩ := raise_eq c l d
  rw [h] at hk ⊢
  exact ⟨rfl, rfl, rfl, fun p hp _ _ => hk hp⟩

theorem viewSync_drives : c.Drives (c.viewSync t) := by
  obtain ⟨v, a, h⟩ := viewSync_eq c t
  rw [h]
  exact ⟨rfl, rfl, rfl, fun _ h _ _ => h⟩

theorem announce_drives (r : AnnReq) : c.Drives (c.announce t r) := by
  unfold Channel.announce
  split
  · exact ⟨rfl, rfl, rfl, fun _ h _ _ => h⟩
  · dsimp only
    split <;> exact ⟨rfl, rfl, rfl, fun _ h _ _ => h⟩

theorem encFault_drives : c.Drives c.encFault := by
  unfold Channel.encFault
  split
  · exact .refl c
  · have hedge : c.Drives c.fromEdge := by
      unfold Channel.fromEdge
      split <;> exact ⟨rfl, rfl, rfl, fun _ h _ _ => h⟩
    exact (hedge.trans (raise_drives c.fromEdge 15 0)).trans ⟨rfl, rfl, rfl, fun _ h _ _ => h⟩

theorem disarmEs_drives (k : Fin 8) : c.Drives (c.disarmEs k) := ⟨rfl, rfl, rfl, fun _ h _ _ => h⟩

theorem esTake_drives : c.Drives c.esTake := by
  unfold Channel.esTake
  split
  · exact (((disarmEs_drives c 0).trans (disarmEs_drives _ 1)).trans (disarmEs_drives _ 2)).trans (disarmEs_drives _ 3)
  · exact .refl c

/-- Entry to CLOSING (R177). -/
theorem sdClosing_drives : c.Drives (c.sdClosing t) := by
  unfold Channel.sdClosing
  extract_lets a centre b d e f g
  have he : c.Drives e := ⟨rfl, rfl, rfl, fun _ h _ _ => h⟩
  have hcodes : e.Drives (e.bchFollow.leaveOffCodes .steer) := ⟨rfl, rfl, rfl, fun _ h _ _ => h⟩
  have hg : c.Drives g := ((he.trans hcodes).trans (esTake_drives _)).trans (announce_drives f t .join)
  split
  · exact hg
  · exact hg.trans (encFault_drives g)

/-- The steering drive leaves OFF or waits (R177, R249). -/
theorem sdStart_drives : c.Drives (c.sdStart t) := by
  unfold Channel.sdStart
  split
  · exact .refl c
  · split
    · exact ⟨rfl, rfl, rfl, fun _ h _ _ => h⟩
    · split
      · exact ⟨rfl, rfl, rfl, fun _ h _ _ => h⟩
      · split
        · exact sdClosing_drives c t
        · exact ⟨rfl, rfl, rfl, fun _ h _ _ => h⟩

/-- The auxiliary drive leaves OFF or waits (R206, R249). -/
theorem adStart_drives : c.Drives (c.adStart t) := by
  unfold Channel.adStart
  split
  · exact .refl c
  · split
    · exact ⟨rfl, rfl, rfl, fun _ h _ _ => h⟩
    · dsimp only
      split <;> exact ⟨rfl, rfl, rfl, fun _ h _ _ => h⟩

end Starts

section Die
variable (c : Channel) (t : Nat)

theorem turnOff_gates (l : Leg) : (l.turnOff t).hs = false ∧ (l.turnOff t).ls = false := by
  unfold Leg.turnOff
  dsimp only
  split <;> exact ⟨rfl, rfl⟩

/-- GCLK is lost: every gate off, PIS open (R30). -/
theorem gclkLost_off : let y := c.gclkLost t
    (∀ k : Fin 6, (y.gd.legs[k]).hs = false ∧ (y.gd.legs[k]).ls = false) ∧ y.gd.bchGate = false ∧ y.gd.gclkHold = true ∧
      y.gd.bch = c.gd.bch ∧ y.gd.configured = false ∧ y.gd.pisOk = 0 ∧ y.sd = c.sd ∧ y.ad = c.ad := by
  refine ⟨fun k => ?_, rfl, rfl, rfl, rfl, rfl, rfl, rfl⟩
  have hleg : ((c.gclkLost t).gd.legs[k]) = { c.gd.legs[k].turnOff t with sto := .none } := by
    simp [Channel.gclkLost, Channel.bchHeld, Channel.allGatesOff, Channel.mapLegs]
  rw [hleg]
  exact turnOff_gates t c.gd.legs[k]

/-- A failed frame that is not the third of its direction (R251). -/
theorem gdlBad_toDie (h : c.gd.gdlFails ≠ 2) :
    c.gdlBad t .toDie = { c with gd := { c.gd with gdlFails := c.gd.gdlFails + 1, gdlStale := true } } :=
  if_neg (fun e => h (Nat.succ.inj e))

theorem gdlBad_fromDie (h : c.gd.gdlFailsUp ≠ 2) :
    c.gdlBad t .fromDie = { c with gd := { c.gd with gdlFailsUp := c.gd.gdlFailsUp + 1 } } :=
  if_neg (fun e => h (Nat.succ.inj e))

/-- The link is lost: line 32, and GCLK with it (R30, R251). -/
theorem linkLost_held : let y := (c.gclkLost t).raise 32
    y.gd.gdlFails = c.gd.gdlFails ∧ y.gd.gdlFailsUp = c.gd.gdlFailsUp ∧ y.gd.gclkHold = true ∧
      y.gd.configured = false ∧ y.fcl.raised.contains (32, 0) = true := by
  intro y
  obtain ⟨r, h⟩ := raise_eq (c.gclkLost t) 32 0
  have hy : y = _ := h
  refine ⟨by rw [hy]; rfl, by rw [hy]; rfl, by rw [hy]; rfl, by rw [hy]; rfl,
    List.contains_iff_mem.mpr (raise_self _ 32 0)⟩

/-- The third failed frame of a direction in a row (R251). -/
theorem gdlBad_third_toDie (h : c.gd.gdlFails = 2) : let y := c.gdlBad t .toDie
    y.gd.gdlFails = 3 ∧ y.gd.gclkHold = true ∧ y.gd.configured = false ∧ y.fcl.raised.contains (32, 0) = true := by
  intro y
  have hn : c.gd.gdlFails + 1 = 3 := by rw [h]
  have hy : y = _ := if_pos hn
  rw [hy]
  obtain ⟨h1, -, h2, h3, h4⟩ := linkLost_held
    { c with gd := { c.gd with gdlFails := c.gd.gdlFails + 1, gdlStale := true } } t
  exact ⟨h1.trans hn, h2, h3, h4⟩

theorem gdlBad_third_fromDie (h : c.gd.gdlFailsUp = 2) : let y := c.gdlBad t .fromDie
    y.gd.gdlFailsUp = 3 ∧ y.gd.gclkHold = true ∧ y.gd.configured = false ∧ y.fcl.raised.contains (32, 0) = true := by
  intro y
  have hn : c.gd.gdlFailsUp + 1 = 3 := by rw [h]
  have hy : y = _ := if_pos hn
  rw [hy]
  obtain ⟨-, h1, h2, h3, h4⟩ := linkLost_held { c with gd := { c.gd with gdlFailsUp := c.gd.gdlFailsUp + 1 } } t
  exact ⟨h1.trans hn, h2, h3, h4⟩

/-- The first good frame after a loss of GCLK writes the die's whole set (R30, R251). -/
theorem gdlGood_toDie_of_lost (h : c.gd.configured = false) : let y := c.gdlGood t .toDie
    y.gd.gdlFails = 0 ∧ y.gd.gclkHold = false ∧ y.gd.configured = true ∧
      y.gd.dieCopy = (c.act.filter fun p => decide (0x3800 ≤ p.1) && decide (p.1 < 0x3C00)) := by
  intro y
  have hy : y = _ := if_neg (by rw [h]; exact Bool.false_ne_true)
  rw [hy]
  exact ⟨rfl, rfl, rfl, rfl⟩

theorem gdlGood_toDie_of_configured (h : c.gd.configured = true) :
    c.gdlGood t .toDie = { c with gd := { c.gd with gdlFails := 0, gdlStale := false } } := if_pos h

end Die

section Test
variable {c y : Channel} {g : Grp}

@[simp] theorem grp_setGrp (c : Channel) (g : Grp) (x : GdGrp) : (c.setGrp g x).grp g = x := by cases g <;> rfl

theorem Channel.Drives.grp (h : c.Drives y) (g : Grp) : y.grp g = c.grp g := by
  cases g
  · exact h.grpS
  · exact h.grpA

/-- The start of a drive that a self-test of its group has held (R249, R250). -/
def Channel.heldStart (z : Channel) (t : Nat) (g : Grp) : Channel :=
  match g with
  | .steer => if z.sd.pendEnable && (z.rd.role = .standby || z.rd.role = .lead) then z.sdStart t else z
  | .aux =>
    if !z.ad.pendEnable then z
    else if z.rd.role = .resync || z.rd.role = .standby || z.rd.role = .lead then z.adStart t
    else { z with ad := { z.ad with pendEnable := false } }

theorem heldStart_drives (z : Channel) (t : Nat) (g : Grp) : z.Drives (z.heldStart t g) := by
  unfold Channel.heldStart
  cases g with
  | steer =>
    dsimp only
    split
    · exact sdStart_drives z t
    · exact .refl z
  | aux =>
    dsimp only
    split
    · exact .refl z
    · split
      · exact adStart_drives z t
      · exact ⟨rfl, rfl, rfl, fun _ h _ _ => h⟩

/-- The result of a self-test, which the start of the drive that waited for it leaves as it is (R249, R250). -/
theorem gdTestEnd_result (c : Channel) (t : Nat) (g : Grp) (failed : BitVec 8) :
    let kinds := if g = .steer then failed else failed &&& 0x0F
    let y := (c.gdTestEnd t g failed).viewSync t
    (y.grp g).testBusy = false ∧ (y.grp g).testDone = true ∧ (y.grp g).testFail = (kinds != 0) ∧
      (y.grp g).failed = kinds ∧ (kinds ≠ 0 → y.fcl.raised.contains (27, grpDetail g) = true) := by
  intro kinds y
  let x := c.setGrp g { c.grp g with testBusy := false, testDone := true, testFail := kinds != 0, failed := kinds }
  let z := if (kinds != 0) = true then x.raise 27 (grpDetail g) else x
  have hx : x.Drives z := by
    simp only [z]
    split
    · exact raise_drives ..
    · exact .refl x
  have hz : z.Drives (c.gdTestEnd t g failed) := heldStart_drives z t g
  have hy : z.Drives y := hz.trans (viewSync_drives _ t)
  have hgrp : y.grp g = { c.grp g with testBusy := false, testDone := true, testFail := kinds != 0, failed := kinds } :=
    (hy.grp g).trans ((hx.grp g).trans (grp_setGrp ..))
  rw [hgrp]
  refine ⟨rfl, rfl, rfl, rfl, fun hk => List.contains_iff_mem.mpr (hy.lines _ ?_ (show (27 : Fin 62) ≠ 18 by decide)
    (show (27 : Fin 62) ≠ 19 by decide))⟩
  simp only [z, if_pos (bne_iff_ne.mpr hk)]
  exact raise_self ..

end Test

/-- Settles O21: each command in turn, the lost link by which failed frame of its direction it is. -/
theorem gateDriverLinkAndTests : Obligations.GateDriverLinkAndTests := by
  intro s l g failed ha c kinds
  have hlink (ho : c.linksOut = false) : ((s.ch l.ch).alive && !(s.ch l.ch).linksOut) = true := by
    rw [ha, show (s.ch l.ch).linksOut = false from ho]; rfl
  refine ⟨chGets_when (i := .gclkLoss l) (hi := rfl) ha (gclkLost_off ..),
    fun ho d k => chGets_skip (i := .gdlFrame l ⟨d, k⟩) (hi := rfl)
      (by rw [show (s.ch l.ch).linksOut = true from ho, Bool.not_true, Bool.and_false]) rfl,
    fun ho h => chGets_when (i := .gdlFrame l ⟨.toDie, false⟩) (hi := rfl) (hlink ho) (gdlBad_toDie c l.t h),
    fun ho h => chGets_when (i := .gdlFrame l ⟨.fromDie, false⟩) (hi := rfl) (hlink ho) (gdlBad_fromDie c l.t h),
    fun ho h => chGets_when (i := .gdlFrame l ⟨.toDie, false⟩) (hi := rfl) (hlink ho) (gdlBad_third_toDie c l.t h),
    fun ho h => chGets_when (i := .gdlFrame l ⟨.fromDie, false⟩) (hi := rfl) (hlink ho) (gdlBad_third_fromDie c l.t h),
    fun ho h => chGets_when (i := .gdlFrame l ⟨.toDie, true⟩) (hi := rfl) (hlink ho) (gdlGood_toDie_of_lost c l.t h),
    fun ho h => chGets_when (i := .gdlFrame l ⟨.toDie, true⟩) (hi := rfl) (hlink ho)
      (gdlGood_toDie_of_configured c l.t h),
    fun ho => chGets_when (i := .gdlFrame l ⟨.fromDie, true⟩) (hi := rfl) (hlink ho) rfl,
    fun hb h => chGets_when (i := .gdSelftestEnd l g failed) (hi := rfl) ?_ ?_,
    fun hb hg h => chGets_skip (i := .gdSelftestEnd l g failed) (hi := rfl) ?_ rfl,
    fun hb => chGets_skip (i := .gdSelftestEnd l g failed) (hi := rfl) ?_ rfl⟩
  · rw [ha, Bool.true_or, show ((s.ch l.ch).grp g).testBusy = true from hb]
    rcases h with h | h
    · rw [h]; rfl
    · rw [show (s.ch l.ch).gd.testBchOff = true from h, Bool.or_true]; rfl
  · exact gdTestEnd_result (s.ch l.ch) l.t g failed
  · rw [hg, show (s.ch l.ch).gd.testBchOff = false from h]
    exact Bool.and_false _
  · rw [show ((s.ch l.ch).grp g).testBusy = false from hb, Bool.and_false, Bool.false_and]

end Sys2Proof.Machine
end

section
/-! PROOF. FramesCommitWhatBothPassesDid (O54) fails: the statement lets the snapshot of a frame hold the semaphores as
they stand before the command, while what the receive engines judge by the frame's start comes before the snapshot (R84,
R88, R392). A request frame of the service tunnel that is judged then may write a semaphore (R440, R465). -/

namespace Sys2Proof.Machine

-- One proof after another: with each in a thread of its own the joined text nears the check's memory limit.
set_option Elab.async false

/-- What a command that completes on a channel says of the channel which its function makes. -/
theorem of_chGets_onCh {s : State} {i : Instr} {ch : Ch} {f : Channel → Channel} {P : Channel → Prop}
    (hi : exec i s = onCh ch s f) (h : s.chGets i ch P) : P (f (s.ch ch)) := by
  obtain ⟨x, hx, hP⟩ := h
  have hxf : x = f (s.ch ch) := chGets_eq ⟨x, hx, rfl⟩ ⟨f (s.ch ch), hi, rfl⟩
  rwa [hxf] at hP

/-- A record of six bytes: a write transaction that stores 1 at SEM0, with its CRC-8 (R432, R438, R465). -/
def semRecord : List Word := [0x00069000, 0x00000191]

/-- A request frame of the service tunnel with that record, whole on X and not judged yet (R392, R465). -/
def semCopy : Copy := { due := 49000, hdr := #v[0x41, 0, 0, 0, 0, 0, 0, 0], words := semRecord, voters := [] }

/-- A running channel at whose port X_UP the request frame waits; every semaphore is free. -/
def semWaits : State :=
  { State.reset with chA := (Channel.reset .a).setOl .xUp { (Channel.reset .a).ol .xUp with copy := some semCopy } }

/-- A pass P without any access. -/
def emptyPass : PassRun :=
  { writes := [], reads := [], tcm := [], order := [], used := 0, loads := 0, stall := 0, fixes := 0 }

/-- The frame that starts at 50,000 ROOT is one of those which the statement speaks of. -/
theorem semWaits_starts : let c := semWaits.ch .a
    c.running = true ∧ c.exe.stopping = false ∧ c.pwr.entry = none ∧ c.sec.halted = false ∧ c.frameDue 50000 = true := by
  decide +kernel

/-- The record runs before the snapshot: SEM0 belongs to HP1 in it, and was free before the command. -/
theorem frameStart_semWaits : ((semWaits.ch .a).frameStart 50000 emptyPass).hp.semSnap[(0 : Fin 16)] = some .hp1 ∧
    (semWaits.ch .a).hp.sem[(0 : Fin 16)] = none := by
  decide +kernel

/-- Refutes O54: a tunnel request that waits for its judgement at the frame's start takes SEM0 for HP1, so that the
snapshot holds another owner than the state before the command. -/
theorem not_framesCommitWhatBothPassesDid : ¬ Obligations.FramesCommitWhatBothPassesDid := by
  unfold Obligations.FramesCommitWhatBothPassesDid
  rintro ⟨-, hall⟩
  obtain ⟨hrun, hstop, hentry, hhalt, hdue⟩ := semWaits_starts
  obtain ⟨hstart, -⟩ := hall semWaits ⟨.a, 50000⟩ emptyPass []
    { port := .hp0, tag := 0, session := 0, status := 0, result := 0, len := 0, payload := [], final := true,
      violation := false }
  have hgets := hstart hrun hstop hentry hhalt hdue (Nat.zero_le _) (Nat.zero_le _)
  obtain ⟨-, -, -, -, -, -, -, -, -, -, -, hsnap, -⟩ :=
    of_chGets_onCh (i := .frameStart ⟨.a, 50000⟩ emptyPass) (hi := rfl) hgets
  dsimp only at hsnap
  rw [when, if_pos hdue] at hsnap
  obtain ⟨htaken, hfree⟩ := frameStart_semWaits
  rw [hsnap, hfree] at htaken
  cases htaken

end Sys2Proof.Machine
end

section
/-! PROOF. ResetHoldsTheStatedValues (O59): the state at reset, by its parts. The state is the model's release of the core
after POR with both Welts in INIT (log entries 6, 7, 8 and 11). -/

namespace Sys2Proof.Machine

-- One proof after another: with each in a thread of its own the joined text nears the check's memory limit.
set_option Elab.async false

/-- A Welt as it powers up is safe: everything that Safe bounds is off or 0 (R24, R293, R313). -/
theorem safe_powerUp : ({} : Welt).Safe where
  so0 := nofun
  so1 := nofun
  pkr := nofun
  sol0 := nofun
  sol1 := nofun
  load := nofun
  sp := by decide

theorem welt_reset (w : Wid) : State.reset.welt w = {} := by cases w <;> rfl

theorem ch_reset (k : Ch) : State.reset.ch k = Channel.reset k := by cases k <;> rfl

/-- The straps give a channel its own letter (R21). -/
theorem id_reset (k : Ch) : (Channel.reset k).id = k := by cases k <;> rfl

/-- Every gate of HB0 to HB5 is off at reset (R228). -/
theorem legs_reset (k : Ch) (j : Fin 6) :
    ((Channel.reset k).gd.legs[j]).hs = false ∧ ((Channel.reset k).gd.legs[j]).ls = false := by
  have h : (Channel.reset k).gd.legs = Gd.reset.legs := rfl
  rw [h]
  revert j
  decide

/-- Every receive flow is uncommitted at reset (R446). -/
theorem flows_reset (k : Ch) (f : Fin 256) : ((Channel.reset k).net.flows[f]).committed = false := by
  have h : (Channel.reset k).net.flows = Vector.replicate 256 {} := rfl
  simp [h]

/-- Of each host port session 0 is open at OPERATOR, the others are closed, and every slot is free (R446, R451). -/
theorem port_reset (k : Ch) (p : Port) :
    let x := (Channel.reset k).port p
    (x.sess[0]).st = .opened ∧ (x.sess[0]).level = 1 ∧ x.used = 0 ∧
      ∀ j : Fin 8, j ≠ 0 → (x.sess[j]).st = .closed := by
  have h : (Channel.reset k).port p = {} := by cases p <;> rfl
  rw [h]
  decide

/-- Settles O59: the Welts at power-up, then each part of a channel. -/
theorem resetHoldsTheStatedValues : Obligations.ResetHoldsTheStatedValues := by
  refine ⟨⟨safe_powerUp, safe_powerUp⟩, rfl, fun w => ?_, fun k => ?_⟩
  · rw [welt_reset]
    exact ⟨rfl, rfl, rfl, rfl, rfl, rfl⟩
  · rw [ch_reset]
    refine ⟨id_reset k, rfl, rfl, rfl, rfl, rfl, rfl, legs_reset k, rfl, rfl, rfl, flows_reset k, rfl, fun j => ?_, rfl,
      port_reset k, rfl, rfl, fun n => ?_, wf_reset k⟩
    · simp [show (Channel.reset k).hp.sem = Vector.replicate 16 none from rfl]
    · have h : (Channel.reset k).ce.slots = Ce.reset.slots := rfl
      rw [h]
      revert n
      decide

end Sys2Proof.Machine
end

section
/-! PROOF. SupplyWarningsAndCuts (O44): the ends of a warning and of its ride, and what an overvoltage cut and its end do
to the gates and the drives (R51 to R58). A warning and a cut that end at 100 ms or later follow log entries 134 and
135. -/

namespace Sys2Proof.Machine

-- One proof after another: with each in a thread of its own the joined text nears the check's memory limit.
set_option Elab.async false

section Warning
variable (c : Channel) (t : Nat)

@[simp] theorem logEv_rst (a b : Nat) (d : List Word) : (c.logEv t a b d).rst = c.rst := by
  obtain ⟨_, _, _, _, h⟩ := logEv_eq c t a b d; rw [h]

@[simp] theorem logEv_sup (a b : Nat) (d : List Word) : (c.logEv t a b d).sup = c.sup := by
  obtain ⟨_, _, _, _, h⟩ := logEv_eq c t a b d; rw [h]

@[simp] theorem logEv_fcl (a b : Nat) (d : List Word) : (c.logEv t a b d).fcl = c.fcl := by
  obtain ⟨_, _, _, _, h⟩ := logEv_eq c t a b d; rw [h]

@[simp] theorem logEv_sd (a b : Nat) (d : List Word) : (c.logEv t a b d).sd = c.sd := by
  obtain ⟨_, _, _, _, h⟩ := logEv_eq c t a b d; rw [h]

@[simp] theorem logEv_ad (a b : Nat) (d : List Word) : (c.logEv t a b d).ad = c.ad := by
  obtain ⟨_, _, _, _, h⟩ := logEv_eq c t a b d; rw [h]

@[simp] theorem logEv_gd (a b : Nat) (d : List Word) : (c.logEv t a b d).gd = c.gd := by
  obtain ⟨_, _, _, _, h⟩ := logEv_eq c t a b d; rw [h]

/-- Out of warning and hold an event goes to the MRAM writer: none waits and none is lost (R52, R531). -/
theorem logEv_log_of_calm {c : Channel} (h : c.deferring = false) (t a b : Nat) (d : List Word) :
    (c.logEv t a b d).log = c.log := by
  unfold Channel.logEv
  extract_lets flags e n c'
  rw [if_neg (show ¬ c'.deferring = true by rw [show c'.deferring = false from h]; exact Bool.false_ne_true)]
  obtain ⟨p, hp⟩ := bump_eq (c'.mram (.log e)) 11 2 1
  rw [hp]
  rfl

/-- The end of a deferral leaves the supply, the reset domain and the collector alone (R54). -/
theorem flushLog_frame : (c.flushLog t).rst = c.rst ∧ (c.flushLog t).sup = c.sup ∧ (c.flushLog t).fcl = c.fcl := by
  unfold Channel.flushLog
  extract_lets jobs lost n g c'
  split
  · exact ⟨rfl, rfl, rfl⟩
  · exact ⟨logEv_rst .., logEv_sup .., logEv_fcl ..⟩

/-- With the deferral over no entry waits (R54, R531). -/
theorem flushLog_log {c : Channel} (h : c.deferring = false) :
    (c.flushLog t).log = { c.log with wait := [], lostNow := 0 } := by
  unfold Channel.flushLog
  extract_lets jobs lost n g c'
  split
  · rfl
  · exact logEv_log_of_calm (c := c') h ..

/-- A ride of 100 ms requests ISOLATED at most, and raises SUP (R53, R55). -/
theorem rideReached_eq : ∃ i f, c.rideReached = { c with sup := { c.sup with iso := i, rideOver := true }, fcl := f } := by
  unfold Channel.rideReached
  split
  · rename_i h
    exact ⟨c.sup.iso, c.fcl, by rw [← h]⟩
  · obtain ⟨r, hr⟩ := raise_eq { c with sup := { c.sup with iso := true, rideOver := true } } 3 0
    exact ⟨true, _, hr⟩

/-- The first time that a ride reaches 100 ms raises SUP (R55). -/
theorem rideReached_of_first {c : Channel} (h : c.sup.rideOver = false) :
    c.rideReached.fcl.raised.contains (3, 0) = true ∧
      c.rideReached.sup = { c.sup with iso := true, rideOver := true } := by
  have hy : c.rideReached = { c with sup := { c.sup with iso := true, rideOver := true } }.raise 3 := if_neg (by simp [h])
  obtain ⟨r, hr⟩ := raise_eq { c with sup := { c.sup with iso := true, rideOver := true } } 3 0
  exact ⟨by rw [hy]; exact List.contains_iff_mem.mpr (raise_self ..), by rw [hy, hr]⟩

/-- A warning starts (R51, R52). -/
theorem warnEnter_of_above (ha : c.alive = true) (hh : c.rst.hold = false) (hw : c.sup.warn = false) :
    let y := c.warnEnter t
    y.sup = { c.sup with warn := true, warnAt := t, limAt := some t, exitAt := none, warnMin := c.sup.vsupMv } ∧
      y.deferring = true ∧ y.nv = c.nv ∧ y.sd = c.sd ∧ y.ad = c.ad := by
  intro y
  have hy : y = _ := (if_neg (by simp [ha])).trans (if_neg (by simp [hh, hw]))
  rw [hy]
  exact ⟨rfl, rfl, rfl, rfl, rfl⟩

theorem warnEnter_of_warned (ha : c.alive = true) (h : (c.rst.hold || c.sup.warn) = true) : c.warnEnter t = c :=
  (if_neg (by simp [ha])).trans (if_pos h)

/-- The hold of a release below VWARN ends (R66). -/
theorem warnExit_of_hold (ha : c.alive = true) (hh : c.rst.hold = true) :
    (c.warnExit t).rst = { c.rst with hold := false, belowWarn := false } ∧ (c.warnExit t).sup = c.sup := by
  have hy : c.warnExit t = _ := (if_neg (by simp [ha])).trans (if_pos hh)
  obtain ⟨hrst, hsup, -⟩ := flushLog_frame { c with rst := { c.rst with hold := false, belowWarn := false } } t
  rw [hy]
  exact ⟨hrst, hsup⟩

theorem warnExit_of_above (ha : c.alive = true) (hh : c.rst.hold = false) (hw : c.sup.warn = false) : c.warnExit t = c :=
  ((if_neg (by simp [ha])).trans (if_neg (by simp [hh]))).trans (if_pos (by simp [hw]))

/-- The supply once a warning has ended, with the time ridden in its account (R53, R54). -/
def Sup.warnEnded (u : Sup) (t : Nat) : Sup :=
  { u with warn := false, acc := u.acc + (t - u.warnAt), exitAt := some t, lim25 := false, limAt := none
           ramp := decide (u.acc + (t - u.warnAt) < msec 100), rampAt := t }

section Ends
variable {c : Channel} {t : Nat} (ha : c.alive = true) (hh : c.rst.hold = false) (hw : c.sup.warn = true)
include ha hh hw

/-- A warning ends before 100 ms of riding: the limit ramps up, and the warning is counted (R53, R54). -/
theorem warnExit_of_ridden (hr : c.sup.acc + (t - c.sup.warnAt) < msec 100) :
    let y := c.warnExit t
    y.sup = { c.sup.warnEnded t with warnCnt := satInc c.sup.warnCnt } ∧ y.rst = c.rst ∧
      y.log = { c.log with wait := [], lostNow := 0 } := by
  intro y
  let z : Channel := { c with sup := c.sup.warnEnded t }
  have hz : z.deferring = false := hh
  obtain ⟨hrst, hsup, -⟩ := flushLog_frame z t
  have hcalm : (z.flushLog t).deferring = false := by rw [Channel.deferring, hrst, hsup]; exact hz
  have hy : y = if decide (c.sup.acc + (t - c.sup.warnAt) < msec 100) = true then _ else _ :=
    ((if_neg (by simp [ha])).trans (if_neg (by simp [hh]))).trans (if_neg (by simp [hw]))
  rw [if_pos (decide_eq_true hr), if_pos (decide_eq_true hr)] at hy
  rw [hy]
  refine ⟨?_, ?_, ?_⟩
  · exact congrArg (fun u : Sup => { u with warnCnt := satInc u.warnCnt }) ((logEv_sup ..).trans hsup)
  · exact (logEv_rst ..).trans hrst
  · exact (logEv_log_of_calm hcalm ..).trans (flushLog_log t hz)

/-- A warning ends at 100 ms of riding or later: no ramp, no count, and ISOLATED is requested once (R53, R55). -/
theorem warnExit_of_over (hr : msec 100 ≤ c.sup.acc + (t - c.sup.warnAt)) :
    let y := c.warnExit t
    (∃ i, y.sup = { c.sup.warnEnded t with iso := i, rideOver := true }) ∧ y.rst = c.rst ∧
      y.log = { c.log with wait := [], lostNow := 0 } ∧
      (c.sup.rideOver = false → y.sup.iso = true ∧ y.fcl.raised.contains (3, 0) = true) := by
  intro y
  let z : Channel := { c with sup := c.sup.warnEnded t }
  obtain ⟨i, f, hride⟩ := rideReached_eq z
  have hcalm : z.rideReached.deferring = false := by rw [hride]; exact hh
  obtain ⟨hrst, hsup, hfcl⟩ := flushLog_frame z.rideReached t
  have hnot : ¬ decide (c.sup.acc + (t - c.sup.warnAt) < msec 100) = true := by simpa using hr
  have hy : y = if decide (c.sup.acc + (t - c.sup.warnAt) < msec 100) = true then _ else _ :=
    ((if_neg (by simp [ha])).trans (if_neg (by simp [hh]))).trans (if_neg (by simp [hw]))
  rw [if_neg hnot, if_neg hnot] at hy
  replace hy : y = z.rideReached.flushLog t := hy
  rw [hy]
  refine ⟨⟨i, by rw [hsup, hride]⟩, by rw [hrst, hride], by rw [flushLog_log t hcalm, hride], fun hfirst => ?_⟩
  obtain ⟨hraised, hiso⟩ := rideReached_of_first (c := z) hfirst
  rw [hsup, hfcl, hiso]
  exact ⟨rfl, hraised⟩

end Ends

end Warning

section Cut
variable (c : Channel) (t : Nat)

/-- Both gates of every leg are off. -/
def Channel.GatesLow (c : Channel) : Prop := ∀ k : Fin 6, (c.gd.legs[k]).hs = false ∧ (c.gd.legs[k]).ls = false

/-- The gates rest on the legs alone. -/
theorem gatesLow_of_legs {c y : Channel} (h : y.gd.legs = c.gd.legs) (hc : c.GatesLow) : y.GatesLow := by
  intro k
  rw [h]
  exact hc k

theorem allGatesOff_low : (c.allGatesOff t).GatesLow := by
  intro k
  have hleg : (c.allGatesOff t).gd.legs[k] = { c.gd.legs[k].turnOff t with sto := .none } := by
    simp [Channel.allGatesOff, Channel.mapLegs]
  rw [hleg]
  exact turnOff_gates t c.gd.legs[k]

/-- Lanes that fall turn no gate on (R176). -/
theorem gatesOff_low {c : Channel} (h : c.GatesLow) (t : Nat) (g : Grp) : (c.gatesOff t g).GatesLow := by
  intro k
  have hleg : (c.gatesOff t g).gd.legs[k] =
      if inGrp g k then
        (if (c.gd.legs[k]).sto = .none then { (c.gd.legs[k]).turnOff t with enable := false }
         else { c.gd.legs[k] with enable := false })
      else c.gd.legs[k] := by
    simp [Channel.gatesOff, Channel.mapLegs]
  rw [hleg]
  split
  · split
    · exact turnOff_gates t c.gd.legs[k]
    · exact h k
  · exact h k

/-- The gates and the supply of a cut (R57). -/
def Channel.cutGates (c : Channel) (t : Nat) : Channel :=
  let x := (c.allGatesOff t).bchCut
  { x with sup := { x.sup with ov := true, ovAt := t, cutOver := false }
           gd := { x.gd with gateSupply := false, asc := false, ascLowAt := none } }

theorem cutGates_frame : let y := c.cutGates t
    y.sup = { c.sup with ov := true, ovAt := t, cutOver := false } ∧ y.gd.gateSupply = false ∧ y.gd.asc = false ∧
      y.sd = c.sd ∧ y.ad = c.ad ∧ y.GatesLow := 
  ⟨rfl, rfl, rfl, rfl, rfl, gatesLow_of_legs (c := c.allGatesOff t) rfl (allGatesOff_low c t)⟩

/-- The steering drive at a cut (R57, R177). -/
def Channel.cutSteer (c : Channel) (t : Nat) : Channel :=
  if c.sd.st = .off then c.pis t false
  else { c.sdOff t with sd := { (c.sdOff t).sd with ovWait := true, lastLeave := 6 } }

/-- The auxiliary drive at a cut, once it is judged (R57, R206). -/
def Channel.cutAux (c : Channel) (t : Nat) : Channel :=
  if c.ad.st = .off || c.ad.st = .fault then c
  else { c.adIdle t .coast with ad := { (c.adIdle t .coast).ad with ovWait := true } }

theorem ovEnter_eq : c.ovEnter t = (((c.cutGates t).cutSteer t).adTakeBack t).cutAux t := rfl

/-- What the drives' parts of a cut leave of what it has done to the supply and the gates. -/
structure Channel.CutKept (c y : Channel) : Prop where
  sup : y.sup = c.sup
  gate : y.gd.gateSupply = c.gd.gateSupply
  asc : y.gd.asc = c.gd.asc
  low : c.GatesLow → y.GatesLow

theorem cutSteer_kept : c.CutKept (c.cutSteer t) := by
  unfold Channel.cutSteer
  split
  · exact ⟨rfl, rfl, rfl, id⟩
  · exact ⟨rfl, rfl, rfl, fun h => gatesLow_of_legs (c := c.gatesOff t .steer) rfl (gatesOff_low h t .steer)⟩

/-- The steering drive ends in OFF with PIS open; one that was not OFF waits for the end of the cut (R57, R177). -/
theorem cutSteer_sd : let y := c.cutSteer t
    y.ad = c.ad ∧ y.sd.pisClosed = false ∧ y.sd.st = .off ∧ (c.sd.st ≠ .off → y.sd.ovWait = true ∧ y.sd.lastLeave = 6) := by
  unfold Channel.cutSteer
  split
  · rename_i h
    exact ⟨rfl, rfl, h, fun hn => absurd h hn⟩
  · exact ⟨rfl, rfl, rfl, fun _ => ⟨rfl, rfl⟩⟩

/-- What an event of a higher row takes back is no part of the supply, the gates and the steering drive (R206). -/
theorem adTakeBack_kept : c.CutKept (c.adTakeBack t) ∧ (c.adTakeBack t).sd = c.sd := by
  unfold Channel.adTakeBack
  split
  · split
    · exact ⟨⟨rfl, rfl, rfl, id⟩, rfl⟩
    · exact ⟨⟨rfl, rfl, rfl, id⟩, rfl⟩
  · exact ⟨⟨rfl, rfl, rfl, id⟩, rfl⟩

/-- What is taken back of the auxiliary drive rests on it alone. -/
theorem adTakeBack_ad {c y : Channel} (h : y.ad = c.ad) (t : Nat) : (y.adTakeBack t).ad = (c.adTakeBack t).ad := by
  unfold Channel.adTakeBack
  rw [h]
  split
  · split
    · exact h
    · rfl
  · exact h

theorem cutAux_kept : c.CutKept (c.cutAux t) ∧ (c.cutAux t).sd = c.sd := by
  unfold Channel.cutAux
  split
  · exact ⟨⟨rfl, rfl, rfl, id⟩, rfl⟩
  · exact ⟨⟨rfl, rfl, rfl, fun h => gatesLow_of_legs (c := c.gatesOff t .aux) rfl (gatesOff_low h t .aux)⟩, rfl⟩

theorem cutAux_of_on {c : Channel} (ho : c.ad.st ≠ .off) (hf : c.ad.st ≠ .fault) (t : Nat) :
    (c.cutAux t).ad.st = .coast ∧ (c.cutAux t).ad.ovWait = true := by
  have hy : c.cutAux t = _ := if_neg (by simp [ho, hf])
  rw [hy]
  exact ⟨rfl, rfl⟩

/-- OV_CUT_ENTER (R57). -/
theorem ovEnter_cuts : let y := c.ovEnter t
    y.sup = { c.sup with ov := true, ovAt := t, cutOver := false } ∧ y.gd.gateSupply = false ∧ y.gd.asc = false ∧
      y.sd.pisClosed = false ∧ y.sd.st = .off ∧ (c.sd.st ≠ .off → y.sd.ovWait = true ∧ y.sd.lastLeave = 6) ∧
      ((c.adTakeBack t).ad.st ≠ .off → (c.adTakeBack t).ad.st ≠ .fault → y.ad.st = .coast ∧ y.ad.ovWait = true) ∧
      y.GatesLow := by
  intro y
  have hy : y = (((c.cutGates t).cutSteer t).adTakeBack t).cutAux t := ovEnter_eq c t
  obtain ⟨hsup, hgate, hasc, hsd, had, hlow⟩ := cutGates_frame c t
  clear_value y
  subst hy
  generalize c.cutGates t = g at hsup hgate hasc hsd had hlow ⊢
  have hd := cutSteer_kept g t
  obtain ⟨hdad, hpis, hoff, hwait⟩ := cutSteer_sd g t
  obtain ⟨hb, hbsd⟩ := adTakeBack_kept (g.cutSteer t) t
  have hbad := adTakeBack_ad (hdad.trans had) t
  obtain ⟨hx, hxsd⟩ := cutAux_kept ((g.cutSteer t).adTakeBack t) t
  rw [hxsd, hbsd, ← hbad, ← hsd]
  exact ⟨(hx.sup.trans (hb.sup.trans hd.sup)).trans hsup, (hx.gate.trans (hb.gate.trans hd.gate)).trans hgate,
    (hx.asc.trans (hb.asc.trans hd.asc)).trans hasc, hpis, hoff, hwait, fun ho hf => cutAux_of_on ho hf t,
    hx.low (hb.low (hd.low hlow))⟩

end Cut

section Return
variable (c : Channel) (t : Nat)

/-- What the steps of an entry to CLOSING keep: the supply, the auxiliary drive, the state and PIS. -/
structure Channel.ClosingKept (c y : Channel) : Prop where
  sup : y.sup = c.sup
  gate : y.gd.gateSupply = c.gd.gateSupply
  ad : y.ad = c.ad
  st : y.sd.st = c.sd.st
  pis : y.sd.pisClosed = c.sd.pisClosed

namespace Channel.ClosingKept
variable {c y z : Channel}

theorem refl (c : Channel) : c.ClosingKept c := ⟨rfl, rfl, rfl, rfl, rfl⟩

theorem trans (h : c.ClosingKept y) (k : y.ClosingKept z) : c.ClosingKept z :=
  ⟨k.sup.trans h.sup, k.gate.trans h.gate, k.ad.trans h.ad, k.st.trans h.st, k.pis.trans h.pis⟩

end Channel.ClosingKept

theorem raise_closingKept (l : Fin 62) (d : BitVec 16) : c.ClosingKept (c.raise l d) := by
  obtain ⟨r, h⟩ := raise_eq c l d
  rw [h]
  exact ⟨rfl, rfl, rfl, rfl, rfl⟩

theorem announce_closingKept (r : AnnReq) : c.ClosingKept (c.announce t r) := by
  unfold Channel.announce
  split
  · exact ⟨rfl, rfl, rfl, rfl, rfl⟩
  · dsimp only
    split <;> exact ⟨rfl, rfl, rfl, rfl, rfl⟩

/-- A hall edge's angle and instant; stated of any angle, since the kernel would compute the one that is stored. -/
theorem edge_closingKept (a : Word) (n : Nat) :
    c.ClosingKept { c with sd := { c.sd with hallEdge := a, hallEdgeT := n } } := ⟨rfl, rfl, rfl, rfl, rfl⟩

theorem encFault_closingKept : c.ClosingKept c.encFault := by
  unfold Channel.encFault
  split
  · exact .refl c
  · have hedge : c.ClosingKept c.fromEdge := by
      unfold Channel.fromEdge
      split
      · exact edge_closingKept c _ _
      · exact .refl c
    exact (hedge.trans (raise_closingKept c.fromEdge 15 0)).trans ⟨rfl, rfl, rfl, rfl, rfl⟩

theorem disarmEs_closingKept (k : Fin 8) : c.ClosingKept (c.disarmEs k) := ⟨rfl, rfl, rfl, rfl, rfl⟩

theorem esTake_closingKept : c.ClosingKept c.esTake := by
  unfold Channel.esTake
  split
  · exact (((disarmEs_closingKept c 0).trans (disarmEs_closingKept _ 1)).trans (disarmEs_closingKept _ 2)).trans
      (disarmEs_closingKept _ 3)
  · exact .refl c

/-- Entry to CLOSING with PIS closed; the supply and the auxiliary drive stay (R177). -/
theorem sdClosing_closes : let y := c.sdClosing t
    y.sup = c.sup ∧ y.gd.gateSupply = c.gd.gateSupply ∧ y.ad = c.ad ∧ y.sd.st = .closing ∧ y.sd.pisClosed = true := by
  intro y
  have hy : y = c.sdClosing t := rfl
  clear_value y
  unfold Channel.sdClosing at hy
  extract_lets a centre b d e f g at hy
  have he : e.sup = c.sup ∧ e.gd.gateSupply = c.gd.gateSupply ∧ e.ad = c.ad ∧ e.sd.st = .closing ∧
      e.sd.pisClosed = true := ⟨rfl, rfl, rfl, rfl, rfl⟩
  have hcodes : e.ClosingKept (e.bchFollow.leaveOffCodes .steer) := ⟨rfl, rfl, rfl, rfl, rfl⟩
  have hg : e.ClosingKept g := (hcodes.trans (esTake_closingKept _)).trans (announce_closingKept f t .join)
  have hk : e.ClosingKept y := by
    rw [hy]
    split
    · exact hg
    · exact hg.trans (encFault_closingKept g)
  obtain ⟨hsup, hgate, had, hst, hpis⟩ := he
  exact ⟨hk.sup.trans hsup, hk.gate.trans hgate, hk.ad.trans had, hk.st.trans hst, hk.pis.trans hpis⟩

/-- The steering drive at the end of a cut (R58, R177, R249). -/
def Channel.backSteer (c : Channel) (t : Nat) : Channel :=
  if !c.sd.ovWait then c
  else if c.gd.grpS.testBusy then { c with sd := { c.sd with ovWait := false, pendEnable := true } }
  else c.sdClosing t

/-- The auxiliary drive at the end of a cut (R58, R206). -/
def Channel.backAux (c : Channel) (t : Nat) : Channel :=
  if c.ad.ovWait then { c.adIdle t .catch with ad := { (c.adIdle t .catch).ad with ovWait := false } } else c

/-- The supply at the end of a cut within 100 ms (R58). -/
def Channel.cutEnded (c : Channel) (t : Nat) : Channel :=
  { c with sup := { c.sup with ov := false, ramp := true, rampAt := t, ovCnt := satInc c.sup.ovCnt },
           gd := { c.gd with gateSupply := true } }

theorem ovExit_eq : c.ovExit t =
    (((c.cutEnded t).backSteer t).backAux t).logEv t 2 2 [put 16 ((t - c.sup.ovAt) / 100000)] := rfl

theorem backSteer_sd : let y := c.backSteer t
    (y.sup = c.sup ∧ y.gd.gateSupply = c.gd.gateSupply ∧ y.ad = c.ad) ∧
      (c.sd.ovWait = true → c.gd.grpS.testBusy = false → y.sd.st = .closing ∧ y.sd.pisClosed = true) ∧
      (c.sd.ovWait = true → c.gd.grpS.testBusy = true → y.sd = { c.sd with ovWait := false, pendEnable := true }) ∧
      (c.sd.ovWait = false → y.sd = c.sd) := by
  unfold Channel.backSteer
  cases hw : c.sd.ovWait with
  | false => exact ⟨⟨rfl, rfl, rfl⟩, nofun, nofun, fun _ => rfl⟩
  | true =>
    cases hb : c.gd.grpS.testBusy with
    | true => exact ⟨⟨rfl, rfl, rfl⟩, nofun, fun _ _ => rfl, nofun⟩
    | false =>
      obtain ⟨hsup, hgate, had, hst, hpis⟩ := sdClosing_closes c t
      exact ⟨⟨hsup, hgate, had⟩, fun _ _ => ⟨hst, hpis⟩, nofun, nofun⟩

theorem backAux_frame : let y := c.backAux t
    y.sup = c.sup ∧ y.gd.gateSupply = c.gd.gateSupply ∧ y.sd = c.sd ∧
      (c.ad.ovWait = true → y.ad.st = .catch ∧ y.ad.ovWait = false) := by
  unfold Channel.backAux
  cases c.ad.ovWait with
  | false => exact ⟨rfl, rfl, rfl, nofun⟩
  | true => exact ⟨rfl, rfl, rfl, fun _ => ⟨rfl, rfl⟩⟩

/-- OV_CUT_EXIT within 100 ms (R58). -/
theorem ovExit_returns : let y := c.ovExit t
    y.sup = { c.sup with ov := false, ramp := true, rampAt := t, ovCnt := satInc c.sup.ovCnt } ∧
      y.gd.gateSupply = true ∧
      (c.sd.ovWait = true → c.gd.grpS.testBusy = false → y.sd.st = .closing ∧ y.sd.pisClosed = true) ∧
      (c.sd.ovWait = true → c.gd.grpS.testBusy = true → y.sd = { c.sd with ovWait := false, pendEnable := true }) ∧
      (c.sd.ovWait = false → y.sd = c.sd) ∧ (c.ad.ovWait = true → y.ad.st = .catch ∧ y.ad.ovWait = false) := by
  intro y
  obtain ⟨⟨hsup, hgate, had⟩, hclose, hheld, hstay⟩ := backSteer_sd (c.cutEnded t) t
  obtain ⟨hsup', hgate', hsd', hcatch⟩ := backAux_frame ((c.cutEnded t).backSteer t) t
  have hy : y = _ := ovExit_eq c t
  clear_value y
  rw [hy, logEv_sup, logEv_gd, logEv_sd, logEv_ad, hsup', hgate', hsd', hsup, hgate]
  rw [had] at hcatch
  exact ⟨rfl, rfl, hclose, hheld, hstay, hcatch⟩

/-- The auxiliary drive's wait ends with a cut of 100 ms (R58, R206). -/
def Channel.endWait (c : Channel) (t : Nat) : Channel := if c.ad.ovWait then c.adOff t else c

theorem endWait_frame : let y := c.endWait t
    y.sup = c.sup ∧ y.sd = c.sd ∧ y.fcl = c.fcl ∧ y.ad.ovWait = false := by
  unfold Channel.endWait
  cases h : c.ad.ovWait with
  | false => exact ⟨rfl, rfl, rfl, h⟩
  | true => exact ⟨rfl, rfl, rfl, rfl⟩

/-- A cut reaches 100 ms: SUP, the request of ISOLATED, and no drive waits (R58). -/
theorem cutExpire_of_first (h : c.sup.cutOver = false) : let y := c.cutExpire t
    y.sup = { c.sup with iso := true, cutOver := true } ∧ y.fcl.raised.contains (3, 0) = true ∧ y.sd.ovWait = false ∧
      y.ad.ovWait = false := by
  intro y
  let x : Channel := { c with sup := { c.sup with iso := true, cutOver := true }, sd := { c.sd with ovWait := false } }
  have hy : y = (x.endWait t).raise 3 := if_neg (by simp [h])
  obtain ⟨hsup, hsd, -, had⟩ := endWait_frame x t
  obtain ⟨r, hr⟩ := raise_eq (x.endWait t) 3 0
  have hraised := raise_self (x.endWait t) 3 0
  rw [hy]
  refine ⟨by rw [hr]; exact hsup, List.contains_iff_mem.mpr hraised, ?_, by rw [hr]; exact had⟩
  rw [hr]
  exact congrArg Sd.ovWait hsd

theorem cutExpire_of_over (h : c.sup.cutOver = true) : c.cutExpire t = c := if_pos h

/-- OV_CUT_EXIT of a cut of 100 ms or more (R58). -/
theorem ovLate_ends : let y := c.ovLate t
    y.sup.ov = false ∧ y.sup.ramp = c.sup.ramp ∧ y.sup.ovCnt = c.sup.ovCnt ∧ y.gd.gateSupply = true ∧
      (c.sup.cutOver = false → y.sup.iso = true ∧ y.fcl.raised.contains (3, 0) = true ∧ y.sd.ovWait = false ∧
        y.ad.ovWait = false) := by
  intro y
  have hy : y = { c.cutExpire t with sup := { (c.cutExpire t).sup with ov := false }
                                     gd := { (c.cutExpire t).gd with gateSupply := true } } := rfl
  cases h : c.sup.cutOver with
  | true =>
    rw [cutExpire_of_over c t h] at hy
    rw [hy]
    exact ⟨rfl, rfl, rfl, rfl, nofun⟩
  | false =>
    obtain ⟨hsup, hraised, hsd, had⟩ := cutExpire_of_first c t h
    rw [hy, hsup]
    exact ⟨rfl, rfl, rfl, rfl, fun _ => ⟨rfl, hraised, hsd, had⟩⟩

/-- The end of a cut that a running channel knows of, by its age (R47, R58). -/
theorem ovFall_of_cut {c : Channel} {t : Nat} (ha : c.alive = true) (hov : c.sup.ov = true) :
    c.ovFall t = if t < c.sup.ovAt + msec 100 then c.ovExit t else c.ovLate t :=
  (if_neg (by simp [ha])).trans (if_neg (by simp [hov]))

end Return

/-- Settles O44: each command in turn, by the state of the warning or the cut and its age. -/
theorem supplyWarningsAndCuts : Obligations.SupplyWarningsAndCuts := by
  intro s l ha c
  have warnEnters {P : Channel → Prop} (hP : P (c.warnEnter l.t)) : s.chGets (.vsupWarnEnter l) l.ch P := ⟨_, rfl, hP⟩
  have warnExits {P : Channel → Prop} (hP : P (c.warnExit l.t)) : s.chGets (.vsupWarnExit l) l.ch P := ⟨_, rfl, hP⟩
  have cutEnters {P : Channel → Prop} (hP : P (c.ovRise l.t)) : s.chGets (.ovCutEnter l) l.ch P := ⟨_, rfl, hP⟩
  have cutExits {P : Channel → Prop} (hP : P (c.ovFall l.t)) : s.chGets (.ovCutExit l) l.ch P := ⟨_, rfl, hP⟩
  refine ⟨fun hh hw => warnEnters (warnEnter_of_above c l.t ha hh hw),
    fun h => warnEnters (warnEnter_of_warned c l.t ha h),
    fun hh => warnExits (warnExit_of_hold c l.t ha hh),
    fun hh hw => warnExits ?_,
    fun hh hw => warnExits (warnExit_of_above c l.t ha hh hw),
    fun hw hover hr => chGets_when (i := .rideLimit l) (hi := rfl) ?_ ?_,
    fun hr => chGets_skip (i := .rideLimit l) (hi := rfl) ?_ rfl,
    fun e hw he => ⟨fun hle => chGets_when (i := .rideClear l) (hi := rfl) ?_ rfl,
      fun hlt => chGets_skip (i := .rideClear l) (hi := rfl) ?_ rfl⟩,
    fun hramp hle => chGets_when (i := .limitRampEnd l) (hi := rfl) ?_ rfl,
    fun hov => cutEnters ?_,
    fun hov => cutEnters ((if_pos ha).trans (if_pos hov)),
    fun hov hlt => cutExits ?_,
    fun hov hfirst hle => chGets_when (i := .ovCutTimeout l) (hi := rfl) ?_ (cutExpire_of_first c l.t hfirst),
    fun hov hle => cutExits ?_,
    fun hlt => chGets_skip (i := .ovCutTimeout l) (hi := rfl) ?_ rfl⟩
  · rcases Nat.lt_or_ge (c.sup.acc + (l.t - c.sup.warnAt)) (msec 100) with hr | hr
    · obtain ⟨hsup, hrst, hlog⟩ := warnExit_of_ridden ha hh hw hr
      rw [Channel.deferring, hsup, hrst, hlog]
      exact ⟨rfl, rfl, rfl, hh, rfl, rfl, fun _ => ⟨decide_eq_true hr, rfl, rfl⟩, fun hle => absurd hr (Nat.not_lt.mpr hle)⟩
    · obtain ⟨⟨i, hsup⟩, hrst, hlog, hfirst⟩ := warnExit_of_over ha hh hw hr
      rw [Channel.deferring, hrst, hlog]
      refine ⟨by rw [hsup]; rfl, by rw [hsup]; rfl, by rw [hsup]; rfl, by rw [hsup]; exact hh, rfl, rfl,
        fun hlt => absurd hr (Nat.not_le.mpr hlt), fun _ => ⟨?_, by rw [hsup]; rfl, by rw [hsup], hfirst⟩⟩
      rw [hsup]
      exact decide_eq_false (Nat.not_lt.mpr hr)
  · simpa [ha, show (s.ch l.ch).sup.warn = true from hw] using hr
  · exact (rideReached_of_first hover).symm
  · exact Bool.and_eq_false_iff.mpr (.inr (decide_eq_false (Nat.not_le.mpr hr)))
  · simp [ha, show (s.ch l.ch).sup.warn = false from hw, show (s.ch l.ch).sup.exitAt = some e from he, hle]
  · simp [show (s.ch l.ch).sup.exitAt = some e from he, hlt]
  · simp [ha, show (s.ch l.ch).sup.ramp = true from hramp, show (s.ch l.ch).sup.rampAt + _ ≤ l.t from hle]
  · rw [show c.ovRise l.t = c.ovEnter l.t from (if_pos ha).trans (if_neg (by simp [hov]))]
    exact ovEnter_cuts c l.t
  · rw [ovFall_of_cut ha hov, if_pos hlt]
    exact ovExit_returns c l.t
  · simp [ha, show (s.ch l.ch).sup.ov = true from hov, show (s.ch l.ch).sup.ovAt + _ ≤ l.t from hle]
  · rw [ovFall_of_cut ha hov, if_neg (Nat.not_lt.mpr hle)]
    exact ovLate_ends c l.t
  · simp [show l.t < (s.ch l.ch).sup.ovAt + _ from hlt]

end Sys2Proof.Machine
end

section
/-! PROOF. CoreResetsAndBoot (O46): a reset of a released core, the failed trial, the interconnect test and boot
verification (R61, R65, R66, R104, R457, R496, R497, R524, R537). The cause of a failed trial's reset is open (log entry
21). -/

namespace Sys2Proof.Machine

-- One proof after another: with each in a thread of its own the joined text nears the check's memory limit.
set_option Elab.async false

section Request
variable {c : Channel} {q : ResetReq}

/-- A reset that enters where none is held records its own cause alone (R61, R63, R82). -/
theorem enterReset_first (h : c.heldReset = false) : let y := c.enterReset q
    y.rst.cause = setBit 0 q.cause.bit true ∧ (q.cause = .command → y.rst.cmdPort = q.port) ∧
      (q.line = none → y.rst.lineValid = false) ∧
      y.rst.full = (q.full || (c.rst.phase != .run && c.rst.phase != .recovery && c.rst.phase != .interconnect &&
        c.rst.phase != .verify && c.rst.full)) := by
  intro y
  have hy : y = c.enterReset q := rfl
  clear_value y
  simp only [Channel.enterReset, h, Bool.false_eq_true, if_false, if_true] at hy
  subst hy
  cases hl : q.line with
  | none => exact ⟨rfl, fun hc => if_pos hc, fun _ => rfl, rfl⟩
  | some k => exact ⟨rfl, fun hc => if_pos hc, nofun, rfl⟩

/-- With the MRAM writer at rest and no other reset waiting, a requested reset takes effect (R61). -/
theorem requestReset_of_idle (hb : c.nv.busy = false) (hp : c.rst.pend = []) :
    c.requestReset q = (({ c with rst := { c.rst with pend := [q] } } : Channel).enterReset q).sequence := by
  have h : c.requestReset q = _ := if_neg (by simp [hb])
  rw [h]
  simp only [Channel.pendingReset, hp, List.nil_append, List.foldl]

/-- While an MRAM attempt runs, a requested reset waits (R61). -/
theorem requestReset_of_busy (hb : c.nv.busy = true) :
    c.requestReset q = { c with rst := { c.rst with pend := c.rst.pend ++ [q] } } := if_pos hb

theorem heldReset_of_alive (ha : c.alive = true) : c.heldReset = false := by
  unfold Channel.alive at ha
  cases hp : c.rst.phase <;> simp [Channel.heldReset, hp] at ha ⊢

/-- A short reset of a released core, which neither pin nor supply holds, leads to the interconnect test (R61, R64). -/
theorem requestReset_of_alive (ha : c.alive = true) (hb : c.nv.busy = false) (hpin : c.rst.pinLow = false)
    (hsup : c.rst.supLow = false) (hp : c.rst.pend = []) (hq : q.full = false) : let y := c.requestReset q
    y.rst.phase = .interconnect ∧ y.rst.cause = setBit 0 q.cause.bit true ∧
      (q.cause = .command → y.rst.cmdPort = q.port) ∧ y.rst.pend = [] := by
  intro y
  let x : Channel := { c with rst := { c.rst with pend := [q] } }
  have he := enterReset_entered x q
  obtain ⟨hcause, hport, -, hfull⟩ := enterReset_first (c := x) (q := q) (heldReset_of_alive ha)
  have hshort : (x.enterReset q).rst.full = false := by
    rw [hfull, hq]
    rcases Bool.or_eq_true_iff.mp ha with h | h
    · simp [x, eq_of_beq h]
    · simp [x, eq_of_beq h]
  have hy : y = { x.enterReset q with rst := { (x.enterReset q).rst with phase := .interconnect } } := by
    have hseq := sequence_of_free he.phase (he.pinLow.trans hpin) (he.supLow.trans hsup)
    rw [hshort, if_neg Bool.false_ne_true] at hseq
    exact (requestReset_of_idle hb hp).trans hseq
  rw [hy]
  exact ⟨rfl, hcause, hport, he.pend⟩

end Request

section Trial

/-- A trial is over, and what has become of it stands: the banks and the report for the next boot (R497). -/
structure Channel.TrialKept (c y : Channel) : Prop where
  trial : y.sec.trial = false
  busy : y.nv.busy = false
  bank : ∀ k, y.nv.bank k = c.nv.bank k
  revert : y.nv.revert = c.nv.revert

variable {c : Channel}

theorem kept_trial (s : Sec) (q : ResetReq) : (s.kept q).trial = false := by
  unfold Sec.kept
  split <;> rfl

/-- A reset with no trial to fail and no attempt to cut leaves the banks alone (R61, R497). -/
theorem cut_banks {n : Nv} {s : Sec} (hb : n.busy = false) (ht : s.trial = false) (supply : Bool) :
    (∀ k, (n.cut s supply).bank k = n.bank k) ∧ (n.cut s supply).revert = n.revert := by
  have hjob : n.cutJob = n := by unfold Nv.cutJob; rw [hb]
  have htrial : n.trialFailed s supply = n := by unfold Nv.trialFailed; rw [if_neg (by simp [ht])]
  have hkeys : ∃ ks, n.keyCut s = { n with keys := ks } := by
    unfold Nv.keyCut
    split
    · exact ⟨_, rfl⟩
    · exact ⟨n.keys, rfl⟩
  obtain ⟨ks, hks⟩ := hkeys
  unfold Nv.cut
  rw [hjob, htrial, hks]
  exact ⟨fun k => by cases k <;> rfl, rfl⟩

theorem enterReset_trialKept (ht : c.sec.trial = false) (hb : c.nv.busy = false) (q : ResetReq) :
    c.TrialKept (c.enterReset q) := by
  obtain ⟨hbank, hrevert⟩ := cut_banks hb ht (q.cause == .supply || q.cause == .por)
  have hbase : (c.resetBase q).nv.busy = false ∧ (∀ k, (c.resetBase q).nv.bank k = c.nv.bank k) ∧
      (c.resetBase q).nv.revert = c.nv.revert := by
    unfold Channel.resetBase
    split
    · exact ⟨hb, fun _ => rfl, rfl⟩
    · exact ⟨rfl, hbank, hrevert⟩
  obtain ⟨hbusy, hbanks, hrev⟩ := hbase
  have hsec : (c.enterReset q).sec = c.sec.kept q := rfl
  obtain ⟨r, sec, image, he⟩ := enterReset_frame c q
  refine ⟨by rw [hsec]; exact kept_trial c.sec q, ?_, fun k => ?_, ?_⟩
  · rw [he]; exact hbusy
  · rw [he, ← hbanks k]; cases k <;> rfl
  · rw [he]; exact hrev

theorem foldl_trialKept (qs : List ResetReq) (ht : c.sec.trial = false) (hb : c.nv.busy = false) :
    c.TrialKept (qs.foldl (fun c q => c.enterReset q) c) := by
  induction qs generalizing c with
  | nil => exact ⟨ht, hb, fun _ => rfl, rfl⟩
  | cons q qs ih =>
    have hq := enterReset_trialKept ht hb q
    have hr := ih hq.trial hq.busy
    exact ⟨hr.trial, hr.busy, fun k => (hr.bank k).trans (hq.bank k), hr.revert.trans hq.revert⟩

theorem sequence_nv (c : Channel) : c.sequence.nv = c.nv ∧ c.sequence.sec = c.sec := by
  unfold Channel.sequence
  split
  · exact ⟨rfl, rfl⟩
  · split <;> exact ⟨rfl, rfl⟩

/-- A requested reset, at once or once the attempt has ended, leaves the banks of a trial that is over (R61, R497). -/
theorem requestReset_banks (ht : c.sec.trial = false) (q : ResetReq) : let y := c.requestReset q
    y.sec.trial = false ∧ (∀ k, y.nv.bank k = c.nv.bank k) ∧ y.nv.revert = c.nv.revert := by
  intro y
  cases hb : c.nv.busy with
  | true =>
    have hy : y = _ := requestReset_of_busy hb
    rw [hy]
    exact ⟨ht, fun _ => rfl, rfl⟩
  | false =>
    let x : Channel := { c with rst := { c.rst with pend := c.rst.pend ++ [q] } }
    have hk := foldl_trialKept (c := x) (c.rst.pend ++ [q]) ht hb
    obtain ⟨p, ps, hps⟩ := List.exists_cons_of_ne_nil (show c.rst.pend ++ [q] ≠ [] by simp)
    have hy : y = ((c.rst.pend ++ [q]).foldl (fun c q => c.enterReset q) x).sequence := by
      have h : y = x.pendingReset := if_neg (by simp [hb])
      simp only [h, Channel.pendingReset, x, hps]
    obtain ⟨hnv, hsec⟩ := sequence_nv ((c.rst.pend ++ [q]).foldl (fun c q => c.enterReset q) x)
    rw [hy, hnv, hsec]
    exact ⟨hk.trial, hk.bank, hk.revert⟩

theorem bank_revert (n : Nv) (r : Option (BitVec 64 × Bool)) (k : Bool) :
    ({ n with revert := r } : Nv).bank k = n.bank k := by cases k <;> rfl

/-- A trial fails: its bank is rejected, or VALID again after POR or SUPPLY, and the next boot reports it (R497). -/
theorem failTrial_rejects (ht : c.sec.trial = true) (t : Nat) : let y := c.failTrial t
    let back := c.trialCause t == Cause.por || c.trialCause t == Cause.supply
    y.sec.trial = false ∧ (y.nv.bank c.sec.booted).st = (if back then 2 else 5) ∧
      y.nv.revert = some (c.sec.fwVer, !back) := by
  intro y back
  let x : Channel := { c with nv := c.nv.trialFailed c.sec back, sec := { c.sec with trial := false } }
  obtain ⟨htrial, hbank, hrevert⟩ := requestReset_banks (c := x) rfl ⟨c.trialCause t, false, none, 0⟩
  have hn : x.nv = { c.nv.setBank c.sec.booted { c.nv.bank c.sec.booted with st := if back then 2 else 5 } with
      revert := some (c.sec.fwVer, !back) } := if_pos ht
  have hx : x.nv.bank c.sec.booted = { c.nv.bank c.sec.booted with st := if back then 2 else 5 } := by
    rw [hn, bank_revert, bank_setBank]
  refine ⟨htrial, ?_, hrevert.trans (by rw [hn])⟩
  rw [show y.nv.bank c.sec.booted = x.nv.bank c.sec.booted from hbank c.sec.booted, hx]

end Trial

section Interconnect

/-- What follows from failed parts leaves the reset domain and the management core's record of tests alone (R537). -/
structure Channel.PartsKept (c y : Channel) : Prop where
  rst : y.rst = c.rst
  mg : y.mg = c.mg

namespace Channel.PartsKept
variable {c y z : Channel}

theorem refl (c : Channel) : c.PartsKept c := ⟨rfl, rfl⟩

theorem trans (h : c.PartsKept y) (k : y.PartsKept z) : c.PartsKept z := ⟨k.rst.trans h.rst, k.mg.trans h.mg⟩

theorem raise (h : c.PartsKept y) (l : Fin 62) (d : BitVec 16) : c.PartsKept (y.raise l d) := by
  obtain ⟨r, hr⟩ := raise_eq y l d
  rw [hr]
  exact ⟨h.rst, h.mg⟩

theorem logEv (h : c.PartsKept y) (t a b : Nat) (d : List Word) : c.PartsKept (y.logEv t a b d) := by
  obtain ⟨_, _, _, _, hl⟩ := logEv_eq y t a b d
  rw [hl]
  exact ⟨h.rst, h.mg⟩

/-- A step that may follow, and that keeps the parts where it does. -/
theorem whenBit (h : c.PartsKept y) (bad : BitVec 15) (k : Nat) {f : Channel → Channel}
    (hf : ∀ c : Channel, c.PartsKept (f c)) : c.PartsKept (Machine.whenBit bad k f y) := by
  unfold Machine.whenBit
  split
  · exact h.trans (hf y)
  · exact h

end Channel.PartsKept

variable (c : Channel) (t : Nat)

theorem enterView_partsKept (k : Fin 24) : c.PartsKept (c.enterView k) := ⟨rfl, rfl⟩

theorem laneFault_partsKept : c.PartsKept c.laneFault := ⟨rfl, rfl⟩

theorem linkFails_partsKept (ch : Ch) : c.PartsKept (c.linkFails ch) := by
  have hpeer : c.PartsKept (c.setPeer ch { c.peer ch with failed := true }) := by cases ch <;> exact ⟨rfl, rfl⟩
  exact (hpeer.trans (enterView_partsKept _ (cclBit c.id ch))).raise 45 0

theorem laneFails_partsKept (w : Wid) : c.PartsKept (c.laneFails w) := by
  have hlane : c.PartsKept (c.setWi w { c.wi w with fault := true }) := by cases w <;> exact ⟨rfl, rfl⟩
  exact (hlane.raise 38 0).trans (laneFault_partsKept _)

theorem gdlFails_partsKept : c.PartsKept (c.gdlFails t) := by
  unfold Channel.gdlFails
  refine .raise ?_ 32 0
  exact ⟨rfl, rfl⟩

theorem linksFail_partsKept (bad : BitVec 15) : c.PartsKept (c.linksFail t bad) :=
  ((((((Channel.PartsKept.refl c).whenBit bad 0 fun c => gdlFails_partsKept c t).whenBit bad 1
    fun c => linkFails_partsKept c c.id.next).whenBit bad 2 fun c => linkFails_partsKept c c.id.prev).whenBit bad 3
    fun c => laneFails_partsKept c .w1).whenBit bad 4 fun c => laneFails_partsKept c .w2).whenBit bad 5
    (fun c => laneFails_partsKept c .w1) |>.whenBit bad 6 fun c => laneFails_partsKept c .w2

theorem gdTestStart_partsKept (g : Grp) : c.PartsKept (c.gdTestStart t g) := by
  cases g <;> exact ⟨rfl, rfl⟩

/-- INTERCONNECT_TEST_END (R65, R536). -/
theorem interconnectEnd_verify (failed : BitVec 15) (detail : BitVec 16) :
    let y := c.interconnectEnd t failed detail
    y.rst.phase = .verify ∧
      y.mg.powerup = (if failed &&& bistMask 1 = 0 then bistWord 1 2 0 else bistWord 1 3 detail) := by
  intro y
  let bad := failed &&& bistMask 1
  let word := if bad = 0 then bistWord 1 2 0 else bistWord 1 3 detail
  let x : Channel := { c with rst := { c.rst with phase := .verify }, mg := { c.mg with powerup := word } }
  let m := x.markParts (bistMask 1) bad (bad == 0)
  have hk : m.PartsKept y := ((linksFail_partsKept m t bad).trans ((gdTestStart_partsKept _ t .steer).trans
    (gdTestStart_partsKept _ t .aux))).logEv t 7 1 [word]
  exact ⟨congrArg Rst.phase hk.rst, congrArg Mg.powerup hk.mg⟩

end Interconnect

section Boot

/-- What the steps of a boot keep once it is known what it boots: the phase and the release, the hold of R66, the bank,
and a core that has stopped with the result of its self-test. -/
structure Channel.BootKept (c y : Channel) : Prop where
  phase : y.rst.phase = c.rst.phase
  relAt : y.rst.relAt = c.rst.relAt
  hold : y.rst.hold = c.rst.hold
  recovery : y.sec.recovery = c.sec.recovery
  booted : y.sec.booted = c.sec.booted
  selfFail : y.exe.selfFail = c.exe.selfFail
  stopped : c.exe.stopped = true → y.exe.stopped = true

namespace Channel.BootKept
variable {c y z : Channel}

theorem refl (c : Channel) : c.BootKept c := ⟨rfl, rfl, rfl, rfl, rfl, rfl, fun h => h⟩

theorem trans (h : c.BootKept y) (k : y.BootKept z) : c.BootKept z :=
  ⟨k.phase.trans h.phase, k.relAt.trans h.relAt, k.hold.trans h.hold, k.recovery.trans h.recovery,
    k.booted.trans h.booted, k.selfFail.trans h.selfFail, fun hs => k.stopped (h.stopped hs)⟩

theorem raise (h : c.BootKept y) (l : Fin 62) (d : BitVec 16) : c.BootKept (y.raise l d) := by
  obtain ⟨r, hr⟩ := raise_eq y l d
  rw [hr]
  exact h.trans ⟨rfl, rfl, rfl, rfl, rfl, rfl, fun h => h⟩

theorem logEv (h : c.BootKept y) (t a b : Nat) (d : List Word) : c.BootKept (y.logEv t a b d) := by
  obtain ⟨_, _, _, _, hl⟩ := logEv_eq y t a b d
  rw [hl]
  exact h.trans ⟨rfl, rfl, rfl, rfl, rfl, rfl, fun h => h⟩

/-- Steps that keep what a boot keeps do so one after another. -/
theorem foldl {α : Type} {f : Channel → α → Channel} (hf : ∀ (c : Channel) (e : α), c.BootKept (f c e))
    (es : List α) (c : Channel) : c.BootKept (es.foldl f c) := by
  induction es generalizing c with
  | nil => exact .refl c
  | cons e es ih => exact (hf c e).trans (ih (f c e))

end Channel.BootKept

variable (c : Channel) (t : Nat)

theorem porLatch_bootKept : c.BootKept c.porLatch := by
  unfold Channel.porLatch
  split <;> exact ⟨rfl, rfl, rfl, rfl, rfl, rfl, fun h => h⟩

theorem bootConfig_bootKept : c.BootKept (c.bootConfig t) := by
  unfold Channel.bootConfig
  split <;> exact ⟨rfl, rfl, rfl, rfl, rfl, rfl, fun h => h⟩

/-- A write of a parameter, to its working copy or in force. -/
theorem putW_bootKept (id : Nat) (v : Word) : c.BootKept ((c.putW id v).putA id v) :=
  ⟨rfl, rfl, rfl, rfl, rfl, rfl, fun h => h⟩

theorem bootLoop_bootKept (n : Fin 32) (prog : List Word) : c.BootKept (c.bootLoop n prog) := by
  unfold Channel.bootLoop
  extract_lets p x y
  have hx : c.BootKept x := by
    refine Channel.BootKept.foldl (fun c off => ?_) _ c
    dsimp only
    split
    · exact putW_bootKept c _ _
    · exact .refl c
  exact hx.trans ⟨rfl, rfl, rfl, rfl, rfl, rfl, fun h => h⟩

theorem bootLoops_bootKept (body : Option (List Word)) : c.BootKept (c.bootLoops t body) := by
  refine Channel.BootKept.foldl (fun c n => ?_) _ c
  split
  · exact bootLoop_bootKept c n _
  · exact .refl c

theorem bootTables_bootKept (body : Option (List Word)) : c.BootKept (c.bootTables t body) := by
  unfold Channel.bootTables
  dsimp only
  split <;> exact ⟨rfl, rfl, rfl, rfl, rfl, rfl, fun h => h⟩

theorem logReset_bootKept : c.BootKept (c.logReset t) := by
  unfold Channel.logReset
  exact (Channel.BootKept.refl c).logEv t 3 1 _

theorem logReject_bootKept (b : Bool) : c.BootKept (Channel.logReject t c b) := by
  unfold Channel.logReject
  exact (Channel.BootKept.refl c).logEv t 5 3 _

theorem logRevert_bootKept : c.BootKept (c.logRevert t) := by
  unfold Channel.logRevert
  split
  · exact .refl c
  · rename_i v rejected _
    have hnv : c.BootKept { c with nv := { c.nv with revert := none } } := ⟨rfl, rfl, rfl, rfl, rfl, rfl, fun h => h⟩
    have hlog := (hnv.raise 60 0).logEv t 5 2 [(v >>> 32).setWidth 32, v.setWidth 32]
    dsimp only
    split
    · exact hlog.logEv t 5 3 _
    · exact hlog

theorem bootGrant_bootKept : c.BootKept (c.bootGrant t) := by
  unfold Channel.bootGrant
  extract_lets policy lost r u x
  have hlost : c.BootKept lost := by
    simp only [lost]
    split
    · exact (Channel.BootKept.refl c).logEv t 6 3 _
    · exact .refl c
  have hx : c.BootKept x := hlost.trans ⟨rfl, rfl, rfl, rfl, rfl, rfl, fun h => h⟩
  split
  · exact hx
  · split
    · rename_i kept u n z _ _ _ _ _
      have hsec : z.sec.recovery = x.sec.recovery ∧ z.sec.booted = x.sec.booted := by
        simp only [z]
        split <;> exact ⟨rfl, rfl⟩
      obtain ⟨hrecovery, hbooted⟩ := hsec
      have hz : x.BootKept z := ⟨rfl, rfl, rfl, hrecovery, hbooted, rfl, fun h => h⟩
      exact (hx.trans hz).logEv t 6 3 _
    · split
      · exact hx.trans ⟨rfl, rfl, rfl, rfl, rfl, rfl, fun h => h⟩
      · exact hx

/-- What boot verification loads, with the hold of R66 set first. -/
theorem bootLoad_bootKept (low : Bool) (bad : List Bool) :
    ({ c with nv := c.nv.makeKey, rst := { c.rst with hold := low || c.rst.belowWarn
                                                      belowWarn := low || c.rst.belowWarn } } : Channel).BootKept
      (c.bootLoad t low bad) := by
  unfold Channel.bootLoad
  extract_lets lw r x y z
  have hx : Channel.BootKept _ x := (porLatch_bootKept _).trans (bootConfig_bootKept _ t)
  have hy : x.BootKept y := (bootLoops_bootKept x t x.bodyNow).trans (bootTables_bootKept _ t x.bodyNow)
  have hz : y.BootKept z := (logReset_bootKept y t).trans
    (Channel.BootKept.foldl (fun c b => logReject_bootKept c t b) bad (y.logReset t))
  exact ((hx.trans hy).trans hz).trans ((logRevert_bootKept z t).trans (bootGrant_bootKept _ t))

theorem isolateNow_bootKept : c.BootKept (c.isolateNow t) := by
  obtain ⟨_, _, _, _, _, h⟩ := setRole_eq c t .isolated
  unfold Channel.isolateNow
  rw [h]
  exact ⟨rfl, rfl, rfl, rfl, rfl, rfl, fun _ => rfl⟩

theorem bootLatch_bootKept : c.BootKept (c.bootLatch t) := by
  unfold Channel.bootLatch
  split
  · refine .trans ?_ (isolateNow_bootKept _ t)
    exact ⟨rfl, rfl, rfl, rfl, rfl, rfl, fun h => h⟩
  · exact .refl c

/-- The comparator self-test leaves the rest of a boot alone; one that fails stops the core (R104). -/
theorem bootSelfTest_stops (ok : Bool) : let y := c.bootSelfTest t ok
    (y.rst.phase = c.rst.phase ∧ y.rst.relAt = c.rst.relAt ∧ y.rst.hold = c.rst.hold ∧
      y.sec.recovery = c.sec.recovery ∧ y.sec.booted = c.sec.booted) ∧
      (ok = false → y.exe.selfFail = true ∧ y.exe.stopped = true) := by
  cases ok with
  | true => exact ⟨⟨rfl, rfl, rfl, rfl, rfl⟩, nofun⟩
  | false =>
    let x : Channel := { c with exe := { c.exe with selfFail := true } }
    have hk : x.BootKept (c.bootSelfTest t false) ∧ (c.bootSelfTest t false).exe.stopped = true := by
      by_cases hs : c.exe.stopped = true
      · have hy : c.bootSelfTest t false = x := if_pos hs
        rw [hy]
        exact ⟨.refl x, hs⟩
      · have hy : c.bootSelfTest t false = x.isolateNow t := if_neg hs
        rw [hy]
        exact ⟨isolateNow_bootKept x t, by rw [(isolateNow_frame x t).1]⟩
    obtain ⟨hx, hstop⟩ := hk
    exact ⟨⟨hx.phase, hx.relAt, hx.hold, hx.recovery, hx.booted⟩, fun _ => ⟨hx.selfFail, hstop⟩⟩

theorem netStart_bootKept : c.BootKept (c.netStart t) := ⟨rfl, rfl, rfl, rfl, rfl, rfl, fun h => h⟩

theorem resume_bootKept (img : TcmImage) : c.BootKept (c.resume t img) := by
  unfold Channel.resume
  extract_lets e p x y
  have hx : c.BootKept x := ⟨rfl, rfl, rfl, rfl, rfl, rfl, fun h => h⟩
  refine Channel.BootKept.logEv ?_ t 4 3 _
  simp only [y]
  split
  · exact hx.trans (netStart_bootKept x t)
  · exact hx

theorem bootImage_bootKept : c.BootKept (c.bootImage t) := by
  unfold Channel.bootImage
  extract_lets old n x
  have hx : c.BootKept x := ⟨rfl, rfl, rfl, rfl, rfl, rfl, fun h => h⟩
  clear_value old
  cases old with
  | none => exact hx
  | some img =>
    dsimp only
    split
    · exact hx
    · split
      · exact hx.raise 8 0
      · split
        · exact hx.trans (resume_bootKept x t img)
        · exact hx

/-- What a cut of the drives leaves alone: the core, the reset domain, MRAM, the security unit and the power states. -/
structure Channel.CoreKept (c y : Channel) : Prop where
  rst : y.rst = c.rst
  exe : y.exe = c.exe
  sec : y.sec = c.sec
  nv : y.nv = c.nv
  pwr : y.pwr = c.pwr

theorem Channel.CoreKept.trans {c y z : Channel} (h : c.CoreKept y) (k : y.CoreKept z) : c.CoreKept z :=
  ⟨k.rst.trans h.rst, k.exe.trans h.exe, k.sec.trans h.sec, k.nv.trans h.nv, k.pwr.trans h.pwr⟩

theorem adTakeBack_coreKept : c.CoreKept (c.adTakeBack t) := by
  unfold Channel.adTakeBack
  split
  · split <;> exact ⟨rfl, rfl, rfl, rfl, rfl⟩
  · exact ⟨rfl, rfl, rfl, rfl, rfl⟩

theorem mapLegs_coreKept (f : Fin 6 → Leg → Leg) : c.CoreKept (c.mapLegs f) := ⟨rfl, rfl, rfl, rfl, rfl⟩

theorem bchCut_coreKept : c.CoreKept c.bchCut := ⟨rfl, rfl, rfl, rfl, rfl⟩

theorem pis_coreKept (on : Bool) : c.CoreKept (c.pis t on) := ⟨rfl, rfl, rfl, rfl, rfl⟩

theorem sdOff_coreKept : c.CoreKept (c.sdOff t) := by
  unfold Channel.sdOff
  extract_lets x
  have hpis : c.CoreKept ((c.gatesOff t .steer).pis t false) := (mapLegs_coreKept c _).trans (pis_coreKept _ t false)
  have hx : c.CoreKept x := hpis.trans ⟨rfl, rfl, rfl, rfl, rfl⟩
  clear_value x
  exact hx.trans ⟨rfl, rfl, rfl, rfl, rfl⟩

theorem cutGates_coreKept : c.CoreKept (c.cutGates t) := by
  unfold Channel.cutGates
  extract_lets x
  have hx : c.CoreKept x := (mapLegs_coreKept c _).trans (bchCut_coreKept _)
  clear_value x
  exact hx.trans ⟨rfl, rfl, rfl, rfl, rfl⟩

theorem cutSteer_coreKept : c.CoreKept (c.cutSteer t) := by
  unfold Channel.cutSteer
  split
  · exact pis_coreKept c t false
  · have hoff := sdOff_coreKept c t
    generalize c.sdOff t = x at hoff ⊢
    exact hoff.trans ⟨rfl, rfl, rfl, rfl, rfl⟩

theorem cutAux_coreKept : c.CoreKept (c.cutAux t) := by
  unfold Channel.cutAux
  split <;> exact ⟨rfl, rfl, rfl, rfl, rfl⟩

theorem ovEnter_coreKept : c.CoreKept (c.ovEnter t) := by
  rw [ovEnter_eq]
  exact (((cutGates_coreKept c t).trans (cutSteer_coreKept _ t)).trans (adTakeBack_coreKept _ t)).trans
    (cutAux_coreKept _ t)

variable {c} in
theorem Channel.CoreKept.bootKept {y : Channel} (h : c.CoreKept y) : c.BootKept y := by
  obtain ⟨hrst, hexe, hsec, -, -⟩ := h
  exact ⟨by rw [hrst], by rw [hrst], by rw [hrst], by rw [hsec], by rw [hsec], by rw [hexe], fun hs => by rwa [hexe]⟩

theorem ovAtRelease_bootKept : c.BootKept (c.ovAtRelease t) := by
  unfold Channel.ovAtRelease
  split
  · refine .trans ?_ (ovEnter_coreKept _ t).bootKept
    exact ⟨rfl, rfl, rfl, rfl, rfl, rfl, fun h => h⟩
  · exact .refl c

/-- The release of the core (R66). -/
theorem release_runs : let y := c.release t
    y.rst.phase = .run ∧ y.rst.relAt = t ∧ y.rst.hold = c.rst.hold ∧ y.sec = c.sec := ⟨rfl, rfl, rfl, rfl⟩

/-- What boot verification starts from: what it read has counted, and MRAM is as the choice of the bank left it. -/
def Channel.bootStart (c : Channel) (t : Nat) : Channel :=
  let x := if c.bootLoses t then c.raise 8 else c
  { x with nv := (c.pickBoot t).nv }

theorem bootStart_belowWarn : (c.bootStart t).rst.belowWarn = c.rst.belowWarn := by
  unfold Channel.bootStart
  obtain ⟨r, hr⟩ := raise_eq c 8 0
  split
  · rw [hr]
  · rfl

theorem bootDone_of_none (e : BootEnd) (h : (c.pickBoot t).bank = none) : c.bootDone t e =
    (((c.bootStart t).bootLoad t e.vsupLow (c.pickBoot t).bad).enterRecovery t).ovAtRelease t := by
  simp only [Channel.bootDone, h, Channel.bootStart]

theorem bootDone_of_some (e : BootEnd) {b : Bool} (h : (c.pickBoot t).bank = some b) : c.bootDone t e =
    ((((((((c.bootStart t).bootBank b).bootLoad t e.vsupLow (c.pickBoot t).bad).release t).bootLatch t).bootSelfTest t
      e.selfTestOk).bootImage t).ovAtRelease t) := by
  simp only [Channel.bootDone, h, Channel.bootStart]

/-- Without a bank to boot, the core is held in RECOVERY (R496). -/
theorem bootDone_recovers (e : BootEnd) (h : (c.pickBoot t).bank = none) : let y := c.bootDone t e
    y.rst.phase = .recovery ∧ y.sec.recovery = true ∧ y.rst.relAt = t := by
  intro y
  let l := (c.bootStart t).bootLoad t e.vsupLow (c.pickBoot t).bad
  have hy : y = (l.enterRecovery t).ovAtRelease t := bootDone_of_none c t e h
  rw [hy]
  generalize l = l
  have hk := ovAtRelease_bootKept (l.enterRecovery t) t
  exact ⟨hk.phase, hk.recovery, hk.relAt⟩

/-- With a bank to boot, the core is released, with the hold and the result of its self-test (R66, R104, R496). -/
theorem bootDone_runs (e : BootEnd) {b : Bool} (h : (c.pickBoot t).bank = some b) : let y := c.bootDone t e
    y.rst.phase = .run ∧ y.sec.recovery = false ∧ y.sec.booted = b ∧ y.rst.relAt = t ∧
      (e.selfTestOk = false → y.exe.selfFail = true ∧ y.exe.stopped = true) ∧
      y.rst.hold = (e.vsupLow || c.rst.belowWarn) := by
  intro y
  let k := (c.bootStart t).bootBank b
  let l := k.bootLoad t e.vsupLow (c.pickBoot t).bad
  let s := (((l.release t).bootLatch t).bootSelfTest t e.selfTestOk)
  have hy : y = (s.bootImage t).ovAtRelease t := bootDone_of_some c t e h
  have hload : l.rst.hold = (e.vsupLow || c.rst.belowWarn) ∧ l.sec.recovery = false ∧ l.sec.booted = b := by
    have hl := bootLoad_bootKept k t e.vsupLow (c.pickBoot t).bad
    have hlow : k.rst.belowWarn = c.rst.belowWarn := bootStart_belowWarn c t
    exact ⟨hl.hold.trans (by rw [← hlow]), hl.recovery, hl.booted⟩
  obtain ⟨hhold, hrecovery, hbooted⟩ := hload
  obtain ⟨hrun, hrel, hheld, hsec⟩ := release_runs l t
  have hlatch := bootLatch_bootKept (l.release t) t
  obtain ⟨⟨hphase, hrelAt, hkept, hrec, hbank⟩, hfail⟩ := bootSelfTest_stops ((l.release t).bootLatch t) t e.selfTestOk
  have hend : s.BootKept y := hy ▸ (bootImage_bootKept s t).trans (ovAtRelease_bootKept _ t)
  refine ⟨?_, ?_, ?_, ?_, fun hok => ?_, ?_⟩
  · exact hend.phase.trans (hphase.trans (hlatch.phase.trans hrun))
  · exact hend.recovery.trans (hrec.trans (hlatch.recovery.trans ((congrArg Sec.recovery hsec).trans hrecovery)))
  · exact hend.booted.trans (hbank.trans (hlatch.booted.trans ((congrArg Sec.booted hsec).trans hbooted)))
  · exact hend.relAt.trans (hrelAt.trans (hlatch.relAt.trans hrel))
  · exact ⟨hend.selfFail.trans (hfail hok).1, hend.stopped (hfail hok).2⟩
  · exact hend.hold.trans (hkept.trans (hlatch.hold.trans (hheld.trans hhold)))

end Boot

section Commanded

variable {c : Channel} {n : Nat} {p : Port}

/-- The channel on which a RESET from a port no longer waits for its frame. -/
def Channel.resetTaken (c : Channel) : Channel := { c with hp := { c.hp with cmdReset := none } }

/-- A RESET whose frame has passed asks for its reset (R457). -/
theorem commandReset_of_due (h : c.hp.cmdReset = some (n, p)) (hn : n ≤ c.exe.seq) :
    c.commandReset = c.resetTaken.requestReset ⟨.command, false, none, Port.num p⟩ := by
  simp only [Channel.commandReset, h, decide_eq_true hn, Bool.true_or, Bool.not_true, Bool.false_eq_true, if_false,
    Channel.resetTaken]

theorem commandReset_of_none (h : c.hp.cmdReset = none) : c.commandReset = c := by
  simp only [Channel.commandReset, h]

/-- A running core is released. -/
theorem alive_of_framed (h : c.framed = true) : c.alive = true := by
  have hrun : c.released = true := beq_iff_eq.mpr (running_iff.mp h).1
  exact Bool.or_eq_true_iff.mpr (.inl hrun)

end Commanded

/-- Settles O46: a reset takes effect where no MRAM attempt runs, the interconnect test leads to boot verification, that
releases or holds the core, and a trial that times out fails its bank by the cause of the last reset (log entry 21). -/
theorem coreResetsAndBoot : Obligations.CoreResetsAndBoot := by
  unfold Obligations.CoreResetsAndBoot
  intro s l failed detail e c back
  refine ⟨fun n p ha hc hn => ⟨fun hb => ?_, fun hb hpin hsup hp => ?_⟩, fun hc => ?_,
    fun hf ha hh hd h0 hb hpin hsup hp => ?_, fun hd => ?_, fun hph => ?_, fun hph => ?_, fun hph hb => ?_,
    fun b hph hb => ?_, fun hph => ?_, fun hr ht hd => ?_, fun ht => ?_⟩
  · refine chGets_when rfl ha ?_
    rw [commandReset_of_due hc hn, requestReset_of_busy (show c.resetTaken.nv.busy = true from hb)]
    exact ⟨rfl, rfl, rfl⟩
  · refine chGets_when rfl ha ?_
    rw [commandReset_of_due hc hn]
    obtain ⟨hphase, hcause, hport, hpend⟩ := requestReset_of_alive
      (c := c.resetTaken) (q := ⟨.command, false, none, Port.num p⟩) ha hb hpin hsup hp rfl
    exact ⟨hphase, hcause.trans (show setBit 0 Cause.command.bit true = 0x40 by decide), hport rfl, hpend⟩
  · have hsame : when c.alive Channel.commandReset c = c := by
      unfold when
      split
      · exact commandReset_of_none hc
      · rfl
    exact ⟨_, rfl, hsame⟩
  · refine chGets_when rfl ?_ ?_
    · simp only [Bool.and_eq_true, decide_eq_true_eq, Bool.not_eq_true']
      exact ⟨⟨⟨⟨hf, ha⟩, hh⟩, hd⟩, h0⟩
    · obtain ⟨hphase, hcause, -, -⟩ := requestReset_of_alive (q := ⟨.watchdog, false, none, 0⟩)
        (alive_of_framed hf) hb hpin hsup hp rfl
      exact ⟨hphase, hcause.trans (by decide)⟩
  · refine chGets_skip rfl ?_ rfl
    simp only [Bool.and_eq_false_iff, decide_eq_false_iff_not]
    exact .inl (.inr (Nat.not_le.mpr hd))
  · exact chGets_when rfl (beq_iff_eq.mpr hph) (interconnectEnd_verify c l.t failed detail)
  · exact chGets_skip rfl (beq_eq_false_iff_ne.mpr hph) rfl
  · exact chGets_when rfl (beq_iff_eq.mpr hph) (bootDone_recovers c l.t e hb)
  · exact chGets_when rfl (beq_iff_eq.mpr hph) (bootDone_runs c l.t e hb)
  · exact chGets_skip rfl (beq_eq_false_iff_ne.mpr hph) rfl
  · refine chGets_when rfl ?_ (failTrial_rejects ht l.t)
    simp only [Bool.and_eq_true, decide_eq_true_eq]
    exact ⟨⟨hr, ht⟩, hd⟩
  · exact chGets_skip rfl (by simp [show (s.ch l.ch).sec.trial = false from ht]) rfl

end Sys2Proof.Machine
end

section
/-! PROOF. SensorsTestsAndPowerStates (O56): the sensors (R81, R542), the end of a test (R537), the sampler (R539), and
the course of an entry, its write-back and the wakes (R503, R507 to R516). That line 55 is raised once while its source
asserts is log entry 129; the course of an entry and its write-back are log entries 124 and 125. -/

namespace Sys2Proof.Machine

-- One proof after another: with each in a thread of its own the joined text nears the check's memory limit.
set_option Elab.async false

section Sensors
variable (c : Channel) (t : Nat)

/-- What the judgement of the temperatures leaves alone: the sensors, the rails, the supply and the lines raised. -/
structure Channel.RailsKept (c y : Channel) : Prop where
  sensors : y.mg.sensors = c.mg.sensors
  railOn : y.mg.railOn = c.mg.railOn
  sup : y.sup = c.sup
  lines : ∀ p ∈ c.fcl.raised, p ∈ y.fcl.raised

theorem hotStep_railsKept : c.RailsKept (c.hotStep t) := ⟨rfl, rfl, rfl, fun _ h => h⟩

theorem tempStep_railsKept : c.RailsKept (c.tempStep t) := by
  unfold Channel.tempStep
  dsimp only
  split
  · exact ⟨rfl, rfl, rfl, fun _ h => h⟩
  · split
    · rename_i k _
      let x : Channel := { c with mg := { c.mg with tempOn := true } }
      have hk {p} := raise_keeps x 54 (BitVec.ofNat 16 k.val) (p := p)
      obtain ⟨r, hr⟩ := raise_eq x 54 (BitVec.ofNat 16 k.val)
      rw [hr] at hk ⊢
      exact ⟨rfl, rfl, rfl, fun p hp => hk hp⟩
    · exact ⟨rfl, rfl, rfl, fun _ h => h⟩

variable {c}

/-- With every rail in its range, none is reported (R542). -/
theorem railStep_of_good (h : ∀ k, railBad c.mg.sensors k = false) :
    c.railStep = { c with mg := { c.mg with railOn := false } } := by
  have hnone : (List.finRange 22).find? (railBad c.mg.sensors) = none :=
    List.find?_eq_none.mpr fun k _ => by simp [h k]
  simp only [Channel.railStep, hnone]

/-- A rail out of its range raises line 55 with its number, unless one was reported already (R542; log entry 129). -/
theorem railStep_of_bad {k : Fin 22} (h : railBad c.mg.sensors k = true) : let y := c.railStep
    y.mg.sensors = c.mg.sensors ∧ y.sup = c.sup ∧ y.mg.railOn = true ∧
      (c.mg.railOn = false → ∃ j : Fin 22, (55, BitVec.ofNat 16 j.val) ∈ y.fcl.raised) := by
  intro y
  obtain ⟨j, hj⟩ : ∃ j, (List.finRange 22).find? (railBad c.mg.sensors) = some j :=
    Option.isSome_iff_exists.mp (List.find?_isSome.mpr ⟨k, List.mem_finRange k, h⟩)
  cases hon : c.mg.railOn with
  | true =>
    have hy : y = c := by simp only [y, Channel.railStep, hj, hon, if_true]
    rw [hy]
    exact ⟨rfl, rfl, hon, nofun⟩
  | false =>
    let x : Channel := { c with mg := { c.mg with railOn := true } }
    have hy : y = x.raise 55 (BitVec.ofNat 16 j.val) := by
      simp only [y, Channel.railStep, hj, hon, Bool.false_eq_true, if_false, x]
    have hself := raise_self x 55 (BitVec.ofNat 16 j.val)
    obtain ⟨r, hr⟩ := raise_eq x 55 (BitVec.ofNat 16 j.val)
    rw [hy]
    rw [hr] at hself ⊢
    exact ⟨rfl, rfl, rfl, fun _ => ⟨j, hself⟩⟩

/-- SENSOR_UPDATE (R81, R542). -/
theorem sensorUpdate_shows (v : Vector F32 22) (mv : BitVec 16) : let y := c.sensorUpdate t v mv
    y.mg.sensors = v.set 20 (F32.ofFrac mv.toNat 1000) ∧ y.sup.vsupMv = mv ∧
      y.sup.minMv = (if mv < c.sup.minMv then mv else c.sup.minMv) ∧
      y.sup.warnMin = (if c.sup.warn = true ∧ mv < c.sup.warnMin then mv else c.sup.warnMin) ∧
      ((∀ k, railBad y.mg.sensors k = false) → y.mg.railOn = false) ∧
      (∀ k, railBad y.mg.sensors k = true → y.mg.railOn = true ∧
        (c.mg.railOn = false → ∃ j : Fin 22, y.fcl.raised.contains (55, BitVec.ofNat 16 j.val) = true)) := by
  intro y
  let x := ({ c with mg := { c.mg with sensors := v.set 20 (F32.ofFrac mv.toNat 1000) } } : Channel).supStep mv
  have hx : x.sup.vsupMv = mv ∧ x.sup.minMv = (if mv < c.sup.minMv then mv else c.sup.minMv) ∧
      x.sup.warnMin = (if c.sup.warn = true ∧ mv < c.sup.warnMin then mv else c.sup.warnMin) := by
    refine ⟨rfl, rfl, ?_⟩
    simp only [x, Channel.supStep, ite_and]
  have hk : x.railStep.RailsKept y :=
    have h := hotStep_railsKept x.railStep t
    have k := tempStep_railsKept (x.railStep.hotStep t) t
    ⟨k.sensors.trans h.sensors, k.railOn.trans h.railOn, k.sup.trans h.sup, fun p hp => k.lines p (h.lines p hp)⟩
  have hrail : x.railStep.mg.sensors = x.mg.sensors ∧ x.railStep.sup = x.sup := by
    by_cases h : ∃ k, railBad x.mg.sensors k = true
    · obtain ⟨k, hk⟩ := h
      obtain ⟨hsensors, hsup, -, -⟩ := railStep_of_bad hk
      exact ⟨hsensors, hsup⟩
    · rw [railStep_of_good fun k => Bool.eq_false_iff.mpr fun hk => h ⟨k, hk⟩]
      exact ⟨rfl, rfl⟩
  obtain ⟨hsensors, hsup⟩ := hrail
  have hsens : y.mg.sensors = x.mg.sensors := hk.sensors.trans hsensors
  obtain ⟨hvsup, hmin, hwarn⟩ := hx
  rw [hsens, hk.sup, hsup]
  refine ⟨rfl, hvsup, hmin, hwarn, fun hgood => ?_, fun k hbad => ?_⟩
  · exact hk.railOn.trans (by rw [railStep_of_good hgood])
  · obtain ⟨-, -, hon, hline⟩ := railStep_of_bad hbad
    refine ⟨hk.railOn.trans hon, fun hoff => ?_⟩
    obtain ⟨j, hj⟩ := hline hoff
    exact ⟨j, List.contains_iff_mem.mpr (hk.lines _ hj)⟩

end Sensors

section Tests
variable (c : Channel) (t : Nat)

theorem raise_partsKept (l : Fin 62) (d : BitVec 16) : c.PartsKept (c.raise l d) := (Channel.PartsKept.refl c).raise l d

theorem gatePinsFail_partsKept (g : Grp) : c.PartsKept (c.gatePinsFail g) := by
  unfold Channel.gatePinsFail
  refine .raise ?_ 27 _
  cases g <;> exact ⟨rfl, rfl⟩

theorem viewSync_partsKept : c.PartsKept (c.viewSync t) := by
  obtain ⟨v, a, h⟩ := viewSync_eq c t
  rw [h]
  exact ⟨rfl, rfl⟩

/-- Steps that keep the parts do so one after another. -/
theorem foldl_partsKept {α : Type} {f : Channel → α → Channel} (hf : ∀ (c : Channel) (e : α), c.PartsKept (f c e))
    (es : List α) (c : Channel) : c.PartsKept (es.foldl f c) := by
  induction es generalizing c with
  | nil => exact .refl c
  | cons e es ih => exact (hf c e).trans (ih (f c e))

theorem cmpValidity_partsKept (src : Nat) : c.PartsKept (c.cmpValidity src) := by
  refine foldl_partsKept (fun c k => ?_) (List.finRange 8) c
  split
  · exact ⟨rfl, rfl⟩
  · exact .refl c

theorem encFault_partsKept : c.PartsKept c.encFault := by
  unfold Channel.encFault
  split
  · exact .refl c
  · have hedge : c.PartsKept c.fromEdge := by
      unfold Channel.fromEdge
      split <;> exact ⟨rfl, rfl⟩
    exact (hedge.raise 15 0).trans ⟨rfl, rfl⟩

theorem sdFault_partsKept (cause : BitVec 3) : c.PartsKept (c.sdFault t cause) := by
  unfold Channel.sdFault
  split
  · have hopen : c.PartsKept (c.sdOpening t cause) := ⟨rfl, rfl⟩
    exact (hopen.raise 16 0).trans ⟨rfl, rfl⟩
  · exact .refl c

theorem sdHallBad_partsKept : c.PartsKept (c.sdHallBad t) := by
  unfold Channel.sdHallBad
  split
  · exact .refl c
  · cases c.sd.angle with
    | index => exact raise_partsKept c 15 0
    | sector => exact ⟨rfl, rfl⟩
    | edge => exact ⟨rfl, rfl⟩
    | hallOnly => exact sdFault_partsKept c t 4

/-- A line that is raised where a condition holds. -/
theorem Channel.PartsKept.raiseIf {c y : Channel} (h : c.PartsKept y) (b : Bool) (l : Fin 62) :
    c.PartsKept (if b then y.raise l else y) := by
  cases b with
  | true => exact h.raise l 0
  | false => exact h

/-- The inputs that fail the test of the feedback pins are dead from then on (R537). -/
theorem inputsFail_mg (bad : BitVec 18) : (c.inputsFail t bad).mg = { c.mg with deadIn := c.mg.deadIn ||| bad } := by
  unfold Channel.inputsFail
  extract_lets hit line m x y z w
  have hy : x.PartsKept y := (((((Channel.PartsKept.refl x).raiseIf (hit 0 2) 33).raiseIf (hit 2 4) 34).raiseIf
    (hit 4 6) 35).raiseIf (hit 6 10) 36).raiseIf (hit 10 18) 37
  have hz : y.PartsKept z := foldl_partsKept (fun c src => cmpValidity_partsKept c src) (List.range 6) y
  have hw : x.PartsKept w := by
    simp only [w]
    split
    · exact (hy.trans hz).trans (encFault_partsKept z)
    · exact hy.trans hz
  split
  · exact (hw.trans (sdHallBad_partsKept w t)).mg
  · exact hw.mg

/-- What follows from the parts that failed leaves the other parts' marks (R537). -/
theorem partsFail_marks (test : BitVec 8) (f : TestFails) : let y := c.partsFail t test f
    y.mg.bist = c.mg.bist ∧ y.mg.unusable = c.mg.unusable ∧ (test = 0x11 → y.mg.deadIn = c.mg.deadIn ||| f.inputs) := by
  intro y
  by_cases h : test = 0x11
  · subst h
    have hy : y.mg = { c.mg with deadIn := c.mg.deadIn ||| f.inputs } := inputsFail_mg c t f.inputs
    rw [hy]
    exact ⟨rfl, rfl, fun _ => rfl⟩
  · have hmg : y.mg = c.mg := by
      simp only [y, Channel.partsFail]
      split
      · exact (linksFail_partsKept c t f.parts).mg
      · exact ((((Channel.PartsKept.refl c).whenBit f.parts 7 fun c => gatePinsFail_partsKept c .steer).whenBit
          f.parts 8 fun c => gatePinsFail_partsKept c .aux).trans (viewSync_partsKept _ t)).mg
      · exact absurd (BitVec.eq_of_toNat_eq ‹_›) h
      · rfl
    rw [hmg]
    exact ⟨rfl, rfl, fun he => absurd he h⟩

theorem bistRestore_mg (test : BitVec 8) (port : Port) : (c.bistRestore t test port).mg = c.mg := by
  unfold Channel.bistRestore
  split
  · rfl
  · rfl
  · rfl
  · rfl
  · cases port <;> rfl
  · rfl

theorem bistEnd_mg (test : BitVec 8) (port : Port) (status : Nat) (d : BitVec 16) :
    ∃ rs, (c.bistEnd t test port status d).mg = { c.mg with bist := none, results := rs } := by
  let x := ({ c with mg := { c.mg with bist := none } } : Channel).setResult test (bistWord test status d)
  obtain ⟨_, _, _, _, hl⟩ := logEv_eq (x.bistRestore t test port) t 7 test.toNat [bistWord test status d]
  have hy : c.bistEnd t test port status d = _ := hl
  exact ⟨x.mg.results, by rw [hy]; exact bistRestore_mg x t test port⟩

theorem scanLines_mg (test : BitVec 8) (ok : Bool) (d : BitVec 16) : (c.scanLines test ok d).mg = c.mg := by
  unfold Channel.scanLines
  split
  · rfl
  · split
    · exact (raise_partsKept c 8 0).mg
    · split
      · rfl
      · exact (raise_partsKept c 4 0).mg

/-- The marks once a test other than that of the gates has ended (R537). -/
theorem bistDone_marks {test : BitVec 8} {p : Port} {k : BitVec 4} (hb : c.mg.bist = some (test, p, k)) (h2 : test ≠ 2)
    (ok : Bool) (bad : TestFails) (d : BitVec 16) : let y := c.bistDone t ok bad d
    y.mg.bist = none ∧ (ok = true → y.mg.unusable = c.mg.unusable &&& ~~~bistMask test) ∧
      (ok = false → y.mg.unusable = c.mg.unusable ||| (marksOf bad &&& bistMask test)) ∧
      (test = 0x11 → ok = true → y.mg.deadIn = 0) ∧
      (test = 0x11 → ok = false → y.mg.deadIn = c.mg.deadIn ||| bad.inputs) := by
  intro y
  let x := (c.bistEnd t test p (if ok then 2 else 3) (if ok && test != 3 then 0 else d)).scanLines test ok d
  let m := x.markParts (bistMask test) (marksOf bad) ok
  have hy : y = if ok then m else m.partsFail t test bad := by
    have hready : c.bistReady test = true := Bool.or_eq_true_iff.mpr (.inl (bne_iff_ne.mpr h2))
    have hpassed : c.bistPassed test ok = ok := if_neg h2
    simp only [y, Channel.bistDone, hb, hready, hpassed, Bool.not_true, Bool.false_eq_true, if_false, m, x]
  obtain ⟨rs, hrs⟩ := bistEnd_mg c t test p (if ok then 2 else 3) (if ok && test != 3 then 0 else d)
  have hx : x.mg = { c.mg with bist := none, results := rs } := (scanLines_mg _ test ok d).trans hrs
  have hm : m.mg = { x.mg with
      unusable := if ok then x.mg.unusable &&& ~~~bistMask test else x.mg.unusable ||| (marksOf bad &&& bistMask test)
      deadIn := if ok && (bistMask test).getLsbD 9 then 0 else x.mg.deadIn } := rfl
  rw [hx] at hm
  cases ok with
  | true =>
    rw [hy, if_pos rfl, hm]
    exact ⟨rfl, fun _ => rfl, nofun, fun h _ => by subst h; rfl, fun _ => nofun⟩
  | false =>
    obtain ⟨hbist, hmarks, hdead⟩ := partsFail_marks m t test bad
    rw [hy, if_neg Bool.false_ne_true, hbist, hmarks, hm]
    exact ⟨rfl, nofun, fun _ => rfl, fun _ => nofun, fun h _ => (hdead h).trans (by rw [hm]; rfl)⟩

theorem bistDone_of_none (hb : c.mg.bist = none) (ok : Bool) (bad : TestFails) (d : BitVec 16) :
    c.bistDone t ok bad d = c := by
  simp only [Channel.bistDone, hb]

end Tests

section Sampler
variable {c : Channel}

/-- A sample is kept, with the fields of R539 that the record states; the 512th fills the sampler. -/
theorem sample_keeps (x : SampleRec) : let y := c.sample x
    y.pct.samples = c.pct.samples ++ [{ x with info := x.info &&& 0xFFFFFF00 }] ∧
      (c.pct.samples.length < 512 → (y.pct.full = true ↔ c.pct.samples.length = 511)) := by
  refine ⟨rfl, fun h => ?_⟩
  simp only [Channel.sample, decide_eq_true_eq, List.length_append, List.length_singleton]
  omega

end Sampler

section Entry
variable {c : Channel} {t : Nat} {e : Entry}

/-- A result of its own writes the host port, and counts. -/
theorem deliverDone_eq (c : Channel) (t : Nat) (r : Reply) :
    ∃ u p, c.deliverDone t r = { c with hp := u, pct := p } := by
  obtain ⟨u, hu⟩ : ∃ u, (c.staled r).2 = { c with hp := u } := by
    unfold Channel.staled
    dsimp only
    split
    · exact ⟨c.hp, rfl⟩
    · exact setPort_eq c _ _
  let x := (c.staled r).2
  let q := (c.staled r).1
  obtain ⟨u', hu'⟩ := setPort_eq x q.port { x.port q.port with
    replies := (x.port q.port).replies ++ [{ q with pubAt := t }] }
  obtain ⟨p, hp⟩ := bump_eq (x.setPort q.port { x.port q.port with
    replies := (x.port q.port).replies ++ [{ q with pubAt := t }] }) 10 2 1
  refine ⟨u', p, ?_⟩
  have h : c.deliverDone t r = _ := hp
  rw [h, hu']
  simp only [x, hu]

/-- The answer to an entry changes neither the power states nor MRAM. -/
theorem entryPublish_frame (c : Channel) (t : Nat) (e : Entry) (a : Ans) :
    (c.entryPublish t e a).pwr = c.pwr ∧ (c.entryPublish t e a).nv = c.nv := by
  unfold Channel.entryPublish
  obtain ⟨u, p, h⟩ := deliverDone_eq c t (c.replyOf t e.port e.tag e.session a)
  rw [h]
  exact ⟨rfl, rfl⟩

/-- A write-back that is verified leaves an image that matches its H (R509; log entry 125). -/
theorem entryOk_writes (hd : c.pwr.doze = false) (wb : WriteBack) : let y := c.entryOk t e wb
    y.pwr.entry = some { e with published := some t } ∧ y.pwr.writeback = writeUnits wb ∧
      ∃ i, y.nv.image = some i ∧ i.shelf = (e.target == 2) ∧ i.cells = plainHalf c.exe.tcm ∧ i.params = c.params ∧
        i.whole = true := by
  intro y
  let w := c.writeBack (e.target == 2)
  let x : Channel := { w with pwr := { w.pwr with writeback := writeUnits wb } }
  let z : Channel := { x with pwr := { x.pwr with entry := some { e with published := some t } } }
  have hy : y = z.entryPublish t e okAns := by
    simp only [y, Channel.entryOk, hd, Bool.false_eq_true, if_false, z, x, w]
  obtain ⟨hpwr, hnv⟩ := entryPublish_frame z t e okAns
  rw [hy, hpwr, hnv]
  refine ⟨rfl, rfl, _, rfl, rfl, rfl, rfl, ?_⟩
  unfold TcmImage.whole
  exact beq_self_eq_true _

/-- An entry that fails is dropped, and with it the image of a core that is awake (R508, R509). -/
theorem entryFail_drops (st : Byte) : let y := c.entryFail t e st
    y.pwr.entry = none ∧ y.pwr.doze = c.pwr.doze ∧ (c.pwr.doze = false → y.nv.image = none) := by
  intro y
  let x := c.entryDrop
  let z := if x.pwr.doze then x else { x with nv := { x.nv with image := none } }
  obtain ⟨hpwr, hnv⟩ := entryPublish_frame z t e (refuseAns st)
  have hz : z.pwr = x.pwr := by
    simp only [z]
    split <;> rfl
  have hy : y = z.entryPublish t e (refuseAns st) := rfl
  rw [hy, hpwr, hnv, hz]
  refine ⟨rfl, rfl, fun hd => ?_⟩
  have hdoze : x.pwr.doze = false := hd
  simp only [z, hdoze, Bool.false_eq_true, if_false]

theorem entryComplete_of_late (h : c.entryReady = false ∨ c.entryAt t = none) (wb : WriteBack) :
    c.entryComplete t wb = c := by
  unfold Channel.entryComplete
  rcases h with h | h
  · split
    · rfl
    · exact if_pos (by simp [h])
  · rw [h]

theorem entryComplete_of_ready (h : c.entryAt t = some e) (hin : c.exe.seq ≤ e.frame + 400) (hr : c.entryReady = true)
    (hd : c.pwr.doze = false) (wb : WriteBack) :
    c.entryComplete t wb = if verified wb then c.entryOk t e wb else c.entryFail t e stInternal := by
  unfold Channel.entryComplete
  rw [h]
  refine (if_neg (by simp [hr, Nat.not_lt.mpr hin])).trans ?_
  rw [hd, Bool.or_false]

/-- An entry that takes too long is answered BUSY, and dropped (R508). -/
theorem entryTimeout_of_late (h : c.entryAt t = some e) (hout : e.frame + 400 < c.exe.seq) :
    c.entryTimeout t = c.entryFail t e stBusy := by
  unfold Channel.entryTimeout
  rw [h]
  exact if_pos hout

theorem entryTimeout_of_in_time (h : c.entryAt t = some e) (hin : c.exe.seq ≤ e.frame + 400) :
    c.entryTimeout t = c := by
  unfold Channel.entryTimeout
  rw [h]
  exact if_neg (Nat.not_lt.mpr hin)

end Entry

section Shelf
variable (c : Channel) (t : Nat)

/-- The clocks of SHELF stop the channel and its memory, not its host ports (R510, R511). -/
theorem shelfClocks_stops : let y := c.shelfClocks t
    y.rst.phase = .shelf ∧ y.exe.tcm = [] ∧ y.clk.pllLock = false ∧ y.pwr = c.pwr ∧ y.hp = c.hp :=
  ⟨rfl, rfl, rfl, rfl, rfl⟩

/-- What stops with the clocks of a channel that enters SHELF (R510, R511). -/
theorem shelfNow_stops : let y := c.shelfNow t
    y.rst.phase = .shelf ∧ y.exe.tcm = [] ∧ y.clk.pllLock = false ∧ y.pwr.shelves = satInc c.pwr.shelves ∧
      y.pwr.entry = none ∧ y.pwr.doze = false ∧ (∀ k : Fin 16, y.hp.sem[k] = none) ∧ y.hp.work = [] := by
  intro y
  obtain ⟨jobs, busy, log, pct, hl⟩ := logEv_eq c t 4 2 []
  let x := c.logEv t 4 2 []
  let z : Channel := { x with nv := x.nv.drained, hp := x.hp.shelved, net := x.net.shelved (x.gapKept t),
                              pwr := x.pwr.shelved c.netUp }
  have hx : x.pwr = c.pwr := by simp only [x, hl]
  obtain ⟨hphase, htcm, hpll, hpwr, hhp⟩ := shelfClocks_stops (z.supShelved t) t
  have hy : y = (z.supShelved t).shelfClocks t := rfl
  have hzpwr : (z.supShelved t).pwr = x.pwr.shelved c.netUp := rfl
  have hzhp : (z.supShelved t).hp = x.hp.shelved := rfl
  rw [hy, hpwr, hhp, hzpwr, hzhp, hx]
  exact ⟨hphase, htcm, hpll, rfl, rfl, rfl, fun k => by simp [Hp.shelved], rfl⟩

end Shelf

section Wake
variable {c : Channel} {t : Nat}

/-- The clocks of a channel in SHELF start again, for a source (R513, R514). -/
def Channel.shelfWoken (c : Channel) (t source : Nat) : Channel :=
  { c with rst := { c.rst with phase := .wakeXtal }
           pwr := { c.pwr with wakeAt := t, lastWake := setBit (0 : BitVec 5) source true, legsOn := true } }

theorem alive_of_shelf (h : c.rst.phase = .shelf) : c.alive = false := by simp [Channel.alive, h]

theorem shelfPending_of_shelf (h : c.rst.phase = .shelf) : c.shelfPending = false := by
  unfold Channel.shelfPending
  split
  · simp [alive_of_shelf h]
  · rfl

theorem wakeShelf_of_shelf (h : c.rst.phase = .shelf) (source : Nat) : c.wakeShelf t source = c.shelfWoken t source :=
  if_pos h

theorem wakePin_of_masked (h : bit (c.getA 0x0100) 1 = false) : c.wakePin t = c := if_pos (by simp [h])

/-- The pin wakes a channel in SHELF (R513). -/
theorem wakePin_of_shelf (h : bit (c.getA 0x0100) 1 = true) (hs : c.rst.phase = .shelf) :
    c.wakePin t = c.shelfWoken t 1 := by
  have hrun : c.released = false := by simp [Channel.released, hs]
  simp only [Channel.wakePin, h, alive_of_shelf hs, shelfPending_of_shelf hs, hrun, Bool.not_true, Bool.and_false,
    Bool.false_and, Bool.false_eq_true, if_false, wakeShelf_of_shelf hs]

/-- The pin wakes a core in DOZE (R513). -/
theorem wakePin_of_doze (h : bit (c.getA 0x0100) 1 = true) (hr : c.released = true) (hd : c.pwr.doze = true)
    (hw : c.pwr.waking = false) (hb : c.mg.bist = none) (hs : c.shelfPending = false) :
    c.wakePin t = { c with pwr := { c.pwr with waking := true, wakeAt := t, lastWake := 2 } } := by
  simp only [Channel.wakePin, h, hr, hd, hb, hs, Channel.wakeDoze, hw, Bool.not_true, Bool.and_true, Bool.false_and,
    Bool.false_eq_true, if_false, if_true, Option.isSome_none]
  rfl

/-- Bytes that are not the wake address of the channel wake nothing (R514). -/
theorem wakeAddress_of_other {b0 b1 : Byte} (h : b0 ≠ 0xFF ∨ b1.toNat ≠ c.af 0x0100 8 8) :
    c.wakeAddress t b0 b1 = c := by
  refine if_pos ?_
  simp only [Bool.or_eq_true, bne_iff_ne]
  rcases h with h | h
  · exact .inl (.inr h)
  · exact .inr h

/-- The wake address wakes a channel in SHELF (R514). -/
theorem wakeAddress_of_shelf {b0 b1 : Byte} (h : bit (c.getA 0x0100) 0 = true) (h0 : b0 = 0xFF)
    (h1 : b1.toNat = c.af 0x0100 8 8) (hs : c.rst.phase = .shelf) : c.wakeAddress t b0 b1 = c.shelfWoken t 2 := by
  simp only [Channel.wakeAddress, h, h0, h1, shelfPending_of_shelf hs, bne_self_eq_false, Bool.not_true, Bool.or_false,
    Bool.false_eq_true, if_false, wakeShelf_of_shelf hs]

end Wake

section Restore
variable (c : Channel) (t : Nat)

/-- What the steps after a restore keep of it: the core runs, with its memory, and the image is taken. -/
structure Channel.RestoreKept (c y : Channel) : Prop where
  phase : y.rst.phase = c.rst.phase
  tcm : y.exe.tcm = c.exe.tcm
  image : y.nv.image = c.nv.image
  doze : y.pwr.doze = c.pwr.doze

variable {c} in
theorem Channel.RestoreKept.trans {y z : Channel} (h : c.RestoreKept y) (k : y.RestoreKept z) : c.RestoreKept z :=
  ⟨k.phase.trans h.phase, k.tcm.trans h.tcm, k.image.trans h.image, k.doze.trans h.doze⟩

variable {c} in
theorem Channel.CoreKept.restoreKept {y : Channel} (h : c.CoreKept y) : c.RestoreKept y :=
  ⟨by rw [h.rst], by rw [h.exe], by rw [h.nv], by rw [h.pwr]⟩

theorem flushAll_eq : ∃ u, c.flushAll t = { c with hp := u } := by
  have drop (c : Channel) (p : Port) : ∃ u, (c.port p).sampled.foldl (Channel.answerEarly t)
      (c.setPort p { c.port p with sampled := [] }) = { c with hp := u } := by
    obtain ⟨u, hu⟩ := setPort_eq c p { c.port p with sampled := [] }
    rw [hu]
    exact foldl_hp (answerEarly_eq t) _ _
  unfold Channel.flushAll
  extract_lets f
  obtain ⟨u, hu⟩ := drop c c.firstPort
  obtain ⟨u', hu'⟩ := drop (f c c.firstPort) (if c.firstPort = .hp0 then .hp1 else .hp0)
  have hfirst : f c c.firstPort = { c with hp := u } := hu
  exact ⟨u', hu'.trans (by rw [hfirst])⟩

theorem seal_eq : ∃ u, c.seal = { c with hp := u } := by
  unfold Channel.seal
  obtain ⟨u, hu⟩ := flushAll_eq c c.exe.startAt
  rw [hu]
  exact ⟨_, rfl⟩

/-- What a restored core has (R509, R515): its memory, no image left, and neither DOZE nor a wake under way. -/
theorem woken_restores (img : TcmImage) : let y := c.woken t img
    y.rst = c.rst ∧ y.fcl = c.fcl ∧ y.exe.tcm = bothHalves img.cells ∧ y.nv.image = none ∧ y.pwr.doze = false ∧
      y.pwr.waking = false := by
  intro y
  obtain ⟨u, hu⟩ := seal_eq c
  simp only [y, Channel.woken, hu]
  generalize ({ c with hp := u } : Channel).wakeTime t = w
  obtain ⟨_, _, _, _, hl⟩ := logEv_eq ({ c with
    hp := u, exe := { c.exe with tcm := bothHalves img.cells, ph := .done }, nv := { c.nv with image := none }
    rd := c.rd.woken, pwr := { c.pwr with doze := false, waking := false, wake := w } } : Channel) t 4 3
    [put 24 c.pwr.lastWake.toNat]
  rw [hl]
  exact ⟨rfl, rfl, rfl, rfl, rfl, rfl⟩

theorem gdlFrame_coreKept (dir : GdlDir) : c.CoreKept (c.gdlFrame t dir true) := by
  cases dir with
  | fromDie => exact ⟨rfl, rfl, rfl, rfl, rfl⟩
  | toDie =>
    refine (show c.CoreKept (c.gdlGood t .toDie) from ?_)
    unfold Channel.gdlGood
    dsimp only
    split <;> exact ⟨rfl, rfl, rfl, rfl, rfl⟩

theorem ovAtRelease_restoreKept : c.RestoreKept (c.ovAtRelease t) := by
  unfold Channel.ovAtRelease
  split
  · refine .trans ?_ (ovEnter_coreKept _ t).restoreKept
    exact ⟨rfl, rfl, rfl, rfl⟩
  · exact ⟨rfl, rfl, rfl, rfl⟩

theorem warnEnter_restoreKept : c.RestoreKept (c.warnEnter t) := by
  unfold Channel.warnEnter
  split
  · exact ⟨rfl, rfl, rfl, rfl⟩
  · split <;> exact ⟨rfl, rfl, rfl, rfl⟩

theorem spreadStart_coreKept : c.CoreKept (c.spreadStart t) := ⟨rfl, rfl, rfl, rfl, rfl⟩

theorem netWake_coreKept (on : Bool) : c.CoreKept (c.netWake t on) := ⟨rfl, rfl, rfl, rfl, rfl⟩

/-- The end of SHELF: the core runs again, with its memory (R515). -/
theorem leaveShelf_runs (img : TcmImage) : let y := c.leaveShelf t img
    y.rst.phase = .run ∧ y.exe.tcm = bothHalves img.cells ∧ y.nv.image = none ∧ y.pwr.doze = false := by
  intro y
  let w := c.woken t img
  let n := (w.spreadStart t).netWake t c.pwr.netOn
  let r : Channel := { n with rst := { n.rst with phase := .run }, wi1 := { n.wi1 with lastGood := t },
                              wi2 := { n.wi2 with lastGood := t } }
  let g := (r.gdlFrame t .toDie true).ovAtRelease t
  have hn : w.CoreKept n := (spreadStart_coreKept w t).trans (netWake_coreKept _ t _)
  have hg : r.RestoreKept g := (gdlFrame_coreKept r t .toDie).restoreKept.trans (ovAtRelease_restoreKept _ t)
  have hy : y = if g.rst.belowWarn then ({ g with rst := { g.rst with belowWarn := false } } : Channel).warnEnter t
      else g := rfl
  have hend : g.RestoreKept y := by
    rw [hy]
    split
    · refine .trans ?_ (warnEnter_restoreKept _ t)
      exact ⟨rfl, rfl, rfl, rfl⟩
    · exact ⟨rfl, rfl, rfl, rfl⟩
  obtain ⟨hphase, htcm, himage, hdoze⟩ := hg.trans hend
  obtain ⟨-, -, hcells, hnone, hawake, -⟩ := woken_restores c t img
  exact ⟨hphase, htcm.trans ((congrArg Exe.tcm hn.exe).trans hcells),
    himage.trans ((congrArg Nv.image hn.nv).trans hnone), hdoze.trans ((congrArg Pwr.doze hn.pwr).trans hawake)⟩

/-- The end of DOZE with no fatal line registered: the core goes on where it stopped (R516). -/
theorem leaveDoze_of_calm (img : TcmImage) (h : c.fatalLines = []) : c.leaveDoze t img = c.woken t img := by
  obtain ⟨-, hfcl, -⟩ := woken_restores c t img
  have hnone : (c.woken t img).fatalLines = [] := by
    unfold Channel.fatalLines
    rw [hfcl]
    exact h
  simp only [Channel.leaveDoze, hnone, List.isEmpty_nil, if_true]

variable {c t}

theorem wakeRestore_of_whole {img : TcmImage}
    (hdue : ((c.released && c.pwr.doze && c.pwr.waking) || c.rst.phase == .wakeRestore) = true)
    (hi : c.nv.image = some img) (hw : img.whole = true) :
    c.wakeRestore t true = if c.pwr.doze then c.leaveDoze t img else c.leaveShelf t img := by
  simp only [Channel.wakeRestore, hdue, hi, hw, Bool.not_true, Bool.and_true, Bool.false_eq_true, if_false]

/-- A restore without an image that can be read fails (R517). -/
theorem wakeRestore_of_lost (hp : c.rst.phase = .wakeRestore) {ok : Bool} (h : c.nv.image = none ∨ ok = false) :
    c.wakeRestore t ok = c.wakeFail := by
  simp only [Channel.wakeRestore, hp, beq_self_eq_true, Bool.or_true, Bool.not_true, Bool.false_eq_true, if_false]
  rcases h with h | h
  · rw [h]
  · cases c.nv.image with
    | none => rfl
    | some img => simp [h]

/-- A wake that fails is a full reset with cause FAULT and no line (R517). -/
theorem wakeFail_resets (hp : c.rst.phase = .wakeRestore) (hb : c.nv.busy = false) (hpend : c.rst.pend = [])
    (hpin : c.rst.pinLow = false) (hsup : c.rst.supLow = false) : let y := c.wakeFail
    y.rst.phase = .xtal ∧ y.rst.cause = 0x20 ∧ y.rst.lineValid = false := by
  intro y
  let q : ResetReq := ⟨.fault, true, none, 0⟩
  let x : Channel := { c with rst := { c.rst with pend := [q] } }
  have hheld : x.heldReset = false := by simp [x, Channel.heldReset, hp]
  have he := enterReset_entered x q
  obtain ⟨hcause, -, hline, hfull⟩ := enterReset_first (q := q) hheld
  have hseq := sequence_of_free he.phase (he.pinLow.trans hpin) (he.supLow.trans hsup)
  rw [hfull, Bool.true_or, if_pos rfl] at hseq
  have hy : y = _ := (requestReset_of_idle hb hpend).trans hseq
  rw [hy]
  exact ⟨rfl, hcause.trans (show setBit 0 Cause.fault.bit true = 0x20 by decide), hline rfl⟩

end Restore

/-- Settles O56: the sensors, the tests and the sampler in turn, then an entry (log entries 124 and 125), SHELF, its
wake sources and the restore. Line 55 is raised once while its source asserts (log entry 129). -/
theorem sensorsTestsAndPowerStates : Obligations.SensorsTestsAndPowerStates := by
  unfold Obligations.SensorsTestsAndPowerStates
  intro s l v mv ok bad d x b0 b1 wb c
  refine ⟨fun ha => ?_, fun ha hb => ?_, fun test p k ha hb h2 => ?_, fun hrun hon hfull hlen => ?_, fun h => ?_,
    fun e he hin hr hd => ⟨fun hv => ?_, fun hv => ?_⟩, fun h => ?_, fun e he hout => ?_, fun e he hin => ?_,
    fun h => ?_, fun h => ?_, fun h => ?_, fun h hs => ?_, fun h hr hd hw hb hs => ?_, fun h => ?_,
    fun h h0 h1 hs => ?_, fun i hp hd hi hw => ?_, fun i hr hd hk hi hw hl => ?_, fun hp h hb hpend hpin hsup => ?_⟩
  · exact chGets_when rfl ha (sensorUpdate_shows l.t v mv)
  · exact chGets_when rfl ha (bistDone_of_none c l.t hb ok bad d)
  · exact chGets_when rfl ha (bistDone_marks c l.t hb h2 ok bad d)
  · obtain ⟨hsamples, hlast⟩ := sample_keeps (c := c) x
    refine chGets_when rfl ?_ ⟨hsamples, hlast hlen⟩
    simp only [Bool.and_eq_true, decide_eq_true_eq, Bool.not_eq_true']
    exact ⟨⟨⟨hrun, hon⟩, hfull⟩, hlen⟩
  · refine chGets_skip rfl ?_ rfl
    simp only [Bool.and_eq_false_iff, Bool.not_eq_false']
    rcases h with h | h
    · exact .inl (.inl (.inr h))
    · exact .inl (.inr h)
  · refine chGets_onCh (f := fun c => c.entryComplete l.t wb) rfl ?_
    rw [entryComplete_of_ready he hin hr hd, if_pos hv]
    exact entryOk_writes hd wb
  · refine chGets_onCh (f := fun c => c.entryComplete l.t wb) rfl ?_
    rw [entryComplete_of_ready he hin hr hd, if_neg (by simp [hv])]
    obtain ⟨hentry, -, himage⟩ := entryFail_drops (c := c) (t := l.t) (e := e) stInternal
    exact ⟨hentry, himage hd⟩
  · exact chGets_onCh (f := fun c => c.entryComplete l.t wb) rfl (entryComplete_of_late h wb)
  · refine chGets_onCh (f := fun c => c.entryTimeout l.t) rfl ?_
    rw [entryTimeout_of_late he hout]
    obtain ⟨hentry, hdoze, -⟩ := entryFail_drops (c := c) (t := l.t) (e := e) stBusy
    exact ⟨hentry, hdoze⟩
  · exact chGets_onCh (f := fun c => c.entryTimeout l.t) rfl (entryTimeout_of_in_time he hin)
  · refine chFeeds_when rfl ?_
    rw [if_pos h]
    exact shelfNow_stops c l.t
  · exact chFeeds_when rfl (if_neg (by simp [show (s.ch l.ch).clocksStop l.t = false from h]))
  · exact chGets_onCh (f := fun c => c.wakePin l.t) rfl (wakePin_of_masked h)
  · exact chGets_onCh (f := fun c => c.wakePin l.t) rfl (wakePin_of_shelf h hs)
  · exact chGets_onCh (f := fun c => c.wakePin l.t) rfl (wakePin_of_doze h hr hd hw hb hs)
  · exact chGets_onCh (f := fun c => c.wakeAddress l.t b0 b1) rfl (wakeAddress_of_other h)
  · exact chGets_onCh (f := fun c => c.wakeAddress l.t b0 b1) rfl (wakeAddress_of_shelf h h0 h1 hs)
  · refine chGets_onCh (f := fun c => c.wakeRestore l.t true) rfl ?_
    rw [wakeRestore_of_whole (Bool.or_eq_true_iff.mpr (.inr (beq_iff_eq.mpr hp))) hi hw, if_neg (by simp [hd])]
    exact leaveShelf_runs c l.t i
  · refine chGets_onCh (f := fun c => c.wakeRestore l.t true) rfl ?_
    rw [wakeRestore_of_whole (by simp [hr, hd, hk]) hi hw, if_pos hd, leaveDoze_of_calm c l.t i hl]
    obtain ⟨hrst, -, htcm, himage, hdoze, hwaking⟩ := woken_restores c l.t i
    exact ⟨hrst, hdoze, hwaking, htcm, himage⟩
  · refine chGets_onCh (f := fun c => c.wakeRestore l.t ok) rfl ?_
    rw [wakeRestore_of_lost hp h]
    exact wakeFail_resets hp hb hpend hpin hsup

end Sys2Proof.Machine
end

section
/-! PROOF. EngineCommandsAreAccepted (O52): the writes that start something (R81, R108, R138, R143, R249, R369, R397),
and the commands of the drives, the engine, the network, the module and the tests (R178, R209, R216, R317, R337, R347,
R404, R415, R458, R506, R535, R539). That bits of ARG without a meaning are ignored is log entry 103; a MODE_REQUEST
refused by the role is log entry 105. -/

namespace Sys2Proof.Machine

-- One proof after another: with each in a thread of its own the joined text nears the check's memory limit.
set_option Elab.async false

section Judged
variable {c : Channel} {q : Req} {op : Byte} {k : CmdSpec} {level : BitVec 2} {sems : List (Fin 16)} {st : Byte}

/-- A session below the level of a command is refused (R448). -/
theorem judge_of_level (ha : c.admits q.hdr level sems) (hk : (c.sessOf q.hdr).level < k.level) :
    c.judge q.hdr op k q.len = some stDenied := by
  have hstate := stateStop_of_admits ha op k
  obtain ⟨-, -, -, -, -, hsess, hopen, -, -⟩ := ha
  simp [Channel.judge, hstate, hk, hopen, Nat.not_le.mpr hsess]

/-- A packet in its turn that a check refuses: its status is the answer, and nothing else changes (R448). -/
theorem command_of_judge {body : Channel → Channel × Ans} (ht : c.turn q.hdr op = true)
    (ha : (c.begun q.hdr op).admits q.hdr level sems) (hj : (c.begun q.hdr op).judge q.hdr op k q.len = some st) :
    c.command q op k body = (c.begun q.hdr op).replied q.hdr k.iso (refuseAns st) [] := by
  obtain ⟨hrun, hstart, -⟩ := ha
  have hrun' := hrun
  rw [begun_running] at hrun
  have halive : c.alive = true := by simp [Channel.alive, (running_iff.mp hrun).1]
  have hin : c.inFrame q.hdr.loc.t = true := by simp [Channel.inFrame, hstart]
  unfold Channel.begun at hj hrun' ⊢
  simp only [Channel.command, halive, hin, ht, hj, Bool.and_self, Bool.not_true, Bool.false_eq_true, if_false]
  rw [if_pos (by exact hrun')]
  simp [Channel.replied]

end Judged

section Started
variable {c : Channel} {k : Fin 32} {m : Fin 8} {g : Grp}

/-- The map of CE_CTRL (R138). -/
theorem pdef_ceReturn (k : Fin 32) : pdef (loopId k.val 0x0E) = some { wo := 1, keep := false } := by
  fin_cases k <;> rfl

theorem semOf_ceReturn (k : Fin 32) : semOf (loopId k.val 0x0E) = [if k.val < 16 then 3 else 4] := by
  fin_cases k <;> rfl

theorem writeLevel_ceReturn (k : Fin 32) : writeLevel (loopId k.val 0x0E) 1 = 1 := by fin_cases k <;> rfl

theorem startedBy_ceReturn (k : Fin 32) : startedBy (loopId k.val 0x0E) 1 = [.ceReturn k] := by fin_cases k <;> rfl

theorem writeLock_ceReturn (k : Fin 32) (h : Hdr) (v : Word) : c.writeLock h (loopId k.val 0x0E) v = none := by
  fin_cases k <;> rfl

theorem pdef_rcClear (m : Fin 8) : pdef (rcId m.val 6) = some { wr := 1, wo := 2, keep := false } := by
  fin_cases m <;> rfl

theorem semOf_rcClear (m : Fin 8) : semOf (rcId m.val 6) = [5] := by fin_cases m <;> rfl

theorem writeLevel_rcClear (m : Fin 8) (v : Word) : writeLevel (rcId m.val 6) v = 1 := by fin_cases m <;> rfl

theorem writeLock_rcClear (m : Fin 8) (h : Hdr) (v : Word) : c.writeLock h (rcId m.val 6) v = none := by
  fin_cases m <;> rfl

theorem startedBy_rcClear (m : Fin 8) (fz : Bool) : startedBy (rcId m.val 6) (2 ||| flag 0 fz) = [.rcClear m] := by
  fin_cases m <;> cases fz <;> rfl

theorem pdef_gdTest (g : Grp) : pdef (grpBase g + 4) = some { wo := 1, rws := false, keep := false } := by
  cases g <;> rfl

theorem writeLock_gdTest (g : Grp) (h : Hdr) :
    c.writeLock h (grpBase g + 4) 1 = if c.testable g then none else some stLocked := by
  cases g with
  | steer =>
    change (if !c.testable .steer then some stLocked else none) = _
    cases c.testable .steer <;> rfl
  | aux =>
    change (if !c.testable .aux then some stLocked else none) = _
    cases c.testable .aux <;> rfl

section
variable {s : State} {h : Hdr} {b : Channel} {i : Instr} {id : Nat} {v : Word} {d : PDef} {es : List Effect}
  (hb : (s.ch h.loc.ch).begun h 0x11 = b) (ht : (s.ch h.loc.ch).turn h 0x11 = true) (hi : exec i s = paramCmd h s id v)
  (ha : b.admits h (writeLevel id v) (semOf id))
include hb ht hi ha

/-- A command that writes a field that only starts something: the working copy stands, and what it starts waits for the
commit (R44, R91, R601). -/
theorem chGets_started (hd : pdef id = some d) (hwr : d.wr = 0) (hw1c : d.w1c = 0) (hid : id ≠ 0x5C01)
    (hc : writeCheck b.getW id v = none) (hl : b.writeLock h id v = none) (hes : startedBy id v = es) :
    s.chGets i h.loc.ch (· = ((b.putW id (b.getW id)).push es).wrote h id) := by
  have hq (d' : PDef) (hd' : pdef id = some d') : b.queueFull d' id = false := by
    obtain rfl := Option.some.inj (hd.symm.trans hd')
    simp [Channel.queueFull, hwr]
  have hmerge : d.merge (b.getW id) v = b.getW id := by
    rw [PDef.merge, hwr]
    exact (congrArg₂ (· ||| ·) BitVec.and_allOnes BitVec.and_zero).trans BitVec.or_zero
  have heffects : b.writeEffects d id v (b.getW id) = es := by simp [Channel.writeEffects, hwr, hw1c, hes]
  have hw := chGets_paramCmd hb ht hi hd hid ha ⟨hc, hl, hq⟩
  rwa [hmerge, heffects] at hw

/-- A command that writes a locked parameter is refused (R14). -/
theorem chGets_locked {st : Byte} (hc : writeCheck b.getW id v = none) (hl : b.writeLock h id v = some st) :
    s.chGets i h.loc.ch (· = b.replied h false (refuseAns st) []) :=
  chGets_write_of_error (q := ⟨h, put 0 id, 4, [v]⟩) hi hb ht ha rfl (writeOne_of_writeLock hc hl)

end

section
variable {s : State} {h : Hdr} (ht : (s.ch h.loc.ch).turn h 0x11 = true)
include ht

/-- CE_RETURN (R138, R152). -/
theorem chGets_ceReturn (k : Fin 32) : let b := (s.ch h.loc.ch).begun h 0x11
    b.admits h 1 [if k.val < 16 then 3 else 4] → s.chGets (.ceReturn h k) h.loc.ch
      (· = ((b.putW (loopId k.val 0x0E) (b.getW (loopId k.val 0x0E))).push [.ceReturn k]).wrote h
        (loopId k.val 0x0E)) := by
  intro b ha
  have hc : writeCheck b.getW (loopId k.val 0x0E) 1 = none :=
    writeCheck_of_reserved_clear (pdef_ceReturn k) (by decide) (by decide) b.getW
  have hid : loopId k.val 0x0E ≠ 0x5C01 := by unfold loopId; omega
  rw [← writeLevel_ceReturn k, ← semOf_ceReturn k] at ha
  exact chGets_started rfl ht rfl ha (pdef_ceReturn k) rfl rfl hid hc (writeLock_ceReturn k h 1) (startedBy_ceReturn k)

/-- RC_CLEAR, with the bins frozen or not (R143, R155). -/
theorem chGets_rcClear (m : Fin 8) (fz : Bool) : let b := (s.ch h.loc.ch).begun h 0x11
    let r := (b.getW (rcId m.val 6) &&& ~~~1) ||| flag 0 fz
    b.admits h 1 [5] → s.chGets (.rcClear h m fz) h.loc.ch
      (· = ((b.putW (rcId m.val 6) r).push [.inForce (rcId m.val 6) r, .rcClear m]).wrote h (rcId m.val 6)) := by
  intro b r ha
  let d : PDef := { wr := 1, wo := 2, keep := false }
  have hc : writeCheck b.getW (rcId m.val 6) (2 ||| flag 0 fz) = none :=
    writeCheck_of_reserved_clear (pdef_rcClear m) (by decide) (by cases fz <;> decide) b.getW
  have hid : rcId m.val 6 ≠ 0x5C01 := by unfold rcId; omega
  have hq (d' : PDef) (hd' : pdef (rcId m.val 6) = some d') : b.queueFull d' (rcId m.val 6) = false := by
    obtain rfl := Option.some.inj ((pdef_rcClear m).symm.trans hd')
    rfl
  have hmerge : d.merge (b.getW (rcId m.val 6)) (2 ||| flag 0 fz) = r :=
    congrArg (b.getW (rcId m.val 6) &&& ~~~1 ||| ·) (show (2 ||| flag 0 fz) &&& 1 = flag 0 fz by cases fz <;> decide)
  have heffects : b.writeEffects d (rcId m.val 6) (2 ||| flag 0 fz) r = [.inForce (rcId m.val 6) r, .rcClear m] := by
    have hlow : ¬ (0x3D00 ≤ rcId m.val 6 ∧ rcId m.val 6 < 0x3D20) := by unfold rcId; omega
    simpa [Channel.writeEffects, d, hlow] using startedBy_rcClear m fz
  rw [← writeLevel_rcClear m (2 ||| flag 0 fz), ← semOf_rcClear m] at ha
  have hw := chGets_paramCmd rfl ht (i := .rcClear h m fz) rfl (pdef_rcClear m) hid ha ⟨hc, writeLock_rcClear m h _, hq⟩
  rwa [hmerge, heffects] at hw

/-- The restarts of the minimum of VSUP and of the peak of the frame (R81, R108). -/
theorem chGets_restarts : let b := (s.ch h.loc.ch).begun h 0x11
    b.admits h 1 [] →
      s.chGets (.minVsupRestart h) h.loc.ch (· = ((b.putW 0x0302 (b.getW 0x0302)).push [.minVsup]).wrote h 0x0302) ∧
      s.chGets (.exePeakRestart h) h.loc.ch (· = ((b.putW 0x7005 (b.getW 0x7005)).push [.exePeak]).wrote h 0x7005) :=
  fun ha => ⟨chGets_started rfl ht rfl ha rfl rfl rfl (by decide) rfl rfl rfl,
    chGets_started rfl ht rfl ha rfl rfl rfl (by decide) rfl rfl rfl⟩

/-- The counts of the network are cleared (R397). -/
theorem chGets_clrCnt : let b := (s.ch h.loc.ch).begun h 0x11
    b.admits h 1 [1] →
      s.chGets (.clrCnt h) h.loc.ch (· = ((b.putW 0x1001 (b.getW 0x1001)).push [.clrCnt]).wrote h 0x1001) :=
  fun ha => chGets_started rfl ht rfl ha rfl rfl rfl (by decide) rfl rfl rfl

/-- The latch of the fault collector is cleared by a MAINTAINER (R369). -/
theorem chGets_fclLatchClear : let b := (s.ch h.loc.ch).begun h 0x11
    b.admits h 2 [12] →
      s.chGets (.fclLatchClear h) h.loc.ch (· = ((b.putW 0x4806 (b.getW 0x4806)).push [.fclClear]).wrote h 0x4806) :=
  fun ha => chGets_started rfl ht rfl ha rfl rfl rfl (by decide) rfl rfl rfl

/-- An OPERATOR may not clear the latch (R369, R448). -/
theorem chGets_fclLatchClear_of_operator : let b := (s.ch h.loc.ch).begun h 0x11
    b.admits h 1 [] → (b.sessOf h).level = 1 →
      s.chGets (.fclLatchClear h) h.loc.ch (· = b.replied h false (refuseAns stDenied) []) := by
  intro b ha hlevel
  refine ⟨_, rfl, command_of_judge (q := ⟨h, put 0 0x4806, 4, [0x80000000]⟩) ht ha ?_⟩
  exact judge_of_level (q := ⟨h, put 0 0x4806, 4, [0x80000000]⟩) (k := writeSpec 0x4806 0x80000000) ha
    (by rw [hlevel]; decide)

/-- GD_TEST_START: the self-test of a group that is off starts at the commit; another is LOCKED_BY_STATE (R249). -/
theorem chGets_gdTestStart (g : Grp) : let b := (s.ch h.loc.ch).begun h 0x11
    b.admits h 1 [] →
      (b.testable g = true → s.chGets (.gdTestStart h g) h.loc.ch
        (· = ((b.putW (grpBase g + 4) (b.getW (grpBase g + 4))).push [.gdTest g]).wrote h (grpBase g + 4))) ∧
      (b.testable g = false →
        s.chGets (.gdTestStart h g) h.loc.ch (· = b.replied h false (refuseAns stLocked) [])) := by
  intro b ha
  have hc : writeCheck b.getW (grpBase g + 4) 1 = none :=
    writeCheck_of_reserved_clear (pdef_gdTest g) (by decide) (by decide) b.getW
  have hlevel : writeLevel (grpBase g + 4) 1 = 1 := by cases g <;> rfl
  have hsem : semOf (grpBase g + 4) = [] := by cases g <;> rfl
  have hid : grpBase g + 4 ≠ 0x5C01 := by cases g <;> decide
  have hes : startedBy (grpBase g + 4) 1 = [.gdTest g] := by cases g <;> rfl
  rw [← hlevel, ← hsem] at ha
  have hlock := writeLock_gdTest (c := b) g h
  constructor
  · intro htest
    rw [htest] at hlock
    exact chGets_started rfl ht rfl ha (pdef_gdTest g) rfl rfl hid hc hlock hes
  · intro htest
    rw [htest] at hlock
    exact chGets_locked rfl ht rfl ha hc hlock

end

end Started

section Commands
variable {s : State} {i : Instr} {q : Req} {op : Byte} {k : CmdSpec} {body : Channel → Channel × Ans} {b c : Channel}
  {es : List Effect} {a : Ans}

/-- What a command leaves for the commit waits beside what waited before (R449). -/
theorem replied_push (c : Channel) (h : Hdr) (iso : Bool) (a : Ans) (es : List Effect) :
    (c.push es).replied h iso a [] = c.replied h iso a es := by
  simp only [Channel.replied, Channel.push, List.append_nil]
  rfl

section
variable (hi : exec i s = cmd q s op (fun _ => k) body) (hb : (s.ch q.hdr.loc.ch).begun q.hdr op = b)
  (ht : (s.ch q.hdr.loc.ch).turn q.hdr op = true) (ha : b.admits q.hdr k.level k.sems) (hlen : k.len q.len = true)
  (hwarn : k.warn = false)
include hi hb ht ha hlen hwarn

/-- A command that leaves effects for the commit, on a core that it leaves running. -/
theorem chGets_pushes (hbody : body b = (c.push es, a)) (hrun : c.running = b.running) :
    s.chGets i q.hdr.loc.ch (· = c.replied q.hdr k.iso a es) := by
  rw [← replied_push]
  exact chGets_of_admits hi hb ht ha (BitVec.le_refl _) hlen hwarn hbody hrun

theorem chGets_does (hbody : body b = b.does es) : s.chGets i q.hdr.loc.ch (· = b.replied q.hdr k.iso okAns es) :=
  chGets_pushes hi hb ht ha hlen hwarn hbody rfl

/-- A command that one check decides. -/
theorem chGets_checked {o : Option Byte} (hnone : o = none → body b = b.does es)
    (hsome : ∀ st, o = some st → body b = b.refuse st) :
    (o = none → s.chGets i q.hdr.loc.ch (· = b.replied q.hdr k.iso okAns es)) ∧
      ∀ st, o = some st → s.chGets i q.hdr.loc.ch (· = b.replied q.hdr k.iso (refuseAns st) []) :=
  ⟨fun ho => chGets_pushes hi hb ht ha hlen hwarn (hnone ho) rfl,
    fun st ho => chGets_of_admits hi hb ht ha (BitVec.le_refl _) hlen hwarn (hsome st ho) rfl⟩

theorem chGets_answers (hbody : body b = (b, a)) : s.chGets i q.hdr.loc.ch (· = b.replied q.hdr k.iso a []) :=
  chGets_of_admits hi hb ht ha (BitVec.le_refl _) hlen hwarn hbody rfl

end

/-- A channel without a role, or that is ISOLATED, starts neither drive; nor one that is opening starts the steering
(R178, R209). -/
theorem steerCheck_of_locked (h : c.rd.role = .offline ∨ c.rd.role = .isolated ∨ c.sd.st = .opening) :
    c.steerCheck = some stLocked := by
  refine if_pos ?_
  rcases h with h | h | h <;> simp [h]

theorem auxCheck_of_locked (h : c.rd.role = .offline ∨ c.rd.role = .isolated ∨ c.ad.st = .fault) :
    c.auxCheck = some stLocked := by
  refine if_pos ?_
  rcases h with h | h | h <;> simp [h]

/-- A program that is loaded writes working copies alone (R458). -/
theorem putProg_eq (c : Channel) (n : Nat) (ws : List Word) : ∃ ps, c.putProg n ws = { c with params := ps } := by
  unfold Channel.putProg
  generalize List.range 0x2E = offs
  induction offs generalizing c with
  | nil => exact ⟨c.params, rfl⟩
  | cons off offs ih =>
    rw [List.foldl_cons]
    dsimp only
    split
    · split
      · rename_i d _ _
        obtain ⟨ps, hps⟩ := ih (c.putW (loopId n off) (d.merge (c.getW (loopId n off)) (ws.getD off 0)))
        exact ⟨ps, hps⟩
      · exact ih c
    · exact ih c

/-- NET_START of a network that runs, or of a network with nothing to send by (R404, R415). -/
theorem netCheck_of_up (h : c.net.nt.st ≠ .down) : c.netCheck = some stLocked := if_pos (by simp [h])

theorem netCheck_of_unready (hd : c.net.nt.st = .down) (hl : c.lcShut = false)
    (h : c.net.loaded = none ∨ fld (c.getW 0x1000) 0 6 = 0)
    (hk : ∀ k, (c.ce.slots[k]).live = false ∧ c.starting k = false) : c.netCheck = some stBadParam := by
  have hidle : ((List.finRange 32).any fun k => (c.ce.slots[k]).live || c.starting k) = false :=
    List.any_eq_false.mpr fun k _ => by
      obtain ⟨hlive, hstarting⟩ := hk k
      rw [hlive, hstarting]
      decide
  refine (if_neg (by simp [hd, hl])).trans ((if_neg ?_).trans (if_pos ?_))
  · rw [hidle]
    simp
  · rcases h with h | h <;> simp [h]

/-- The first block of a table whose network is stopped is staged, and where it is the last too it is loaded (R404). -/
theorem combLoad_of_first (hd : c.net.nt.st = .down) (hf : fld q.arg 0 14 = 0) : c.combLoad q =
    if bit q.arg 31 then ({ c with net := { c.net with staging := none } } : Channel).pends q 200 (.comb q.payload)
    else ({ c with net := { c.net with staging := some q.payload } }, okAns) := by
  simp [Channel.combLoad, hd, hf]

theorem modeRequest_of_bad (h : 5 ≤ fld q.arg 0 3) : c.modeRequest q = c.refuse stBadParam := if_pos h

/-- A role that gives no level is answered with the level in force (R347; log entry 105). -/
theorem modeRequest_of_role (hs : c.rd.role ≠ .standby) (hl : c.rd.role ≠ .lead) (h : fld q.arg 0 3 < 5) :
    c.modeRequest q = (c, { status := stMode, result := some (put 0 c.rd.level.toNat) }) :=
  (if_neg (Nat.not_le.mpr h)).trans (if_pos (by simp [hs, hl]))

/-- At a standstill, STANDBY and LEAD take any level from the one that the components give (R347). -/
theorem modeRequest_of_standstill (hr : c.rd.role = .standby ∨ c.rd.role = .lead) (h : fld q.arg 0 3 < 5)
    (ha : c.rd.ann = none) (he : (c.hp.effects.any isLevelEffect) = false) (hs : c.standstill q.hdr.loc.t = true)
    (hc : c.rd.comp ≤ BitVec.ofNat 3 (fld q.arg 0 3)) :
    c.modeRequest q = (c.push [.level (BitVec.ofNat 3 (fld q.arg 0 3))], okVal (put 0 (fld q.arg 0 3))) := by
  refine (if_neg (Nat.not_le.mpr h)).trans ((if_neg ?_).trans ((if_neg ?_).trans (if_pos ?_)))
  · rcases hr with hr | hr <;> simp [hr]
  · simp [ha, he]
  · simp [hs, hc]

/-- A core that admits a packet is awake. -/
theorem doze_of_admits {h : Hdr} {level : BitVec 2} {sems : List (Fin 16)} (ha : c.admits h level sems) :
    c.pwr.doze = false := by
  obtain ⟨hrun, -⟩ := ha
  obtain ⟨-, -, hdoze⟩ := running_iff.mp hrun
  exact hdoze

/-- The target of an entry is SHELF where the field of the argument is 2. -/
theorem target_beq_two {n : Nat} (h : n = 1 ∨ n = 2) : (BitVec.ofNat 2 n == 2) = (n == 2) := by
  rcases h with rfl | rfl <;> rfl

/-- A check of R506 that refuses DOZE or SHELF is recorded. -/
theorem powerAsk_of_refuser {r : BitVec 4} {target : BitVec 2} (h : c.refuser q.hdr.loc.t (target == 2) = some r) :
    c.powerAsk q target = ({ c with pwr := { c.pwr with refuser := r, refused := satInc c.pwr.refused } },
      { status := stMode, result := some (put 0 r.toNat) }) := by
  simp only [Channel.powerAsk, h]

/-- Where none refuses, the entry begins and its answer is pending (R449, R506). -/
theorem powerAsk_of_free {target : BitVec 2} (h : c.refuser q.hdr.loc.t (target == 2) = none) :
    ∃ e, c.powerAsk q target = (({ c with pwr := { c.pwr with entry := some e } } : Channel).push [.powerEntry target],
      pendAns 400) := by
  simp only [Channel.powerAsk, h]
  exact ⟨_, rfl⟩

theorem powerRequest_of_stay (hd : c.pwr.doze = false) (h : fld q.arg 0 2 = 0) : c.powerRequest q = (c, okAns) := by
  unfold Channel.powerRequest
  rw [h]
  exact if_pos (by simp [hd])

theorem powerRequest_of_bad (h : fld q.arg 0 2 = 3) : c.powerRequest q = (c, refuseAns stBadParam) := by
  unfold Channel.powerRequest
  rw [h]
  rfl

/-- A test that R535 does not name. -/
theorem bistCheck_of_unknown {h : Hdr} {test : Nat} (ht : test ∉ bistTests) : c.bistCheck h test = some stBadParam :=
  if_pos (by simpa using ht)

/-- POWER_REQUEST of DOZE or SHELF on a core that is awake (R506). -/
theorem powerRequest_of_target (hd : c.pwr.doze = false) (h : fld q.arg 0 2 = 1 ∨ fld q.arg 0 2 = 2) :
    c.powerRequest q = c.powerAsk q (BitVec.ofNat 2 (fld q.arg 0 2)) := by
  unfold Channel.powerRequest
  rcases h with h | h
  · rw [h]
    exact if_neg (by simp [hd])
  · rw [h]
    rfl

section
variable (hb : (s.ch q.hdr.loc.ch).begun q.hdr op = b) (ht : (s.ch q.hdr.loc.ch).turn q.hdr op = true)
include hb ht

/-- DRIVE_ENABLE (R178, R209). -/
theorem chGets_driveEnable (hop : op = 0x30) (ha : b.admits q.hdr 1 [grpSem (grpArg q.arg)]) (hlen : q.len = 0) :
    let g := grpArg q.arg
    let o := if g = .steer then b.steerCheck else b.auxCheck
    (o = none → s.chGets (.driveEnable q) q.hdr.loc.ch (· = b.replied q.hdr false okAns [.driveEnable g])) ∧
      ∀ st, o = some st → s.chGets (.driveEnable q) q.hdr.loc.ch (· = b.replied q.hdr false (refuseAns st) []) := by
  subst hop
  exact chGets_checked (i := .driveEnable q) rfl hb ht ha (beq_iff_eq.mpr hlen) rfl (fun h => by simp only [h])
    fun st h => by simp only [h]

/-- DRIVE_DISABLE (R178, R209). -/
theorem chGets_driveDisable (hop : op = 0x31) (ha : b.admits q.hdr 1 [grpSem (grpArg q.arg)]) (hlen : q.len = 0) :
    s.chGets (.driveDisable q) q.hdr.loc.ch (· = b.replied q.hdr false okAns [.driveDisable (grpArg q.arg)]) := by
  subst hop
  exact chGets_does (i := .driveDisable q) rfl hb ht ha (beq_iff_eq.mpr hlen) rfl rfl

/-- CURVE_LOAD (R216). -/
theorem chGets_curveLoad (hop : op = 0x34) (ha : b.admits q.hdr 2 [7]) (hlen : q.len = 256) :
    let ws := q.payload.map F32.flush
    (b.curveCheck ws = none →
        s.chGets (.curveLoad q) q.hdr.loc.ch (· = b.replied q.hdr false okAns [.curveLoad ws])) ∧
      ∀ st, b.curveCheck ws = some st →
        s.chGets (.curveLoad q) q.hdr.loc.ch (· = b.replied q.hdr false (refuseAns st) []) := by
  subst hop
  exact chGets_checked (i := .curveLoad q) rfl hb ht ha (beq_iff_eq.mpr hlen) rfl (fun h => by simp only [h])
    fun st h => by simp only [h]

/-- LOOP_LOAD (R111, R458). -/
theorem chGets_loopLoad (hop : op = 0x40) {n : Fin 32} (hn : Fin.ofNat 32 (fld q.arg 0 5) = n)
    (ha : b.admits q.hdr 2 [slotSem n.val]) (hlen : q.len = 184) :
    ((b.ce.slots[n]).live = true →
        s.chGets (.loopLoad q) q.hdr.loc.ch (· = b.replied q.hdr false (refuseAns stLocked) [])) ∧
      ((b.ce.slots[n]).live = false → b.starting n = false → b.progCheck n.val q.payload = none →
        s.chGets (.loopLoad q) q.hdr.loc.ch
          (· = (b.putProg n.val q.payload).replied q.hdr false (okVal 0) [.loopLoad n q.payload])) := by
  subst hop hn
  have hlen' := beq_iff_eq.mpr hlen
  refine ⟨fun hl => chGets_answers (i := .loopLoad q) rfl hb ht ha hlen' rfl
      (if_pos (Bool.or_eq_true_iff.mpr (.inl hl))),
    fun hl hs hp => chGets_pushes (i := .loopLoad q) rfl hb ht ha hlen' rfl
      ((if_neg (by rw [hl, hs]; decide)).trans ?_) ?_⟩
  · simp only [hp]
  · obtain ⟨ps, hps⟩ := putProg_eq b (Fin.ofNat 32 (fld q.arg 0 5)).val q.payload
    rw [hps]
    rfl

/-- LOOP_START (R111). -/
theorem chGets_loopStart (hop : op = 0x41) {n : Fin 32} (hn : Fin.ofNat 32 (fld q.arg 0 5) = n)
    (ha : b.admits q.hdr 1 [slotSem n.val]) (hlen : q.len = 0) :
    let o := if b.lcShut then some stLocked else b.loopStartCheck n
    (o = none → s.chGets (.loopStart q) q.hdr.loc.ch (· = b.replied q.hdr false okAns [.loopStart n])) ∧
      ∀ st, o = some st → s.chGets (.loopStart q) q.hdr.loc.ch (· = b.replied q.hdr false (refuseAns st) []) := by
  subst hop hn
  exact chGets_checked (i := .loopStart q) rfl hb ht ha (beq_iff_eq.mpr hlen) rfl (fun h => by simp only [h])
    fun st h => by simp only [h]

/-- TRACE_ARM of a unit that has nothing to keep (R146). -/
theorem chGets_traceArm (hop : op = 0x48) {u : Fin 4} (hu : Fin.ofNat 4 (fld q.arg 0 2) = u)
    (ha : b.admits q.hdr 1 [5]) (hlen : q.len = 0) :
    ((b.ce.trace[u]).st = .idle ∨ (b.ce.trace[u]).st = .done →
        s.chGets (.traceArm q) q.hdr.loc.ch (· = b.replied q.hdr false okAns [.traceArm u])) ∧
      ((b.ce.trace[u]).st = .filling ∨ (b.ce.trace[u]).st = .armed ∨ (b.ce.trace[u]).st = .post →
        s.chGets (.traceArm q) q.hdr.loc.ch (· = b.replied q.hdr false (refuseAns stBusy) [])) := by
  subst hop hu
  have hlen' := beq_iff_eq.mpr hlen
  refine ⟨fun hst => chGets_does (i := .traceArm q) rfl hb ht ha hlen' rfl (if_neg ?_),
    fun hst => chGets_answers (i := .traceArm q) rfl hb ht ha hlen' rfl (if_pos ?_)⟩
  · rcases hst with hst | hst <;> rw [hst] <;> decide
  · rcases hst with hst | hst | hst <;> rw [hst] <;> decide

/-- COMB_LOAD: its first block, alone or with more to come (R404). -/
theorem chGets_combLoad (hop : op = 0x50) (ha : b.admits q.hdr 2 [2]) (h4 : 4 ≤ q.len) (hmax : q.len ≤ 2048)
    (hmod : q.len % 4 = 0) :
    (b.net.nt.st ≠ .down → s.chGets (.combLoad q) q.hdr.loc.ch (· = b.replied q.hdr false (refuseAns stLocked) [])) ∧
      (b.net.nt.st = .down → fld q.arg 0 14 = 0 → bit q.arg 31 = false → s.chGets (.combLoad q) q.hdr.loc.ch
        (· = ({ b with net := { b.net with staging := some q.payload } } : Channel).replied q.hdr false okAns [])) ∧
      (b.net.nt.st = .down → fld q.arg 0 14 = 0 → bit q.arg 31 = true → s.chGets (.combLoad q) q.hdr.loc.ch
        (· = ({ b with net := { b.net with staging := none } } : Channel).replied q.hdr false (pendAns 200)
          [.work (workOf q (.comb q.payload))])) := by
  subst hop
  have hlen : (decide (4 ≤ q.len) && decide (q.len ≤ 2048) && q.len % 4 == 0) = true := by simp [h4, hmax, hmod]
  refine ⟨fun hup => chGets_answers (i := .combLoad q) rfl hb ht ha hlen rfl (if_pos (bne_iff_ne.mpr hup)),
    fun hd hf hlast => ?_, fun hd hf hlast => ?_⟩
  · exact chGets_of_admits (i := .combLoad q) rfl hb ht ha (BitVec.le_refl _) hlen rfl
      ((combLoad_of_first hd hf).trans (if_neg (by simp [hlast]))) rfl
  · exact chGets_pushes (i := .combLoad q) rfl hb ht ha hlen rfl ((combLoad_of_first hd hf).trans (if_pos hlast)) rfl

/-- NET_START (R415). -/
theorem chGets_netStart (hop : op = 0x51) (ha : b.admits q.hdr 1 [1]) (hlen : q.len = 0) :
    (b.netCheck = none → s.chGets (.netStart q) q.hdr.loc.ch (· = b.replied q.hdr false okAns [.netStart])) ∧
      ∀ st, b.netCheck = some st →
        s.chGets (.netStart q) q.hdr.loc.ch (· = b.replied q.hdr false (refuseAns st) []) := by
  subst hop
  exact chGets_checked (i := .netStart q) rfl hb ht ha (beq_iff_eq.mpr hlen) rfl (fun h => by simp only [h])
    fun st h => by simp only [h]

/-- NET_STOP (R415). -/
theorem chGets_netStop (hop : op = 0x52) (ha : b.admits q.hdr 1 [1]) (hlen : q.len = 0) :
    s.chGets (.netStop q) q.hdr.loc.ch (· = b.replied q.hdr false okAns [.netStop]) := by
  subst hop
  exact chGets_does (i := .netStop q) rfl hb ht ha (beq_iff_eq.mpr hlen) rfl rfl

/-- BIST_RUN (R535). -/
theorem chGets_bistRun (hop : op = 0xA0) (ha : b.admits q.hdr 2 [14]) (hlen : q.len = 0) :
    let o := b.bistCheck q.hdr (fld q.arg 0 8)
    (o = none → s.chGets (.bistRun q) q.hdr.loc.ch
        (· = b.replied q.hdr false okAns [.bist (BitVec.ofNat 8 (fld q.arg 0 8)) q.hdr.port q.hdr.session])) ∧
      ∀ st, o = some st → s.chGets (.bistRun q) q.hdr.loc.ch (· = b.replied q.hdr false (refuseAns st) []) := by
  subst hop
  exact chGets_checked (i := .bistRun q) rfl hb ht ha (beq_iff_eq.mpr hlen) rfl (fun h => by simp only [h])
    fun st h => by simp only [h]

/-- LOCKOUT_RESET_REQ of one circuit at least (R317). -/
theorem chGets_lockoutResetReq (hop : op = 0x60) (ha : b.admits q.hdr 1 []) (hlen : q.len = 0) :
    (fld q.arg 0 2 ≠ 0 → s.chGets (.lockoutResetReq q) q.hdr.loc.ch
        (· = b.replied q.hdr false okAns [.lockoutReq (bit q.arg 0) (bit q.arg 1)])) ∧
      (fld q.arg 0 2 = 0 →
        s.chGets (.lockoutResetReq q) q.hdr.loc.ch (· = b.replied q.hdr false (refuseAns stBadParam) [])) := by
  subst hop
  have hlen' := beq_iff_eq.mpr hlen
  exact ⟨fun h => chGets_does (i := .lockoutResetReq q) rfl hb ht ha hlen' rfl (if_neg h),
    fun h => chGets_answers (i := .lockoutResetReq q) rfl hb ht ha hlen' rfl (if_pos h)⟩

/-- MODE_REQUEST (R347). -/
theorem chGets_modeRequest (hop : op = 0x20) (ha : b.admits q.hdr 1 []) (hlen : q.len = 0) {c : Channel} {a : Ans}
    (hbody : b.modeRequest q = (c, a)) (hrun : c.running = b.running) :
    s.chGets (.modeRequest q) q.hdr.loc.ch (· = c.replied q.hdr false a []) := by
  subst hop
  exact chGets_of_admits (i := .modeRequest q) rfl hb ht ha (BitVec.le_refl _) (beq_iff_eq.mpr hlen) rfl hbody hrun

/-- ROLE_REQUEST: a handover, a withdrawal, or neither (R337). -/
theorem chGets_roleRequest (hop : op = 0x21) (ha : b.admits q.hdr 1 [11]) (hlen : q.len = 0) :
    (fld q.arg 0 2 = 2 → s.chGets (.roleRequest q) q.hdr.loc.ch (· = b.replied q.hdr false okAns [.withdraw])) ∧
      (fld q.arg 0 2 = 1 → b.rd.role ≠ .lead →
        s.chGets (.roleRequest q) q.hdr.loc.ch (· = b.replied q.hdr false (refuseAns stLocked) [])) ∧
      (fld q.arg 0 2 = 1 → b.rd.role = .lead → b.swapForbidden s.trackBad = false →
        s.chGets (.roleRequest q) q.hdr.loc.ch (· = b.replied q.hdr false okAns [.handover])) ∧
      (fld q.arg 0 2 = 0 ∨ fld q.arg 0 2 = 3 →
        s.chGets (.roleRequest q) q.hdr.loc.ch (· = b.replied q.hdr false (refuseAns stBadParam) [])) := by
  subst hop
  have hlen' := beq_iff_eq.mpr hlen
  refine ⟨fun h => chGets_does (i := .roleRequest q) rfl hb ht ha hlen' rfl ?_,
    fun h hl => chGets_answers (i := .roleRequest q) rfl hb ht ha hlen' rfl ?_,
    fun h hl hs => chGets_does (i := .roleRequest q) rfl hb ht ha hlen' rfl ?_,
    fun h => chGets_answers (i := .roleRequest q) rfl hb ht ha hlen' rfl ?_⟩
  · simp only [h]
  · simp only [h]
    exact if_pos (bne_iff_ne.mpr hl)
  · simp only [h]
    exact (if_neg (by simp [hl])).trans (if_neg (by simp [hs]))
  · rcases h with h | h <;> simp only [h] <;> rfl

/-- POWER_REQUEST on a core that is awake (R506). -/
theorem chGets_powerRequest (hop : op = 0x22) (ha : b.admits q.hdr 1 [0]) (hlen : q.len = 0) {c : Channel} {a : Ans}
    (hbody : b.powerRequest q = (c, a)) (hrun : c.running = b.running) :
    s.chGets (.powerRequest q) q.hdr.loc.ch (· = c.replied q.hdr false a []) := by
  subst hop
  exact chGets_of_admits (i := .powerRequest q) rfl hb ht ha (BitVec.le_refl _) (beq_iff_eq.mpr hlen) rfl hbody hrun

/-- POWER_REQUEST of DOZE or SHELF that a check refuses is recorded with its reason (R506). -/
theorem chGets_powerRequest_of_refuser (hop : op = 0x22) (ha : b.admits q.hdr 1 [0]) (hlen : q.len = 0) {r : BitVec 4}
    (h : fld q.arg 0 2 = 1 ∨ fld q.arg 0 2 = 2) (hr : b.refuser q.hdr.loc.t (fld q.arg 0 2 == 2) = some r) :
    s.chGets (.powerRequest q) q.hdr.loc.ch fun y =>
      y.hp.effects = b.hp.effects ∧ y.pwr = { b.pwr with refuser := r, refused := satInc b.pwr.refused } := by
  rw [← target_beq_two h] at hr
  have hbody := (powerRequest_of_target (doze_of_admits ha) h).trans (powerAsk_of_refuser hr)
  refine chGets_imp (chGets_powerRequest hb ht hop ha hlen hbody rfl) ?_
  rintro y rfl
  exact ⟨List.append_nil _, rfl⟩

/-- POWER_REQUEST of DOZE or SHELF that no check refuses begins an entry, and its answer is pending (R449, R506). -/
theorem chGets_powerRequest_of_free (hop : op = 0x22) (ha : b.admits q.hdr 1 [0]) (hlen : q.len = 0)
    (h : fld q.arg 0 2 = 1 ∨ fld q.arg 0 2 = 2) (hr : b.refuser q.hdr.loc.t (fld q.arg 0 2 == 2) = none) :
    s.chGets (.powerRequest q) q.hdr.loc.ch fun y =>
      y.pwr.entry.isSome = true ∧ y.hp.effects = b.hp.effects ++ [.powerEntry (BitVec.ofNat 2 (fld q.arg 0 2))] ∧
      ∃ r, y.hp.results = b.hp.results ++ [r] ∧ r.status = stPending ∧ r.result = 400 ∧ r.final = false := by
  rw [← target_beq_two h] at hr
  obtain ⟨e, he⟩ := powerAsk_of_free hr
  have hbody := (powerRequest_of_target (doze_of_admits ha) h).trans he
  refine chGets_imp (chGets_powerRequest hb ht hop ha hlen hbody rfl) ?_
  rintro y rfl
  exact ⟨rfl, List.append_nil _, _, rfl, rfl, rfl, rfl⟩

/-- PCT_CONFIG of a block that exists, with its words (R539). -/
theorem chGets_pctConfig (hop : op = 0xB0) (ha : b.admits q.hdr 2 [15]) :
    (12 ≤ fld q.arg 0 4 → s.chGets (.pctConfig q) q.hdr.loc.ch (· = b.replied q.hdr false (refuseAns stBadParam) [])) ∧
      (fld q.arg 0 4 < 12 → q.len = 4 * (pctBase (fld q.arg 0 4)).2 →
        bit (q.payload.getD ((pctBase (fld q.arg 0 4)).2 - 1) 0) 1 = false → s.chGets (.pctConfig q) q.hdr.loc.ch
          (· = b.replied q.hdr false okAns [.pctConfig (fld q.arg 0 4) (bit q.arg 4) q.payload])) := by
  subst hop
  refine ⟨fun hk => chGets_answers (i := .pctConfig q) rfl hb ht ha ?_ rfl (if_pos ?_),
    fun hk hlen hbit => chGets_does (i := .pctConfig q) rfl hb ht ha ?_ rfl (if_neg ?_)⟩
  · exact Bool.or_eq_true_iff.mpr (.inl (decide_eq_true hk))
  · exact Bool.or_eq_true_iff.mpr (.inl (decide_eq_true hk))
  · exact Bool.or_eq_true_iff.mpr (.inr (beq_iff_eq.mpr hlen))
  · rw [hbit, Bool.or_false, decide_eq_true_eq]
    exact Nat.not_le.mpr hk

end

end Commands

/-- Settles O52: each command with the checks of R448 passed, by what it needs of the channel. Bits of ARG
without a meaning are ignored (log entry 103); a MODE_REQUEST that the role refuses is answered as in log entry 105. -/
theorem engineCommandsAreAccepted : Obligations.EngineCommandsAreAccepted := by
  unfold Obligations.EngineCommandsAreAccepted
  intro s q op ch b g n does writes no ht
  refine ⟨fun hop => ?_, fun hop ha hlen => ?_, fun hop ha hlen => ?_, fun hop ha hlen => ?_, fun hop ha hlen => ?_,
    fun hop ha hlen => ?_, fun hop ha hlen => ?_, fun hop ha h4 hmax hmod => ?_, fun hop ha hlen => ?_,
    fun hop ha hlen => ?_, fun hop ha hlen => ?_, fun hop ha hlen => ?_, fun hop ha hlen => ?_, fun hop ha hlen => ?_,
    fun hop ha hlen => ?_, fun hop ha => ?_⟩
  · subst hop
    exact ⟨chGets_ceReturn ht, chGets_rcClear ht, chGets_gdTestStart ht, chGets_restarts ht, chGets_clrCnt ht,
      chGets_fclLatchClear ht, chGets_fclLatchClear_of_operator ht⟩
  · obtain ⟨hdoes, hno⟩ := chGets_driveEnable rfl ht hop ha hlen
    have hsteer (hg : g = .aux) : ¬ g = .steer := by rw [hg]; decide
    exact ⟨fun hg hc => hdoes ((if_pos hg).trans hc), fun hg hc => hdoes ((if_neg (hsteer hg)).trans hc),
      fun hg hc => hno _ ((if_pos hg).trans (steerCheck_of_locked hc)),
      fun hg hc => hno _ ((if_neg (hsteer hg)).trans (auxCheck_of_locked hc))⟩
  · exact chGets_driveDisable rfl ht hop ha hlen
  · exact chGets_curveLoad rfl ht hop ha hlen
  · exact chGets_loopLoad rfl ht hop rfl ha hlen
  · obtain ⟨hdoes, hno⟩ := chGets_loopStart rfl ht hop rfl ha hlen
    exact ⟨fun hl => hno _ (if_pos hl), fun hl hc => hdoes ((if_neg (by rw [hl]; decide)).trans hc)⟩
  · exact chGets_traceArm rfl ht hop rfl ha hlen
  · exact chGets_combLoad rfl ht hop ha h4 hmax hmod
  · obtain ⟨hdoes, hno⟩ := chGets_netStart rfl ht hop ha hlen
    exact ⟨hdoes, fun hup => hno _ (netCheck_of_up hup), fun hd hl hc hk => hno _ (netCheck_of_unready hd hl hc hk)⟩
  · exact chGets_netStop rfl ht hop ha hlen
  · exact chGets_lockoutResetReq rfl ht hop ha hlen
  · have answers {c : Channel} {a : Ans} := chGets_modeRequest rfl ht hop ha hlen (c := c) (a := a)
    refine ⟨fun hs hl h => answers (modeRequest_of_role hs hl h) rfl, fun hr h hann he hs hc => ?_,
      fun h => answers (modeRequest_of_bad h) rfl⟩
    rw [← replied_push]
    exact answers (modeRequest_of_standstill hr h hann he hs hc) rfl
  · exact chGets_roleRequest rfl ht hop ha hlen
  · have answers {c : Channel} {a : Ans} := chGets_powerRequest rfl ht hop ha hlen (c := c) (a := a)
    exact ⟨fun h => answers (powerRequest_of_stay (doze_of_admits ha) h) rfl,
      fun h => answers (powerRequest_of_bad h) rfl,
      fun r => chGets_powerRequest_of_refuser rfl ht hop ha hlen, chGets_powerRequest_of_free rfl ht hop ha hlen⟩
  · obtain ⟨hdoes, hno⟩ := chGets_bistRun rfl ht hop ha hlen
    exact ⟨hdoes, fun h => hno _ (bistCheck_of_unknown h)⟩
  · exact chGets_pctConfig rfl ht hop ha

end Sys2Proof.Machine
end

section
/-! PROOF. The parts of a channel: what one of them holds after an update, under a condition and after a fold. -/

namespace Sys2Proof.Machine

-- One proof after another: with each in a thread of its own the joined text nears the check's memory limit.
set_option Elab.async false

/-- What a part of a channel's state holds. -/
def Part.Holds : Part → Type
  | .rst => Rst | .clk => Clk | .sup => Sup | .exe => Exe | .ce => Ce | .sd => Sd | .ad => Ad | .gd => Gd
  | .fb => Fb | .wi1 => Wi | .wi2 => Wi | .rd => Rd | .fcl => Fcl | .net => NetU | .hp => Hp | .sec => Sec
  | .pwr => Pwr | .mg => Mg | .log => Log | .pct => Pct | .params => Words | .act => Words | .img => Words
  | .nv => Nv

/-- A part of a channel, by its name. -/
def Channel.part (c : Channel) : (pt : Part) → pt.Holds
  | .rst => c.rst | .clk => c.clk | .sup => c.sup | .exe => c.exe | .ce => c.ce | .sd => c.sd | .ad => c.ad
  | .gd => c.gd | .fb => c.fb | .wi1 => c.wi1 | .wi2 => c.wi2 | .rd => c.rd | .fcl => c.fcl | .net => c.net
  | .hp => c.hp | .sec => c.sec | .pwr => c.pwr | .mg => c.mg | .log => c.log | .pct => c.pct
  | .params => c.params | .act => c.act | .img => c.img | .nv => c.nv

theorem same_iff_part {c y : Channel} {pt : Part} : Part.same c y pt ↔ y.part pt = c.part pt := by
  cases pt <;> rfl

section
variable {pt : Part} {x1 : Rst} {x2 : Clk} {x3 : Sup} {x4 : Exe} {x5 : Ce} {x6 : Sd} {x7 : Ad} {x8 : Gd} {x9 : Fb}
  {x10 x11 : Wi} {x12 : Rd} {x13 : Fcl} {x14 : NetU} {x15 : Hp} {x16 : Sec} {x17 : Pwr} {x18 : Mg} {x19 : Log}
  {x20 : Pct} {x21 x22 x23 : Words} {x24 : Nv}

/-- A part that an update does not name is that of the channel it updates: the update keeps at least rst. -/
theorem part_mk (c : Channel) (h2 : pt = .clk → x2 = c.clk) (h3 : pt = .sup → x3 = c.sup)
    (h4 : pt = .exe → x4 = c.exe) (h5 : pt = .ce → x5 = c.ce) (h6 : pt = .sd → x6 = c.sd) (h7 : pt = .ad → x7 = c.ad)
    (h8 : pt = .gd → x8 = c.gd) (h9 : pt = .fb → x9 = c.fb) (h10 : pt = .wi1 → x10 = c.wi1)
    (h11 : pt = .wi2 → x11 = c.wi2) (h12 : pt = .rd → x12 = c.rd) (h13 : pt = .fcl → x13 = c.fcl)
    (h14 : pt = .net → x14 = c.net) (h15 : pt = .hp → x15 = c.hp) (h16 : pt = .sec → x16 = c.sec)
    (h17 : pt = .pwr → x17 = c.pwr) (h18 : pt = .mg → x18 = c.mg) (h19 : pt = .log → x19 = c.log)
    (h20 : pt = .pct → x20 = c.pct) (h21 : pt = .params → x21 = c.params) (h22 : pt = .act → x22 = c.act)
    (h23 : pt = .img → x23 = c.img) (h24 : pt = .nv → x24 = c.nv) :
    (Channel.mk c.rst x2 x3 x4 x5 x6 x7 x8 x9 x10 x11 x12 x13 x14 x15 x16 x17 x18 x19 x20 x21 x22 x23 x24).part pt =
      c.part pt := by
  cases pt
  case rst => rfl
  all_goals solve_by_elim

/-- A part other than rst that an update does not name is that of the channel it updates: the update keeps img. -/
theorem part_mk_rst (c : Channel) (h1 : pt ≠ .rst) (h2 : pt = .clk → x2 = c.clk) (h3 : pt = .sup → x3 = c.sup)
    (h4 : pt = .exe → x4 = c.exe) (h5 : pt = .ce → x5 = c.ce) (h6 : pt = .sd → x6 = c.sd) (h7 : pt = .ad → x7 = c.ad)
    (h8 : pt = .gd → x8 = c.gd) (h9 : pt = .fb → x9 = c.fb) (h10 : pt = .wi1 → x10 = c.wi1)
    (h11 : pt = .wi2 → x11 = c.wi2) (h12 : pt = .rd → x12 = c.rd) (h13 : pt = .fcl → x13 = c.fcl)
    (h14 : pt = .net → x14 = c.net) (h15 : pt = .hp → x15 = c.hp) (h16 : pt = .sec → x16 = c.sec)
    (h17 : pt = .pwr → x17 = c.pwr) (h18 : pt = .mg → x18 = c.mg) (h19 : pt = .log → x19 = c.log)
    (h20 : pt = .pct → x20 = c.pct) (h21 : pt = .params → x21 = c.params) (h22 : pt = .act → x22 = c.act)
    (h24 : pt = .nv → x24 = c.nv) :
    (Channel.mk x1 x2 x3 x4 x5 x6 x7 x8 x9 x10 x11 x12 x13 x14 x15 x16 x17 x18 x19 x20 x21 x22 c.img x24).part pt =
      c.part pt := by
  cases pt
  case img => rfl
  all_goals solve_by_elim
end

section
variable {pt : Part} (c : Channel)

/-! An update of one part leaves alone the others. -/

@[simp] theorem part_setRst (x : Rst) (h : pt ≠ .rst) : ({ c with rst := x } : Channel).part pt = c.part pt := by
  apply part_mk_rst <;> simp [h]

@[simp] theorem part_setClk (x : Clk) (h : pt ≠ .clk) : ({ c with clk := x } : Channel).part pt = c.part pt := by
  apply part_mk <;> simp [h]

@[simp] theorem part_setSup (x : Sup) (h : pt ≠ .sup) : ({ c with sup := x } : Channel).part pt = c.part pt := by
  apply part_mk <;> simp [h]

@[simp] theorem part_setExe (x : Exe) (h : pt ≠ .exe) : ({ c with exe := x } : Channel).part pt = c.part pt := by
  apply part_mk <;> simp [h]

@[simp] theorem part_setCe (x : Ce) (h : pt ≠ .ce) : ({ c with ce := x } : Channel).part pt = c.part pt := by
  apply part_mk <;> simp [h]

@[simp] theorem part_setSd (x : Sd) (h : pt ≠ .sd) : ({ c with sd := x } : Channel).part pt = c.part pt := by
  apply part_mk <;> simp [h]

@[simp] theorem part_setAd (x : Ad) (h : pt ≠ .ad) : ({ c with ad := x } : Channel).part pt = c.part pt := by
  apply part_mk <;> simp [h]

@[simp] theorem part_setGd (x : Gd) (h : pt ≠ .gd) : ({ c with gd := x } : Channel).part pt = c.part pt := by
  apply part_mk <;> simp [h]

@[simp] theorem part_setFb (x : Fb) (h : pt ≠ .fb) : ({ c with fb := x } : Channel).part pt = c.part pt := by
  apply part_mk <;> simp [h]

@[simp] theorem part_setWi1 (x : Wi) (h : pt ≠ .wi1) : ({ c with wi1 := x } : Channel).part pt = c.part pt := by
  apply part_mk <;> simp [h]

@[simp] theorem part_setWi2 (x : Wi) (h : pt ≠ .wi2) : ({ c with wi2 := x } : Channel).part pt = c.part pt := by
  apply part_mk <;> simp [h]

@[simp] theorem part_setRd (x : Rd) (h : pt ≠ .rd) : ({ c with rd := x } : Channel).part pt = c.part pt := by
  apply part_mk <;> simp [h]

@[simp] theorem part_setFcl (x : Fcl) (h : pt ≠ .fcl) : ({ c with fcl := x } : Channel).part pt = c.part pt := by
  apply part_mk <;> simp [h]

@[simp] theorem part_setNet (x : NetU) (h : pt ≠ .net) : ({ c with net := x } : Channel).part pt = c.part pt := by
  apply part_mk <;> simp [h]

@[simp] theorem part_setHp (x : Hp) (h : pt ≠ .hp) : ({ c with hp := x } : Channel).part pt = c.part pt := by
  apply part_mk <;> simp [h]

@[simp] theorem part_setSec (x : Sec) (h : pt ≠ .sec) : ({ c with sec := x } : Channel).part pt = c.part pt := by
  apply part_mk <;> simp [h]

@[simp] theorem part_setPwr (x : Pwr) (h : pt ≠ .pwr) : ({ c with pwr := x } : Channel).part pt = c.part pt := by
  apply part_mk <;> simp [h]

@[simp] theorem part_setMg (x : Mg) (h : pt ≠ .mg) : ({ c with mg := x } : Channel).part pt = c.part pt := by
  apply part_mk <;> simp [h]

@[simp] theorem part_setLog (x : Log) (h : pt ≠ .log) : ({ c with log := x } : Channel).part pt = c.part pt := by
  apply part_mk <;> simp [h]

@[simp] theorem part_setPct (x : Pct) (h : pt ≠ .pct) : ({ c with pct := x } : Channel).part pt = c.part pt := by
  apply part_mk <;> simp [h]

@[simp] theorem part_setParams (x : Words) (h : pt ≠ .params) :
    ({ c with params := x } : Channel).part pt = c.part pt := by
  apply part_mk <;> simp [h]

@[simp] theorem part_setAct (x : Words) (h : pt ≠ .act) : ({ c with act := x } : Channel).part pt = c.part pt := by
  apply part_mk <;> simp [h]

@[simp] theorem part_setImg (x : Words) (h : pt ≠ .img) : ({ c with img := x } : Channel).part pt = c.part pt := by
  apply part_mk <;> simp [h]

@[simp] theorem part_setNv (x : Nv) (h : pt ≠ .nv) : ({ c with nv := x } : Channel).part pt = c.part pt := by
  apply part_mk <;> simp [h]

end

/-- Under a condition a part is read in the branch taken. -/
@[simp] theorem part_ite (b : Prop) [Decidable b] (y z : Channel) (pt : Part) :
    (if b then y else z).part pt = if b then y.part pt else z.part pt := by split <;> rfl

@[simp] theorem part_dite (b : Prop) [Decidable b] (y : b → Channel) (z : ¬b → Channel) (pt : Part) :
    (if h : b then y h else z h).part pt = if h : b then (y h).part pt else (z h).part pt := by split <;> rfl

/-- A command that runs under a condition leaves alone what it leaves alone where it runs. -/
@[simp] theorem part_when {b : Bool} {f : Channel → Channel} {c : Channel} {pt : Part}
    (h : (f c).part pt = c.part pt) : (when b f c).part pt = c.part pt := by cases b <;> simp [h]

/-- A fold leaves alone what each of its steps does. -/
@[simp] theorem part_foldl {α : Type} {f : Channel → α → Channel} {pt : Part} (h : ∀ c x, (f c x).part pt = c.part pt)
    (xs : List α) (c : Channel) : (xs.foldl f c).part pt = c.part pt := by
  induction xs generalizing c with
  | nil => rfl
  | cons x xs ih => rw [List.foldl_cons, ih, h]

end Sys2Proof.Machine
end

section
/-! PROOF. What the operations of a channel leave alone: the law X_part names the parts that X can change, and X
keeps the others. Each law follows from those of the operations that X runs; they stand in the model's order. -/

namespace Sys2Proof.Machine

-- One proof after another: with each in a thread of its own the joined text nears the check's memory limit.
set_option Elab.async false

section
variable {pt : Part} (c : Channel) (t : Nat)

/-! The operations of Ops. -/

@[simp] theorem putW_part (id : Nat) (v : Word) (hpt : pt ≠ .params) : (c.putW id v).part pt = c.part pt :=
  part_setParams _ _ hpt

@[simp] theorem putA_part (id : Nat) (v : Word) (hpt : pt ≠ .act) : (c.putA id v).part pt = c.part pt :=
  part_setAct _ _ hpt

@[simp] theorem applyRange_part (a b : Nat) (hpt : pt ≠ .act) : (c.applyRange a b).part pt = c.part pt :=
  part_setAct _ _ hpt

@[simp] theorem applyMarks_part (hpt : pt ≠ .act) : c.applyMarks.part pt = c.part pt := part_setAct _ _ hpt

@[simp] theorem raise_part (l : Fin 62) (d : BitVec 16) (hpt : pt ≠ .fcl) : (c.raise l d).part pt = c.part pt := by
  obtain ⟨_, e⟩ := raise_eq c l d
  simp [e, hpt]

@[simp] theorem bump_part (b i n : Nat) (hpt : pt ≠ .pct) : (c.bump b i n).part pt = c.part pt := by
  obtain ⟨_, e⟩ := bump_eq c b i n
  simp [e, hpt]

@[simp] theorem mram_part (d : MramData) (w : Option Work) (hpt : pt ≠ .nv) : (c.mram d w).part pt = c.part pt := by
  simp [mram_eq, hpt]

@[simp] theorem logEv_part (source code : Nat) (d : List Word) (hpt : pt ≠ .log ∧ pt ≠ .pct ∧ pt ≠ .nv) :
    (c.logEv t source code d).part pt = c.part pt := by
  obtain ⟨_, _, _, _, e⟩ := logEv_eq c t source code d
  simp [e, part_mk, hpt]

@[simp] theorem setRole_part (r : Role) (hpt : pt ≠ .rd ∧ pt ≠ .log ∧ pt ≠ .pct ∧ pt ≠ .nv) :
    (c.setRole t r).part pt = c.part pt := by
  obtain ⟨_, _, _, _, _, e⟩ := setRole_eq c t r
  simp [e, part_mk, hpt]

@[simp] theorem setLevel_part (l : BitVec 3) (hpt : pt ≠ .rd ∧ pt ≠ .log ∧ pt ≠ .pct ∧ pt ≠ .nv) :
    (c.setLevel t l).part pt = c.part pt := by
  obtain ⟨_, _, _, _, _, e⟩ := setLevel_eq c t l
  simp [e, part_mk, hpt]

/-! The operations of Grid. -/

@[simp] theorem startClasses_part (j : Nat) (hpt : pt ≠ .ce) : (c.startClasses t j).part pt = c.part pt :=
  part_setCe _ _ hpt

@[simp] theorem timeStart_part (hpt : pt ≠ .net) : (c.timeStart t).part pt = c.part pt := part_setNet _ _ hpt

/-! The operations of SteerOps. -/

@[simp] theorem announce_part (r : AnnReq) (hpt : pt ≠ .sd ∧ pt ≠ .rd) : (c.announce t r).part pt = c.part pt := by
  unfold Channel.announce
  (repeat' split) <;> simp [part_mk, hpt]

@[simp] theorem mapLegs_part (f : Fin 6 → Leg → Leg) (hpt : pt ≠ .gd) : (c.mapLegs f).part pt = c.part pt :=
  part_setGd _ _ hpt

@[simp] theorem mapRc_part (f : Fin 8 → RcInst → RcInst) (hpt : pt ≠ .ce) : (c.mapRc f).part pt = c.part pt :=
  part_setCe _ _ hpt

@[simp] theorem angleGap_part (src : Nat) (hpt : pt ≠ .ce) : (c.angleGap src).part pt = c.part pt :=
  part_setCe _ _ hpt

@[simp] theorem gatesOff_part (g : Grp) (hpt : pt ≠ .gd) : (c.gatesOff t g).part pt = c.part pt := part_setGd _ _ hpt

@[simp] theorem allGatesOff_part (hpt : pt ≠ .gd) : (c.allGatesOff t).part pt = c.part pt := part_setGd _ _ hpt

@[simp] theorem bchFollow_part (hpt : pt ≠ .gd) : c.bchFollow.part pt = c.part pt := part_setGd _ _ hpt

@[simp] theorem pis_part (on : Bool) (hpt : pt ≠ .sd ∧ pt ≠ .gd) : (c.pis t on).part pt = c.part pt := by
  simp [Channel.pis, part_mk, hpt]

@[simp] theorem leaveSet_part (hpt : pt ≠ .sd ∧ pt ≠ .rd) : c.leaveSet.part pt = c.part pt := by
  simp [Channel.leaveSet, part_mk, hpt]

@[simp] theorem sdOff_part (hpt : pt ≠ .sd ∧ pt ≠ .gd ∧ pt ≠ .rd) : (c.sdOff t).part pt = c.part pt := by
  simp [Channel.sdOff, hpt]

@[simp] theorem sdOpening_part (cause : BitVec 3) (hpt : pt ≠ .sd ∧ pt ≠ .gd ∧ pt ≠ .rd) :
    (c.sdOpening t cause).part pt = c.part pt := by simp [Channel.sdOpening, hpt]

@[simp] theorem sdFault_part (cause : BitVec 3) (hpt : pt ≠ .sd ∧ pt ≠ .gd ∧ pt ≠ .rd ∧ pt ≠ .fcl) :
    (c.sdFault t cause).part pt = c.part pt := by simp [Channel.sdFault, hpt]

@[simp] theorem leaveOffCodes_part (g : Grp) (hpt : pt ≠ .gd) : (c.leaveOffCodes g).part pt = c.part pt :=
  part_setGd _ _ hpt

@[simp] theorem fromEdge_part (hpt : pt ≠ .sd) : c.fromEdge.part pt = c.part pt := by
  unfold Channel.fromEdge
  split <;> simp [hpt]

@[simp] theorem encFault_part (hpt : pt ≠ .sd ∧ pt ≠ .fcl) : c.encFault.part pt = c.part pt := by
  simp [Channel.encFault, hpt]

@[simp] theorem disarmEs_part (k : Fin 8) (hpt : pt ≠ .fb ∧ pt ≠ .params ∧ pt ≠ .act) :
    (c.disarmEs k).part pt = c.part pt := by simp [Channel.disarmEs, hpt]

@[simp] theorem esTake_part (hpt : pt ≠ .fb ∧ pt ≠ .params ∧ pt ≠ .act) : c.esTake.part pt = c.part pt := by
  simp [Channel.esTake, hpt]

@[simp] theorem sdClosing_part
    (hpt : pt ≠ .sd ∧ pt ≠ .gd ∧ pt ≠ .fb ∧ pt ≠ .rd ∧ pt ≠ .fcl ∧ pt ≠ .params ∧ pt ≠ .act) :
    (c.sdClosing t).part pt = c.part pt := by simp [Channel.sdClosing, part_mk, hpt]

@[simp] theorem sdStart_part
    (hpt : pt ≠ .sd ∧ pt ≠ .gd ∧ pt ≠ .fb ∧ pt ≠ .rd ∧ pt ≠ .fcl ∧ pt ≠ .params ∧ pt ≠ .act) :
    (c.sdStart t).part pt = c.part pt := by simp [Channel.sdStart, hpt]

@[simp] theorem sdHallEdge_part (k : Nat) (hpt : pt ≠ .sd ∧ pt ≠ .fcl) : (c.sdHallEdge t k).part pt = c.part pt := by
  simp [Channel.sdHallEdge, hpt]

@[simp] theorem sdHallBad_part (hpt : pt ≠ .sd ∧ pt ≠ .gd ∧ pt ≠ .rd ∧ pt ≠ .fcl) :
    (c.sdHallBad t).part pt = c.part pt := by
  unfold Channel.sdHallBad
  (repeat' split) <;> simp [hpt]

@[simp] theorem sdZ_part (d : Option Nat) (hpt : pt ≠ .ce ∧ pt ≠ .sd ∧ pt ≠ .fcl) :
    (c.sdZ d).part pt = c.part pt := by
  unfold Channel.sdZ
  (repeat' split) <;> simp [hpt]

@[simp] theorem routeTorque_part (x : F32) (hpt : pt ≠ .sd ∧ pt ≠ .pct) :
    (c.routeTorque t x).part pt = c.part pt := by
  simp [Channel.routeTorque, hpt]

@[simp] theorem armEs_part (k : Fin 8) (rising : Bool) (v : Word) (hpt : pt ≠ .fb ∧ pt ≠ .params ∧ pt ≠ .act) :
    (c.armEs k rising v).part pt = c.part pt := by simp [Channel.armEs, hpt]

@[simp] theorem armEnd_part (k0 k1 : Fin 8) (z : Zone) (soft hard : Word) (up : Bool)
    (hpt : pt ≠ .fb ∧ pt ≠ .params ∧ pt ≠ .act) :
    (c.armEnd k0 k1 z soft hard up).part pt = c.part pt := by
  unfold Channel.armEnd
  (repeat' split) <;> simp [hpt]

@[simp] theorem esFire_part (k : Nat) (hpt : pt ≠ .sd ∧ pt ≠ .fb ∧ pt ≠ .params ∧ pt ≠ .act) :
    (c.esFire k).part pt = c.part pt := by simp [Channel.esFire, hpt]

@[simp] theorem esMark_part (voted : Option F32) (hpt : pt ≠ .sd ∧ pt ≠ .fb ∧ pt ≠ .params ∧ pt ≠ .act) :
    (c.esMark voted).part pt = c.part pt := by
  unfold Channel.esMark
  split <;> simp [hpt]

/-! The operations of FbOps. -/

@[simp] theorem setEnc_part (n : Fin 2) (e : Enc) (hpt : pt ≠ .fb) : (c.setEnc n e).part pt = c.part pt :=
  part_setFb _ _ hpt

@[simp] theorem setHall_part (n : Fin 2) (h : Hall) (hpt : pt ≠ .fb) : (c.setHall n h).part pt = c.part pt :=
  part_setFb _ _ hpt

@[simp] theorem setSent_part (n : Fin 2) (x : Sent) (hpt : pt ≠ .fb) : (c.setSent n x).part pt = c.part pt :=
  part_setFb _ _ hpt

@[simp] theorem setWss_part (n : Fin 4) (x : Wss) (hpt : pt ≠ .fb) : (c.setWss n x).part pt = c.part pt :=
  part_setFb _ _ hpt

@[simp] theorem setCmp_part (k : Fin 8) (x : Cmp) (hpt : pt ≠ .fb) : (c.setCmp k x).part pt = c.part pt :=
  part_setFb _ _ hpt

@[simp] theorem cmpJudge_part (k : Fin 8) (hpt : pt ≠ .fb) : (c.cmpJudge k).part pt = c.part pt := part_setFb _ _ hpt

@[simp] theorem cmpApply_part (k : Fin 8) (hpt : pt ≠ .fb ∧ pt ≠ .act) : (c.cmpApply t k).part pt = c.part pt := by
  simp [Channel.cmpApply, hpt]

@[simp] theorem cmpFire_part (k : Fin 8) (hpt : pt ≠ .sd ∧ pt ≠ .fb ∧ pt ≠ .pct ∧ pt ≠ .params ∧ pt ≠ .act) :
    (c.cmpFire t k).part pt = c.part pt := by simp [Channel.cmpFire, hpt]

@[simp] theorem cmpStep_part (src : Nat) (old now : Word) (k : Fin 8)
    (hpt : pt ≠ .sd ∧ pt ≠ .fb ∧ pt ≠ .pct ∧ pt ≠ .params ∧ pt ≠ .act) :
    (c.cmpStep t src old now k).part pt = c.part pt := by simp [Channel.cmpStep, hpt]

@[simp] theorem cmpMove_part (src : Nat) (old now : Word)
    (hpt : pt ≠ .sd ∧ pt ≠ .fb ∧ pt ≠ .pct ∧ pt ≠ .params ∧ pt ≠ .act) :
    (c.cmpMove t src old now).part pt = c.part pt := by simp [Channel.cmpMove, hpt]

@[simp] theorem cmpValidity_part (src : Nat) (hpt : pt ≠ .fb) : (c.cmpValidity src).part pt = c.part pt := by
  simp [Channel.cmpValidity, hpt]

@[simp] theorem speedDecay_part (hpt : pt ≠ .fb) : (c.speedDecay t).part pt = c.part pt := by
  unfold Channel.speedDecay
  extract_lets encStep hallStep
  have henc : ∀ c n, (encStep c n).part pt = c.part pt := fun c n => by
    simp only [encStep]
    split <;> simp [hpt]
  have hhall : ∀ c n, (hallStep c n).part pt = c.part pt := fun c n => by
    simp only [hallStep]
    split <;> simp [hpt]
  simp only [hhall, henc]

@[simp] theorem sentJudge_part (n : Fin 2) (due : Nat) (r : SentRes) (hpt : pt ≠ .fb ∧ pt ≠ .fcl ∧ pt ≠ .pct) :
    (c.sentJudge n due r).part pt = c.part pt := by
  simp only [Channel.sentJudge]
  (repeat' split) <;> simp [hpt]

@[simp] theorem sentSettle_part (n : Fin 2) (hpt : pt ≠ .fb ∧ pt ≠ .fcl ∧ pt ≠ .pct) :
    (c.sentSettle t n).part pt = c.part pt := by simp [Channel.sentSettle, hpt]

@[simp] theorem sentSettleAll_part (hpt : pt ≠ .fb ∧ pt ≠ .fcl ∧ pt ≠ .pct) :
    (c.sentSettleAll t).part pt = c.part pt := by simp [Channel.sentSettleAll, hpt]

@[simp] theorem fbRestart_part (hpt : pt ≠ .fb) : c.fbRestart.part pt = c.part pt := part_setFb _ _ hpt

@[simp] theorem fbReconfig_part (old : Channel) (hpt : pt ≠ .fb) : (c.fbReconfig old).part pt = c.part pt := by
  unfold Channel.fbReconfig
  extract_lets changed enc hall sent wss
  have henc : ∀ c n, (enc c n).part pt = c.part pt := fun c n => by simp [enc, hpt]
  have hhall : ∀ c n, (hall c n).part pt = c.part pt := fun c n => by simp [hall, hpt]
  have hsent : ∀ c n, (sent c n).part pt = c.part pt := fun c n => by simp [sent, hpt]
  have hwss : ∀ c n, (wss c n).part pt = c.part pt := fun c n => by simp [wss, hpt]
  simp only [hwss, hsent, hhall, henc]

/-! The operations of DriveOps. -/

@[simp] theorem gdCopy_part (hpt : pt ≠ .gd) : c.gdCopy.part pt = c.part pt := part_setGd _ _ hpt

@[simp] theorem setGrp_part (g : Grp) (x : GdGrp) (hpt : pt ≠ .gd) : (c.setGrp g x).part pt = c.part pt := by
  simp [Channel.setGrp, hpt]

@[simp] theorem setLeg_part (k : Fin 6) (x : Leg) (hpt : pt ≠ .gd) : (c.setLeg k x).part pt = c.part pt :=
  part_setGd _ _ hpt

@[simp] theorem bchOff_part (hpt : pt ≠ .gd) : c.bchOff.part pt = c.part pt := part_setGd _ _ hpt

@[simp] theorem bchCut_part (hpt : pt ≠ .gd) : c.bchCut.part pt = c.part pt := by simp [Channel.bchCut, hpt]

@[simp] theorem bchHeld_part (hpt : pt ≠ .gd) : c.bchHeld.part pt = c.part pt := part_setGd _ _ hpt

@[simp] theorem bchStart_part (hpt : pt ≠ .gd) : (c.bchStart t).part pt = c.part pt := by simp [Channel.bchStart, hpt]

@[simp] theorem lowSides_part (g : Grp) (hpt : pt ≠ .gd) : (c.lowSides t g).part pt = c.part pt := part_setGd _ _ hpt

@[simp] theorem adIdle_part (st : AdSt) (hpt : pt ≠ .ad ∧ pt ≠ .gd) : (c.adIdle t st).part pt = c.part pt := by
  simp [Channel.adIdle, hpt]

@[simp] theorem adOff_part (hpt : pt ≠ .ad ∧ pt ≠ .gd) : (c.adOff t).part pt = c.part pt := by
  simp [Channel.adOff, hpt]

@[simp] theorem adFault_part (cause : BitVec 3) (hpt : pt ≠ .ad ∧ pt ≠ .gd ∧ pt ≠ .fcl) :
    (c.adFault t cause).part pt = c.part pt := by simp [Channel.adFault, hpt]

@[simp] theorem adFailure_part (hpt : pt ≠ .ad ∧ pt ≠ .gd ∧ pt ≠ .fcl) : (c.adFailure t).part pt = c.part pt := by
  simp [Channel.adFailure, hpt]

@[simp] theorem adStart_part (hpt : pt ≠ .ad ∧ pt ≠ .gd ∧ pt ≠ .act) : (c.adStart t).part pt = c.part pt := by
  simp [Channel.adStart, part_mk, hpt]

@[simp] theorem adMark_part (hpt : pt ≠ .ad) : (c.adMark t).part pt = c.part pt := by simp [Channel.adMark, hpt]

@[simp] theorem adTakeBack_part (hpt : pt ≠ .ad ∧ pt ≠ .rd ∧ pt ≠ .fcl) : (c.adTakeBack t).part pt = c.part pt := by
  unfold Channel.adTakeBack
  split <;> simp [part_mk, hpt]

@[simp] theorem dropGrp_part (g : Grp) (hpt : pt ≠ .sd ∧ pt ≠ .ad ∧ pt ≠ .gd ∧ pt ≠ .rd ∧ pt ≠ .fcl) :
    (c.dropGrp t g).part pt = c.part pt := by
  unfold Channel.dropGrp
  (repeat' split) <;> simp [hpt]

@[simp] theorem dropEnables_part (hpt : pt ≠ .sd ∧ pt ≠ .ad ∧ pt ≠ .gd ∧ pt ≠ .rd ∧ pt ≠ .fcl) :
    (c.dropEnables t).part pt = c.part pt := by simp [Channel.dropEnables, hpt]

@[simp] theorem isolateNow_part (hpt : pt ≠ .exe ∧ pt ≠ .rd ∧ pt ≠ .log ∧ pt ≠ .pct ∧ pt ≠ .nv) :
    (c.isolateNow t).part pt = c.part pt := by simp [Channel.isolateNow, part_mk, hpt]

@[simp] theorem beginIsolate_part
    (hpt : pt ≠ .exe ∧ pt ≠ .sd ∧ pt ≠ .ad ∧ pt ≠ .gd ∧ pt ≠ .rd ∧ pt ≠ .fcl ∧ pt ≠ .log ∧ pt ≠ .pct ∧ pt ≠ .nv) :
    (c.beginIsolate t).part pt = c.part pt := by simp [Channel.beginIsolate, part_mk, hpt]

@[simp] theorem endAsc_part (hpt : pt ≠ .sd ∧ pt ≠ .gd ∧ pt ≠ .rd) : (c.endAsc t).part pt = c.part pt := by
  simp [Channel.endAsc, hpt]

@[simp] theorem chopFault_part
    (hpt : pt ≠ .exe ∧ pt ≠ .sd ∧ pt ≠ .ad ∧ pt ≠ .gd ∧ pt ≠ .rd ∧ pt ≠ .fcl ∧ pt ≠ .log ∧ pt ≠ .pct ∧ pt ≠ .nv) :
    (c.chopFault t).part pt = c.part pt := by
  unfold Channel.chopFault
  extract_lets c1 _ c2 left _ _ c3 c4 _ _ c5
  have h2 : c2.part pt = c.part pt := by simp [c2, c1, hpt]
  have h3 : c3.part pt = c.part pt := by
    simp only [c3]
    split <;> simp [left, h2, hpt, part_mk]
  have h4 : c4.part pt = c.part pt := by simp [c4, h3, hpt]
  clear_value c4
  have h5 : c5.part pt = c.part pt := by simp [c5, h4, hpt, part_mk]
  simp [h4, h5, hpt]

@[simp] theorem gdMark_part (hpt : pt ≠ .gd) : c.gdMark.part pt = c.part pt := by simp [Channel.gdMark, hpt]

/-! The operations of ResetOps. -/

@[simp] theorem sequence_part (hpt : pt ≠ .rst ∧ pt ≠ .clk) : c.sequence.part pt = c.part pt := by
  simp [Channel.sequence, part_mk_rst, hpt]

/-! The operations of FaultOps. -/

@[simp] theorem setWi_part (w : Wid) (x : Wi) (hpt : pt ≠ .wi1 ∧ pt ≠ .wi2) : (c.setWi w x).part pt = c.part pt := by
  unfold Channel.setWi
  split <;> simp [hpt]

@[simp] theorem setPeer_part (ch : Ch) (x : Partner) (hpt : pt ≠ .rd) : (c.setPeer ch x).part pt = c.part pt := by
  unfold Channel.setPeer
  split <;> simp [hpt]

@[simp] theorem enterView_part (k : Fin 24) (hpt : pt ≠ .rd) : (c.enterView k).part pt = c.part pt := by
  simp [enterView_eq, hpt]

@[simp] theorem viewSync_part (hpt : pt ≠ .rd) : (c.viewSync t).part pt = c.part pt := by
  obtain ⟨_, _, e⟩ := viewSync_eq c t
  simp [e, hpt]

@[simp] theorem setResult_part (test : BitVec 8) (v : Word) (hpt : pt ≠ .mg) :
    (c.setResult test v).part pt = c.part pt := part_setMg _ _ hpt

@[simp] theorem linksBack_part (hpt : pt ≠ .wi1 ∧ pt ≠ .wi2 ∧ pt ≠ .rd) : (c.linksBack t).part pt = c.part pt := by
  simp [Channel.linksBack, part_mk, hpt]

@[simp] theorem bistRestore_part (test : BitVec 8) (port : Port)
    (hpt : pt ≠ .gd ∧ pt ≠ .fb ∧ pt ≠ .wi1 ∧ pt ≠ .wi2 ∧ pt ≠ .rd ∧ pt ≠ .net ∧ pt ≠ .hp) :
    (c.bistRestore t test port).part pt = c.part pt := by
  unfold Channel.bistRestore
  (repeat' split) <;> simp [hpt]

@[simp] theorem bistEnd_part (test : BitVec 8) (port : Port) (status : Nat) (detail : BitVec 16)
    (hpt : pt ≠ .gd ∧ pt ≠ .fb ∧ pt ≠ .wi1 ∧ pt ≠ .wi2 ∧ pt ≠ .rd ∧ pt ≠ .net ∧ pt ≠ .hp ∧ pt ≠ .mg ∧ pt ≠ .log ∧
        pt ≠ .pct ∧ pt ≠ .nv) :
    (c.bistEnd t test port status detail).part pt = c.part pt := by simp [Channel.bistEnd, hpt]

@[simp] theorem bistAbort_part
    (hpt : pt ≠ .gd ∧ pt ≠ .fb ∧ pt ≠ .wi1 ∧ pt ≠ .wi2 ∧ pt ≠ .rd ∧ pt ≠ .net ∧ pt ≠ .hp ∧ pt ≠ .mg ∧ pt ≠ .log ∧
        pt ≠ .pct ∧ pt ≠ .nv) :
    (c.bistAbort t).part pt = c.part pt := by
  unfold Channel.bistAbort
  split <;> simp [hpt]

@[simp] theorem wakeDoze_part (source : Nat) (hpt : pt ≠ .pwr) : (c.wakeDoze t source).part pt = c.part pt := by
  simp [Channel.wakeDoze, hpt]

@[simp] theorem dropLine_part (l : Fin 62) (d : BitVec 16) (hpt : pt ≠ .fcl) : (c.dropLine l d).part pt = c.part pt :=
  part_setFcl _ _ hpt

/-! The operations of CeOps. -/

@[simp] theorem tdx_part (line : Fin 62) (kind : BitVec 4) (loop seq : Nat) (addr dp dt : Word)
    (hpt : pt ≠ .exe ∧ pt ≠ .sd ∧ pt ≠ .ad ∧ pt ≠ .gd ∧ pt ≠ .rd ∧ pt ≠ .fcl ∧ pt ≠ .log ∧ pt ≠ .pct ∧ pt ≠ .nv) :
    (c.tdx t line kind loop seq addr dp dt).part pt = c.part pt := by simp [Channel.tdx, hpt]

@[simp] theorem setSlot_part (n : Fin 32) (x : Slot) (hpt : pt ≠ .ce) : (c.setSlot n x).part pt = c.part pt :=
  part_setCe _ _ hpt

@[simp] theorem setRc_part (m : Fin 8) (x : RcInst) (hpt : pt ≠ .ce) : (c.setRc m x).part pt = c.part pt :=
  part_setCe _ _ hpt

@[simp] theorem setTrace_part (u : Fin 4) (x : TraceUnit) (hpt : pt ≠ .ce) : (c.setTrace u x).part pt = c.part pt :=
  part_setCe _ _ hpt

@[simp] theorem loopStart_part (n : Fin 32) (hpt : pt ≠ .ce ∧ pt ≠ .act) : (c.loopStart t n).part pt = c.part pt := by
  simp [Channel.loopStart, hpt]

@[simp] theorem applyEntry_part (e : QEntry) (hpt : pt ≠ .act) : (c.applyEntry e).part pt = c.part pt :=
  part_setAct _ _ hpt

@[simp] theorem drainQueue_part (n : Fin 32) (hpt : pt ≠ .ce ∧ pt ≠ .pct ∧ pt ≠ .act) :
    (c.drainQueue n).part pt = c.part pt := by simp [Channel.drainQueue, hpt]

@[simp] theorem headEntry_part (n : Fin 32) (hpt : pt ≠ .ce ∧ pt ≠ .pct ∧ pt ≠ .act) :
    (c.headEntry t n).part pt = c.part pt := by
  simp only [Channel.headEntry]
  split <;> simp [hpt]

@[simp] theorem sampleWrite_part (n : Fin 32) (id : Nat) (v : Word) (hpt : pt ≠ .ce ∧ pt ≠ .act) :
    (c.sampleWrite t n id v).part pt = c.part pt := by simp [Channel.sampleWrite, hpt]

@[simp] theorem routeOne_part (code : Nat) (u : F32) (hpt : pt ≠ .ce ∧ pt ≠ .sd ∧ pt ≠ .pct) :
    (c.routeOne t code u).part pt = c.part pt := by
  unfold Channel.routeOne
  extract_lets put _ vd _ vq _
  have hput : ∀ c k, (put c k).part pt = c.part pt := fun c k => by simp [put, hpt]
  (repeat' split) <;> simp [vd, vq, hput, hpt]

@[simp] theorem rcCommit_part (m : Fin 8) (p : Sample) (hpt : pt ≠ .ce ∧ pt ≠ .pct) :
    (c.rcCommit m p).part pt = c.part pt := by simp [Channel.rcCommit, hpt]

@[simp] theorem oscTrip_part (n : Fin 32) (x : Slot) (hpt : pt ≠ .ce ∧ pt ≠ .fcl ∧ pt ≠ .pct) :
    (c.oscTrip n x).part pt = c.part pt := by simp [Channel.oscTrip, hpt]

@[simp] theorem traceSample_part (n : Fin 32) (trip rose : Bool) (u : Fin 4) (hpt : pt ≠ .ce) :
    (c.traceSample t n trip rose u).part pt = c.part pt := by simp [Channel.traceSample, hpt]

/-! The operations of AdOps. -/

@[simp] theorem adCompares_part (hpt : pt ≠ .ad) : c.adCompares.part pt = c.part pt := part_setAd _ _ hpt

@[simp] theorem adLoad_part (hpt : pt ≠ .ad) : c.adLoad.part pt = c.part pt := part_setAd _ _ hpt

@[simp] theorem adCommand_part (hpt : pt ≠ .ad ∧ pt ≠ .fcl) : (c.adCommand t).part pt = c.part pt := by
  simp [Channel.adCommand, hpt]

@[simp] theorem adCatch_part (hpt : pt ≠ .ad ∧ pt ≠ .gd) : (c.adCatch t).part pt = c.part pt := by
  simp [Channel.adCatch, hpt]

@[simp] theorem adFollow_part (hpt : pt ≠ .ad ∧ pt ≠ .gd) : (c.adFollow t).part pt = c.part pt := by
  unfold Channel.adFollow
  split <;> simp [hpt]

@[simp] theorem adRegulate_part (hpt : pt ≠ .ad) : c.adRegulate.part pt = c.part pt := by
  simp [Channel.adRegulate, hpt]

@[simp] theorem adClass4k_part (hpt : pt ≠ .ad ∧ pt ≠ .gd ∧ pt ≠ .fcl) : (c.adClass4k t).part pt = c.part pt := by
  simp [Channel.adClass4k, hpt]

@[simp] theorem adPeriod_part (hpt : pt ≠ .ad) : (c.adPeriod t).part pt = c.part pt := by
  unfold Channel.adPeriod
  split <;> simp [hpt]

@[simp] theorem adCommutate_part (tc : Nat) (hpt : pt ≠ .ad ∧ pt ≠ .pct) :
    (c.adCommutate tc).part pt = c.part pt := by
  unfold Channel.adCommutate
  extract_lets a ok time sectors t60 next c1 c2 c3
  have h2 : c2.part pt = c.part pt := by simp [c2, c1, hpt]
  have h3 : c3.part pt = c.part pt := by simp [c3, h2, hpt]
  simp [h3, hpt]

@[simp] theorem adEnterRun_part (hpt : pt ≠ .ce ∧ pt ≠ .ad) : (c.adEnterRun t).part pt = c.part pt := by
  simp [Channel.adEnterRun, hpt]

@[simp] theorem adSync_part (rpm : Nat) (v : Word) (hpt : pt ≠ .ce ∧ pt ≠ .ad) :
    (c.adSync t rpm v).part pt = c.part pt := by simp [Channel.adSync, hpt]

@[simp] theorem adFirst_part (hpt : pt ≠ .ad) : c.adFirst.part pt = c.part pt := by simp [Channel.adFirst, hpt]

/-! The operations of LaneOps. -/

@[simp] theorem adSwitch_part (old : Channel) (hpt : pt ≠ .ad) : (c.adSwitch old t).part pt = c.part pt :=
  part_setAd _ _ hpt

@[simp] theorem laneReq_part (k : Fin 6) (hs ls : Bool) (hpt : pt ≠ .gd ∧ pt ≠ .fcl) :
    (c.laneReq t k hs ls).part pt = c.part pt := by simp [Channel.laneReq, hpt]

@[simp] theorem lanesNow_part (g : Grp) (hpt : pt ≠ .gd) : (c.lanesNow t g).part pt = c.part pt := part_setGd _ _ hpt

/-! The operations of Auxiliary. -/

@[simp] theorem catchMeasured_part (n : Int) (res : BitVec 2) (ke : BitVec 16) (hpt : pt ≠ .ad) :
    (c.catchMeasured n res ke).part pt = c.part pt := part_setAd _ _ hpt

@[simp] theorem adAlign_part (hpt : pt ≠ .ad ∧ pt ≠ .gd) : (c.adAlign t).part pt = c.part pt := by
  simp [Channel.adAlign, hpt]

@[simp] theorem adBrake_part (hpt : pt ≠ .ad ∧ pt ≠ .gd ∧ pt ≠ .fcl) : (c.adBrake t).part pt = c.part pt := by
  simp [Channel.adBrake, hpt]

@[simp] theorem adKeFault_part (hpt : pt ≠ .ad ∧ pt ≠ .gd ∧ pt ≠ .fcl) : (c.adKeFault t).part pt = c.part pt := by
  simp [Channel.adKeFault, hpt]

@[simp] theorem catchDecide_part (rpm : Int) (epk : F32) (v : Word)
    (hpt : pt ≠ .ce ∧ pt ≠ .ad ∧ pt ≠ .gd ∧ pt ≠ .fcl ∧ pt ≠ .pct) :
    (c.catchDecide t rpm epk v).part pt = c.part pt := by simp [Channel.catchDecide, hpt]

@[simp] theorem commutate_part (hpt : pt ≠ .ce ∧ pt ≠ .ad ∧ pt ≠ .gd ∧ pt ≠ .pct) :
    (c.commutate t).part pt = c.part pt := by simp [Channel.commutate, hpt]

@[simp] theorem adBegin_part (times : List F32) (hpt : pt ≠ .ad) : (c.adBegin t times).part pt = c.part pt := by
  simp [Channel.adBegin, hpt]

/-! The operations of Gate. -/

@[simp] theorem transition_part (k : Fin 6) (dir : TswDir) (gate : GateCode) (steps : Nat)
    (hpt : pt ≠ .gd ∧ pt ≠ .pct) :
    (c.transition k dir gate steps).part pt = c.part pt := by
  unfold Channel.transition
  (repeat' split) <;> simp [hpt]

@[simp] theorem shortTrip_part (k : Fin 6) (hpt : pt ≠ .gd) : (c.shortTrip t k).part pt = c.part pt := by
  simp only [Channel.shortTrip]
  (repeat' split) <;> simp [hpt]

@[simp] theorem stoEnd_part (k : Fin 6) (hpt : pt ≠ .gd) : (c.stoEnd t k).part pt = c.part pt := by
  simp [Channel.stoEnd, hpt]

@[simp] theorem bchStoEnd_part (hpt : pt ≠ .gd) : (c.bchStoEnd t).part pt = c.part pt := by
  simp [Channel.bchStoEnd, hpt]

@[simp] theorem doubleShort_part (i : Nat) (hpt : pt ≠ .gd) : (c.doubleShort t i).part pt = c.part pt := by
  unfold Channel.doubleShort
  split <;> simp [hpt]

@[simp] theorem dieReport_part (g : Grp) (hpt : pt ≠ .sd ∧ pt ≠ .ad ∧ pt ≠ .gd ∧ pt ≠ .rd ∧ pt ≠ .fcl) :
    (c.dieReport t g).part pt = c.part pt := by
  unfold Channel.dieReport
  split <;> simp [hpt]

@[simp] theorem shortReport_part (g : Grp) (hpt : pt ≠ .sd ∧ pt ≠ .ad ∧ pt ≠ .gd ∧ pt ≠ .rd ∧ pt ≠ .fcl) :
    (c.shortReport t g).part pt = c.part pt := by simp [Channel.shortReport, hpt]

@[simp] theorem bootstrap_part (k : Fin 6) (falling : Bool) (hpt : pt ≠ .gd ∧ pt ≠ .fcl ∧ pt ≠ .pct) :
    (c.bootstrap t k falling).part pt = c.part pt := by simp [Channel.bootstrap, hpt]

@[simp] theorem chopper_part (v : Nat) (current : Bool)
    (hpt : pt ≠ .exe ∧ pt ≠ .sd ∧ pt ≠ .ad ∧ pt ≠ .gd ∧ pt ≠ .rd ∧ pt ≠ .fcl ∧ pt ≠ .log ∧ pt ≠ .pct ∧ pt ≠ .nv) :
    (c.chopper t v current).part pt = c.part pt := by
  unfold Channel.chopper
  extract_lets on off low seen _ c1 c2 _ c3 faultT unseen
  have h1 : c1.part pt = c.part pt := by simp [c1, hpt]
  have h3 : c3.part pt = c.part pt := by simp [c3, c2, h1, hpt]
  simp [h1, h3, hpt]

@[simp] theorem gclkLost_part (hpt : pt ≠ .gd) : (c.gclkLost t).part pt = c.part pt := by simp [Channel.gclkLost, hpt]

@[simp] theorem gdlGood_part (dir : GdlDir) (hpt : pt ≠ .gd) : (c.gdlGood t dir).part pt = c.part pt := by
  unfold Channel.gdlGood
  split <;> simp [hpt]

@[simp] theorem gdlBad_part (dir : GdlDir) (hpt : pt ≠ .gd ∧ pt ≠ .fcl) : (c.gdlBad t dir).part pt = c.part pt := by
  unfold Channel.gdlBad
  (repeat' split) <;> simp [hpt]

@[simp] theorem gdlFrame_part (dir : GdlDir) (ok : Bool) (hpt : pt ≠ .gd ∧ pt ≠ .fcl) :
    (c.gdlFrame t dir ok).part pt = c.part pt := by simp [Channel.gdlFrame, hpt]

@[simp] theorem gdTestStart_part (_t : Nat) (g : Grp) (hpt : pt ≠ .gd) :
    (c.gdTestStart _t g).part pt = c.part pt := by
  simp [Channel.gdTestStart, hpt]

@[simp] theorem gdTestEnd_part (g : Grp) (failed : BitVec 8)
    (hpt : pt ≠ .sd ∧ pt ≠ .ad ∧ pt ≠ .gd ∧ pt ≠ .fb ∧ pt ≠ .rd ∧ pt ≠ .fcl ∧ pt ≠ .params ∧ pt ≠ .act) :
    (c.gdTestEnd t g failed).part pt = c.part pt := by
  unfold Channel.gdTestEnd
  (repeat' split) <;> simp [hpt]

/-! The operations of MbOps. -/

@[simp] theorem setXp_part (next : Bool) (x : Peer) (hpt : pt ≠ .hp) : (c.setXp next x).part pt = c.part pt := by
  obtain ⟨_, e⟩ := setXp_hp c next x
  simp [e, hpt]

@[simp] theorem setPort_part (p : Port) (x : HPort) (hpt : pt ≠ .hp) : (c.setPort p x).part pt = c.part pt := by
  unfold Channel.setPort
  split <;> simp [hpt]

@[simp] theorem mbuEnd_part (hpt : pt ≠ .hp) : c.mbuEnd.part pt = c.part pt := by simp [Channel.mbuEnd, hpt]

@[simp] theorem xmbEnd_part (next failed : Bool) (hpt : pt ≠ .hp) : (c.xmbEnd next failed).part pt = c.part pt := by
  simp only [Channel.xmbEnd]
  split <;> simp [hpt]

@[simp] theorem xmbRetry_part (next : Bool) (hpt : pt ≠ .hp) : (c.xmbRetry next).part pt = c.part pt := by
  simp only [Channel.xmbRetry]
  split <;> simp [hpt]

@[simp] theorem xmbBegin_part (next : Bool) (hpt : pt ≠ .hp) : (c.xmbBegin t next).part pt = c.part pt := by
  obtain ⟨_, e⟩ := xmbBegin_hp c t next
  simp [e, hpt]

@[simp] theorem xmbSegs_part (next : Bool) (room : Nat) (hpt : pt ≠ .hp) :
    (c.xmbSegs t next room).2.part pt = c.part pt := by
  obtain ⟨_, e⟩ := xmbSegs_hp c t next room
  simp [e, hpt]

@[simp] theorem xmbStore_part (next : Bool) (g : MbSeg) (ws : Vector Word 16) (hpt : pt ≠ .hp) :
    (c.xmbStore next g ws).part pt = c.part pt := by simp [Channel.xmbStore, hpt]

@[simp] theorem xmbPart_part (next : Bool) (g : MbSeg) (hpt : pt ≠ .hp) : (c.xmbPart next g).part pt = c.part pt := by
  simp [Channel.xmbPart, hpt]

@[simp] theorem xmbSeg_part (next : Bool) (g : MbSeg) (hpt : pt ≠ .hp ∧ pt ≠ .pct) :
    (c.xmbSeg next g).part pt = c.part pt := by
  simp only [Channel.xmbSeg]
  (repeat' split) <;> simp [hpt]

@[simp] theorem xmbReset_part (next : Bool) (hpt : pt ≠ .hp) : (c.xmbReset next).part pt = c.part pt := by
  obtain ⟨_, e⟩ := xmbReset_eq c next
  simp [e, hpt]

@[simp] theorem relaySnap_part (p : Port) (hpt : pt ≠ .hp) : (c.relaySnap p).part pt = c.part pt := by
  simp [Channel.relaySnap, hpt]

@[simp] theorem relayBox_part (p : Port) (k : Fin 4) (hpt : pt ≠ .hp) :
    (Channel.relayBox p c k).part pt = c.part pt := by simp [Channel.relayBox, hpt]

@[simp] theorem relayPort_part (p : Port) (hpt : pt ≠ .hp) : (c.relayPort p).part pt = c.part pt := by
  simp [Channel.relayPort, hpt]

@[simp] theorem relayAll_part (hpt : pt ≠ .hp) : c.relayAll.part pt = c.part pt := by simp [Channel.relayAll, hpt]

/-! The operations of RdOps. -/

@[simp] theorem sendClaim_part (w : Wid) (hpt : pt ≠ .wi1 ∧ pt ≠ .wi2) : (c.sendClaim t w).part pt = c.part pt := by
  simp [Channel.sendClaim, hpt]

@[simp] theorem laneFault_part (hpt : pt ≠ .rd) : c.laneFault.part pt = c.part pt := by simp [Channel.laneFault, hpt]

@[simp] theorem judgeLane_part (w : Wid) (hpt : pt ≠ .wi1 ∧ pt ≠ .wi2 ∧ pt ≠ .rd ∧ pt ≠ .fcl) :
    (c.judgeLane t w).part pt = c.part pt := by simp [Channel.judgeLane, hpt]

@[simp] theorem takeLoss_part (ch : Ch) (loss : Option Bool) (hpt : pt ≠ .rd ∧ pt ≠ .fcl) :
    (c.takeLoss ch loss).part pt = c.part pt := by
  unfold Channel.takeLoss
  split <;> simp [hpt]

@[simp] theorem clearOf_part (ch : Ch) (links : Bool) (hpt : pt ≠ .rd ∧ pt ≠ .fcl) :
    (c.clearOf ch links).part pt = c.part pt := by
  unfold Channel.clearOf
  extract_lets keep v1 drop v2 _ c1 d c2 c3 fresh
  have hfresh : ∀ c o, (fresh c o).part pt = c.part pt := fun c o => by simp [fresh, hpt]
  have h3 : c3.part pt = c.part pt := by simp [c3, c2, c1, hpt]
  simp [hfresh, h3]

@[simp] theorem clearPeer_part (ch : Ch) (lost : Bool) (hpt : pt ≠ .rd ∧ pt ≠ .fcl) :
    (c.clearPeer ch lost).part pt = c.part pt := by simp [Channel.clearPeer, hpt]

@[simp] theorem voteAngles_part (hpt : pt ≠ .rd) : c.voteAngles.part pt = c.part pt := part_setRd _ _ hpt

@[simp] theorem angleCounts_part (hpt : pt ≠ .rd) : c.angleCounts.part pt = c.part pt := part_setRd _ _ hpt

@[simp] theorem healthAngle_part (hpt : pt ≠ .rd) : c.healthAngle.part pt = c.part pt := part_setRd _ _ hpt

@[simp] theorem crossCheck_part (hpt : pt ≠ .rd) : c.crossCheck.part pt = c.part pt := by
  unfold Channel.crossCheck
  split <;> simp [hpt]

@[simp] theorem judgeSilence_part (lost : Ch → Option Bool) (w : Wid) (hpt : pt ≠ .rd) :
    (c.judgeSilence lost w).part pt = c.part pt := by simp [Channel.judgeSilence, hpt]

@[simp] theorem stopCourse_part (old : BitVec 3) (hpt : pt ≠ .rd) : (c.stopCourse t old).part pt = c.part pt := by
  unfold Channel.stopCourse
  split <;> simp [hpt]

@[simp] theorem toLevel_part (l : BitVec 3) (hpt : pt ≠ .rd ∧ pt ≠ .log ∧ pt ≠ .pct ∧ pt ≠ .nv) :
    (c.toLevel t l).part pt = c.part pt := by simp [Channel.toLevel, hpt]

@[simp] theorem trialPass_part (hpt : pt ≠ .sec ∧ pt ≠ .log ∧ pt ≠ .pct ∧ pt ≠ .nv) :
    (c.trialPass t).part pt = c.part pt := by simp [Channel.trialPass, part_mk, hpt]

@[simp] theorem takeRole_part (r : Role) (hpt : pt ≠ .rd ∧ pt ≠ .sec ∧ pt ≠ .log ∧ pt ≠ .pct ∧ pt ≠ .nv) :
    (c.takeRole t r).part pt = c.part pt := by simp [Channel.takeRole, hpt]

@[simp] theorem autoStart_part (hpt : pt ≠ .ce ∧ pt ≠ .fcl ∧ pt ≠ .act) : (c.autoStart t).part pt = c.part pt := by
  simp [Channel.autoStart, hpt]

@[simp] theorem enterResync_part
    (hpt : pt ≠ .ce ∧ pt ≠ .ad ∧ pt ≠ .gd ∧ pt ≠ .rd ∧ pt ≠ .fcl ∧ pt ≠ .log ∧ pt ≠ .pct ∧ pt ≠ .act ∧ pt ≠ .nv) :
    (c.enterResync t).part pt = c.part pt := by simp [Channel.enterResync, hpt]

@[simp] theorem leaveResync_part (r : Role)
    (hpt : pt ≠ .sd ∧ pt ≠ .gd ∧ pt ≠ .fb ∧ pt ≠ .rd ∧ pt ≠ .fcl ∧ pt ≠ .sec ∧ pt ≠ .log ∧ pt ≠ .pct ∧ pt ≠ .params ∧
        pt ≠ .act ∧ pt ≠ .nv) :
    (c.leaveResync t r).part pt = c.part pt := by simp [Channel.leaveResync, part_mk, hpt]

@[simp] theorem enterOffline_part
    (hpt : pt ≠ .sd ∧ pt ≠ .ad ∧ pt ≠ .gd ∧ pt ≠ .rd ∧ pt ≠ .log ∧ pt ≠ .pct ∧ pt ≠ .nv) :
    (c.enterOffline t).part pt = c.part pt := by
  unfold Channel.enterOffline
  split <;> simp [part_mk, hpt]

@[simp] theorem netOffline_part (hpt : pt ≠ .sd ∧ pt ≠ .ad ∧ pt ≠ .gd ∧ pt ≠ .rd ∧ pt ≠ .log ∧ pt ≠ .pct ∧ pt ≠ .nv) :
    (c.netOffline t).part pt = c.part pt := by simp [Channel.netOffline, hpt]

@[simp] theorem roleMark_part (lost : Ch → Option Bool) (passing off : Ch → Bool)
    (hpt : pt ≠ .ce ∧ pt ≠ .sd ∧ pt ≠ .ad ∧ pt ≠ .gd ∧ pt ≠ .fb ∧ pt ≠ .rd ∧ pt ≠ .fcl ∧ pt ≠ .sec ∧ pt ≠ .log ∧
        pt ≠ .pct ∧ pt ≠ .params ∧ pt ≠ .act ∧ pt ≠ .nv) :
    (c.roleMark t lost passing off).part pt = c.part pt := by
  unfold Channel.roleMark
  extract_lets cyc others seen named swap _ c1 promoted copied _ leadGone
  have h1 : c1.part pt = c.part pt := by
    simp only [c1]
    clear_value named
    cases named <;> simp [hpt]
  have hpromoted : ∀ c, (promoted c).part pt = c.part pt := fun c => by simp [promoted, hpt]
  clear_value c1 promoted swap
  split
  case h_3 => split <;> simp [h1, hpromoted, hpt]
  case h_4 => split <;> simp [h1, hpt]
  all_goals simp [h1, hpt]

@[simp] theorem annMark_part (trackBad : Ch → Bool) (hpt : pt ≠ .sd ∧ pt ≠ .rd) :
    (c.annMark t trackBad).part pt = c.part pt := by
  unfold Channel.annMark
  extract_lets _ c1 _
  have h1 : c1.part pt = c.part pt := by
    simp only [c1]
    split <;> simp [hpt]
  clear_value c1
  split <;> simp [h1, hpt]

@[simp] theorem sdMark_part (hpt : pt ≠ .ce ∧ pt ≠ .sd ∧ pt ≠ .gd ∧ pt ≠ .rd) : (c.sdMark t).part pt = c.part pt := by
  simp [Channel.sdMark, part_mk, hpt]

@[simp] theorem swapDemands_part (hpt : pt ≠ .ce) : c.swapDemands.part pt = c.part pt := part_setCe _ _ hpt

@[simp] theorem pctSnapshot_part (hpt : pt ≠ .pct) : c.pctSnapshot.part pt = c.part pt := by
  simp [Channel.pctSnapshot, hpt]

@[simp] theorem markParams_part (hpt : pt ≠ .ad ∧ pt ≠ .gd ∧ pt ≠ .fb ∧ pt ≠ .act) :
    c.markParams.part pt = c.part pt := by
  simp only [Channel.markParams]
  split <;> simp [hpt]

@[simp] theorem viewRaise_part (hpt : pt ≠ .rd ∧ pt ≠ .fcl) : (c.viewRaise t).part pt = c.part pt := by
  simp [Channel.viewRaise, hpt]

@[simp] theorem stillStep_part (v : Option F32) (hpt : pt ≠ .rd) : (c.stillStep t v).part pt = c.part pt :=
  part_setRd _ _ hpt

@[simp] theorem writeDemand_part (r : Fin 64) (v : F32) (ok : Bool) (hpt : pt ≠ .ce) :
    (c.writeDemand r v ok).part pt = c.part pt := part_setCe _ _ hpt

@[simp] theorem stopStep_part (v : Option F32) (hpt : pt ≠ .ce ∧ pt ≠ .rd) : (c.stopStep v).part pt = c.part pt := by
  unfold Channel.stopStep
  split <;> simp [hpt]

/-! The operations of NetOps. -/

@[simp] theorem setOl_part (p : OPort) (x : OlPort) (hpt : pt ≠ .net) : (c.setOl p x).part pt = c.part pt :=
  part_setNet _ _ hpt

@[simp] theorem setNn_part (n : Net) (x : NtNet) (hpt : pt ≠ .net) : (c.setNn n x).part pt = c.part pt := by
  simp [Channel.setNn, hpt]

@[simp] theorem setNt_part (x : Nt) (hpt : pt ≠ .net) : (c.setNt x).part pt = c.part pt := part_setNet _ _ hpt

@[simp] theorem setFlow_part (f : Fin 256) (x : Flow) (hpt : pt ≠ .net) : (c.setFlow f x).part pt = c.part pt :=
  part_setNet _ _ hpt

@[simp] theorem fwdClose_part (p : OPort) (hpt : pt ≠ .net) : (Channel.fwdClose t c p).part pt = c.part pt := by
  simp only [Channel.fwdClose]
  split <;> simp [hpt]

@[simp] theorem olFree_part (p : OPort) (hpt : pt ≠ .net) : (Channel.olFree t c p).part pt = c.part pt := by
  simp only [Channel.olFree]
  split <;> simp [hpt]

@[simp] theorem olForward_part (p : OPort) (hpt : pt ≠ .net) : (Channel.olForward t c p).part pt = c.part pt := by
  simp [Channel.olForward, hpt]

@[simp] theorem quietStep_part (hpt : pt ≠ .net) : c.quietStep.part pt = c.part pt := by
  unfold Channel.quietStep
  (repeat' split) <;> simp [hpt]

@[simp] theorem netWithheld_part (n : Net) (up dn : Bool) (hpt : pt ≠ .net) :
    (c.netWithheld n up dn).part pt = c.part pt := by simp [Channel.netWithheld, hpt]

@[simp] theorem echoPort_part (at_ : Nat) (p : OPort) (hpt : pt ≠ .net ∧ pt ≠ .pct) :
    (c.echoPort at_ p).part pt = c.part pt := by simp [Channel.echoPort, hpt]

@[simp] theorem echoStart_part (n : Net) (hpt : pt ≠ .net ∧ pt ≠ .pct) :
    (Channel.echoStart t c n).part pt = c.part pt := by
  simp only [Channel.echoStart]
  split <;> simp [hpt]

@[simp] theorem olSettle_part (hpt : pt ≠ .net ∧ pt ≠ .pct) : (c.olSettle t).part pt = c.part pt := by
  simp [Channel.olSettle, hpt]

@[simp] theorem spreadFree_part (hpt : pt ≠ .clk) : (c.spreadFree t).part pt = c.part pt := by
  simp [Channel.spreadFree, hpt]

@[simp] theorem toListen_part (hpt : pt ≠ .clk ∧ pt ≠ .fcl ∧ pt ≠ .net) : (c.toListen t).part pt = c.part pt := by
  simp [Channel.toListen, hpt]

@[simp] theorem guardEvent_part (hpt : pt ≠ .clk ∧ pt ≠ .fcl ∧ pt ≠ .net ∧ pt ≠ .pct) :
    (c.guardEvent t).part pt = c.part pt := by simp [Channel.guardEvent, hpt]

@[simp] theorem txWithhold_part (ps : Vector Bool 4) (hpt : pt ≠ .net ∧ pt ≠ .pct) :
    (c.txWithhold ps).part pt = c.part pt := by simp [Channel.txWithhold, hpt]

@[simp] theorem txStart_part (kind : TxKind) (words : List Word) (seq : BitVec 16) (cell : Option (Fin 128))
    (wordsY : List Word) (hpt : pt ≠ .net ∧ pt ≠ .pct) :
    (c.txStart t kind words seq cell wordsY).part pt = c.part pt := by
  simp [Channel.txStart, hpt]

@[simp] theorem txFree_part (x : Tx) (q : Nat) (hpt : pt ≠ .net) : (c.txFree x q).part pt = c.part pt := by
  simp [Channel.txFree, hpt]

@[simp] theorem creditBack_part (k : TxKind) (hpt : pt ≠ .net) : (c.creditBack k).part pt = c.part pt := by
  unfold Channel.creditBack
  split <;> simp [hpt]

@[simp] theorem sendWaggle_part (hpt : pt ≠ .net ∧ pt ≠ .pct) : (c.sendWaggle t).part pt = c.part pt := by
  simp [Channel.sendWaggle, hpt]

@[simp] theorem sendColdstart_part (hpt : pt ≠ .net ∧ pt ≠ .pct) : (c.sendColdstart t).part pt = c.part pt := by
  simp [Channel.sendColdstart, hpt]

@[simp] theorem ntJudge_part (hpt : pt ≠ .clk ∧ pt ≠ .fcl ∧ pt ≠ .net) : (c.ntJudge t).part pt = c.part pt := by
  simp [Channel.ntJudge, hpt]

@[simp] theorem flowStep_part (cycle : Word) (f : Fin 256) (hpt : pt ≠ .net) :
    (Channel.flowStep cycle c f).part pt = c.part pt := by simp [Channel.flowStep, hpt]

@[simp] theorem newCycle_part (hpt : pt ≠ .clk ∧ pt ≠ .net) : (c.newCycle t).part pt = c.part pt := by
  simp [Channel.newCycle, hpt]

@[simp] theorem netCredit_part (hpt : pt ≠ .fcl ∧ pt ≠ .net) : c.netCredit.part pt = c.part pt := by
  simp [Channel.netCredit, hpt]

@[simp] theorem flowWrite_part (f : Fin 256) (ws : List Word) (hpt : pt ≠ .fcl ∧ pt ≠ .net) :
    (c.flowWrite f ws).part pt = c.part pt := by simp [Channel.flowWrite, hpt]

@[simp] theorem netStart_part (hpt : pt ≠ .net ∧ pt ≠ .act) : (c.netStart t).part pt = c.part pt := by
  simp [Channel.netStart, hpt]

@[simp] theorem txDrop_part (hpt : pt ≠ .net) : (c.txDrop t).part pt = c.part pt := by
  unfold Channel.txDrop
  split <;> simp [hpt]

@[simp] theorem ntDown_part (hpt : pt ≠ .net) : (c.ntDown t).part pt = c.part pt := part_setNet _ _ hpt

/-! The operations of HostOps. -/

@[simp] theorem undoOne_part (p : Port) (u : Undo) (hpt : pt ≠ .hp) :
    (Channel.undoOne p c u).part pt = c.part pt := by
  unfold Channel.undoOne
  split <;> simp [hpt]

@[simp] theorem clearUndo_part (p : Port) (hpt : pt ≠ .hp) : (c.clearUndo p).part pt = c.part pt := by
  simp [Channel.clearUndo, hpt]

@[simp] theorem rewind_part (p : Port) (hpt : pt ≠ .hp) : (c.rewind p).part pt = c.part pt := by
  simp [Channel.rewind, hpt]

@[simp] theorem transact_part (p : Port) (rew : Bool) (hpt : pt ≠ .hp) :
    (c.transact p t rew).part pt = c.part pt := by
  simp [Channel.transact, hpt]

@[simp] theorem addrErr_part (p : Port) (hpt : pt ≠ .hp) : (c.addrErr p).part pt = c.part pt := by
  simp [Channel.addrErr, hpt]

@[simp] theorem mbErr_part (p : Port) (hpt : pt ≠ .hp) : (c.mbErr p).part pt = c.part pt := by
  simp [Channel.mbErr, hpt]

@[simp] theorem addUndo_part (p : Port) (u : Undo) (hpt : pt ≠ .hp) : (c.addUndo p u).part pt = c.part pt := by
  simp [Channel.addUndo, hpt]

@[simp] theorem mbAdvance_part (p : Port) (hpt : pt ≠ .hp) : (c.mbAdvance p).part pt = c.part pt := by
  simp [Channel.mbAdvance, hpt]

@[simp] theorem boxRead_part (p : Port) (hpt : pt ≠ .hp) : (c.boxRead p).2.part pt = c.part pt := by
  simp only [Channel.boxRead]
  (repeat' split) <;> simp [hpt]

@[simp] theorem mbRead_part (p : Port) (hpt : pt ≠ .hp) : (c.mbRead p).2.part pt = c.part pt := by
  simp [Channel.mbRead, hpt]

@[simp] theorem lockRead_part (p : Port) (contended : Bool) (hpt : pt ≠ .hp) :
    (c.lockRead p t contended).2.part pt = c.part pt := by
  unfold Channel.lockRead
  (repeat' split) <;> simp [hpt]

@[simp] theorem winRead_part (p : Port) (a : Nat) (hpt : pt ≠ .hp) : (c.winRead p t a).2.part pt = c.part pt := by
  simp only [Channel.winRead]
  (repeat' split) <;> simp [hpt]

@[simp] theorem winReadAt_part (p : Port) (u a : Nat) (hpt : pt ≠ .hp) :
    (c.winReadAt p t u a).2.part pt = c.part pt := by simp [Channel.winReadAt, hpt]

@[simp] theorem spiReads_part (p : Port) (w e n a : Nat) (hpt : pt ≠ .hp) :
    (Channel.spiReads p t w e n a c).2.part pt = c.part pt := by
  induction n generalizing a c with
  | zero => rfl
  | succ n ih => simp [Channel.spiReads, ih, hpt]

@[simp] theorem semWrite_part (p : Port) (k : Fin 16) (v : Word) (contended : Bool) (hpt : pt ≠ .hp) :
    (c.semWrite p t k v contended).part pt = c.part pt := by
  unfold Channel.semWrite
  (repeat' split) <;> simp [hpt]

@[simp] theorem releaseSem_part (p : Port) (hpt : pt ≠ .hp) : (c.releaseSem p).part pt = c.part pt :=
  part_setHp _ _ hpt

@[simp] theorem lockWrite_part (p : Port) (v : Word) (hpt : pt ≠ .hp) : (c.lockWrite p v).part pt = c.part pt := by
  simp [Channel.lockWrite, hpt]

theorem boxWrite_part {p : Port} {v : Word} {y : Channel} (hy : c.boxWrite p v = some y) (hpt : pt ≠ .hp) :
    y.part pt = c.part pt := by
  unfold Channel.boxWrite at hy
  extract_lets x sel k at hy
  split at hy
  · obtain ⟨b, -, rfl⟩ := Option.map_eq_some_iff.mp hy
    exact setPort_part _ _ _ hpt
  split at hy
  · split at hy
    · obtain ⟨b, -, rfl⟩ := Option.map_eq_some_iff.mp hy
      simp [hpt]
    · cases hy
  split at hy
  · obtain ⟨b, -, rfl⟩ := Option.map_eq_some_iff.mp hy
    exact setXp_part _ _ _ hpt
  split at hy
  · obtain ⟨b, -, rfl⟩ := Option.map_eq_some_iff.mp hy
    exact setXp_part _ _ _ hpt
  · cases hy

@[simp] theorem mbWrite_part (p : Port) (v : Word) (hpt : pt ≠ .hp) : (c.mbWrite p v).part pt = c.part pt := by
  unfold Channel.mbWrite
  rw [mbAdvance_part _ _ hpt]
  cases hy : c.boxWrite p v with
  | none => exact mbErr_part _ _ hpt
  | some y => exact boxWrite_part c hy hpt

@[simp] theorem hostReset_part (p : Port) (hpt : pt ≠ .hp) : (c.hostReset p).part pt = c.part pt := by
  simp [Channel.hostReset, hpt]

@[simp] theorem ctrlWrite_part (p : Port) (v : Word) (hpt : pt ≠ .hp) : (c.ctrlWrite p v).part pt = c.part pt := by
  simp [Channel.ctrlWrite, hpt]

@[simp] theorem winWrite_part (p : Port) (a : Nat) (v : Word) (hpt : pt ≠ .hp) :
    (c.winWrite p t a v).part pt = c.part pt := by
  unfold Channel.winWrite
  (repeat' split) <;> simp [hpt]

@[simp] theorem creditViolation_part (p : Port) (pk : Packet) (hpt : pt ≠ .fcl ∧ pt ≠ .hp ∧ pt ≠ .pct) :
    (c.creditViolation t p pk).part pt = c.part pt := by simp [Channel.creditViolation, hpt]

@[simp] theorem crcBad_part (p : Port) (hpt : pt ≠ .fcl ∧ pt ≠ .hp) : (c.crcBad p).part pt = c.part pt := by
  simp [Channel.crcBad, hpt]

@[simp] theorem takePacket_part (p : Port) (e : Packet × Option Byte) (hpt : pt ≠ .fcl ∧ pt ≠ .hp ∧ pt ≠ .pct) :
    (Channel.takePacket t p c e).part pt = c.part pt := by simp [Channel.takePacket, hpt]

@[simp] theorem cmdWrite_part (p : Port) (ws : List Word) (hpt : pt ≠ .fcl ∧ pt ≠ .hp ∧ pt ≠ .pct) :
    (c.cmdWrite p t ws).part pt = c.part pt := by simp [Channel.cmdWrite, hpt]

@[simp] theorem spiWrites_part (p : Port) (ws : List Word) (a : Nat) (hpt : pt ≠ .fcl ∧ pt ≠ .hp ∧ pt ≠ .pct) :
    (Channel.spiWrites p t ws a c).part pt = c.part pt := by
  induction ws generalizing a c with
  | nil => rfl
  | cons w ws ih =>
    simp [Channel.spiWrites, ih, hpt]

@[simp] theorem spiWrite_part (p : Port) (i : Byte) (ws : List Word) (hpt : pt ≠ .fcl ∧ pt ≠ .hp ∧ pt ≠ .pct) :
    (c.spiWrite p t i ws).part pt = c.part pt := by
  simp [Channel.spiWrite, hpt]

@[simp] theorem spiDiscard_part (p : Port) (hpt : pt ≠ .hp) : (c.spiDiscard p t).part pt = c.part pt := by
  simp [Channel.spiDiscard, hpt]

@[simp] theorem spiRead_part (p : Port) (i : Byte) (n sck : Nat) (hpt : pt ≠ .hp) :
    (c.spiRead p t i n sck).2.part pt = c.part pt := by
  simp [Channel.spiRead, hpt]

@[simp] theorem spiEnd_part (p : Port) (len : SpiLen) (i : Byte) (ws : List Word) (crc : Byte)
    (hpt : pt ≠ .fcl ∧ pt ≠ .hp ∧ pt ≠ .pct) :
    (c.spiEnd p t len i ws crc).part pt = c.part pt := by
  simp [Channel.spiEnd, hpt]

@[simp] theorem spiBytes_part (p : Port) (bs : List Byte) (hpt : pt ≠ .fcl ∧ pt ≠ .hp ∧ pt ≠ .pct) :
    (c.spiBytes p t bs).1.part pt = c.part pt := by
  unfold Channel.spiBytes
  split
  · simp [hpt]
  · simp [apply_ite Prod.fst, hpt]

@[simp] theorem tunnelRecords_part (fuel : Nat) (bs : List Byte) (hpt : pt ≠ .fcl ∧ pt ≠ .hp ∧ pt ≠ .pct) :
    (Channel.tunnelRecords t fuel bs c).1.part pt = c.part pt := by
  induction fuel generalizing bs c with
  | zero => rfl
  | succ fuel ih =>
    unfold Channel.tunnelRecords
    split
    · simp only [apply_ite Prod.fst, part_ite, ih, spiBytes_part _ _ _ _ hpt, ite_self]
    · rfl

@[simp] theorem tunnelFrame_part (ws : List Word) (hpt : pt ≠ .fcl ∧ pt ≠ .net ∧ pt ≠ .hp ∧ pt ≠ .pct) :
    (c.tunnelFrame t ws).part pt = c.part pt := by
  simp [Channel.tunnelFrame, hpt]

/-! The operations of RxOps. -/

@[simp] theorem fifoWrite_part (p : OPort) (es : List FifoEntry) (hpt : pt ≠ .fcl ∧ pt ≠ .net) :
    (c.fifoWrite p es).part pt = c.part pt := by simp [Channel.fifoWrite, hpt]

@[simp] theorem fifoHeader_part (p : OPort) (h : Vector Byte 8) (codeError : Bool) (hpt : pt ≠ .fcl ∧ pt ≠ .net) :
    (c.fifoHeader t p h codeError).part pt = c.part pt := by simp [Channel.fifoHeader, hpt]

@[simp] theorem fifoBody_part (p : OPort) (body : List Byte) (codeError : Bool) (wrote : List Nat) (e : NetEnd)
    (hpt : pt ≠ .fcl ∧ pt ≠ .net) :
    (c.fifoBody t p body codeError wrote e).part pt = c.part pt := by
  simp [Channel.fifoBody, hpt]

@[simp] theorem fifoDrain_part (p : OPort) (hpt : pt ≠ .net) : (c.fifoDrain t p).part pt = c.part pt :=
  part_setNet _ _ hpt

@[simp] theorem voteHeard_part (ws : List Word) (ch : Ch) (hpt : pt ≠ .rd) :
    (Channel.voteHeard t ws c ch).part pt = c.part pt := by simp [Channel.voteHeard, hpt]

@[simp] theorem copyEnd_part (p : OPort) (x : Copy) (hpt : pt ≠ .rd ∧ pt ≠ .fcl ∧ pt ≠ .net ∧ pt ≠ .hp ∧ pt ≠ .pct) :
    (c.copyEnd p x).part pt = c.part pt := by
  simp only [Channel.copyEnd]
  split <;> simp [hpt]

@[simp] theorem judgeNext_part (hpt : pt ≠ .rd ∧ pt ≠ .fcl ∧ pt ≠ .net ∧ pt ≠ .hp ∧ pt ≠ .pct) :
    (Channel.judgeNext t c).part pt = c.part pt := by
  unfold Channel.judgeNext
  split <;> simp [hpt]

@[simp] theorem netSettle_part (hpt : pt ≠ .rd ∧ pt ≠ .fcl ∧ pt ≠ .net ∧ pt ≠ .hp ∧ pt ≠ .pct) :
    (c.netSettle t).part pt = c.part pt := by simp [Channel.netSettle, hpt]

@[simp] theorem cycleStep_part
    (hpt : pt ≠ .clk ∧ pt ≠ .sd ∧ pt ≠ .ad ∧ pt ≠ .gd ∧ pt ≠ .rd ∧ pt ≠ .fcl ∧ pt ≠ .net ∧ pt ≠ .hp ∧ pt ≠ .log ∧
        pt ≠ .pct ∧ pt ≠ .nv) :
    (c.cycleStep t).part pt = c.part pt := by simp [Channel.cycleStep, hpt]

@[simp] theorem netStop_part (hpt : pt ≠ .clk ∧ pt ≠ .rd ∧ pt ≠ .fcl ∧ pt ≠ .net ∧ pt ≠ .hp ∧ pt ≠ .pct) :
    (c.netStop t).part pt = c.part pt := by simp [Channel.netStop, hpt]

/-! The operations of WriteOps. -/

@[simp] theorem push_part (es : List Effect) (hpt : pt ≠ .hp) : (c.push es).part pt = c.part pt := part_setHp _ _ hpt

@[simp] theorem writeDone_part (h : Hdr) (d : PDef) (id : Nat) (v : Word) (hpt : pt ≠ .hp ∧ pt ≠ .mg ∧ pt ≠ .params) :
    (c.writeDone h d id v).part pt = c.part pt := by simp [Channel.writeDone, hpt]

theorem writeOne_part {h : Hdr} {id : Nat} {v : Word} {y : Channel} (hy : c.writeOne h id v = .ok y)
    (hpt : pt ≠ .hp ∧ pt ≠ .mg ∧ pt ≠ .params) :
    y.part pt = c.part pt := by
  unfold Channel.writeOne at hy
  split at hy
  · cases hy
  split at hy
  · cases hy
  · cases hy
  split at hy
  · cases hy
  · cases hy
    exact writeDone_part _ _ _ _ _ hpt

theorem writeSet_part {h : Hdr} {es : List (Nat × Word)} {y : Channel} (hy : Channel.writeSet h es c = .ok y)
    (hpt : pt ≠ .hp ∧ pt ≠ .mg ∧ pt ≠ .params) :
    y.part pt = c.part pt := by
  induction es generalizing c with
  | nil => cases hy; rfl
  | cons e es ih =>
    unfold Channel.writeSet at hy
    split at hy
    · cases hy
    next z hz => exact (ih z hy).trans (writeOne_part c hz hpt)

/-! The operations of SecOps. -/

@[simp] theorem trng_part (hpt : pt ≠ .sec) : c.trng.2.part pt = c.part pt := part_setSec _ _ hpt

@[simp] theorem closeSessions_part (p : Sess → Bool) (hpt : pt ≠ .hp) : (c.closeSessions p).part pt = c.part pt :=
  part_setHp _ _ hpt

@[simp] theorem relock_part (hpt : pt ≠ .sec ∧ pt ≠ .log ∧ pt ≠ .pct ∧ pt ≠ .nv) :
    (c.relock t).part pt = c.part pt := by simp [Channel.relock, part_mk, hpt]

@[simp] theorem grantDebug_part (level : BitVec 2) (persist : Bool) (slot : BitVec 3)
    (hpt : pt ≠ .sec ∧ pt ≠ .log ∧ pt ≠ .pct ∧ pt ≠ .nv) :
    (c.grantDebug t level persist slot).part pt = c.part pt := by
  simp [Channel.grantDebug, part_mk, hpt]

@[simp] theorem keyProgram_part (slot : BitVec 3) (hpt : pt ≠ .sec ∧ pt ≠ .nv) :
    (c.keyProgram slot).part pt = c.part pt := by simp [Channel.keyProgram, part_mk, hpt]

@[simp] theorem dropGrant_part (slot : BitVec 3) (hpt : pt ≠ .sec ∧ pt ≠ .log ∧ pt ≠ .pct ∧ pt ≠ .nv) :
    (c.dropGrant t slot).part pt = c.part pt := by
  simp only [Channel.dropGrant]
  split <;> simp [hpt]

@[simp] theorem keyRevoke_part (slot : BitVec 3) (hpt : pt ≠ .hp ∧ pt ≠ .sec ∧ pt ≠ .log ∧ pt ≠ .pct ∧ pt ≠ .nv) :
    (c.keyRevoke t slot).part pt = c.part pt := by simp [Channel.keyRevoke, hpt]

@[simp] theorem revokeAll_part (hpt : pt ≠ .hp ∧ pt ≠ .sec ∧ pt ≠ .log ∧ pt ≠ .pct ∧ pt ≠ .nv) :
    (c.revokeAll t).part pt = c.part pt := by simp [Channel.revokeAll, hpt]

/-! The operations of EffectOps. -/

@[simp] theorem complete_part (w : Work) (a : Ans) (hpt : pt ≠ .hp) : (c.complete t w a).part pt = c.part pt :=
  part_setHp _ _ hpt

@[simp] theorem combLast_part (w : Work) (es : List Word) (hpt : pt ≠ .net ∧ pt ≠ .hp ∧ pt ≠ .nv) :
    (c.combLast t w es).part pt = c.part pt := by simp [Channel.combLast, hpt]

@[simp] theorem freezeClear_part (w : Work) (hpt : pt ≠ .log ∧ pt ≠ .pct ∧ pt ≠ .nv) :
    (c.freezeClear t w).part pt = c.part pt := by simp [Channel.freezeClear, hpt]

@[simp] theorem startWork_part (w : Work)
    (hpt : pt ≠ .net ∧ pt ≠ .hp ∧ pt ≠ .sec ∧ pt ≠ .log ∧ pt ≠ .pct ∧ pt ≠ .nv) :
    (c.startWork t w).part pt = c.part pt := by
  unfold Channel.startWork
  split <;> simp [hpt]

@[simp] theorem fill_part (i : Nat) (f : Fill) (hpt : pt ≠ .fcl ∧ pt ≠ .hp) : (c.fill t i f).part pt = c.part pt := by
  simp [Channel.fill, hpt]

@[simp] theorem clearBits_part (id : Nat) (v : Word) (hpt : pt ≠ .ce ∧ pt ≠ .fb ∧ pt ≠ .fcl ∧ pt ≠ .net ∧ pt ≠ .pct) :
    (c.clearBits t id v).part pt = c.part pt := by
  unfold Channel.clearBits
  simp [hpt]

@[simp] theorem clearCounts_part (hpt : pt ≠ .net) : c.clearCounts.part pt = c.part pt := part_setNet _ _ hpt

@[simp] theorem inForce_part (id : Nat) (v : Word) (hpt : pt ≠ .act) : (c.inForce id v).part pt = c.part pt :=
  part_setAct _ _ hpt

@[simp] theorem ceReturn_part (n : Fin 32) (hpt : pt ≠ .ce) : (c.ceReturn n).part pt = c.part pt := by
  simp [Channel.ceReturn, hpt]

@[simp] theorem loopLoad_part (n : Fin 32) (prog : List Word) (hpt : pt ≠ .ce ∧ pt ≠ .act ∧ pt ≠ .nv) :
    (c.loopLoad n prog).part pt = c.part pt := by simp [Channel.loopLoad, hpt]

@[simp] theorem loopStop_part (n : Fin 32) (hpt : pt ≠ .ce) : (c.loopStop n).part pt = c.part pt := by
  simp [Channel.loopStop, hpt]

@[simp] theorem driveEnable_part (g : Grp)
    (hpt : pt ≠ .sd ∧ pt ≠ .ad ∧ pt ≠ .gd ∧ pt ≠ .fb ∧ pt ≠ .rd ∧ pt ≠ .fcl ∧ pt ≠ .params ∧ pt ≠ .act) :
    (c.driveEnable t g).part pt = c.part pt := by
  unfold Channel.driveEnable
  split <;> simp [hpt]

@[simp] theorem driveDisable_part (g : Grp) (hpt : pt ≠ .sd ∧ pt ≠ .ad ∧ pt ≠ .gd ∧ pt ≠ .rd ∧ pt ≠ .fcl) :
    (c.driveDisable t g).part pt = c.part pt := by
  unfold Channel.driveDisable
  split <;> simp [hpt]

@[simp] theorem curveLoad_part (ws : List Word) (hpt : pt ≠ .ad ∧ pt ≠ .nv) :
    (c.curveLoad ws).part pt = c.part pt := by
  simp [Channel.curveLoad, hpt]

@[simp] theorem traceArm_part (u : Fin 4) (hpt : pt ≠ .ce) : (c.traceArm u).part pt = c.part pt := part_setCe _ _ hpt

@[simp] theorem lockoutReq_part (w1 w2 : Bool) (hpt : pt ≠ .wi1 ∧ pt ≠ .wi2) :
    (c.lockoutReq w1 w2).part pt = c.part pt := by simp [Channel.lockoutReq, hpt]

@[simp] theorem goOffline_part
    (hpt : pt ≠ .ce ∧ pt ≠ .sd ∧ pt ≠ .ad ∧ pt ≠ .gd ∧ pt ≠ .rd ∧ pt ≠ .log ∧ pt ≠ .pct ∧ pt ≠ .nv) :
    (c.goOffline t).part pt = c.part pt := by simp [Channel.goOffline, hpt]

@[simp] theorem powerEntry_part
    (hpt : pt ≠ .ce ∧ pt ≠ .sd ∧ pt ≠ .ad ∧ pt ≠ .gd ∧ pt ≠ .rd ∧ pt ≠ .net ∧ pt ≠ .hp ∧ pt ≠ .log ∧ pt ≠ .pct ∧
        pt ≠ .nv) :
    (c.powerEntry t).part pt = c.part pt := by simp [Channel.powerEntry, hpt]

@[simp] theorem bistStart_part (test : BitVec 8) (p : Port) (session : BitVec 4)
    (hpt : pt ≠ .ce ∧ pt ≠ .sd ∧ pt ≠ .ad ∧ pt ≠ .gd ∧ pt ≠ .rd ∧ pt ≠ .mg ∧ pt ≠ .log ∧ pt ≠ .pct ∧ pt ≠ .nv) :
    (c.bistStart t test p session).part pt = c.part pt := by simp [Channel.bistStart, hpt]

@[simp] theorem resetAfter_part (frames : Nat) (p : Port) (hpt : pt ≠ .hp) :
    (c.resetAfter frames p).part pt = c.part pt := part_setHp _ _ hpt

@[simp] theorem trial_part (p : Port) (hpt : pt ≠ .hp ∧ pt ≠ .nv) : (c.trial p).part pt = c.part pt := by
  unfold Channel.trial
  split <;> simp [hpt]

@[simp] theorem fclClear_part (hpt : pt ≠ .fcl ∧ pt ≠ .nv) : c.fclClear.part pt = c.part pt := by
  simp [Channel.fclClear, hpt]

@[simp] theorem applyEffect_part (e : Effect)
    (hpt : pt ≠ .clk ∧ pt ≠ .sup ∧ pt ≠ .exe ∧ pt ≠ .ce ∧ pt ≠ .sd ∧ pt ≠ .ad ∧ pt ≠ .gd ∧ pt ≠ .fb ∧ pt ≠ .wi1 ∧
        pt ≠ .wi2 ∧ pt ≠ .rd ∧ pt ≠ .fcl ∧ pt ≠ .net ∧ pt ≠ .hp ∧ pt ≠ .sec ∧ pt ≠ .mg ∧ pt ≠ .log ∧ pt ≠ .pct ∧
        pt ≠ .params ∧ pt ≠ .act ∧ pt ≠ .nv) :
    (Channel.applyEffect t c e).part pt = c.part pt := by
  unfold Channel.applyEffect
  split <;> simp [hpt]

@[simp] theorem applyEffects_part
    (hpt : pt ≠ .clk ∧ pt ≠ .sup ∧ pt ≠ .exe ∧ pt ≠ .ce ∧ pt ≠ .sd ∧ pt ≠ .ad ∧ pt ≠ .gd ∧ pt ≠ .fb ∧ pt ≠ .wi1 ∧
        pt ≠ .wi2 ∧ pt ≠ .rd ∧ pt ≠ .fcl ∧ pt ≠ .net ∧ pt ≠ .hp ∧ pt ≠ .sec ∧ pt ≠ .mg ∧ pt ≠ .log ∧ pt ≠ .pct ∧
        pt ≠ .params ∧ pt ≠ .act ∧ pt ≠ .nv) :
    (c.applyEffects t).part pt = c.part pt := by simp [Channel.applyEffects, hpt]

/-! The operations of CmdOps. -/

@[simp] theorem answerEarly_part (e : Packet × Option Byte) (hpt : pt ≠ .hp) :
    (Channel.answerEarly t c e).part pt = c.part pt := by
  unfold Channel.answerEarly
  split <;> simp [hpt]

@[simp] theorem flushLead_part (p : Port) (hpt : pt ≠ .hp) : (c.flushLead t p).part pt = c.part pt := by
  simp [Channel.flushLead, hpt]

@[simp] theorem flushEarly_part (hpt : pt ≠ .hp) : (c.flushEarly t).part pt = c.part pt := by
  simp [Channel.flushEarly, hpt]

@[simp] theorem flushAll_part (hpt : pt ≠ .hp) : (c.flushAll t).part pt = c.part pt := by
  obtain ⟨_, e⟩ := flushAll_eq c t
  simp [e, hpt]

@[simp] theorem takeSampled_part (h : Hdr) (op : Byte) (hpt : pt ≠ .hp) :
    (c.takeSampled h op).part pt = c.part pt := by
  simp [Channel.takeSampled, hpt]

@[simp] theorem setSess_part (p : Port) (k : Fin 8) (x : Sess) (hpt : pt ≠ .hp) :
    (c.setSess p k x).part pt = c.part pt := by simp [Channel.setSess, hpt]

@[simp] theorem useSession_part (h : Hdr) (op : Byte) (hpt : pt ≠ .hp ∧ pt ≠ .sec) :
    (c.useSession h op).part pt = c.part pt := by
  simp only [Channel.useSession]
  split <;> simp [hpt]

@[simp] theorem does_part (es : List Effect) (hpt : pt ≠ .hp) : (c.does es).1.part pt = c.part pt :=
  part_setHp _ _ hpt

@[simp] theorem refuse_part (st : Byte) : (c.refuse st).1.part pt = c.part pt := by simp [Channel.refuse]

@[simp] theorem pends_part (q : Req) (k : Nat) (kind : WorkKind) (hpt : pt ≠ .hp) :
    (c.pends q k kind).1.part pt = c.part pt := part_setHp _ _ hpt

/-! The operations of PowerOps. -/

@[simp] theorem entryDone_part (e : Entry) (a : Ans) (hpt : pt ≠ .hp ∧ pt ≠ .pwr) :
    (c.entryDone t e a).part pt = c.part pt := by simp [Channel.entryDone, part_mk, hpt]

@[simp] theorem entryDrop_part (hpt : pt ≠ .pwr) : c.entryDrop.part pt = c.part pt := part_setPwr _ _ hpt

@[simp] theorem dozeNow_part (hpt : pt ≠ .exe ∧ pt ≠ .pwr ∧ pt ≠ .log ∧ pt ≠ .pct ∧ pt ≠ .nv) :
    (c.dozeNow t).part pt = c.part pt := by simp [Channel.dozeNow, part_mk, hpt]

@[simp] theorem entryStep_part (hpt : pt ≠ .exe ∧ pt ≠ .hp ∧ pt ≠ .pwr ∧ pt ≠ .log ∧ pt ≠ .pct ∧ pt ≠ .nv) :
    (c.entryStep t).part pt = c.part pt := by
  unfold Channel.entryStep
  (repeat' split) <;> simp [hpt]

@[simp] theorem writeBack_part (shelf : Bool) (hpt : pt ≠ .nv) : (c.writeBack shelf).part pt = c.part pt :=
  part_setNv _ _ hpt

@[simp] theorem markShelf_part (hpt : pt ≠ .nv) : c.markShelf.part pt = c.part pt := part_setNv _ _ hpt

/-! The operations of Frames. -/

@[simp] theorem samplePort_part (p : Port) (hpt : pt ≠ .hp) : (c.samplePort t p).part pt = c.part pt := by
  simp [Channel.samplePort, hpt]

@[simp] theorem frameLost_part (hpt : pt ≠ .exe ∧ pt ≠ .hp) : c.frameLost.part pt = c.part pt := by
  simp [Channel.frameLost, part_mk, hpt]

@[simp] theorem openFrame_part (hpt : pt ≠ .exe ∧ pt ≠ .net ∧ pt ≠ .hp) : (c.openFrame t).part pt = c.part pt := by
  simp [Channel.openFrame, part_mk, hpt]

@[simp] theorem seal_part (hpt : pt ≠ .hp) : c.seal.part pt = c.part pt := by
  obtain ⟨_, e⟩ := seal_eq c
  simp [e, hpt]

@[simp] theorem countPass_part (run : PassRun) (hpt : pt ≠ .fcl ∧ pt ≠ .pct) :
    (c.countPass run).part pt = c.part pt := by simp [Channel.countPass, hpt]

@[simp] theorem countP_part (run : PassRun) (hpt : pt ≠ .fcl ∧ pt ≠ .pct) : (c.countP run).part pt = c.part pt := by
  simp [Channel.countP, hpt]

@[simp] theorem heartbeat_part (beat : Bool) (hpt : pt ≠ .exe ∧ pt ≠ .fcl) :
    (c.heartbeat beat).part pt = c.part pt := by simp [Channel.heartbeat, hpt]

@[simp] theorem passP_part (run : PassRun)
    (hpt : pt ≠ .exe ∧ pt ≠ .sd ∧ pt ≠ .ad ∧ pt ≠ .gd ∧ pt ≠ .rd ∧ pt ≠ .fcl ∧ pt ≠ .hp ∧ pt ≠ .log ∧ pt ≠ .pct ∧
        pt ≠ .nv) :
    (c.passP t run).part pt = c.part pt := by
  unfold Channel.passP
  split <;> simp [hpt]

@[simp] theorem sampleCmds_part (hpt : pt ≠ .hp) : (c.sampleCmds t).part pt = c.part pt := by
  simp [Channel.sampleCmds, hpt]

@[simp] theorem frameStart_part (run : PassRun)
    (hpt : pt ≠ .exe ∧ pt ≠ .sd ∧ pt ≠ .ad ∧ pt ≠ .gd ∧ pt ≠ .fb ∧ pt ≠ .rd ∧ pt ≠ .fcl ∧ pt ≠ .net ∧ pt ≠ .hp ∧
        pt ≠ .pwr ∧ pt ≠ .log ∧ pt ≠ .pct ∧ pt ≠ .nv) :
    (c.frameStart t run).part pt = c.part pt := by simp [Channel.frameStart, hpt]

@[simp] theorem staled_part (r : Reply) (hpt : pt ≠ .hp) : (c.staled r).2.part pt = c.part pt := by
  simp only [Channel.staled]
  split <;> simp [hpt]

@[simp] theorem deliver_part (r : Reply) (hpt : pt ≠ .hp ∧ pt ≠ .pct) :
    (Channel.deliver t c r).part pt = c.part pt := by simp [Channel.deliver, hpt]

@[simp] theorem deliverDone_part (r : Reply) (hpt : pt ≠ .hp ∧ pt ≠ .pct) :
    (Channel.deliverDone t c r).part pt = c.part pt := by simp [Channel.deliverDone, hpt]

@[simp] theorem publishAll_part (hpt : pt ≠ .exe ∧ pt ≠ .hp ∧ pt ≠ .pct) : (c.publishAll t).part pt = c.part pt := by
  simp [Channel.publishAll, part_mk, hpt]

@[simp] theorem compareT_part (run : PassRun)
    (hpt : pt ≠ .exe ∧ pt ≠ .sd ∧ pt ≠ .ad ∧ pt ≠ .gd ∧ pt ≠ .rd ∧ pt ≠ .fcl ∧ pt ≠ .log ∧ pt ≠ .pct ∧ pt ≠ .nv) :
    (c.compareT t run).part pt = c.part pt := by
  unfold Channel.compareT
  split <;> simp [hpt]

@[simp] theorem budgetP_part
    (hpt : pt ≠ .exe ∧ pt ≠ .sd ∧ pt ≠ .ad ∧ pt ≠ .gd ∧ pt ≠ .rd ∧ pt ≠ .fcl ∧ pt ≠ .log ∧ pt ≠ .pct ∧ pt ≠ .nv) :
    (c.budgetP t).part pt = c.part pt := by simp [Channel.budgetP, hpt]

@[simp] theorem passT_part (run : PassRun)
    (hpt : pt ≠ .exe ∧ pt ≠ .sd ∧ pt ≠ .ad ∧ pt ≠ .gd ∧ pt ≠ .rd ∧ pt ≠ .fcl ∧ pt ≠ .log ∧ pt ≠ .pct ∧ pt ≠ .nv) :
    (c.passT t run).part pt = c.part pt := by simp [Channel.passT, hpt]

@[simp] theorem budgetT_part
    (hpt : pt ≠ .exe ∧ pt ≠ .sd ∧ pt ≠ .ad ∧ pt ≠ .gd ∧ pt ≠ .rd ∧ pt ≠ .fcl ∧ pt ≠ .log ∧ pt ≠ .pct ∧ pt ≠ .nv) :
    (c.budgetT t).part pt = c.part pt := by simp [Channel.budgetT, hpt]

@[simp] theorem passesEnd_part
    (hpt : pt ≠ .exe ∧ pt ≠ .sd ∧ pt ≠ .ad ∧ pt ≠ .gd ∧ pt ≠ .rd ∧ pt ≠ .fcl ∧ pt ≠ .log ∧ pt ≠ .pct ∧ pt ≠ .nv) :
    (c.passesEnd t).part pt = c.part pt := by simp [Channel.passesEnd, hpt]

@[simp] theorem coreWrite_part (w : CoreWrite) (hpt : pt ≠ .ce ∧ pt ≠ .wi1 ∧ pt ≠ .wi2 ∧ pt ≠ .fcl ∧ pt ≠ .net) :
    (c.coreWrite w).part pt = c.part pt := by
  unfold Channel.coreWrite
  split <;> simp [hpt]

@[simp] theorem commitFrame_part (ws : List CoreWrite)
    (hpt : pt ≠ .clk ∧ pt ≠ .sup ∧ pt ≠ .exe ∧ pt ≠ .ce ∧ pt ≠ .sd ∧ pt ≠ .ad ∧ pt ≠ .gd ∧ pt ≠ .fb ∧ pt ≠ .wi1 ∧
        pt ≠ .wi2 ∧ pt ≠ .rd ∧ pt ≠ .fcl ∧ pt ≠ .net ∧ pt ≠ .hp ∧ pt ≠ .sec ∧ pt ≠ .mg ∧ pt ≠ .log ∧ pt ≠ .pct ∧
        pt ≠ .params ∧ pt ≠ .act ∧ pt ≠ .nv) :
    (c.commitFrame t ws).part pt = c.part pt := by simp [Channel.commitFrame, hpt]

@[simp] theorem dropFrame_part
    (hpt : pt ≠ .clk ∧ pt ≠ .sup ∧ pt ≠ .exe ∧ pt ≠ .ce ∧ pt ≠ .sd ∧ pt ≠ .ad ∧ pt ≠ .gd ∧ pt ≠ .fb ∧ pt ≠ .wi1 ∧
        pt ≠ .wi2 ∧ pt ≠ .rd ∧ pt ≠ .fcl ∧ pt ≠ .net ∧ pt ≠ .hp ∧ pt ≠ .sec ∧ pt ≠ .mg ∧ pt ≠ .log ∧ pt ≠ .pct ∧
        pt ≠ .params ∧ pt ≠ .act ∧ pt ≠ .nv) :
    (c.dropFrame t).part pt = c.part pt := by simp [Channel.dropFrame, hpt]

/-! The operations of CclOps. -/

@[simp] theorem sendCcl_part (o : Channel) (n : Nat) (chunk : Option ResyncChunk) (ch : Ch)
    (hpt : pt ≠ .rd ∧ pt ≠ .hp ∧ pt ≠ .pct) :
    (o.sendCcl t n chunk c ch).part pt = c.part pt := by
  unfold Channel.sendCcl
  extract_lets z p v block room1 wait k room2 far room3 g room4 h room5 r fwd carried _ f1 f2 _ c1 c2
  have hg : g.2.part pt = c.part pt := by simp [g, apply_ite Prod.snd, hpt]
  have hh : h.2.part pt = c.part pt := by simp [h, apply_ite Prod.snd, hg, hpt]
  have h2 : c2.part pt = c.part pt := by simp [c2, c1, hh, hpt]
  simp [h2, hpt]

/-! The operations of Redundancy. -/

@[simp] theorem latchAngle_part (hpt : pt ≠ .rd) : c.latchAngle.part pt = c.part pt := part_setRd _ _ hpt

@[simp] theorem ownActive_part (hpt : pt ≠ .sd ∧ pt ≠ .rd) : c.ownActive.part pt = c.part pt := by
  simp [Channel.ownActive, part_mk, hpt]

@[simp] theorem markVotes_part (trackBad passing : Ch → Bool)
    (hpt : pt ≠ .ce ∧ pt ≠ .sd ∧ pt ≠ .ad ∧ pt ≠ .gd ∧ pt ≠ .fb ∧ pt ≠ .rd ∧ pt ≠ .fcl ∧ pt ≠ .sec ∧ pt ≠ .log ∧
        pt ≠ .pct ∧ pt ≠ .params ∧ pt ≠ .act ∧ pt ≠ .nv) :
    (c.markVotes t trackBad passing).part pt = c.part pt := by
  unfold Channel.markVotes
  extract_lets _ _ _ _ c1 c2 _ _ c3 c4 c5 _ c6 _ _ _ _ c7 _ c8 c9 c10 _
  have h3 : c3.part pt = c.part pt := by simp [c3, c2, c1, hpt]
  have h6 : c6.part pt = c.part pt := by simp [c6, c5, c4, h3, hpt]
  have h7 : c7.part pt = c.part pt := by simp [c7, h6, hpt, part_mk]
  have h10 : c10.part pt = c.part pt := by simp [c10, c9, c8, h7, hpt]
  simp [h10, hpt]

@[simp] theorem markEnd_part (hpt : pt ≠ .sd ∧ pt ≠ .rd ∧ pt ≠ .net) : (c.markEnd t).part pt = c.part pt := by
  simp [Channel.markEnd, part_mk, hpt]

@[simp] theorem markStep_part (trackBad passing : Ch → Bool)
    (hpt : pt ≠ .ce ∧ pt ≠ .sd ∧ pt ≠ .ad ∧ pt ≠ .gd ∧ pt ≠ .fb ∧ pt ≠ .rd ∧ pt ≠ .fcl ∧ pt ≠ .net ∧ pt ≠ .sec ∧
        pt ≠ .log ∧ pt ≠ .pct ∧ pt ≠ .params ∧ pt ≠ .act ∧ pt ≠ .nv) :
    (c.markStep t trackBad passing).part pt = c.part pt := by simp [Channel.markStep, hpt]

@[simp] theorem class4k_part (hpt : pt ≠ .ce ∧ pt ≠ .ad ∧ pt ≠ .gd ∧ pt ≠ .rd ∧ pt ≠ .fcl) :
    (c.class4k t).part pt = c.part pt := by simp [Channel.class4k, hpt]

@[simp] theorem claimPeriod_part
    (hpt : pt ≠ .wi1 ∧ pt ≠ .wi2 ∧ pt ≠ .rd ∧ pt ≠ .fcl ∧ pt ≠ .sec ∧ pt ≠ .log ∧ pt ≠ .pct ∧ pt ≠ .nv) :
    (c.claimPeriod t).part pt = c.part pt := by simp [Channel.claimPeriod, hpt]

@[simp] theorem judgeLink_part (ch : Ch) (hpt : pt ≠ .rd ∧ pt ≠ .fcl) : (c.judgeLink t ch).part pt = c.part pt := by
  simp only [Channel.judgeLink]
  split <;> simp [hpt]

@[simp] theorem judgeCutOff_part
    (hpt : pt ≠ .exe ∧ pt ≠ .sd ∧ pt ≠ .ad ∧ pt ≠ .gd ∧ pt ≠ .rd ∧ pt ≠ .fcl ∧ pt ≠ .log ∧ pt ≠ .pct ∧ pt ≠ .nv) :
    (c.judgeCutOff t).part pt = c.part pt := by simp [Channel.judgeCutOff, hpt]

@[simp] theorem cclPeriod_part
    (hpt : pt ≠ .exe ∧ pt ≠ .sd ∧ pt ≠ .ad ∧ pt ≠ .gd ∧ pt ≠ .rd ∧ pt ≠ .fcl ∧ pt ≠ .hp ∧ pt ≠ .log ∧ pt ≠ .pct ∧
        pt ≠ .nv) :
    (c.cclPeriod t).part pt = c.part pt := by simp [Channel.cclPeriod, hpt]

@[simp] theorem healthRec_part (r : TrackRec) (hpt : pt ≠ .rd) : (c.healthRec r).part pt = c.part pt := by
  simp [Channel.healthRec, hpt]

@[simp] theorem takeRec_part (r : TrackRec) (hpt : pt ≠ .ce ∧ pt ≠ .rd) : (c.takeRec r).part pt = c.part pt := by
  simp [Channel.takeRec, hpt]

@[simp] theorem takeChunk_part (k : ResyncChunk) (hpt : pt ≠ .ce) : (c.takeChunk k).part pt = c.part pt :=
  part_setCe _ _ hpt

@[simp] theorem takeVote_part (f : CclBlock) (hpt : pt ≠ .rd) : (c.takeVote t f).part pt = c.part pt := by
  simp [Channel.takeVote, hpt]

@[simp] theorem sawLead_part (ch : Ch) (hpt : pt ≠ .rd) : (c.sawLead t ch).part pt = c.part pt := by
  simp [Channel.sawLead, hpt]

@[simp] theorem takeBlock_part (f : CclBlock) (hpt : pt ≠ .ce ∧ pt ≠ .rd ∧ pt ≠ .hp ∧ pt ≠ .pct) :
    (c.takeBlock t f).part pt = c.part pt := by
  unfold Channel.takeBlock
  split <;> simp [hpt]

@[simp] theorem queueRelay_part (b : CclBlock) (hpt : pt ≠ .rd) : (c.queueRelay b).part pt = c.part pt := by
  simp [Channel.queueRelay, hpt]

@[simp] theorem cclBlock_part (b : CclBlock) (hpt : pt ≠ .ce ∧ pt ≠ .rd ∧ pt ≠ .hp ∧ pt ≠ .pct) :
    (Channel.cclBlock t c b).part pt = c.part pt := by simp [Channel.cclBlock, hpt]

@[simp] theorem cclFrame_part (f : CclFrame) (hpt : pt ≠ .ce ∧ pt ≠ .rd ∧ pt ≠ .hp ∧ pt ≠ .pct) :
    (c.cclFrame t f).part pt = c.part pt := by simp [Channel.cclFrame, hpt]

@[simp] theorem judgeClaim_part (w : Wid) (sw : StatusWord) (hpt : pt ≠ .wi1 ∧ pt ≠ .wi2 ∧ pt ≠ .rd ∧ pt ≠ .fcl) :
    (c.judgeClaim t w sw).part pt = c.part pt := by simp [Channel.judgeClaim, hpt]

@[simp] theorem seeClaim_part (w : Wid) (a : BitVec 8) (hpt : pt ≠ .rd) : (c.seeClaim t w a).part pt = c.part pt := by
  simp only [Channel.seeClaim]
  split
  · cases c.rd.ho <;> simp [hpt]
  · rfl

@[simp] theorem takeStatus_part (w : Wid) (sw : StatusWord) (hpt : pt ≠ .wi1 ∧ pt ≠ .wi2 ∧ pt ≠ .rd ∧ pt ≠ .fcl) :
    (c.takeStatus t w sw).part pt = c.part pt := by simp [Channel.takeStatus, hpt]

@[simp] theorem releasePressure_part (x : SafeStop) (hpt : pt ≠ .ce ∧ pt ≠ .rd) :
    (c.releasePressure x).part pt = c.part pt := by simp [Channel.releasePressure, hpt]

/-! The operations of HostCommands. -/

@[simp] theorem sessionBegin_part (q : Req) (k : Fin 8) (level : BitVec 2) (slot : BitVec 3)
    (hpt : pt ≠ .hp ∧ pt ≠ .sec) :
    (c.sessionBegin q k level slot).1.part pt = c.part pt := by
  simp only [Channel.sessionBegin]
  (repeat' split) <;> simp [hpt]

@[simp] theorem sessionOpen_part (q : Req) (hpt : pt ≠ .hp ∧ pt ≠ .sec) :
    (c.sessionOpen q).1.part pt = c.part pt := by
  simp only [Channel.sessionOpen]
  (repeat' split) <;> simp [hpt]

@[simp] theorem paramWrite_part (h : Hdr) (id : Nat) (v : Word) (hpt : pt ≠ .hp ∧ pt ≠ .mg ∧ pt ≠ .params) :
    (c.paramWrite h id v).1.part pt = c.part pt := by
  unfold Channel.paramWrite
  split
  · rfl
  next y hy => exact writeOne_part c hy hpt

@[simp] theorem modeRequest_part (q : Req) (hpt : pt ≠ .hp) : (c.modeRequest q).1.part pt = c.part pt := by
  simp only [Channel.modeRequest]
  (repeat' split) <;> simp [hpt]

@[simp] theorem powerAsk_part (q : Req) (target : BitVec 2) (hpt : pt ≠ .hp ∧ pt ≠ .pwr) :
    (c.powerAsk q target).1.part pt = c.part pt := by
  unfold Channel.powerAsk
  split <;> simp [hpt]

@[simp] theorem powerRequest_part (q : Req) (hpt : pt ≠ .hp ∧ pt ≠ .pwr) :
    (c.powerRequest q).1.part pt = c.part pt := by
  unfold Channel.powerRequest
  (repeat' split) <;> simp [hpt]

/-! The operations of EngineCommands. -/

@[simp] theorem putProg_part (n : Nat) (ws : List Word) (hpt : pt ≠ .params) :
    (c.putProg n ws).part pt = c.part pt := by
  refine part_foldl (fun c off => ?_) _ _
  dsimp only
  split <;> simp [hpt]

@[simp] theorem combLoad_part (q : Req) (hpt : pt ≠ .net ∧ pt ≠ .hp) : (c.combLoad q).1.part pt = c.part pt := by
  simp only [Channel.combLoad]
  (repeat' split) <;> simp [hpt]

/-! The operations of SecurityCommands. -/

@[simp] theorem imageBlock_part (q : Req) (hpt : pt ≠ .hp ∧ pt ≠ .sec) : (c.imageBlock q).1.part pt = c.part pt := by
  simp only [Channel.imageBlock]
  (repeat' split) <;> simp [hpt]

@[simp] theorem imageCommit_part (q : Req) (hpt : pt ≠ .hp) : (c.imageCommit q).1.part pt = c.part pt := by
  simp only [Channel.imageCommit]
  (repeat' split) <;> simp [hpt]

@[simp] theorem imageActivate_part (q : Req) (hpt : pt ≠ .hp) : (c.imageActivate q).1.part pt = c.part pt := by
  unfold Channel.imageActivate
  (repeat' split) <;> simp [hpt]

@[simp] theorem debugChallenge_part (q : Req) (hpt : pt ≠ .sec) : (c.debugChallenge q).1.part pt = c.part pt := by
  simp only [Channel.debugChallenge]
  (repeat' split) <;> simp [hpt]

@[simp] theorem debugResponse_part (q : Req) (hpt : pt ≠ .hp ∧ pt ≠ .sec) :
    (c.debugResponse q).1.part pt = c.part pt := by
  unfold Channel.debugResponse
  (repeat' split) <;> simp [hpt]

@[simp] theorem lifecycle_part (q : Req) (hpt : pt ≠ .hp) : (c.lifecycle q).1.part pt = c.part pt := by
  simp only [Channel.lifecycle]
  (repeat' split) <;> simp [hpt]

/-! The operations of Completions. -/

@[simp] theorem sessRefuse_part (w : Work) (k : Fin 8) (hpt : pt ≠ .fcl ∧ pt ≠ .hp) :
    (c.sessRefuse t w k).part pt = c.part pt := by simp [Channel.sessRefuse, hpt]

@[simp] theorem sessAccept_part (w : Work) (k : Fin 8) (hpt : pt ≠ .hp ∧ pt ≠ .log ∧ pt ≠ .pct ∧ pt ≠ .nv) :
    (c.sessAccept t w k).part pt = c.part pt := by simp [Channel.sessAccept, hpt]

@[simp] theorem sessCheck_part (w : Work) (k : Fin 8) (challenge : List Word)
    (hpt : pt ≠ .fcl ∧ pt ≠ .hp ∧ pt ≠ .log ∧ pt ≠ .pct ∧ pt ≠ .nv) :
    (c.sessCheck t w k challenge).part pt = c.part pt := by simp [Channel.sessCheck, hpt]

@[simp] theorem configDone_part (w : Work) (slot : Bool) (hpt : pt ≠ .fcl ∧ pt ≠ .hp ∧ pt ≠ .nv) :
    (c.configDone t w slot).part pt = c.part pt := by
  unfold Channel.configDone
  (repeat' split) <;> simp [hpt]

@[simp] theorem imageDone_part (w : Work) (hpt : pt ≠ .fcl ∧ pt ≠ .hp ∧ pt ≠ .log ∧ pt ≠ .pct ∧ pt ≠ .nv) :
    (c.imageDone t w).part pt = c.part pt := by
  unfold Channel.imageDone
  split <;> simp [hpt]

@[simp] theorem lcAccept_part (w : Work) (target : BitVec 3)
    (hpt : pt ≠ .hp ∧ pt ≠ .sec ∧ pt ≠ .log ∧ pt ≠ .pct ∧ pt ≠ .nv) :
    (c.lcAccept t w target).part pt = c.part pt := by
  simp [Channel.lcAccept, hpt]

@[simp] theorem lcCheck_part (w : Work) (target slot : BitVec 3)
    (hpt : pt ≠ .hp ∧ pt ≠ .sec ∧ pt ≠ .log ∧ pt ≠ .pct ∧ pt ≠ .nv) :
    (c.lcCheck t w target slot).part pt = c.part pt := by simp [Channel.lcCheck, hpt]

@[simp] theorem debugCheck_part (w : Work) (x : DbgCh)
    (hpt : pt ≠ .hp ∧ pt ≠ .sec ∧ pt ≠ .log ∧ pt ≠ .pct ∧ pt ≠ .nv) :
    (c.debugCheck t w x).part pt = c.part pt := by simp [Channel.debugCheck, hpt]

@[simp] theorem checkDone_part (w : Work)
    (hpt : pt ≠ .fcl ∧ pt ≠ .hp ∧ pt ≠ .sec ∧ pt ≠ .log ∧ pt ≠ .pct ∧ pt ≠ .nv) :
    (c.checkDone t w).part pt = c.part pt := by
  unfold Channel.checkDone
  split <;> simp [hpt]

@[simp] theorem signatureDone_part (hpt : pt ≠ .fcl ∧ pt ≠ .hp ∧ pt ≠ .sec ∧ pt ≠ .log ∧ pt ≠ .pct ∧ pt ≠ .nv) :
    (c.signatureDone t).part pt = c.part pt := by
  unfold Channel.signatureDone
  split <;> simp [hpt]

/-! The operations of ControlEngine. -/

@[simp] theorem rcClears_part (n : Fin 32) (hpt : pt ≠ .ce) : (c.rcClears n).part pt = c.part pt := part_setCe _ _ hpt

@[simp] theorem boundaryQueue_part (n : Fin 32) (hpt : pt ≠ .ce ∧ pt ≠ .pct ∧ pt ≠ .act) :
    (c.boundaryQueue t n).part pt = c.part pt := by simp [Channel.boundaryQueue, hpt]

@[simp] theorem gapTaken_part (m : Option (Fin 8)) (hpt : pt ≠ .ce) : (c.gapTaken m).part pt = c.part pt := by
  unfold Channel.gapTaken
  split <;> simp [hpt]

@[simp] theorem recPast_part (n : Fin 32) (hpt : pt ≠ .ce) : (c.recPast n).part pt = c.part pt := by
  simp [Channel.recPast, hpt]

@[simp] theorem track_part (n : Fin 32) (hpt : pt ≠ .ce ∧ pt ≠ .fcl) : (c.track n).part pt = c.part pt := by
  simp only [Channel.track]
  (repeat' split) <;> simp [hpt]

@[simp] theorem latchSample_part (n : Fin 32) (y r : F32) (hpt : pt ≠ .ce ∧ pt ≠ .fcl) :
    (c.latchSample t n y r).part pt = c.part pt := by simp [Channel.latchSample, hpt]

@[simp] theorem holdSample_part (n : Fin 32) (hpt : pt ≠ .ce ∧ pt ≠ .fcl ∧ pt ≠ .pct) :
    (c.holdSample n).part pt = c.part pt := by simp [Channel.holdSample, hpt]

@[simp] theorem boundary_part (n : Fin 32) (hpt : pt ≠ .ce ∧ pt ≠ .fcl ∧ pt ≠ .pct ∧ pt ≠ .act) :
    (c.boundary t n).part pt = c.part pt := by
  simp only [Channel.boundary]
  (repeat' split) <;> simp [hpt]

@[simp] theorem routeBoth_part (n : Fin 32) (u : F32) (hpt : pt ≠ .ce ∧ pt ≠ .sd ∧ pt ≠ .pct) :
    (c.routeBoth t n u).part pt = c.part pt := by simp [Channel.routeBoth, hpt]

@[simp] theorem commitSample_part (n : Fin 32) (p : Sample)
    (hpt : pt ≠ .ce ∧ pt ≠ .sd ∧ pt ≠ .rd ∧ pt ≠ .fcl ∧ pt ≠ .pct) :
    (c.commitSample t n p).part pt = c.part pt := by
  unfold Channel.commitSample
  extract_lets x rose halted u x' o c1 c2 c3 c4 c5 c6 _ c7
  have h2 : c2.part pt = c.part pt := by simp [c2, c1, hpt]
  have h3 : c3.part pt = c.part pt := by
    simp only [c3]
    cases p.unit <;> simp [h2, hpt]
  have h5 : c5.part pt = c.part pt := by simp [c5, c4, h3, hpt]
  have h7 : c7.part pt = c.part pt := by simp [c7, c6, h5, hpt]
  simp [h7, hpt]

@[simp] theorem traceRecord_part (u : Fin 4) (bad : Bool) (hpt : pt ≠ .ce ∧ pt ≠ .fcl) :
    (c.traceRecord u bad).part pt = c.part pt := by simp [Channel.traceRecord, hpt]

/-! The operations of Fault. -/

@[simp] theorem sourceEnd_part (line : Fin 62) (d : BitVec 16) (hpt : pt ≠ .fcl) :
    (c.sourceEnd t line d).part pt = c.part pt := by simp [Channel.sourceEnd, hpt]

@[simp] theorem viewLines_part (hpt : pt ≠ .fcl) : c.viewLines.part pt = c.part pt := by simp [Channel.viewLines, hpt]

/-! The operations of Feedback. -/

@[simp] theorem encEdge_part (n : Fin 2) (k : EncEdge)
    (hpt : pt ≠ .sd ∧ pt ≠ .fb ∧ pt ≠ .fcl ∧ pt ≠ .pct ∧ pt ≠ .params ∧ pt ≠ .act) :
    (c.encEdge t n k).part pt = c.part pt := by
  unfold Channel.encEdge
  split <;> simp [hpt]

@[simp] theorem zEdge_part (n : Fin 2) (hpt : pt ≠ .ce ∧ pt ≠ .sd ∧ pt ≠ .fb ∧ pt ≠ .fcl) :
    (c.zEdge t n).part pt = c.part pt := by simp [Channel.zEdge, hpt]

@[simp] theorem hallChange_part (n : Fin 2) (code : BitVec 3)
    (hpt : pt ≠ .sd ∧ pt ≠ .gd ∧ pt ≠ .fb ∧ pt ≠ .rd ∧ pt ≠ .fcl) :
    (c.hallChange t n code).part pt = c.part pt := by
  simp only [Channel.hallChange]
  (repeat' split) <;> simp [hpt]

@[simp] theorem hallStamp_part (n : Fin 2) (code : BitVec 3) (hpt : pt ≠ .fb) :
    (c.hallStamp t n code).part pt = c.part pt := part_setFb _ _ hpt

@[simp] theorem sentEdge_part (n : Fin 2) (hpt : pt ≠ .fb ∧ pt ≠ .fcl ∧ pt ≠ .pct) :
    (c.sentEdge t n).part pt = c.part pt := by
  unfold Channel.sentEdge
  extract_lets c1 x stamp cfg x' judge fail
  have h1 : c1.part pt = c.part pt := by simp [c1, hpt]
  have hfail : fail.part pt = c.part pt := by simp [fail, h1, hpt]
  split
  · simp [h1, hpt]
  · split <;> simp [hfail, h1, hpt]

@[simp] theorem wssWindow_part (n : Fin 4) (hpt : pt ≠ .fb) : (c.wssWindow t n).part pt = c.part pt :=
  part_setFb _ _ hpt

@[simp] theorem ainOne_part (n : Fin 8) (hpt : pt ≠ .fb ∧ pt ≠ .fcl ∧ pt ≠ .pct) :
    (c.ainOne n).part pt = c.part pt := by simp [Channel.ainOne, hpt]

/-! The operations of HostPorts. -/

@[simp] theorem lockAccess_part (p : Port) (contended : Bool) (hpt : pt ≠ .hp) :
    (c.lockAccess p t contended).part pt = c.part pt := by simp [Channel.lockAccess, hpt]

/-! The operations of BistOps. -/

@[simp] theorem markParts_part (mask bad : BitVec 15) (passed : Bool) (hpt : pt ≠ .mg) :
    (c.markParts mask bad passed).part pt = c.part pt := part_setMg _ _ hpt

@[simp] theorem linkFails_part (ch : Ch) (hpt : pt ≠ .rd ∧ pt ≠ .fcl) : (c.linkFails ch).part pt = c.part pt := by
  simp [Channel.linkFails, hpt]

@[simp] theorem laneFails_part (w : Wid) (hpt : pt ≠ .wi1 ∧ pt ≠ .wi2 ∧ pt ≠ .rd ∧ pt ≠ .fcl) :
    (c.laneFails w).part pt = c.part pt := by simp [Channel.laneFails, hpt]

@[simp] theorem gdlFails_part (hpt : pt ≠ .gd ∧ pt ≠ .fcl) : (c.gdlFails t).part pt = c.part pt := by
  simp [Channel.gdlFails, hpt]

@[simp] theorem gatePinsFail_part (g : Grp) (hpt : pt ≠ .gd ∧ pt ≠ .fcl) :
    (c.gatePinsFail g).part pt = c.part pt := by
  simp [Channel.gatePinsFail, hpt]

@[simp] theorem whenBit_part (bad : BitVec 15) (k : Nat) {f : Channel → Channel} (hf : (f c).part pt = c.part pt) :
    (whenBit bad k f c).part pt = c.part pt := by simp [whenBit, hf]

@[simp] theorem linksFail_part (bad : BitVec 15) (hpt : pt ≠ .gd ∧ pt ≠ .wi1 ∧ pt ≠ .wi2 ∧ pt ≠ .rd ∧ pt ≠ .fcl) :
    (c.linksFail t bad).part pt = c.part pt := by simp [Channel.linksFail, hpt]

@[simp] theorem inputsFail_part (bad : BitVec 18)
    (hpt : pt ≠ .sd ∧ pt ≠ .gd ∧ pt ≠ .fb ∧ pt ≠ .rd ∧ pt ≠ .fcl ∧ pt ≠ .mg) :
    (c.inputsFail t bad).part pt = c.part pt := by
  unfold Channel.inputsFail
  extract_lets hit line _ c1 c2 c3 c4
  have hline : ∀ x l c, (line x l c).part pt = c.part pt := fun x l c => by simp [line, hpt]
  have h2 : c2.part pt = c.part pt := by simp [c2, c1, hline, part_mk, hpt]
  have h4 : c4.part pt = c.part pt := by simp [c4, c3, h2, hpt]
  simp [h4, hpt]

@[simp] theorem partsFail_part (test : BitVec 8) (f : TestFails)
    (hpt : pt ≠ .sd ∧ pt ≠ .gd ∧ pt ≠ .fb ∧ pt ≠ .wi1 ∧ pt ≠ .wi2 ∧ pt ≠ .rd ∧ pt ≠ .fcl ∧ pt ≠ .mg) :
    (c.partsFail t test f).part pt = c.part pt := by
  unfold Channel.partsFail
  split <;> simp [hpt]

/-! The operations of Supply. -/

@[simp] theorem flushLog_part (hpt : pt ≠ .log ∧ pt ≠ .pct ∧ pt ≠ .nv) : (c.flushLog t).part pt = c.part pt := by
  simp [Channel.flushLog, part_mk, hpt]

@[simp] theorem warnEnter_part (hpt : pt ≠ .rst ∧ pt ≠ .sup ∧ pt ≠ .pwr) : (c.warnEnter t).part pt = c.part pt := by
  simp [Channel.warnEnter, part_mk, hpt]

@[simp] theorem rideReached_part (hpt : pt ≠ .sup ∧ pt ≠ .fcl) : c.rideReached.part pt = c.part pt := by
  simp [Channel.rideReached, hpt]

@[simp] theorem warnExit_part (hpt : pt ≠ .rst ∧ pt ≠ .sup ∧ pt ≠ .fcl ∧ pt ≠ .log ∧ pt ≠ .pct ∧ pt ≠ .nv) :
    (c.warnExit t).part pt = c.part pt := by
  unfold Channel.warnExit
  split
  · simp [hpt, part_mk_rst]
  split
  · simp [hpt]
  split
  · rfl
  extract_lets acc ridden _ c1 c2 c3 _
  have h2 : c2.part pt = c.part pt := by simp [c2, c1, hpt]
  have h3 : c3.part pt = c.part pt := by simp [c3, h2, hpt]
  simp [h2, h3, hpt]

@[simp] theorem ovEnter_part (hpt : pt ≠ .sup ∧ pt ≠ .sd ∧ pt ≠ .ad ∧ pt ≠ .gd ∧ pt ≠ .rd ∧ pt ≠ .fcl) :
    (c.ovEnter t).part pt = c.part pt := by simp [Channel.ovEnter, part_mk, hpt]

@[simp] theorem ovRise_part (hpt : pt ≠ .rst ∧ pt ≠ .sup ∧ pt ≠ .sd ∧ pt ≠ .ad ∧ pt ≠ .gd ∧ pt ≠ .rd ∧ pt ≠ .fcl) :
    (c.ovRise t).part pt = c.part pt := by simp [Channel.ovRise, hpt]

@[simp] theorem ovAtRelease_part
    (hpt : pt ≠ .rst ∧ pt ≠ .sup ∧ pt ≠ .sd ∧ pt ≠ .ad ∧ pt ≠ .gd ∧ pt ≠ .rd ∧ pt ≠ .fcl) :
    (c.ovAtRelease t).part pt = c.part pt := by simp [Channel.ovAtRelease, hpt]

@[simp] theorem ovExit_part
    (hpt : pt ≠ .sup ∧ pt ≠ .sd ∧ pt ≠ .ad ∧ pt ≠ .gd ∧ pt ≠ .fb ∧ pt ≠ .rd ∧ pt ≠ .fcl ∧ pt ≠ .log ∧ pt ≠ .pct ∧
        pt ≠ .params ∧ pt ≠ .act ∧ pt ≠ .nv) :
    (c.ovExit t).part pt = c.part pt := by simp [Channel.ovExit, part_mk, hpt]

@[simp] theorem cutExpire_part (hpt : pt ≠ .sup ∧ pt ≠ .sd ∧ pt ≠ .ad ∧ pt ≠ .gd ∧ pt ≠ .fcl) :
    (c.cutExpire t).part pt = c.part pt := by simp [Channel.cutExpire, part_mk, hpt]

@[simp] theorem ovLate_part (hpt : pt ≠ .sup ∧ pt ≠ .sd ∧ pt ≠ .ad ∧ pt ≠ .gd ∧ pt ≠ .fcl) :
    (c.ovLate t).part pt = c.part pt := by simp [Channel.ovLate, part_mk, hpt]

@[simp] theorem ovFall_part
    (hpt : pt ≠ .rst ∧ pt ≠ .sup ∧ pt ≠ .sd ∧ pt ≠ .ad ∧ pt ≠ .gd ∧ pt ≠ .fb ∧ pt ≠ .rd ∧ pt ≠ .fcl ∧ pt ≠ .log ∧
        pt ≠ .pct ∧ pt ≠ .params ∧ pt ≠ .act ∧ pt ≠ .nv) :
    (c.ovFall t).part pt = c.part pt := by simp [Channel.ovFall, hpt]

@[simp] theorem porRelease_part (tm : Bool) (hpt : pt ≠ .rst ∧ pt ≠ .clk) :
    (c.porRelease tm).part pt = c.part pt := by
  simp [Channel.porRelease, hpt]

/-! The operations of Power. -/

@[simp] theorem entryPublish_part (e : Entry) (a : Ans) (hpt : pt ≠ .hp ∧ pt ≠ .pct) :
    (c.entryPublish t e a).part pt = c.part pt := by simp [Channel.entryPublish, hpt]

@[simp] theorem entryFail_part (e : Entry) (st : Byte) (hpt : pt ≠ .hp ∧ pt ≠ .pwr ∧ pt ≠ .pct ∧ pt ≠ .nv) :
    (c.entryFail t e st).part pt = c.part pt := by simp [Channel.entryFail, hpt]

@[simp] theorem entryOk_part (e : Entry) (wb : WriteBack) (hpt : pt ≠ .hp ∧ pt ≠ .pwr ∧ pt ≠ .pct ∧ pt ≠ .nv) :
    (c.entryOk t e wb).part pt = c.part pt := by simp [Channel.entryOk, hpt]

@[simp] theorem entryComplete_part (wb : WriteBack) (hpt : pt ≠ .hp ∧ pt ≠ .pwr ∧ pt ≠ .pct ∧ pt ≠ .nv) :
    (c.entryComplete t wb).part pt = c.part pt := by
  unfold Channel.entryComplete
  split <;> simp [hpt]

@[simp] theorem entryTimeout_part (hpt : pt ≠ .hp ∧ pt ≠ .pwr ∧ pt ≠ .pct ∧ pt ≠ .nv) :
    (c.entryTimeout t).part pt = c.part pt := by
  unfold Channel.entryTimeout
  split <;> simp [hpt]

@[simp] theorem supShelved_part (hpt : pt ≠ .rst ∧ pt ≠ .sup ∧ pt ≠ .gd) : (c.supShelved t).part pt = c.part pt := by
  simp [Channel.supShelved, part_mk_rst, hpt]

@[simp] theorem shelfClocks_part (hpt : pt ≠ .rst ∧ pt ≠ .clk ∧ pt ≠ .exe ∧ pt ≠ .gd) :
    (c.shelfClocks t).part pt = c.part pt := by simp [Channel.shelfClocks, part_mk_rst, hpt]

@[simp] theorem shelfNow_part
    (hpt : pt ≠ .rst ∧ pt ≠ .clk ∧ pt ≠ .sup ∧ pt ≠ .exe ∧ pt ≠ .gd ∧ pt ≠ .net ∧ pt ≠ .hp ∧ pt ≠ .pwr ∧ pt ≠ .log ∧
        pt ≠ .pct ∧ pt ≠ .nv) :
    (c.shelfNow t).part pt = c.part pt := by simp [Channel.shelfNow, part_mk_rst, hpt]

@[simp] theorem wakeShelf_part (source : Nat) (hpt : pt ≠ .rst ∧ pt ≠ .pwr) :
    (c.wakeShelf t source).part pt = c.part pt := by simp [Channel.wakeShelf, part_mk_rst, hpt]

@[simp] theorem cancelShelf_part (source : Nat) (hpt : pt ≠ .pwr) : (c.cancelShelf t source).part pt = c.part pt := by
  simp [Channel.cancelShelf, hpt]

@[simp] theorem wakePin_part
    (hpt : pt ≠ .rst ∧ pt ≠ .gd ∧ pt ≠ .fb ∧ pt ≠ .wi1 ∧ pt ≠ .wi2 ∧ pt ≠ .rd ∧ pt ≠ .net ∧ pt ≠ .hp ∧ pt ≠ .pwr ∧
        pt ≠ .mg ∧ pt ≠ .log ∧ pt ≠ .pct ∧ pt ≠ .nv) :
    (c.wakePin t).part pt = c.part pt := by simp [Channel.wakePin, hpt]

@[simp] theorem wakeAddress_part (b0 b1 : Byte) (hpt : pt ≠ .rst ∧ pt ≠ .pwr) :
    (c.wakeAddress t b0 b1).part pt = c.part pt := by simp [Channel.wakeAddress, hpt]

@[simp] theorem spreadStart_part (hpt : pt ≠ .clk ∧ pt ≠ .act) : (c.spreadStart t).part pt = c.part pt := by
  simp [Channel.spreadStart, hpt]

/-! The operations of Security. -/

@[simp] theorem interconnectEnd_part (failed : BitVec 15) (detail : BitVec 16)
    (hpt : pt ≠ .rst ∧ pt ≠ .gd ∧ pt ≠ .wi1 ∧ pt ≠ .wi2 ∧ pt ≠ .rd ∧ pt ≠ .fcl ∧ pt ≠ .mg ∧ pt ≠ .log ∧ pt ≠ .pct ∧
        pt ≠ .nv) :
    (c.interconnectEnd t failed detail).part pt = c.part pt := by simp [Channel.interconnectEnd, part_mk_rst, hpt]

@[simp] theorem logReject_part (b : Bool) (hpt : pt ≠ .log ∧ pt ≠ .pct ∧ pt ≠ .nv) :
    (Channel.logReject t c b).part pt = c.part pt := by simp [Channel.logReject, hpt]

@[simp] theorem bootLoop_part (n : Fin 32) (prog : List Word) (hpt : pt ≠ .ce ∧ pt ≠ .params ∧ pt ≠ .act) :
    (Channel.bootLoop n c prog).part pt = c.part pt := by simp [Channel.bootLoop, hpt]

@[simp] theorem bootLoops_part (body : Option (List Word)) (hpt : pt ≠ .ce ∧ pt ≠ .params ∧ pt ≠ .act) :
    (c.bootLoops t body).part pt = c.part pt := by
  refine part_foldl (fun c n => ?_) _ _
  split <;> simp [hpt]

@[simp] theorem bootTables_part (body : Option (List Word)) (hpt : pt ≠ .ad ∧ pt ≠ .net) :
    (c.bootTables t body).part pt = c.part pt := by
  simp only [Channel.bootTables]
  split <;> simp [part_mk, hpt]

@[simp] theorem bootConfig_part (hpt : pt ≠ .sec ∧ pt ≠ .params ∧ pt ≠ .act ∧ pt ≠ .img ∧ pt ≠ .nv) :
    (c.bootConfig t).part pt = c.part pt := by
  unfold Channel.bootConfig
  split <;> simp [part_mk, hpt]

@[simp] theorem bootGrant_part (hpt : pt ≠ .rst ∧ pt ≠ .sec ∧ pt ≠ .log ∧ pt ≠ .pct ∧ pt ≠ .nv) :
    (c.bootGrant t).part pt = c.part pt := by
  unfold Channel.bootGrant
  extract_lets policy c1 _ _ c2 kept _ _ c3
  have h1 : c1.part pt = c.part pt := by
    simp only [c1]
    split <;> simp [hpt]
  clear_value c1
  have h2 : c2.part pt = c.part pt := by simp [c2, h1, hpt, part_mk_rst]
  have h3 : c3.part pt = c.part pt := by simp [c3, h2, hpt, part_mk]
  split <;> simp [h2, h3, hpt]

@[simp] theorem bootBank_part (b : Bool) (hpt : pt ≠ .sec) : (c.bootBank b).part pt = c.part pt := part_setSec _ _ hpt

@[simp] theorem logReset_part (hpt : pt ≠ .log ∧ pt ≠ .pct ∧ pt ≠ .nv) : (c.logReset t).part pt = c.part pt := by
  simp [Channel.logReset, hpt]

@[simp] theorem logRevert_part (hpt : pt ≠ .fcl ∧ pt ≠ .log ∧ pt ≠ .pct ∧ pt ≠ .nv) :
    (c.logRevert t).part pt = c.part pt := by
  unfold Channel.logRevert
  split <;> simp [hpt]

@[simp] theorem porLatch_part (hpt : pt ≠ .nv) : c.porLatch.part pt = c.part pt := by simp [Channel.porLatch, hpt]

@[simp] theorem bootLatch_part (hpt : pt ≠ .exe ∧ pt ≠ .rd ∧ pt ≠ .fcl ∧ pt ≠ .log ∧ pt ≠ .pct ∧ pt ≠ .nv) :
    (c.bootLatch t).part pt = c.part pt := by simp [Channel.bootLatch, hpt]

@[simp] theorem bootSelfTest_part (ok : Bool) (hpt : pt ≠ .exe ∧ pt ≠ .rd ∧ pt ≠ .log ∧ pt ≠ .pct ∧ pt ≠ .nv) :
    (c.bootSelfTest t ok).part pt = c.part pt := by simp [Channel.bootSelfTest, hpt]

@[simp] theorem resume_part (img : TcmImage)
    (hpt : pt ≠ .exe ∧ pt ≠ .net ∧ pt ≠ .pwr ∧ pt ≠ .log ∧ pt ≠ .pct ∧ pt ≠ .params ∧ pt ≠ .act ∧ pt ≠ .nv) :
    (c.resume t img).part pt = c.part pt := by simp [Channel.resume, part_mk, hpt]

@[simp] theorem bootImage_part
    (hpt : pt ≠ .exe ∧ pt ≠ .fcl ∧ pt ≠ .net ∧ pt ≠ .pwr ∧ pt ≠ .log ∧ pt ≠ .pct ∧ pt ≠ .params ∧ pt ≠ .act ∧
        pt ≠ .nv) :
    (c.bootImage t).part pt = c.part pt := by
  simp only [Channel.bootImage]
  split <;> simp [hpt]

@[simp] theorem release_part (hpt : pt ≠ .rst ∧ pt ≠ .clk ∧ pt ≠ .wi1 ∧ pt ≠ .wi2 ∧ pt ≠ .net ∧ pt ≠ .act) :
    (c.release t).part pt = c.part pt := by simp [Channel.release, part_mk_rst, hpt]

@[simp] theorem enterRecovery_part (hpt : pt ≠ .rst ∧ pt ≠ .net ∧ pt ≠ .sec ∧ pt ≠ .nv) :
    (c.enterRecovery t).part pt = c.part pt := by simp [Channel.enterRecovery, part_mk_rst, hpt]

@[simp] theorem bootLoad_part (low : Bool) (bad : List Bool)
    (hpt : pt ≠ .rst ∧ pt ≠ .ce ∧ pt ≠ .ad ∧ pt ≠ .fcl ∧ pt ≠ .net ∧ pt ≠ .sec ∧ pt ≠ .log ∧ pt ≠ .pct ∧
        pt ≠ .params ∧ pt ≠ .act ∧ pt ≠ .img ∧ pt ≠ .nv) :
    (c.bootLoad t low bad).part pt = c.part pt := by simp [Channel.bootLoad, part_mk_rst, hpt]

@[simp] theorem bootDone_part (x : BootEnd)
    (hpt : pt ≠ .rst ∧ pt ≠ .clk ∧ pt ≠ .sup ∧ pt ≠ .exe ∧ pt ≠ .ce ∧ pt ≠ .sd ∧ pt ≠ .ad ∧ pt ≠ .gd ∧ pt ≠ .wi1 ∧
        pt ≠ .wi2 ∧ pt ≠ .rd ∧ pt ≠ .fcl ∧ pt ≠ .net ∧ pt ≠ .sec ∧ pt ≠ .pwr ∧ pt ≠ .log ∧ pt ≠ .pct ∧ pt ≠ .params ∧
        pt ≠ .act ∧ pt ≠ .img ∧ pt ≠ .nv) :
    (c.bootDone t x).part pt = c.part pt := by
  simp only [Channel.bootDone]
  split <;> simp [hpt]

@[simp] theorem keyDone_part (hpt : pt ≠ .sec ∧ pt ≠ .log ∧ pt ≠ .pct ∧ pt ≠ .nv) :
    (c.keyDone t).part pt = c.part pt := by
  unfold Channel.keyDone
  split <;> simp [part_mk, hpt]

/-! The operations of Management. -/

@[simp] theorem railStep_part (hpt : pt ≠ .fcl ∧ pt ≠ .mg) : c.railStep.part pt = c.part pt := by
  unfold Channel.railStep
  split <;> simp [hpt]

@[simp] theorem hotStep_part (hpt : pt ≠ .mg) : (c.hotStep t).part pt = c.part pt := part_setMg _ _ hpt

@[simp] theorem tempStep_part (hpt : pt ≠ .fcl ∧ pt ≠ .mg) : (c.tempStep t).part pt = c.part pt := by
  unfold Channel.tempStep
  (repeat' split) <;> simp [hpt]

@[simp] theorem supStep_part (mv : BitVec 16) (hpt : pt ≠ .sup) : (c.supStep mv).part pt = c.part pt :=
  part_setSup _ _ hpt

@[simp] theorem sensorUpdate_part (vals : Vector F32 22) (mv : BitVec 16) (hpt : pt ≠ .sup ∧ pt ≠ .fcl ∧ pt ≠ .mg) :
    (c.sensorUpdate t vals mv).part pt = c.part pt := by simp [Channel.sensorUpdate, hpt]

@[simp] theorem scanLines_part (test : BitVec 8) (ok : Bool) (detail : BitVec 16) (hpt : pt ≠ .fcl) :
    (c.scanLines test ok detail).part pt = c.part pt := by simp [Channel.scanLines, hpt]

@[simp] theorem bistDone_part (passed : Bool) (failed : TestFails) (detail : BitVec 16)
    (hpt : pt ≠ .sd ∧ pt ≠ .gd ∧ pt ≠ .fb ∧ pt ≠ .wi1 ∧ pt ≠ .wi2 ∧ pt ≠ .rd ∧ pt ≠ .fcl ∧ pt ≠ .net ∧ pt ≠ .hp ∧
        pt ≠ .mg ∧ pt ≠ .log ∧ pt ≠ .pct ∧ pt ≠ .nv) :
    (c.bistDone t passed failed detail).part pt = c.part pt := by
  unfold Channel.bistDone
  split <;> simp [hpt]

@[simp] theorem sample_part (r : SampleRec) (hpt : pt ≠ .pct) : (c.sample r).part pt = c.part pt :=
  part_setPct _ _ hpt

/-! The operations of Ollia. -/

@[simp] theorem activityStart_part (p : OPort) (hpt : pt ≠ .rd ∧ pt ≠ .fcl ∧ pt ≠ .net ∧ pt ≠ .hp ∧ pt ≠ .pct) :
    (c.activityStart t p).part pt = c.part pt := by simp [Channel.activityStart, hpt]

@[simp] theorem fwdDrop_part (p : OPort) (hpt : pt ≠ .net) : (c.fwdDrop t p).part pt = c.part pt := by
  simp [Channel.fwdDrop, hpt]

@[simp] theorem activityEnd_part (p : OPort) (hpt : pt ≠ .rd ∧ pt ≠ .fcl ∧ pt ≠ .net ∧ pt ≠ .hp ∧ pt ≠ .pct) :
    (c.activityEnd t p).part pt = c.part pt := by simp [Channel.activityEnd, hpt]

@[simp] theorem hdrDrop_part (p : OPort) (hpt : pt ≠ .net) : (c.hdrDrop t p).part pt = c.part pt := by
  simp [Channel.hdrDrop, hpt]

@[simp] theorem hdrError_part (p : OPort) (hpt : pt ≠ .net ∧ pt ≠ .pct) : (c.hdrError t p).part pt = c.part pt := by
  simp [Channel.hdrError, hpt]

@[simp] theorem coldTimer_part (hpt : pt ≠ .net) : (c.coldTimer t).part pt = c.part pt := by
  simp [Channel.coldTimer, hpt]

@[simp] theorem hdrGood_part (p : OPort) (h : Vector Byte 8) (hpt : pt ≠ .net ∧ pt ≠ .pct) :
    (c.hdrGood t p h).part pt = c.part pt := by simp [Channel.hdrGood, hpt]

@[simp] theorem headerDone_part (p : OPort) (h : Vector Byte 8) (codeError : Bool)
    (hpt : pt ≠ .rd ∧ pt ≠ .fcl ∧ pt ≠ .net ∧ pt ≠ .hp ∧ pt ≠ .pct) :
    (c.headerDone t p h codeError).part pt = c.part pt := by simp [Channel.headerDone, hpt]

@[simp] theorem endCount_part (p : OPort) (k : EndKind) (hpt : pt ≠ .fcl ∧ pt ≠ .net ∧ pt ≠ .pct) :
    (c.endCount p k).part pt = c.part pt := by
  unfold Channel.endCount
  split <;> simp [hpt]

@[simp] theorem fwdEnd_part (p : OPort) (k : EndKind) (hpt : pt ≠ .fcl ∧ pt ≠ .net) :
    (c.fwdEnd t p k).part pt = c.part pt := by simp [Channel.fwdEnd, hpt]

@[simp] theorem takeCopy_part (p : OPort) (h : Vector Byte 8) (body : List Byte) (k : EndKind) (voters : List Ch)
    (hpt : pt ≠ .net) :
    (c.takeCopy t p h body k voters).part pt = c.part pt := by simp [Channel.takeCopy, hpt]

@[simp] theorem dropEnd_part (p : OPort) (body : List Byte) (codeError stalled : Bool) (wrote : List Nat) (e : NetEnd)
    (hpt : pt ≠ .fcl ∧ pt ≠ .net) :
    (c.dropEnd t p body codeError stalled wrote e).part pt = c.part pt := by
  simp [Channel.dropEnd, hpt]

@[simp] theorem frameEnd_part (p : OPort) (body : List Byte) (codeError stalled : Bool) (wrote : List Nat)
    (e : NetEnd) (voters : List Ch)
    (hpt : pt ≠ .rd ∧ pt ≠ .fcl ∧ pt ≠ .net ∧ pt ≠ .hp ∧ pt ≠ .pct) :
    (c.frameEnd t p body codeError stalled wrote e voters).part pt = c.part pt := by
  unfold Channel.frameEnd
  extract_lets c1 _ c2 c3
  have h1 : c1.part pt = c.part pt := by simp [c1, hpt]
  split
  · simp [h1, hpt]
  · simp [c3, c2, h1, hpt]

@[simp] theorem pingStart_part (hpt : pt ≠ .net ∧ pt ≠ .pct) : (c.pingStart t).part pt = c.part pt := by
  simp [Channel.pingStart, hpt]

@[simp] theorem skipTx_part (f : Fin 256) (hpt : pt ≠ .clk ∧ pt ≠ .fcl ∧ pt ≠ .net ∧ pt ≠ .pct) :
    (c.skipTx t f).part pt = c.part pt := by simp [Channel.skipTx, hpt]

@[simp] theorem dataTx_part (cell : Fin 128) (f : Fin 256) (len : Nat) (ws : List Word)
    (hpt : pt ≠ .net ∧ pt ≠ .pct) :
    (c.dataTx t cell f len ws).part pt = c.part pt := by simp [Channel.dataTx, hpt]

@[simp] theorem dataStart_part (cell : Fin 128) (hpt : pt ≠ .clk ∧ pt ≠ .fcl ∧ pt ≠ .net ∧ pt ≠ .pct) :
    (c.dataStart t cell).part pt = c.part pt := by
  simp only [Channel.dataStart]
  (repeat' split) <;> simp [hpt]

@[simp] theorem txEnd_part (hpt : pt ≠ .net) : (c.txEnd t).part pt = c.part pt := by
  unfold Channel.txEnd
  split <;> simp [hpt]

@[simp] theorem coldCollide_part (x : Tx) (hpt : pt ≠ .clk ∧ pt ≠ .fcl ∧ pt ≠ .net) :
    (c.coldCollide t x).part pt = c.part pt := by simp [Channel.coldCollide, hpt]

@[simp] theorem collide_part (p : OPort) (hpt : pt ≠ .clk ∧ pt ≠ .rd ∧ pt ≠ .fcl ∧ pt ≠ .net ∧ pt ≠ .hp ∧ pt ≠ .pct) :
    (c.collide t p).part pt = c.part pt := by
  simp only [Channel.collide]
  (repeat' split) <;> simp [hpt]

@[simp] theorem gateCut_part (hpt : pt ≠ .clk ∧ pt ≠ .fcl ∧ pt ≠ .net ∧ pt ≠ .pct) :
    (c.gateCut t).part pt = c.part pt := by
  unfold Channel.gateCut
  split <;> simp [hpt]

@[simp] theorem fwdCut_part (p : OPort) (hpt : pt ≠ .rd ∧ pt ≠ .fcl ∧ pt ≠ .net ∧ pt ≠ .hp ∧ pt ≠ .pct) :
    (c.fwdCut t p).part pt = c.part pt := by
  unfold Channel.fwdCut
  extract_lets c1 q going y c2 _ c3 _
  have h1 : c1.part pt = c.part pt := by simp [c1, hpt]
  have h3 : c3.part pt = c.part pt := by simp [c3, c2, h1, hpt]
  split
  · exact h1
  · simp [h1, h3, hpt]

@[simp] theorem waggleDelay_part (n : Net) (src hops : BitVec 6) (w3 : Word) (hpt : pt ≠ .net) :
    (c.waggleDelay n src hops w3).part pt = c.part pt := by simp [Channel.waggleDelay, hpt]

@[simp] theorem guardSet_part (n : Net) (stamp : Int) (hpt : pt ≠ .net) : (c.guardSet n stamp).part pt = c.part pt :=
  part_setNet _ _ hpt

@[simp] theorem waggleWait_part (hpt : pt ≠ .clk ∧ pt ≠ .fcl ∧ pt ≠ .net) : (c.waggleWait t).part pt = c.part pt := by
  simp only [Channel.waggleWait]
  split <;> simp [hpt]

@[simp] theorem waggleAdopt_part (n : Net) (src : BitVec 6) (ws : Vector Word 4) (stamp : Int)
    (hpt : pt ≠ .clk ∧ pt ≠ .fcl ∧ pt ≠ .net) :
    (c.waggleAdopt t n src ws stamp).part pt = c.part pt := by
  simp only [Channel.waggleAdopt]
  split <;> simp [hpt]

@[simp] theorem waggleRefuse_part (cause : BitVec 2) (rank : Nat) (hpt : pt ≠ .clk ∧ pt ≠ .fcl ∧ pt ≠ .net) :
    (c.waggleRefuse t cause rank).part pt = c.part pt := by
  simp only [Channel.waggleRefuse]
  split <;> simp [hpt]

@[simp] theorem waggleTrack_part (n : Net) (src : BitVec 6) (stamp : Int) (hpt : pt ≠ .net) :
    (c.waggleTrack n src stamp).part pt = c.part pt := by simp [Channel.waggleTrack, hpt]

@[simp] theorem waggle_part (n : Net) (src hops : BitVec 6) (ws : Vector Word 4) (stamp : Int)
    (hpt : pt ≠ .clk ∧ pt ≠ .fcl ∧ pt ≠ .net) :
    (c.waggle t n src hops ws stamp).part pt = c.part pt := by
  simp only [Channel.waggle]
  (repeat' split) <;> simp [hpt]

@[simp] theorem echo_part (n : Net) (addr : BitVec 6) (rx : Nat) (hpt : pt ≠ .net) :
    (c.echo n addr rx).part pt = c.part pt := by
  unfold Channel.echo
  split <;> simp [hpt]

@[simp] theorem coldHeard_part (rank : Nat) (hpt : pt ≠ .clk ∧ pt ≠ .fcl ∧ pt ≠ .net) :
    (c.coldHeard t rank).part pt = c.part pt := by
  unfold Channel.coldHeard
  split <;> simp [hpt]

@[simp] theorem cycleZero_part (hpt : pt ≠ .clk ∧ pt ≠ .rd ∧ pt ≠ .fcl ∧ pt ≠ .net ∧ pt ≠ .hp ∧ pt ≠ .pct) :
    (c.cycleZero t).part pt = c.part pt := by simp [Channel.cycleZero, hpt]

/-! The operations of Steering. -/

@[simp] theorem limitArrives_part (hpt : pt ≠ .sup) : (c.limitArrives t).part pt = c.part pt := by
  unfold Channel.limitArrives
  split <;> simp [hpt]

@[simp] theorem holdSamples_part (x : PwmSample) (hpt : pt ≠ .sd ∧ pt ≠ .ad ∧ pt ≠ .fb) :
    (c.holdSamples t x).part pt = c.part pt := by simp [Channel.holdSamples, part_mk, hpt]

@[simp] theorem sumCheck_part (hpt : pt ≠ .sd) : c.sumCheck.part pt = c.part pt := by simp [Channel.sumCheck, hpt]

@[simp] theorem loadCompares_part (hpt : pt ≠ .sd) : c.loadCompares.part pt = c.part pt := by
  simp [Channel.loadCompares, hpt]

@[simp] theorem periodEnds_part (hpt : pt ≠ .sd ∧ pt ≠ .gd ∧ pt ≠ .rd) : (c.periodEnds t).part pt = c.part pt := by
  unfold Channel.periodEnds
  (repeat' split) <;> simp [hpt]

@[simp] theorem periodOpen_part (hpt : pt ≠ .ce ∧ pt ≠ .sd) : (c.periodOpen t).part pt = c.part pt := by
  simp [Channel.periodOpen, hpt]

@[simp] theorem periodStart_part (x : PwmSample)
    (hpt : pt ≠ .sup ∧ pt ≠ .ce ∧ pt ≠ .sd ∧ pt ≠ .ad ∧ pt ≠ .gd ∧ pt ≠ .fb ∧ pt ≠ .rd ∧ pt ≠ .fcl ∧ pt ≠ .pct) :
    (c.periodStart t x).part pt = c.part pt := by
  unfold Channel.periodStart
  extract_lets old c1 c2 c3 c4 _ c5
  have h1 : c1.part pt = c.part pt := by simp [c1, hpt]
  have h2 : c2.part pt = c.part pt := by simp [c2, h1, hpt]
  have h4 : c4.part pt = c.part pt := by simp [c4, c3, h2, hpt]
  have h5 : c5.part pt = c.part pt := by simp [c5, h4, hpt]
  simp [h5, hpt]

@[simp] theorem sampleReady_part (hpt : pt ≠ .sd ∧ pt ≠ .ad) : c.sampleReady.part pt = c.part pt := by
  simp [Channel.sampleReady, part_mk, hpt]

@[simp] theorem spaceVector_part (vd vq : F32) (hpt : pt ≠ .sd ∧ pt ≠ .pct) :
    (c.spaceVector vd vq).part pt = c.part pt := by simp [Channel.spaceVector, hpt]

@[simp] theorem missed_part (hpt : pt ≠ .sd ∧ pt ≠ .pct) : c.missed.part pt = c.part pt := by
  simp [Channel.missed, hpt]

@[simp] theorem voltageLatch_part (hpt : pt ≠ .ce ∧ pt ≠ .sd ∧ pt ≠ .pct) : c.voltageLatch.part pt = c.part pt := by
  simp [Channel.voltageLatch, part_mk, hpt]

end

end Sys2Proof.Machine
end

section
/-! PROOF. CommandsLeaveTheOtherPartsAlone (O4): the events by their rows, then the packets, whose effects wait for the
commit (R98, R449). -/

namespace Sys2Proof.Machine

-- One proof after another: with each in a thread of its own the joined text nears the check's memory limit.
set_option Elab.async false

/-- What a command leaves alone on its channel: every part that partsOf does not name for it. -/
def KeepsRest (i : Instr) (s : State) : Prop :=
  ∀ (t : State) (k : Ch) (pt : Part), agentOf i = .channel k → exec i s = .next t → pt ∉ partsOf i →
    (t.ch k).part pt = (s.ch k).part pt

section
variable {i : Instr} {s t : State} {k : Ch} {f : Channel → Channel}

theorem keepsRest_of_next (ha : agentOf i = .channel k) (hx : exec i s = .next t)
    (hf : ∀ {pt}, pt ∉ partsOf i → (t.ch k).part pt = (s.ch k).part pt) : KeepsRest i s := by
  intro u j pt hj hu hpt
  obtain rfl : k = j := by simpa [ha] using hj
  obtain rfl : t = u := by simpa [hx] using hu
  exact hf hpt

theorem keepsRest_of_onCh (ha : agentOf i = .channel k) (hx : exec i s = onCh k s f)
    (hf : ∀ {pt}, pt ∉ partsOf i → (f (s.ch k)).part pt = (s.ch k).part pt) : KeepsRest i s :=
  keepsRest_of_next ha hx fun hpt => by rw [ch_setCh]; exact hf hpt

/-- A command that leaves a value open: the model's counter moves on too. -/
theorem keepsRest_of_free {y : Channel} {n : Nat} (ha : agentOf i = .channel k)
    (hx : exec i s = .next { s.setCh k y with freeCtr := n })
    (hf : ∀ {pt}, pt ∉ partsOf i → y.part pt = (s.ch k).part pt) : KeepsRest i s :=
  keepsRest_of_next ha hx fun hpt => (by cases k <;> exact hf hpt)

/-- A command that finds nothing to do leaves everything alone. -/
theorem keepsRest_of_idle (ha : agentOf i = .channel k) (hx : exec i s = .next s) : KeepsRest i s :=
  keepsRest_of_next ha hx fun _ => rfl

theorem keepsRest_of_all (h : partsOf i = Part.all) : KeepsRest i s := fun t k pt _ _ hpt =>
  absurd (by cases pt <;> decide) (h ▸ hpt)

theorem keepsRest_of_welt {w : Wid} (ha : agentOf i = .welt w) : KeepsRest i s := fun t k pt hk => by simp [ha] at hk

end

@[simp] theorem ch_feed (s : State) (k : Ch) : s.feed.ch k = s.ch k := by
  simp only [State.feed]
  (repeat' split) <;> simp

/-! Rows whose instant or operand decides whether the channel changes at all. -/
section
variable (l : At) (s : State)

theorem alignTElapsed_keepsRest : KeepsRest (.alignTElapsed l) s := by
  have hx : exec (.alignTElapsed l) s = execAlignTElapsed l s := rfl
  simp only [execAlignTElapsed] at hx
  split at hx
  · refine keepsRest_of_free rfl hx fun hpt => ?_
    conv at hpt => arg 1; arg 1; whnf
    simp only [List.mem_cons, List.not_mem_nil, or_false] at hpt
    simp [hpt]
  · exact keepsRest_of_idle rfl hx

theorem doubleShortStep_keepsRest : KeepsRest (.doubleShortStep l) s := by
  have hx : exec (.doubleShortStep l) s = execDoubleShortStep l s := rfl
  cases h : (s.ch l.ch).gd.dsNext with
  | none =>
    simp only [execDoubleShortStep, h] at hx
    exact keepsRest_of_idle rfl hx
  | some n =>
    simp only [execDoubleShortStep, h] at hx
    refine keepsRest_of_onCh rfl hx fun hpt => ?_
    conv at hpt => arg 1; arg 1; whnf
    simp only [List.mem_cons, List.not_mem_nil, or_false] at hpt
    simp [hpt]

theorem handoverClaimTimeout_keepsRest : KeepsRest (.handoverClaimTimeout l) s := by
  have hx : exec (.handoverClaimTimeout l) s = execHandoverClaimTimeout l s := rfl
  cases h : (s.ch l.ch).rd.ho with
  | none =>
    simp only [execHandoverClaimTimeout, h] at hx
    exact keepsRest_of_idle rfl hx
  | some x =>
    simp only [execHandoverClaimTimeout, h] at hx
    refine keepsRest_of_onCh rfl hx fun hpt => ?_
    conv at hpt => arg 1; arg 1; whnf
    simp only [List.mem_cons, List.not_mem_nil, or_false, not_or] at hpt
    simp [hpt]

theorem heldPressureRelease_keepsRest : KeepsRest (.heldPressureRelease l) s := by
  have hx : exec (.heldPressureRelease l) s = execHeldPressureRelease l s := rfl
  cases h : (s.ch l.ch).rd.stop with
  | none =>
    simp only [execHeldPressureRelease, h] at hx
    exact keepsRest_of_idle rfl hx
  | some x =>
    simp only [execHeldPressureRelease, h] at hx
    refine keepsRest_of_onCh rfl hx fun hpt => ?_
    conv at hpt => arg 1; arg 1; whnf
    simp only [List.mem_cons, List.not_mem_nil, or_false, not_or] at hpt
    simp [hpt]

theorem challengeExpiry_keepsRest (of : ChallengeOf) : KeepsRest (.challengeExpiry l of) s := by
  cases of with
  | session p k =>
    refine keepsRest_of_onCh rfl rfl fun hpt => ?_
    conv at hpt => arg 1; arg 1; whnf
    simp only [List.mem_cons, List.not_mem_nil, or_false, not_or] at hpt
    simp [hpt]
  | debug =>
    refine keepsRest_of_onCh rfl rfl fun hpt => ?_
    conv at hpt => arg 1; arg 1; whnf
    simp only [List.mem_cons, List.not_mem_nil, or_false, not_or] at hpt
    simp [hpt]

theorem loopResult_of_none {slot : Fin 32} {j : LoopJudge} (hp : ((s.ch l.ch).ce.slots[slot]).pend = none) :
    exec (.loopResult l slot j) s = .next s := by
  change execLoopResult l slot j s = _
  simp only [execLoopResult, hp]

theorem loopResult_of_early {slot : Fin 32} {j : LoopJudge} {p : Sample}
    (hp : ((s.ch l.ch).ce.slots[slot]).pend = some p)
    (hdue : ((s.ch l.ch).released && decide (p.at_ + eclk p.span ≤ l.t)) = false) :
    exec (.loopResult l slot j) s = .next s := by
  change execLoopResult l slot j s = _
  simp only [execLoopResult, hp]
  exact if_neg (Bool.not_eq_true _ ▸ hdue)

theorem loopResult_of_bad {slot : Fin 32} {j : LoopJudge} {p : Sample}
    (hp : ((s.ch l.ch).ce.slots[slot]).pend = some p)
    (hdue : ((s.ch l.ch).released && decide (p.at_ + eclk p.span ≤ l.t)) = true) (hbad : (j.upset || p.bad) = true) :
    exec (.loopResult l slot j) s = .next { s.setCh l.ch
      (((s.ch l.ch).setSlot slot { (s.ch l.ch).ce.slots[slot] with pend := none }).tdx l.t 1 9 slot.val 0 0 p.st.u1
        (if j.upset then Config.freeWord s.freeCtr else p.st.u1))
      with freeCtr := if j.upset then s.freeCtr + 1 else s.freeCtr } := by
  change execLoopResult l slot j s = _
  simp only [execLoopResult, hp]
  rw [if_pos hdue, if_pos hbad]

theorem loopResult_of_good {slot : Fin 32} {j : LoopJudge} {p : Sample}
    (hp : ((s.ch l.ch).ce.slots[slot]).pend = some p)
    (hdue : ((s.ch l.ch).released && decide (p.at_ + eclk p.span ≤ l.t)) = true) (hbad : (j.upset || p.bad) = false) :
    exec (.loopResult l slot j) s = onCh l.ch s fun c =>
      if j.sharing && (c.commitSample l.t slot p).routesTorque slot then
        ((c.commitSample l.t slot p).raise 14).beginIsolate l.t
      else c.commitSample l.t slot p := by
  change execLoopResult l slot j s = _
  simp only [execLoopResult, hp]
  rw [if_pos hdue, if_neg (by simp [hbad])]

theorem loopResult_keepsRest (slot : Fin 32) (j : LoopJudge) : KeepsRest (.loopResult l slot j) s := by
  cases hp : ((s.ch l.ch).ce.slots[slot]).pend with
  | none => exact keepsRest_of_idle rfl (loopResult_of_none l s hp)
  | some p =>
    cases hdue : (s.ch l.ch).released && decide (p.at_ + eclk p.span ≤ l.t) with
    | false => exact keepsRest_of_idle rfl (loopResult_of_early l s hp hdue)
    | true =>
      cases hbad : j.upset || p.bad with
      | true =>
        refine keepsRest_of_free rfl (loopResult_of_bad l s hp hdue hbad) fun hpt => ?_
        conv at hpt => arg 1; arg 1; whnf
        simp only [List.mem_cons, List.not_mem_nil, or_false, not_or] at hpt
        simp [hpt]
      | false =>
        refine keepsRest_of_onCh rfl (loopResult_of_good l s hp hdue hbad) fun hpt => ?_
        conv at hpt => arg 1; arg 1; whnf
        simp only [List.mem_cons, List.not_mem_nil, or_false, not_or] at hpt
        simp [hpt]
end

/-- The events, row by row. The parts of a row are read by evaluating partsOf: its equations, one for each command,
would cost more than the proofs. -/
theorem eventRow_keepsRest {i : Instr} (s : State) (hi : isPacket i = false) : KeepsRest i s := by
  cases i with
  | spiTransactionEnd l p len instr words crc | sideEffectFinal l p | cmdFifoWrite l p words | replyFifoRead l p n
  | rewind l p | hostReset l p | releaseSem l p | semWrite l p k v contended | doorbellRing l p v | mbDataWrite l p v
  | mbDataRead l p | lockURead l p contended | lockUWrite l p v | windowRegisterWrite l p addr v
  | sessionIdleTimeout l p k | signatureCheckDone l | frameStart l passP | replyPublish l | passT l run | passTEnd l
  | frameCommit l ws | mgCoreMismatch l | sampleBoundary l slot | oscWindowEnd l slot
  | traceRecord l unit parityError | tracePreFilled l unit | tracePostDone l unit | cycleStart l | mark l
  | class4khzPeriod l | pwmPeriodStart l smp | currentSampleReady l | voltageLatch l upset | missedCmdLimit l
  | isumFault l | settleElapsed l | speedBelowNmax l | openTmaxExpiry l | encoderEdge l n e | zIndex l n
  | hallEdge l n code | sentPulse l n | sentTimeout l n | wssEdge l n | wssWindowEnd l n | laneEdge l leg hsReq lsReq
  | switchTransition l leg dir gate steps | shortTrip l x | stoHoldEnd l gate | shortReport l g | gateFault l leg
  | bootstrapUv l leg falling | vgdUndervoltage l | pisFault l n | chopperSample l vlink10mV iSeen | ascTmaxExpiry l
  | gclkLoss l | gdlFrame l f | gdSelftestEnd l g failed | catchDecision l us vs ws | zeroCrossing l | commutation l
  | softRampStep l | lossOfSynchronism l | brakeTElapsed l | startTmaxElapsed l | coastElapsed l | claimPeriodStart l
  | cclPeriodStart l | cclFrameReceived l f | xmbAttemptTimeout l toNext | xmbDeliveryTimeout l toNext
  | statusWordReceived l w sw | statusLaneSilence l w | rotationTimerExpiry l | healthWindowEnd l
  | faultAbsenceExpiry l bit | standstillHeld l | lineSourceEnd l line detail | vsupWarnEnter l | vsupWarnExit l
  | rideLimit l | rideClear l | limitRampEnd l | ovCutEnter l | ovCutExit l | ovCutTimeout l
  | vsupPorRelease l strap tm | rstnRelease l tm | interconnectTestEnd l failed detail | bootVerificationDone l x
  | keyProgramDone l | trngHealthFail l | sensorUpdate l vals vsupMv | bistTestEnd l passed failed detail
  | samplerRecord l r | powerEntryComplete l wb | powerEntryTimeout l | wakePin l | wakeAddressMatch l b0 b1
  | portActivityStart l p | portActivityEnd l p | networkHeaderComplete l p hdr codeError
  | networkFrameEnd l p body codeError stalled wrote e | transmissionStart l cell | txCollision l p
  | guardianGateClose l | forwarderGuardCut l p | waggleReceived l n src hops payload stamp
  | delayPingReceived l n target | echoReceived l n addr rx | coldstartReceived l payload | listenTimeout l
  | coldstartCycle0 l | coldstartBackoffEnd l | holdoverTakeover l | trngHealthPass l | transmissionEnd l
  | woRegisterRead l p addr =>
    refine keepsRest_of_next rfl rfl fun hpt => ?_
    conv at hpt => arg 1; arg 1; whnf
    simp only [List.mem_cons, List.not_mem_nil, or_false, not_or] at hpt
    simp [hpt]
  | vlinkAbs l =>
    refine keepsRest_of_next rfl rfl fun hpt => ?_
    conv at hpt => arg 1; arg 1; whnf
    simp only [List.mem_cons, List.not_mem_nil, or_false, not_or] at hpt
    simp [part_mk, hpt]
  | xtalOk l | pllLock l =>
    refine keepsRest_of_next rfl rfl fun hpt => ?_
    conv at hpt => arg 1; arg 1; whnf
    simp only [List.mem_cons, List.not_mem_nil, or_false, not_or] at hpt
    dsimp only
    split <;> simp [part_mk_rst, hpt]
  | mramWriteAttemptEnd l ok | commandResetEffect l | watchdogExpiry l | errorLineRegister l lines
  | quietTimerExpiry l line detail | vsupReset l | vsupOff l | railFault l | pinReset l | clockFailure l xtalLost
  | trialTimeout l | eyeletAccess l acc | wakeRestoreDone l readOk => exact keepsRest_of_all rfl
  | claimWordDecode l lanes | claimStale l lane | claimApply l | orphHoldExpiry l | pkrDelayExpiry l
  | weltSettingApply l | solPwmPeriodStart l k | solLoopInterval l k meanMa | ditherToggle l | solShort l k
  | solOpen l k | pkrFault l | siLevelAccepted l n high | siDiscrepancy l pair | tpPulseStart l n raw
  | tpPulseEnd l n raw readbackOk | soFault l x | vloadLow l | vloadRecovered l | weltPowerUp l | weltPowerLoss l
  | weltSelfcheckDone l passed | weltClockStop l | weltInternalFault l | weltDeliberateReset l | weltStatusSend l
  | wrstHigh l | wstatAlternate l => exact keepsRest_of_welt rfl
  | ainUpdate l =>
    refine keepsRest_of_onCh rfl rfl fun hpt => part_when ?_
    conv at hpt => arg 1; arg 1; whnf
    simp only [List.mem_cons, List.not_mem_nil, or_false, not_or] at hpt
    simp [hpt]
  | wssCurrentTimer l n cond =>
    refine keepsRest_of_onCh rfl rfl fun hpt => part_when ?_
    conv at hpt => arg 1; arg 1; whnf
    simp only [List.mem_cons, List.not_mem_nil, or_false, not_or] at hpt
    cases cond <;> simp [hpt]
  | shelfClockStop l =>
    refine keepsRest_of_next rfl rfl fun hpt => ?_
    conv at hpt => arg 1; arg 1; whnf
    simp only [List.mem_cons, List.not_mem_nil, or_false, not_or] at hpt
    simp [hpt]
  | alignTElapsed l => exact alignTElapsed_keepsRest l s
  | loopResult l slot j => exact loopResult_keepsRest l s slot j
  | doubleShortStep l => exact doubleShortStep_keepsRest l s
  | challengeExpiry l of => exact challengeExpiry_keepsRest l s of
  | handoverClaimTimeout l => exact handoverClaimTimeout_keepsRest l s
  | heldPressureRelease l => exact heldPressureRelease_keepsRest l s
  | _ => exact Bool.noConfusion hi

/-- Whether the core runs in frames is read off three parts. -/
theorem running_of_parts {c y : Channel} (h : ∀ pt ∈ [Part.rst, .exe, .pwr], y.part pt = c.part pt) :
    y.running = c.running := by
  have hrst : y.rst = c.rst := h .rst (by simp)
  have hexe : y.exe = c.exe := h .exe (by simp)
  have hpwr : y.pwr = c.pwr := h .pwr (by simp)
  simp only [Channel.running, Channel.released, hrst, hexe, hpwr]

/-- In frames a packet leaves alone what its body does, its session and its reply apart: its effects wait for the commit
(R98, R449). -/
theorem command_part {pt : Part} {c : Channel} {q : Req} {op : Byte} {k : CmdSpec} {body : Channel → Channel × Ans}
    (hr : c.running = true) (hrun : ∀ z, z.running = true → (body z).1.running = true)
    (hbody : ∀ z, (body z).1.part pt = z.part pt) (hpt : pt ∉ [.hp, .sec]) :
    (c.command q op k body).part pt = c.part pt := by
  simp only [List.mem_cons, List.not_mem_nil, or_false, not_or] at hpt
  unfold Channel.command
  split
  · rfl
  extract_lets h c1 r rep rep' r1 _ c2
  have h1 : c1.part pt = c.part pt := by simp [c1, hpt]
  have hr1 : c1.running = true := (running_of_parts (by simp [c1])).trans hr
  have hjudged : r.1.part pt = c.part pt ∧ r.1.running = true := by
    cases hj : c1.judge h op k q.len with
    | some st => simp only [r, hj]; exact ⟨h1, hr1⟩
    | none => simp only [r, hj]; exact ⟨(hbody c1).trans h1, hrun c1 hr1⟩
  have hframed : c2.framed = true := hjudged.2
  rw [if_pos hframed]
  simp [c2, r1, hjudged.1, hpt]

@[simp] theorem part_fst_ite {b : Prop} [Decidable b] {x y : Channel × Ans} {pt : Part} :
    (if b then x else y).1.part pt = if b then x.1.part pt else y.1.part pt := by split <;> rfl

section
variable {i : Instr} {s : State} {q : Req} {op : Byte} {k : Channel → CmdSpec} {body : Channel → Channel × Ans}

theorem keepsRest_of_command (ps : List Part) (hps : partsOf i = ps) (ha : agentOf i = .channel q.hdr.loc.ch)
    (hx : exec i s = cmd q s op k body) (hr : (s.ch q.hdr.loc.ch).running = true)
    (hrun : ∀ z, z.running = true → (body z).1.running = true) (hown : [.hp, .sec] ⊆ ps)
    (hbody : ∀ {pt}, pt ∉ ps → ∀ z, (body z).1.part pt = z.part pt) : KeepsRest i s := by
  subst hps
  exact keepsRest_of_onCh ha hx fun hpt => command_part hr hrun (hbody hpt) fun h => hpt (hown h)

/-- A packet whose body, like all but POWER_REQUEST's, leaves the core's own parts alone. -/
theorem keepsRest_of_cmd (ps : List Part) (hps : partsOf i = ps) (ha : agentOf i = .channel q.hdr.loc.ch)
    (hx : exec i s = cmd q s op k body) (hr : (s.ch q.hdr.loc.ch).running = true)
    (hown : [.hp, .sec] ⊆ ps) (hcore : ∀ pt ∈ [Part.rst, .exe, .pwr], pt ∉ ps)
    (hbody : ∀ {pt}, pt ∉ ps → ∀ z, (body z).1.part pt = z.part pt) : KeepsRest i s :=
  keepsRest_of_command ps hps ha hx hr
    (fun z hz => (running_of_parts fun pt hpt => hbody (hcore pt hpt) z).trans hz) hown hbody

end

/-- A parameter's write leaves alone all but the parameter, the commanded counts of a test, and its reply. -/
theorem keepsRest_of_paramCmd {i : Instr} {s : State} {h : Hdr} {id : Nat} {v : Word}
    (hps : partsOf i = [.hp, .sec, .mg, .params]) (ha : agentOf i = .channel h.loc.ch)
    (hx : exec i s = paramCmd h s id v) (hr : (s.ch h.loc.ch).running = true) : KeepsRest i s :=
  keepsRest_of_cmd _ hps (q := ⟨h, put 0 id, 4, [v]⟩) ha hx hr (by decide) (by decide) fun hpt z => by simp_all

/-- A request to enter a power state changes no state yet, and one that leaves DOZE finds the core not running. -/
theorem powerRequest_running (c : Channel) (q : Req) (hr : c.running = true) :
    (c.powerRequest q).1.running = true := by
  have hdoze : c.pwr.doze = false := by
    simp only [Channel.running, Bool.and_eq_true, Bool.not_eq_true'] at hr
    exact hr.2
  have hask : ∀ target, (c.powerAsk q target).1.running = true := fun target => by
    unfold Channel.powerAsk
    split <;> exact hr
  unfold Channel.powerRequest
  split
  · rw [hdoze]; exact hr
  · rw [hdoze]; exact hask 1
  · exact hask 2
  · exact hr

theorem packetRow_keepsRest {i : Instr} (s : State) (hi : isPacket i = true)
    (hr : ∀ k, agentOf i = .channel k → (s.ch k).running = true) : KeepsRest i s := by
  cases i with
  | ceReturn h slot | rcClear h inst freeze | gdTestStart h g | minVsupRestart h | exePeakRestart h | fclLatchClear h
  | keyProgram h slot | keyRevoke h slot | debugRelock h | clrCnt h | biArm h v | samplerEnable h interval
  | compareWrite h k isValue v => exact keepsRest_of_paramCmd rfl rfl (by delta exec; rfl) (hr _ rfl)
  | nop q | identify q | reset q | sessionOpen q | sessionClose q | configLoad q | configActivate q | modeRequest q
  | driveDisable q | loopStop q | traceArm q | traceRead q | netStop q | lockoutResetReq q | claimStatus q
  | logRead q | logFreezeClear q | sensorRead q | imageBlock q | imageCommit q | imageActivate q | attest q
  | debugChallenge q | debugResponse q | lifecycleAdvance q | bistResult q | pctConfig q | pctRead q
  | pctSampleRead q =>
    refine keepsRest_of_cmd [.hp, .sec] rfl rfl (by delta exec; rfl) (hr _ rfl) (by decide)
      (by decide) fun hpt z => ?_
    simp_all
  | paramRead q | roleRequest q | driveEnable q | loopStart q | netStart q | imageBegin q | bistRun q =>
    refine keepsRest_of_cmd [.hp, .sec] rfl rfl (by delta exec; rfl) (hr _ rfl) (by decide)
      (by decide) fun hpt z => ?_
    (repeat' split) <;> simp_all
  | paramReadBlock q | curveLoad q =>
    refine keepsRest_of_cmd [.hp, .sec] rfl rfl (by delta exec; rfl) (hr _ rfl) (by decide)
      (by decide) fun hpt z => ?_
    dsimp only
    (repeat' split) <;> simp_all
  | paramWrite q =>
    refine keepsRest_of_cmd [.hp, .sec, .mg, .params] rfl rfl (by delta exec; rfl) (hr _ rfl) (by decide)
      (by decide) fun hpt z => ?_
    simp_all
  | paramWriteSet q =>
    refine keepsRest_of_cmd [.hp, .sec, .mg, .params] rfl rfl (by delta exec; rfl) (hr _ rfl) (by decide)
      (by decide) fun hpt z => ?_
    split
    · rfl
    split
    · rfl
    next y hy => exact writeSet_part z hy (by simp_all)
  | loopLoad q =>
    refine keepsRest_of_cmd [.hp, .sec, .params] rfl rfl (by delta exec; rfl) (hr _ rfl) (by decide)
      (by decide) fun hpt z => ?_
    (repeat' split) <;> simp_all
  | combLoad q =>
    refine keepsRest_of_cmd [.net, .hp, .sec] rfl rfl (by delta exec; rfl) (hr _ rfl) (by decide)
      (by decide) fun hpt z => ?_
    simp_all
  | imageResume q =>
    refine keepsRest_of_cmd [.fcl, .hp, .sec] rfl rfl (by delta exec; rfl) (hr _ rfl) (by decide)
      (by decide) fun hpt z => ?_
    split <;> simp_all
  | powerRequest q =>
    refine keepsRest_of_command [.hp, .sec, .pwr] rfl rfl (by delta exec; rfl) (hr _ rfl)
      (fun z hz => powerRequest_running z q hz) (by decide) fun hpt z => ?_
    simp_all
  | _ => exact Bool.noConfusion hi

/-- Settles O4: each command is taken apart by its row; what the operations it runs leave alone is said above, once for
each operation, and a packet's effects do not run before the commit. -/
theorem commandsLeaveTheOtherPartsAlone : Obligations.CommandsLeaveTheOtherPartsAlone := by
  unfold Obligations.CommandsLeaveTheOtherPartsAlone
  intro i s t ch pt ha hx hr hpt
  rw [same_iff_part]
  cases hi : isPacket i with
  | false => exact eventRow_keepsRest s hi t ch pt ha hx hpt
  | true =>
    refine packetRow_keepsRest s hi (fun k hk => ?_) t ch pt ha hx hpt
    obtain rfl : ch = k := by simpa [ha] using hk
    exact hr hi

end Sys2Proof.Machine
end

section
/-! PROOF. What a mismatch latches, and what it leaves alone (R102, R105, R106). -/

namespace Sys2Proof.Machine

-- One proof after another: with each in a thread of its own the joined text nears the check's memory limit.
set_option Elab.async false

section
variable (c : Channel) (t : Nat) (line : Fin 62) (kind : BitVec 4) (loop seq : Nat) (addr dp dt : Word)

theorem raise_exe (l : Fin 62) (d : BitVec 16) : (c.raise l d).exe = c.exe := raise_part (pt := .exe) c l d (by decide)

/-- The first mismatch is latched with its kind, the commit is blocked, and the TCM keeps its content. -/
theorem tdx_latches : (c.tdx t line kind loop seq addr dp dt).exe.bad = true ∧
    (c.tdx t line kind loop seq addr dp dt).exe.mismatch = true ∧
    (c.exe.mismatch = false → (c.tdx t line kind loop seq addr dp dt).exe.kind = kind) ∧
    (c.tdx t line kind loop seq addr dp dt).exe.tcm = c.exe.tcm := by
  unfold Channel.tdx
  extract_lets e e'
  obtain ⟨a, b, h, -⟩ := beginIsolate_exe ({ c with exe := { e' with bad := true, wdgArmed := false } }.raise line) t
  rw [h, raise_exe]
  cases hm : c.exe.mismatch <;> simp [e', e, hm]

/-- The line of a mismatch is raised; lines 18 and 19 may fall with the pump's enable (R206). -/
theorem tdx_raises (h8 : line ≠ 18) (h9 : line ≠ 19) :
    (line, 0) ∈ (c.tdx t line kind loop seq addr dp dt).fcl.raised :=
  beginIsolate_lines _ t (raise_self _ line 0) h8 h9

theorem tdx_ce : (c.tdx t line kind loop seq addr dp dt).ce = c.ce :=
  tdx_part (pt := .ce) c t line kind loop seq addr dp dt (by decide)

end

end Sys2Proof.Machine
end

section
/-! PROOF. LoopResultsCommitOrMismatch (O31): what the commit of a sample leaves in its slot, which neither the
oscillation detector nor routing, learning and tracing change, and the mismatch of a sample (R101, R106, R122, R127). -/

namespace Sys2Proof.Machine

-- One proof after another: with each in a thread of its own the joined text nears the check's memory limit.
set_option Elab.async false

/-- What the commit of a sample writes of a slot: the sample it waited for, the state, the nodes, the count, the mark of
the first sample and the output. -/
def Slot.sampled (x : Slot) : Option Sample × LoopState × Vector F32 8 × Word × Bool × F32 :=
  (x.pend, x.state, x.nodes, x.samples, x.first, x.out)

section Slots
variable (c : Channel) (t : Nat) (n : Fin 32)

@[simp] theorem setSlot_slot (x : Slot) : (c.setSlot n x).ce.slots[n.val] = x := Vector.getElem_set_self ..

@[simp] theorem bump_ce (b i k : Nat) : (c.bump b i k).ce = c.ce := bump_part (pt := .ce) c b i k (by decide)

@[simp] theorem raise_ce (l : Fin 62) (d : BitVec 16) : (c.raise l d).ce = c.ce :=
  raise_part (pt := .ce) c l d (by decide)

@[simp] theorem routeTorque_ce (u : F32) : (c.routeTorque t u).ce = c.ce :=
  routeTorque_part (pt := .ce) c t u (by decide)

/-- The oscillation detector keeps books of its own. -/
@[simp] theorem oscStep_sampled (x : Slot) (e : F32) : (c.oscStep n x e).1.sampled = x.sampled := by
  unfold Channel.oscStep oscRestart
  dsimp only
  (repeat' split) <;> rfl

/-- The reaction to a trip marks the slot for its next boundary and commits nothing else. -/
theorem oscTrip_sampled (x : Slot) : ((c.oscTrip n x).ce.slots[n]).sampled = x.sampled := by
  unfold Channel.oscTrip
  extract_lets act x1 x2 d
  have hx : x2.sampled = x.sampled := by
    simp only [x2, x1]
    clear_value act
    (repeat' split) <;> rfl
  have hd : d.ce.slots[n] = x2 := by simp [d]
  split <;> simp [hd, hx]

@[simp] theorem rcCommit_slots (m : Fin 8) (p : Sample) : (c.rcCommit m p).ce.slots = c.ce.slots := by
  unfold Channel.rcCommit
  extract_lets _ _ _ _ d e
  have he : e.ce.slots = c.ce.slots := by
    simp only [e]
    split
    · rw [bump_ce]; rfl
    · rfl
  split
  · rw [bump_ce, he]
  · exact he

@[simp] theorem routeOne_slots (code : Nat) (u : F32) : (c.routeOne t code u).ce.slots = c.ce.slots := by
  unfold Channel.routeOne
  (repeat' split) <;> simp

@[simp] theorem routeBoth_slots (u : F32) : (c.routeBoth t n u).ce.slots = c.ce.slots := by
  simp [Channel.routeBoth]

@[simp] theorem traceSample_slots (trip rose : Bool) (u : Fin 4) :
    (c.traceSample t n trip rose u).ce.slots = c.ce.slots := by
  unfold Channel.traceSample
  dsimp only
  split <;> rfl

theorem traceSamples_slots (trip rose : Bool) (us : List (Fin 4)) :
    (us.foldl (fun c u => c.traceSample t n trip rose u) c).ce.slots = c.ce.slots := by
  induction us generalizing c with
  | nil => rfl
  | cons u us ih => rw [List.foldl_cons, ih, traceSample_slots]

/-- A sample commits as a whole: state, nodes, count and output (R101, R127); a halted core puts out nothing new
(R102). -/
theorem commitSample_sampled (p : Sample) : ((c.commitSample t n p).ce.slots[n]).sampled =
    (none, p.st, p.nodes, (c.ce.slots[n]).samples + 1, false,
      if c.exe.stopping || c.exe.stopped then (c.ce.slots[n]).out else p.st.u1) := by
  unfold Channel.commitSample
  extract_lets x rose halted u x' o c1 c2 c3 c4 c5 c6 _ c7
  have h1 : c1.ce.slots[n] = o.1 := setSlot_slot c n o.1
  have h2 : (c2.ce.slots[n]).sampled = x'.sampled := by
    simp only [c2]
    split
    · rw [oscTrip_sampled]; exact oscStep_sampled c n x' p.st.e1
    · rw [h1]; exact oscStep_sampled c n x' p.st.e1
  have h3 : c3.ce.slots = c2.ce.slots := by
    simp only [c3]
    cases p.unit <;> simp
  have h5 : c5.ce.slots = c3.ce.slots := by
    simp only [c5]
    split <;> simp [c4]
  have h6 : c6.ce.slots = c5.ce.slots := by
    simp only [c6]
    split <;> simp
  have h7 : c7.ce.slots = c6.ce.slots := by
    simp only [c7]
    split <;> rfl
  rw [traceSamples_slots, h7, h6, h5, h3, h2]
  rfl

/-- A commit changes no parameter, so the slot routes what it routed. -/
theorem commitSample_routesTorque (p : Sample) : (c.commitSample t n p).routesTorque n = c.routesTorque n := by
  have hact : (c.commitSample t n p).act = c.act := commitSample_part (pt := .act) c t n p (by decide)
  simp only [Channel.routesTorque, Channel.af, Channel.getA, hact]

/-- The channel after a sample whose results disagree: the slot lets it go, and the mismatch is of kind CE. -/
def Channel.dropSample (p : Sample) (dt : Word) : Channel :=
  (c.setSlot n { c.ce.slots[n] with pend := none }).tdx t 1 9 n.val 0 0 p.st.u1 dt

/-- Of a dropped sample nothing commits, and the channel isolates (R102, R127). -/
theorem dropSample_commits_nothing (p : Sample) (dt : Word) :
    ((c.dropSample t n p dt).ce.slots[n]).pend = none ∧
    ((c.dropSample t n p dt).ce.slots[n]).state = (c.ce.slots[n]).state ∧
    ((c.dropSample t n p dt).ce.slots[n]).samples = (c.ce.slots[n]).samples ∧
    (c.dropSample t n p dt).exe.bad = true ∧ (c.dropSample t n p dt).exe.mismatch = true ∧
    (c.exe.mismatch = false → (c.dropSample t n p dt).exe.kind = 9) ∧
    (c.dropSample t n p dt).fcl.raised.contains (1, 0) = true := by
  obtain ⟨hbad, hmis, hkind, -⟩ :=
    tdx_latches (c.setSlot n { c.ce.slots[n] with pend := none }) t 1 9 n.val 0 0 p.st.u1 dt
  have hslot : (c.dropSample t n p dt).ce.slots[n] = { c.ce.slots[n] with pend := none } := by
    rw [Channel.dropSample, tdx_ce]
    exact setSlot_slot c n _
  rw [hslot]
  exact ⟨rfl, rfl, rfl, hbad, hmis, hkind,
    List.contains_iff_mem.mpr (tdx_raises _ t 1 9 n.val 0 0 p.st.u1 dt (by decide) (by decide))⟩

end Slots

section Results
variable {s : State} {l : At} {n : Fin 32} {p : Sample} (sh : Bool)
  (hp : ((s.ch l.ch).ce.slots[n]).pend = some p)
  (hdue : ((s.ch l.ch).released && decide (p.at_ + eclk p.span ≤ l.t)) = true)
include hp hdue

theorem loopResult_of_nan (hbad : p.bad = true) : exec (.loopResult l n ⟨false, sh⟩) s =
    .next (s.setCh l.ch ((s.ch l.ch).dropSample l.t n p p.st.u1)) := by
  rw [loopResult_of_bad l s hp hdue (by simp [hbad])]
  cases l.ch <;> rfl

theorem loopResult_of_upset : exec (.loopResult l n ⟨true, sh⟩) s =
    .next { s.setCh l.ch ((s.ch l.ch).dropSample l.t n p (Config.freeWord s.freeCtr)) with
      freeCtr := s.freeCtr + 1 } :=
  loopResult_of_bad l s hp hdue rfl

theorem loopResult_of_sharing (hbad : p.bad = false) (hroutes : (s.ch l.ch).routesTorque n = true) :
    exec (.loopResult l n ⟨false, true⟩) s =
      onCh l.ch s fun c => ((c.commitSample l.t n p).raise 14).beginIsolate l.t := by
  refine (loopResult_of_good l s hp hdue (by simp [hbad])).trans ?_
  simp [onCh, commitSample_routesTorque, hroutes]

theorem loopResult_of_agreement (hbad : p.bad = false) :
    exec (.loopResult l n ⟨false, false⟩) s = onCh l.ch s fun c => c.commitSample l.t n p := by
  refine (loopResult_of_good l s hp hdue (by simp [hbad])).trans ?_
  simp

end Results

/-- Settles O31: a sample that agrees commits, and one that does not leaves only its mismatch. -/
theorem loopResultsCommitOrMismatch : Obligations.LoopResultsCommitOrMismatch := by
  unfold Obligations.LoopResultsCommitOrMismatch
  intro s l n p hrel hp hat c x
  have hdue : ((s.ch l.ch).released && decide (p.at_ + eclk p.span ≤ l.t)) = true := by simp [hrel, hat]
  refine ⟨fun hbad hroutes => ?_, fun hbad => ?_, fun hbad sh => ?_, fun sh => ?_⟩
  · refine chGets_onCh (loopResult_of_sharing hp hdue hbad hroutes) ?_
    obtain ⟨a, b, he, hab⟩ := beginIsolate_exe ((c.commitSample l.t n p).raise 14) l.t
    exact ⟨List.contains_iff_mem.mpr (beginIsolate_lines _ l.t (raise_self _ 14 0) (by decide) (by decide)),
      by rw [he]; exact hab⟩
  · refine chGets_onCh (loopResult_of_agreement hp hdue hbad) ?_
    have hs := commitSample_sampled (s.ch l.ch) l.t n p
    simp only [Slot.sampled, Prod.mk.injEq] at hs
    exact hs
  · obtain ⟨hpend, hstate, hsamples, hb, hm, -, hline⟩ := dropSample_commits_nothing c l.t n p p.st.u1
    exact ⟨_, loopResult_of_nan sh hp hdue hbad, hpend, hstate, hsamples, hm, hb, hline⟩
  · obtain ⟨hpend, hstate, -, hb, hm, hkind, hline⟩ :=
      dropSample_commits_nothing c l.t n p (Config.freeWord s.freeCtr)
    exact ⟨_, loopResult_of_upset sh hp hdue, hpend, hstate, hm, hb, hkind, hline⟩

end Sys2Proof.Machine
end

section
/-! PROOF. PassTStoresAreChecked (O60): the form check bit by bit, the first mismatch where reads and writes agree, and
what pass T then leaves in the TCM (R93, R105). -/

namespace Sys2Proof.Machine

-- One proof after another: with each in a thread of its own the joined text nears the check's memory limit.
set_option Elab.async false

section Form
variable (d : BitVec 40)

/-- The top five bits are all equal to one bit exactly where they are the word that this bit fills. -/
theorem topBits_eq_iff (b : Bool) :
    d.extractLsb' 35 5 = (if b then 0x1F#5 else 0) ↔ ∀ i, 35 ≤ i → i < 40 → d.getLsbD i = b := by
  have hfill : ∀ i : Fin 5, (if b then 0x1F#5 else 0).getLsbD i = b := by cases b <;> decide
  constructor
  · intro h i hlo hhi
    have hbit := congrArg (fun v => v.getLsbD (i - 35)) h
    simp only [BitVec.getLsbD_extractLsb'] at hbit
    rw [Nat.add_sub_cancel' hlo, hfill ⟨i - 35, by omega⟩, decide_eq_true (by omega), Bool.true_and] at hbit
    exact hbit
  · intro h
    refine BitVec.eq_of_getLsbD_eq fun i hi => ?_
    rw [hfill ⟨i, hi⟩, BitVec.getLsbD_extractLsb', decide_eq_true hi, Bool.true_and]
    exact h (35 + i) (by omega) (by omega)

/-- A valid transformed value, bit by bit (R93). -/
theorem formOk_iff : formOk d = true ↔
    d.extractLsb' 0 3 = 0 ∧ ∀ i, 35 ≤ i → i < 40 → d.getLsbD i = d.getLsbD 34 := by
  rw [← topBits_eq_iff]
  simp [formOk]

/-- The plain value of a register is bits 3 to 34: no sign bit enters it. -/
theorem plainOf_eq : plainOf d = (d >>> 3).setWidth 32 := by
  refine BitVec.eq_of_getLsbD_eq fun i hi => ?_
  have hin : 3 + i < 40 := by omega
  have hlt : ¬40 ≤ i := by omega
  simp [plainOf, undoT, BitVec.getLsbD_sshiftRight, hin, hlt]

end Form

section Compare

theorem firstBad_eq_none_step {n : Nat} {held ws : List BusWrite} (h : firstBad n held ws = none) :
    firstBad n (held.take 1) (ws.take 1) = none ∧ firstBad (n + 1) (held.drop 1) (ws.drop 1) = none := by
  cases held with
  | nil => exact ⟨rfl, rfl⟩
  | cons p ps =>
    cases ws with
    | nil => cases ps <;> exact ⟨rfl, rfl⟩
    | cons q qs =>
      simp only [firstBad, List.take_succ_cons, List.take_zero, List.drop_succ_cons, List.drop_zero] at h ⊢
      split at h
      · cases h
      split at h
      · cases h
      split at h
      · cases h
      exact ⟨by simp_all, h⟩

theorem replayBad_eq_none_step {bank rs : List (Word × Word)} (h : replayBad bank rs = none) :
    replayBad (bank.take 1) (rs.take 1) = none ∧ replayBad (bank.drop 1) (rs.drop 1) = none := by
  cases rs with
  | nil => simp [replayBad]
  | cons r rs =>
    cases bank with
    | nil => cases h
    | cons e es =>
      simp only [replayBad, List.take_succ_cons, List.take_zero, List.drop_succ_cons, List.drop_zero] at h ⊢
      split at h
      · cases h
      · exact ⟨by simp_all, h⟩

theorem misStore_step (xs : List TcmStore) : (misStore (xs.take 1)).or (misStore (xs.drop 1)) = misStore xs := by
  cases xs with
  | nil => rfl
  | cons x xs =>
    cases hx : formOk x.data <;> simp [misStore, List.find?, hx]

/-- Where reads and writes agree, the first mismatch is the first store that fails the form check, in whatever order
the pass made its accesses. -/
theorem firstMis_of_agree (o : List Acc) {bank : List (Word × Word)} {n : Nat} {held : List BusWrite}
    {rs : List (Word × Word)} {ws : List BusWrite} (xs : List TcmStore) (hr : replayBad bank rs = none)
    (hw : firstBad n held ws = none) : firstMis o bank n held rs ws xs = misStore xs := by
  induction o generalizing bank n held rs ws xs with
  | nil => simp [firstMis, misRead, misWrite, hr, hw]
  | cons a o ih =>
    cases a with
    | read =>
      obtain ⟨hnow, hrest⟩ := replayBad_eq_none_step hr
      rw [firstMis, ih xs hrest hw, misRead, hnow]
      rfl
    | write =>
      obtain ⟨hnow, hrest⟩ := firstBad_eq_none_step hw
      rw [firstMis, ih xs hr hrest, misWrite, hnow]
      rfl
    | store => rw [firstMis, ih _ hr hw, misStore_step]

theorem misStore_eq_none {xs : List TcmStore} (h : ∀ x ∈ xs, formOk x.data = true) : misStore xs = none := by
  simpa [misStore] using h

/-- A store that fails the form check is a mismatch of kind FORM. -/
theorem misStore_kind {xs : List TcmStore} {x : TcmStore} (hx : x ∈ xs) (hbad : formOk x.data = false) :
    ∃ m, misStore xs = some m ∧ m.kind = 3 := by
  cases hf : xs.find? (fun x => !formOk x.data) with
  | none => exact absurd (List.find?_eq_none.mp hf x hx) (by simp [hbad])
  | some y => exact ⟨_, by rw [misStore, hf]; rfl, rfl⟩

end Compare

section Pass
variable {c : Channel} {run : PassRun} (t : Nat)

/-- The TCM after pass T: the stores that pass the form check, in their order, in the mirrored half. -/
def passTMem (xs : List TcmStore) (m : List Host.Cell) : List Host.Cell :=
  xs.foldl (fun (m : List Host.Cell) (x : TcmStore) => storeWord m true x.addr.toNat ((x.data >>> 3).setWidth 32)) m

theorem runT_tcm (e : Exe) : (e.runT run).tcm = passTMem (run.tcm.filter fun x => formOk x.data) e.tcm := by
  simp only [Exe.runT, passTMem, List.foldl_map, plainOf_eq]

/-- After a pass P within its budget, counting apart, pass T is its run and the comparator. -/
theorem passT_exe (hP : c.exe.usedP ≤ 11000) :
    (c.passT t run).exe = ({ c with exe := c.exe.runT run }.compareT t run).exe := by
  have hb : c.budgetP t = c := if_neg (Nat.not_lt.mpr hP)
  unfold Channel.passT
  rw [hb]
  exact (countPass_part (pt := .exe) _ run (by decide)).trans (bump_part (pt := .exe) _ 0 2 run.used (by decide))

theorem compareT_of_good (hr : replayBad c.exe.bank run.reads = none)
    (hw : firstBad 0 c.exe.held run.writes = none) (hx : ∀ x ∈ run.tcm, formOk x.data = true) :
    c.compareT t run = c := by
  unfold Channel.compareT
  rw [firstMis_of_agree _ _ hr hw, misStore_eq_none hx]

theorem compareT_of_bad (hr : replayBad c.exe.bank run.reads = none)
    (hw : firstBad 0 c.exe.held run.writes = none) {x : TcmStore} (hx : x ∈ run.tcm) (hbad : formOk x.data = false) :
    ∃ m : Mis, c.compareT t run = c.tdx t 0 3 0 m.seq m.addr m.p m.t := by
  obtain ⟨m, hm, hk⟩ := misStore_kind hx hbad
  unfold Channel.compareT
  rw [firstMis_of_agree _ _ hr hw, hm]
  exact ⟨m, by simp only [hk]⟩

/-- Pass T with a store that fails the form check, where reads and writes agree. -/
theorem passT_of_bad (hP : c.exe.usedP ≤ 11000) (hr : replayBad c.exe.bank run.reads = none)
    (hw : firstBad 0 c.exe.held run.writes = none) {x : TcmStore} (hx : x ∈ run.tcm) (hbad : formOk x.data = false) :
    (c.passT t run).exe.bad = true ∧ (c.passT t run).exe.mismatch = true ∧
      (c.exe.mismatch = false → (c.passT t run).exe.kind = 3) ∧
      (c.passT t run).exe.tcm = passTMem (run.tcm.filter fun x => formOk x.data) c.exe.tcm := by
  obtain ⟨m, hm⟩ := compareT_of_bad (c := { c with exe := c.exe.runT run }) t hr hw hx hbad
  rw [passT_exe t hP, hm, ← runT_tcm]
  exact tdx_latches { c with exe := c.exe.runT run } t 0 3 0 m.seq m.addr m.p m.t

/-- Pass T whose stores are all valid, where reads and writes agree. -/
theorem passT_of_good (hP : c.exe.usedP ≤ 11000) (hr : replayBad c.exe.bank run.reads = none)
    (hw : firstBad 0 c.exe.held run.writes = none) (hx : ∀ x ∈ run.tcm, formOk x.data = true) :
    (c.passT t run).exe = c.exe.runT run := by
  rw [passT_exe t hP, compareT_of_good (c := { c with exe := c.exe.runT run }) t hr hw hx]

end Pass

/-- Settles O60: a store is dropped by the same check that makes it a mismatch, whatever order the accesses had. -/
theorem passTStoresAreChecked : Obligations.PassTStoresAreChecked := by
  unfold Obligations.PassTStoresAreChecked
  intro s l run c good hrun hph hdue hP hr hw
  have hgood (x : TcmStore) : good x ↔ formOk x.data = true := (formOk_iff x.data).symm
  have hbad {x : TcmStore} (h : ¬good x) : formOk x.data = false := by simpa [hgood] using h
  have hcond : (c.framed && c.exe.ph == .passP && decide (c.exe.startAt + 22000 ≤ l.t)) = true := by
    simp [Channel.framed, hrun, hph, hdue]
  refine chGets_when rfl hcond ⟨fun xs hxs htcm => ?_, fun x hx htcm => ?_, fun x pre post hx hpre htcm => ?_⟩
  · subst htcm
    have hall : ∀ x ∈ run.tcm, formOk x.data = true := fun x hx => (hgood x).mp (hxs x hx)
    have hfil : run.tcm.filter (fun x => formOk x.data) = run.tcm := List.filter_eq_self.mpr hall
    rw [passT_of_good l.t hP hr hw hall]
    exact ⟨by rw [runT_tcm, hfil]; rfl, rfl, rfl⟩
  · obtain ⟨-, -, -, hmem⟩ := passT_of_bad l.t hP hr hw (htcm ▸ List.mem_singleton.mpr rfl) (hbad hx)
    rw [hmem, htcm, List.filter_singleton, hbad hx]
    rfl
  · have hfil : run.tcm.filter (fun x => formOk x.data) = pre ++ post.filter fun u => formOk u.data := by
      have hpres : pre.filter (fun x => formOk x.data) = pre :=
        List.filter_eq_self.mpr fun u hu => (hgood u).mp (hpre u hu)
      rw [htcm, List.filter_append, hpres, List.filter_cons_of_neg (by simp [hbad hx])]
    have hmem : x ∈ run.tcm := htcm ▸ by simp
    obtain ⟨hb, hm, hk, htcm'⟩ := passT_of_bad l.t hP hr hw hmem (hbad hx)
    exact ⟨hb, hm, hk, by rw [htcm', hfil]; rfl⟩

end Sys2Proof.Machine
end

section
/-! PROOF. MarkLatchesTheOwnBlock (O33): the end of a mark, the demands that the engine takes, and what a halted core
leaves of the redundancy unit (R117, R326, R330, R333, R343, R425). -/

namespace Sys2Proof.Machine

-- One proof after another: with each in a thread of its own the joined text nears the check's memory limit.
set_option Elab.async false

section Mark
variable (c : Channel) (t : Nat) (trackBad passing : Ch → Bool)

/-- A due mark stands MARK_OFFSET macroticks after the cycle start (R425). -/
theorem markDue_instant (h : c.markDue t = true) : t = c.net.nt.cycStart + c.markOff := by
  simp only [Channel.markDue, Bool.and_eq_true, beq_iff_eq] at h
  exact h.1.1

/-- The mark opens the voting of its cycle: no block of a partner, the own one with the new count (R330, R333). -/
theorem markEnd_opens_cycle :
    (c.markEnd t).rd.cclIdx = 0 ∧ (c.markEnd t).net.nt.markAt = some t ∧ (c.markEnd t).sd.periodIdx = 0 ∧
    (c.markEnd t).rd.markCyc = (c.markEnd t).net.nt.cycle ∧ (c.markEnd t).rd.a.latched = none ∧
    (c.markEnd t).rd.b.latched = none ∧ (c.markEnd t).rd.c.latched = none ∧
    ∃ v, (c.markEnd t).rd.ownLatched = some v ∧ v.cyc = (c.markEnd t).rd.markCyc :=
  ⟨rfl, rfl, rfl, rfl, rfl, rfl, rfl, _, rfl, rfl⟩

/-- The mark's end leaves role, level and faults as the votes gave them. -/
theorem markEnd_verdict : (c.markEnd t).rd.role = c.rd.role ∧ (c.markEnd t).rd.level = c.rd.level ∧
    (c.markEnd t).rd.faults = c.rd.faults := ⟨rfl, rfl, rfl⟩

theorem pctSnapshot_rd : c.pctSnapshot.rd = c.rd := pctSnapshot_part (pt := .rd) c (by decide)

theorem pctSnapshot_ce : c.pctSnapshot.ce = c.ce := pctSnapshot_part (pt := .ce) c (by decide)

theorem swapDemands_rd : c.swapDemands.rd = c.rd := swapDemands_part (pt := .rd) c (by decide)

theorem markEnd_ce : (c.markEnd t).ce = c.ce := rfl

/-- Below SAFE_STOP the engine takes every demand of the core (R117, R343). -/
theorem swapDemands_of_below_safeStop (h : c.rd.level < 3) (k : Fin 64) :
    c.swapDemands.ce.demEngine[k] = c.swapDemands.ce.demCore[k] := by
  have hlow : ¬ 3#3 ≤ c.rd.level := BitVec.not_le.mpr h
  simp [Channel.swapDemands, hlow]

/-- The channel before the votes of a mark: MARK parameters in force, the angle latched. -/
def Channel.beforeVotes : Channel := (c.sentSettleAll t).markParams.latchAngle

/-- The channel after them, where its core is not halted, and the judgement of the end stops. -/
def Channel.afterVotes : Channel :=
  let d := c.beforeVotes t
  let d := if d.halted then d else d.markVotes t trackBad passing
  d.esMark d.votedAngle

theorem markStep_eq : c.markStep t trackBad passing =
    (c.afterVotes t trackBad passing).swapDemands.pctSnapshot.markEnd t := by
  unfold Channel.markStep Channel.afterVotes Channel.beforeVotes
  rfl

/-- The demands and the level with which a mark ends are those of its swap. -/
theorem markStep_swaps (h : (c.markStep t trackBad passing).rd.level < 3) (k : Fin 64) :
    (c.markStep t trackBad passing).ce.demEngine[k] = (c.markStep t trackBad passing).ce.demCore[k] := by
  obtain ⟨-, hlevel, -⟩ := markEnd_verdict (c.afterVotes t trackBad passing).swapDemands.pctSnapshot t
  rw [markStep_eq, hlevel, pctSnapshot_rd, swapDemands_rd] at h
  rw [markStep_eq, markEnd_ce, pctSnapshot_ce]
  exact swapDemands_of_below_safeStop _ h k

theorem latchAngle_verdict : c.latchAngle.rd.role = c.rd.role ∧ c.latchAngle.rd.level = c.rd.level ∧
    c.latchAngle.rd.faults = c.rd.faults := ⟨rfl, rfl, rfl⟩

/-- Settling the inputs and taking the MARK parameters leave the redundancy unit alone; the latch writes the angle. -/
theorem beforeVotes_verdict : (c.beforeVotes t).rd.role = c.rd.role ∧ (c.beforeVotes t).rd.level = c.rd.level ∧
    (c.beforeVotes t).rd.faults = c.rd.faults := by
  have hrd : (c.sentSettleAll t).markParams.rd = c.rd :=
    (markParams_part (pt := .rd) _ (by decide)).trans (sentSettleAll_part (pt := .rd) c t (by decide))
  rw [← hrd]
  exact latchAngle_verdict _

theorem beforeVotes_halted : (c.beforeVotes t).halted = c.halted := by
  have hexe : (c.beforeVotes t).exe = c.exe :=
    (latchAngle_part (pt := .exe) _ (by decide)).trans ((markParams_part (pt := .exe) _ (by decide)).trans
      (sentSettleAll_part (pt := .exe) c t (by decide)))
  simp only [Channel.halted, hexe]

/-- A halted core keeps its role, its level and its fault set over a mark (R326). -/
theorem markStep_verdict_of_halted (h : c.halted = true) :
    (c.markStep t trackBad passing).rd.role = c.rd.role ∧ (c.markStep t trackBad passing).rd.level = c.rd.level ∧
    (c.markStep t trackBad passing).rd.faults = c.rd.faults := by
  have hafter : (c.afterVotes t trackBad passing).rd = (c.beforeVotes t).rd := by
    simp only [Channel.afterVotes, beforeVotes_halted, h, if_true]
    exact esMark_part (pt := .rd) _ _ (by decide)
  obtain ⟨hr, hl, hf⟩ := markEnd_verdict (c.afterVotes t trackBad passing).swapDemands.pctSnapshot t
  rw [markStep_eq, hr, hl, hf, pctSnapshot_rd, swapDemands_rd, hafter]
  exact beforeVotes_verdict c t

end Mark

/-- Settles O33: whatever the votes were, the mark ends by swapping the demands and opening the cycle. -/
theorem markLatchesTheOwnBlock : Obligations.MarkLatchesTheOwnBlock := by
  unfold Obligations.MarkLatchesTheOwnBlock
  intro s l hrel c
  refine ⟨fun h => chGets_skip (i := .mark l) rfl ?_ rfl, markDue_instant c l.t,
    fun hdoze hdue => chGets_when (i := .mark l) rfl ?_ ?_⟩
  · rcases h with h | h
    · simp [show (s.ch l.ch).pwr.doze = true from h]
    · simp [show (s.ch l.ch).markDue l.t = false from h]
  · simp [hrel, show (s.ch l.ch).pwr.doze = false from hdoze, show (s.ch l.ch).markDue l.t = true from hdue]
  · obtain ⟨hidx, hat, hper, hcyc, ha, hb, hc, hown⟩ :=
      markEnd_opens_cycle (c.afterVotes l.t s.trackBad (s.passing c.net.nt.cycle)).swapDemands.pctSnapshot l.t
    exact ⟨hidx, hat, hper, hcyc, ha, hb, hc, hown, markStep_swaps c l.t _ _, markStep_verdict_of_halted c l.t _ _⟩

end Sys2Proof.Machine
end

section
/-! PROOF. WindowsAndTracesAdvance (O32): the end of an oscillation window, and what a record does to a trace unit in
each of its states (R136, R137, R145, R146). -/

namespace Sys2Proof.Machine

-- One proof after another: with each in a thread of its own the joined text nears the check's memory limit.
set_option Elab.async false

section Windows
variable (c : Channel) (n : Fin 32)

/-- A slot with a new oscillation window, its trip answered (R136, R137). -/
def Slot.windowed (x : Slot) : Slot := { oscRestart x with oscIsolate := false }

/-- The end of a slot's window: the next one begins, and a trip with ACTION ISOLATE raises CE_OSC_FATAL (R136, R137). -/
def Channel.windowEnd : Channel :=
  if (c.ce.slots[n]).oscIsolate then (c.setSlot n (c.ce.slots[n]).windowed).raise 12
  else c.setSlot n (c.ce.slots[n]).windowed

theorem windowEnd_slot : (c.windowEnd n).ce.slots[n] = (c.ce.slots[n]).windowed := by
  have hset : (c.setSlot n (c.ce.slots[n]).windowed).ce.slots[n] = (c.ce.slots[n]).windowed := setSlot_slot c n _
  unfold Channel.windowEnd
  split
  · exact (congrArg (fun e : Ce => e.slots[n]) (raise_ce _ 12 0)).trans hset
  · exact hset

theorem windowEnd_raises (h : (c.ce.slots[n]).oscIsolate = true) :
    (c.windowEnd n).fcl.raised.contains (12, 0) = true := by
  rw [Channel.windowEnd, if_pos h]
  exact List.contains_iff_mem.mpr (raise_self _ 12 0)

theorem windowEnd_fcl (h : (c.ce.slots[n]).oscIsolate = false) : (c.windowEnd n).fcl = c.fcl := by
  rw [Channel.windowEnd, if_neg (by rw [h]; decide)]
  rfl

theorem chGets_windowEnd {s : State} {l : At} {P : Channel → Prop} (hrel : (s.ch l.ch).released = true)
    (hlive : ((s.ch l.ch).ce.slots[n]).live = true) (hwin : 0 < (s.ch l.ch).af (loopId n.val 0xA) 0 12)
    (hpos : (s.ch l.ch).af (loopId n.val 0xA) 0 12 ≤ ((s.ch l.ch).ce.slots[n]).oscPos)
    (hP : P ((s.ch l.ch).windowEnd n)) : s.chGets (.oscWindowEnd l n) l.ch P := by
  refine chGets_when (i := .oscWindowEnd l n) rfl ?_ hP
  simp only [Bool.and_eq_true, decide_eq_true_eq]
  exact ⟨⟨⟨hrel, hlive⟩, hwin⟩, hpos⟩

end Windows

section Traces
variable (c : Channel) (u : Fin 4)

theorem setTrace_trace (x : TraceUnit) : (c.setTrace u x).ce.trace[u] = x := Vector.getElem_set_self ..

/-- A unit with one record more, of the newest 2,048 (R145). -/
def TraceUnit.recorded (x : TraceUnit) (r : TraceRec) : TraceUnit :=
  { x with decim := 0, recs := (r :: x.recs).take 2048, invalid := x.invalid || r.bad }

theorem recorded_length (x : TraceUnit) (r : TraceRec) :
    (x.recorded r).recs.length = min (x.recs.length + 1) 2048 := by
  rw [Nat.min_comm]
  exact List.length_take

/-- After its trigger a unit counts the record, and the first one marks the trigger's place (R146). -/
def TraceUnit.counted (x : TraceUnit) : TraceUnit :=
  { x with postLeft := x.postLeft - 1, trigSeen := false,
           trigIdx := if x.trigSeen then BitVec.ofNat 11 (fld x.cfg 13 11) else x.trigIdx }

/-- A record joins its unit, and only a unit after its trigger counts it. -/
theorem traceRecord_trace (bad : Bool) : ∃ r : TraceRec, r.bad = bad ∧ (c.traceRecord u bad).ce.trace[u] =
    if (c.ce.trace[u]).st = .post then ((c.ce.trace[u]).recorded r).counted else (c.ce.trace[u]).recorded r := by
  unfold Channel.traceRecord
  extract_lets _ _ r _ x1 x2 d
  refine ⟨r, rfl, ?_⟩
  have hd : d.ce.trace[u] = x2 := setTrace_trace c u x2
  have hraise : (if bad = true then d.raise 9 else d).ce.trace[u] = d.ce.trace[u] := by
    split <;> simp
  rw [hraise, hd]
  rfl

/-- A record whose parity fails raises CE_TRACE (R145). -/
theorem traceRecord_raises : (c.traceRecord u true).fcl.raised.contains (9, 0) = true :=
  List.contains_iff_mem.mpr (raise_self _ 9 0)

end Traces

section Units
variable {s : State} {l : At} {u : Fin 4} {bad : Bool} {P : Channel → Prop}

/-- A unit that is filling, or that still waits for records, takes one of every DECIM-th sample. -/
theorem chGets_traceRecord (hrel : (s.ch l.ch).released = true)
    (hst : ((s.ch l.ch).ce.trace[u]).st = .filling ∨
      ((s.ch l.ch).ce.trace[u]).st = .post ∧ 0 < ((s.ch l.ch).ce.trace[u]).postLeft)
    (hdec : ((s.ch l.ch).ce.trace[u]).every ≤ ((s.ch l.ch).ce.trace[u]).decim)
    (hP : P ((s.ch l.ch).traceRecord u bad)) : s.chGets (.traceRecord l u bad) l.ch P := by
  refine chGets_when (i := .traceRecord l u bad) rfl ?_ hP
  simp only [Bool.and_eq_true, Bool.or_eq_true, beq_iff_eq, decide_eq_true_eq]
  exact ⟨⟨hrel, hst.imp .inl id⟩, hdec⟩

/-- An idle unit, and one that is done, takes no record. -/
theorem chGets_traceRecord_of_resting (hst : ((s.ch l.ch).ce.trace[u]).st = .idle ∨ ((s.ch l.ch).ce.trace[u]).st = .done)
    (hP : P (s.ch l.ch)) : s.chGets (.traceRecord l u bad) l.ch P := by
  refine chGets_skip (i := .traceRecord l u bad) rfl ?_ hP
  rcases hst with h | h
  · rw [h]; simp
  · rw [h]; simp

end Units

/-- Settles O32: the window's end restarts the detector alone, and each trace event acts in its own state alone. -/
theorem windowsAndTracesAdvance : Obligations.WindowsAndTracesAdvance := by
  unfold Obligations.WindowsAndTracesAdvance
  intro s l n u bad hrel c x r
  refine ⟨fun hlive hwin hpos => chGets_windowEnd n hrel hlive hwin hpos ?_, fun hst hdec => ?_,
    fun hst hleft hdec => ?_, fun hst hpre => chGets_when (i := .tracePreFilled l u) rfl ?_ rfl,
    fun hst hleft => chGets_when (i := .tracePostDone l u) rfl ?_ rfl, fun hst => chGets_traceRecord_of_resting hst rfl⟩
  · rw [windowEnd_slot]
    exact ⟨rfl, rfl, rfl, rfl, windowEnd_raises c n, windowEnd_fcl c n⟩
  · obtain ⟨r', hbad, htr⟩ := traceRecord_trace c u bad
    rw [if_neg (by rw [hst]; decide)] at htr
    refine chGets_traceRecord hrel (.inl hst) hdec ?_
    rw [htr]
    exact ⟨recorded_length r r', rfl, hst, hbad ▸ rfl, fun h => h ▸ traceRecord_raises c u⟩
  · obtain ⟨r', -, htr⟩ := traceRecord_trace c u bad
    rw [if_pos hst] at htr
    refine chGets_traceRecord hrel (.inr ⟨hst, hleft⟩) hdec ?_
    rw [htr]
    exact ⟨hst, rfl, rfl, fun h => if_pos h⟩
  · simp only [Bool.and_eq_true, beq_iff_eq, decide_eq_true_eq]
    exact ⟨⟨hrel, hst⟩, hpre⟩
  · simp only [Bool.and_eq_true, beq_iff_eq]
    exact ⟨⟨hrel, hst⟩, hleft⟩

end Sys2Proof.Machine
end

section
/-! PROOF. SampleBoundariesRunTheLoop (O30): the signals do not see that a boundary is noted, so a sample is latched from
the inputs as they stood; what the stop, the sample and the hold leave in the slot (R111, R115, R125 to R127). -/

namespace Sys2Proof.Machine

-- One proof after another: with each in a thread of its own the joined text nears the check's memory limit.
set_option Elab.async false

/-- The channel with another control engine. -/
def Channel.withCe (c : Channel) (x : Ce) : Channel := { c with ce := x }

section Signals
variable (c : Channel) (t : Nat) (x : Ce)

/-! The SENT inputs read nothing of the control engine. -/

theorem raise_withCe (k : Fin 62) (d : BitVec 16) : (c.withCe x).raise k d = (c.raise k d).withCe x := by
  unfold Channel.raise Channel.withCe
  dsimp only
  split <;> rfl

theorem bump_withCe (b i k : Nat) : (c.withCe x).bump b i k = (c.bump b i k).withCe x := by
  unfold Channel.bump Channel.withCe
  dsimp only
  split <;> rfl

theorem sentJudge_withCe (n : Fin 2) (due : Nat) (r : SentRes) :
    (c.withCe x).sentJudge n due r = (c.sentJudge n due r).withCe x := by
  have hfail (y : Sent) (b : Bool) :
      (if b then ((c.withCe x).setSent n y).raise 35 else (c.withCe x).setSent n y) =
        (if b then (c.setSent n y).raise 35 else c.setSent n y).withCe x := by
    cases b
    · rfl
    · exact raise_withCe (c.setSent n y) x 35 0
  unfold Channel.sentJudge
  cases r with
  | tick => exact hfail ..
  | crc => exact hfail ..
  | chk => exact hfail ..
  | good v st =>
    dsimp only
    have hb : (if n = 0 then (c.withCe x).bump 6 1 else c.withCe x) = (if n = 0 then c.bump 6 1 else c).withCe x := by
      split
      · exact bump_withCe ..
      · rfl
    rw [hb]
    generalize (if n = 0 then c.bump 6 1 else c) = d
    have haf : (d.withCe x).af (0x3C40 + n.val * 0x10) 9 2 = d.af (0x3C40 + n.val * 0x10) 9 2 := rfl
    have hsent : (c.withCe x).fb = c.fb := rfl
    rw [haf, hsent]
    (repeat' split) <;> rfl

theorem sentSettle_withCe (n : Fin 2) : (c.withCe x).sentSettle t n = (c.sentSettle t n).withCe x := by
  have hfold (ps : List (Nat × SentRes)) (c : Channel) :
      ps.foldl (fun c p => c.sentJudge n p.1 p.2) (c.withCe x) =
        (ps.foldl (fun c p => c.sentJudge n p.1 p.2) c).withCe x := by
    induction ps generalizing c with
    | nil => rfl
    | cons p ps ih => rw [List.foldl_cons, List.foldl_cons, sentJudge_withCe, ih]
  unfold Channel.sentSettle
  exact hfold _ (c.setSent n _)

theorem sentNow_withCe (n : Fin 2) : (c.withCe x).sentNow t n = c.sentNow t n := by
  rw [Channel.sentNow, sentSettle_withCe]
  rfl

/-- A signal reads of the control engine only the slots' outputs and the demands (R116). -/
theorem sig_withCe (hout : ∀ k : Fin 32, (x.slots[k]).out = (c.ce.slots[k]).out)
    (hlive : ∀ k : Fin 32, (x.slots[k]).live = (c.ce.slots[k]).live) (hdem : x.demEngine = c.ce.demEngine) (code : Nat) :
    (c.withCe x).sig t code = c.sig t code := by
  have hraw : (c.withCe x).sigRaw t code = c.sigRaw t code := by
    unfold Channel.sigRaw
    rw [sentNow_withCe c t x 0, sentNow_withCe c t x 1, show (c.withCe x).ce.demEngine = c.ce.demEngine from hdem]
    split
    · rename_i h
      exact Prod.ext (hout ⟨code, h⟩) (hlive ⟨code, h⟩)
    · rfl
  rw [Channel.sig, hraw]
  rfl

end Signals

section Boundary
variable (c : Channel) (t : Nat) (n : Fin 32)

/-- A boundary comes START ECLK after a period start of the slot's class, once (R125, R126). -/
theorem windowDue_iff {k : Fin 4} (hk : k.val = c.af (loopId n.val 0) 0 2) : c.windowDue t n = true ↔
    (c.ce.slots[n]).bAt ≠ some t ∧ ∃ a, c.ce.clsAt[k] = some a ∧ t = a + eclk (c.af (loopId n.val 1) 0 18) := by
  obtain rfl : Fin.ofNat 4 (c.af (loopId n.val 0) 0 2) = k := by rw [← hk]; exact Fin.ofNat_val_eq_self k
  unfold Channel.windowDue
  dsimp only
  cases hat : c.ce.clsAt[Fin.ofNat 4 (c.af (loopId n.val 0) 0 2)] with
  | none => simp
  | some a =>
    simp only [Bool.and_eq_true, beq_iff_eq, bne_iff_ne, ne_eq, Option.some.injEq, exists_eq_left']
    exact and_comm

/-- A slot whose boundary is noted. -/
def Slot.noted (x : Slot) (t : Nat) : Slot := { x with bAt := some t }

/-- A slot that goes without its input (R121). -/
def Slot.starved (x : Slot) : Slot := { x with st := .hold, noInput := true, pend := none }

/-- A slot that stops (R111). -/
def Slot.halted (x : Slot) : Slot := { x with st := .stopped, stopReq := false, oscFallback := false, pend := none }

/-- The channel whose slot n has its boundary noted. -/
def Channel.atBoundary : Channel := c.setSlot n ((c.ce.slots[n]).noted t)

theorem setSlot_slot_ne {n k : Fin 32} (x : Slot) (h : k ≠ n) : (c.setSlot n x).ce.slots[k] = c.ce.slots[k] :=
  Vector.getElem_set_ne n.isLt k.isLt fun e => h (Fin.ext e.symm)

theorem atBoundary_slot : (c.atBoundary t n).ce.slots[n] = (c.ce.slots[n]).noted t := setSlot_slot c n _

/-- A noted boundary changes no output and makes no slot run or stop. -/
theorem atBoundary_out_live (k : Fin 32) : ((c.atBoundary t n).ce.slots[k]).out = (c.ce.slots[k]).out ∧
    ((c.atBoundary t n).ce.slots[k]).live = (c.ce.slots[k]).live := by
  by_cases hk : k = n
  · subst hk
    rw [atBoundary_slot]
    exact ⟨rfl, rfl⟩
  · rw [show (c.atBoundary t n).ce.slots[k] = c.ce.slots[k] from setSlot_slot_ne c _ hk]
    exact ⟨rfl, rfl⟩

theorem atBoundary_sig (code : Nat) : (c.atBoundary t n).sig t code = c.sig t code :=
  sig_withCe c t (c.atBoundary t n).ce (fun k => (atBoundary_out_live c t n k).1)
    (fun k => (atBoundary_out_live c t n k).2) rfl code

theorem atBoundary_input (i : Nat) : (c.atBoundary t n).input t n i = c.input t n i := by
  unfold Channel.input
  simp only [atBoundary_sig]
  rfl

theorem atBoundary_refIn : (c.atBoundary t n).refIn t n = c.refIn t n := by
  unfold Channel.refIn
  simp only [atBoundary_sig]
  rfl

/-- The input that SELECT gives a slot (R121). -/
def Channel.selected : Option F32 :=
  selectInput (c.af (loopId n.val 0) 2 3) [c.input t n 0, c.input t n 1, c.input t n 2, c.input t n 3]

theorem atBoundary_selected : (c.atBoundary t n).selected t n = c.selected t n := by
  unfold Channel.selected
  simp only [atBoundary_input]
  rfl

/-- With no write, fallback or return waiting the coefficients stay (R131, R137, R138). -/
theorem boundaryQueue_of_calm (hq : (c.ce.slots[n]).queue = []) (hf : (c.ce.slots[n]).oscFallback = false)
    (hr : (c.ce.slots[n]).returnPending = false) : c.boundaryQueue t n = c := by
  have hhead : c.headEntry t n = c := by
    unfold Channel.headEntry
    dsimp only
    rw [hq]
  unfold Channel.boundaryQueue
  simp only [hf, hhead, hr, Bool.false_and, Bool.false_eq_true, if_false]

/-- With no CLEAR pending the learning units stay (R143). -/
theorem rcClears_of_calm (h : ∀ m : Fin 8, (c.ce.rc[m]).clearReq = false) : c.rcClears n = c := by
  have hrc : (Vector.ofFn fun m : Fin 8 => if (c.ce.rc[m]).clearReq && c.af (rcId m.val 0) 0 5 == n.val then
      { c.ce.rc[m] with bins := [], clearReq := false } else c.ce.rc[m]) = c.ce.rc := by
    ext1 i hi
    rw [Vector.getElem_ofFn, h ⟨i, hi⟩]
    rfl
  unfold Channel.rcClears Channel.mapRc
  rw [hrc]

/-- A record that has passed is forgotten; of the slot nothing else changes (R144). -/
theorem recPast_slot : ∃ r, (c.recPast n).ce.slots[n] = { c.ce.slots[n] with leadRec := r } := by
  unfold Channel.recPast
  dsimp only
  split
  · exact ⟨_, rfl⟩
  · exact ⟨none, setSlot_slot c n _⟩

/-- Tracking changes neither the count of samples nor the noted boundary (R144). -/
theorem track_slot : ((c.track n).ce.slots[n]).samples = (c.ce.slots[n]).samples ∧
    ((c.track n).ce.slots[n]).bAt = (c.ce.slots[n]).bAt := by
  unfold Channel.track
  dsimp only
  split
  · exact ⟨rfl, rfl⟩
  · split
    · simp
    · simp

theorem gapTaken_slots (m : Option (Fin 8)) : (c.gapTaken m).ce.slots = c.ce.slots := by
  cases m <;> rfl

/-- A sample opens: the slot runs and waits for the result (R120, R127). -/
theorem latchSample_slot (y r : F32) : ((c.latchSample t n y r).ce.slots[n]).st = .running ∧
    ((c.latchSample t n y r).ce.slots[n]).pend.isSome = true ∧
    ((c.latchSample t n y r).ce.slots[n]).samples = (c.ce.slots[n]).samples ∧
    ((c.latchSample t n y r).ce.slots[n]).bAt = (c.ce.slots[n]).bAt := by
  obtain ⟨hs, hb⟩ := track_slot c n
  unfold Channel.latchSample
  extract_lets d p e
  obtain ⟨_, h⟩ := recPast_slot (e.setSlot n { e.ce.slots[n] with st := .running, pend := some p }) n
  rw [h, show (e.setSlot n _).ce.slots[n] = _ from setSlot_slot e n _]
  have he : e.ce.slots = d.ce.slots := gapTaken_slots d p.unit
  exact ⟨rfl, rfl, by rw [← hs, he], by rw [← hb, he]⟩

theorem holdSample_of_running (h : (c.ce.slots[n]).st = .running) :
    c.holdSample n = (((c.setSlot n (c.ce.slots[n]).starved).raise 10).recPast n).bump 2 1 := by
  unfold Channel.holdSample
  extract_lets x d
  have hd : d = (c.setSlot n (c.ce.slots[n]).starved).raise 10 := if_neg (by rw [h]; decide)
  rw [hd]

/-- A running slot without its input holds, keeps its state and raises CE_INPUT (R121, R151). -/
theorem holdSample_slot (h : (c.ce.slots[n]).st = .running) : ((c.holdSample n).ce.slots[n]).st = .hold ∧
    ((c.holdSample n).ce.slots[n]).noInput = true ∧ ((c.holdSample n).ce.slots[n]).pend = none ∧
    ((c.holdSample n).ce.slots[n]).state = (c.ce.slots[n]).state ∧
    (c.holdSample n).fcl.raised.contains (10, 0) = true := by
  rw [holdSample_of_running c n h]
  generalize hd : (c.setSlot n (c.ce.slots[n]).starved).raise 10 = d
  have hslot : d.ce.slots[n] = (c.ce.slots[n]).starved := by simp [← hd]
  have hraised : (10, 0) ∈ d.fcl.raised := hd ▸ raise_self ..
  have hfcl : ((d.recPast n).bump 2 1).fcl = d.fcl :=
    (bump_part (pt := .fcl) _ 2 1 1 (by decide)).trans (recPast_part (pt := .fcl) d n (by decide))
  obtain ⟨r, hr⟩ := recPast_slot d n
  rw [hfcl, bump_ce, hr, hslot]
  exact ⟨rfl, rfl, rfl, rfl, List.contains_iff_mem.mpr hraised⟩

theorem drainQueue_queue : ((c.drainQueue n).ce.slots[n]).queue = [] := by
  simp [Channel.drainQueue]

end Boundary

section Course
variable {c : Channel} {t : Nat} {n : Fin 32}

theorem boundary_of_idle (h : (c.ce.slots[n]).live = false) : c.boundary t n = c := by
  unfold Channel.boundary
  exact if_pos (by rw [h]; rfl)

theorem boundary_begun (hlive : (c.ce.slots[n]).live = true) (hat : (c.ce.slots[n]).startAt + eclk 8 ≤ t) :
    ¬(!(c.ce.slots[n]).live || decide (t < (c.ce.slots[n]).startAt + eclk 8)) = true := by
  rw [hlive, decide_eq_false (Nat.not_lt.mpr hat)]
  decide

/-- The boundary of a slot that is to stop applies what waits for it, and stops it (R111). -/
theorem boundary_of_stopReq (hlive : (c.ce.slots[n]).live = true) (hat : (c.ce.slots[n]).startAt + eclk 8 ≤ t)
    (hstop : (c.ce.slots[n]).stopReq = true) :
    c.boundary t n = (c.drainQueue n).setSlot n ((c.drainQueue n).ce.slots[n]).halted := by
  unfold Channel.boundary
  extract_lets x
  rw [if_neg (boundary_begun hlive hat), if_pos hstop]
  rfl

/-- What a boundary finds where its slot goes on and nothing waits to change a coefficient or a learning unit. -/
structure Channel.GoesOn (c : Channel) (t : Nat) (n : Fin 32) : Prop where
  live : (c.ce.slots[n]).live = true
  begun : (c.ce.slots[n]).startAt + eclk 8 ≤ t
  goes : (c.ce.slots[n]).stopReq = false
  queue : (c.ce.slots[n]).queue = []
  fallback : (c.ce.slots[n]).oscFallback = false
  back : (c.ce.slots[n]).returnPending = false
  clears : ∀ m : Fin 8, (c.ce.rc[m]).clearReq = false

/-- Such a boundary opens a sample from the inputs as they stand, or holds (R121, R127). -/
theorem boundary_of_goesOn (h : c.GoesOn t n) :
    (∃ y r, c.selected t n = some y ∧ c.refIn t n = some r ∧
      c.boundary t n = (c.atBoundary t n).latchSample t n y r) ∨
    (c.selected t n = none ∨ c.refIn t n = none) ∧ c.boundary t n = (c.atBoundary t n).holdSample n := by
  have hslot := atBoundary_slot c t n
  have hcalm : ((c.atBoundary t n).boundaryQueue t n).rcClears n = c.atBoundary t n := by
    rw [boundaryQueue_of_calm _ t n (by rw [hslot]; exact h.queue) (by rw [hslot]; exact h.fallback)
      (by rw [hslot]; exact h.back)]
    exact rcClears_of_calm _ n h.clears
  unfold Channel.boundary
  extract_lets x _ _ b d y
  rw [if_neg (boundary_begun h.live h.begun), if_neg (by rw [h.goes]; decide)]
  have hd : d = c.atBoundary t n := hcalm
  have hy : y = c.selected t n := (congrArg (fun d => d.selected t n) hd).trans (atBoundary_selected c t n)
  rw [hd, hy, atBoundary_refIn]
  cases hsel : c.selected t n with
  | none => exact .inr ⟨.inl rfl, rfl⟩
  | some y =>
    cases href : c.refIn t n with
    | none => exact .inr ⟨.inr rfl, rfl⟩
    | some r => exact .inl ⟨y, r, rfl, rfl, rfl⟩

end Course

/-- Settles O30: where nothing waits a boundary only notes itself before it latches, and no input sees the note. -/
theorem sampleBoundariesRunTheLoop : Obligations.SampleBoundariesRunTheLoop := by
  unfold Obligations.SampleBoundariesRunTheLoop
  intro s l n hrel hdoze c x y
  have hdue (hd : c.windowDue l.t n = true) :
      ((s.ch l.ch).released && !(s.ch l.ch).pwr.doze && (s.ch l.ch).windowDue l.t n) = true := by
    simp [hrel, hdoze, show (s.ch l.ch).windowDue l.t n = true from hd]
  have gets {P : Channel → Prop} (hd : c.windowDue l.t n = true) (hP : P (c.boundary l.t n)) :
      s.chGets (.sampleBoundary l n) l.ch P := chGets_when (i := .sampleBoundary l n) rfl (hdue hd) hP
  refine ⟨fun h => ?_, fun k hk => windowDue_iff c l.t n hk, fun hd hlive hat hstop => gets hd ?_,
    fun hd hlive hat hstop hq hf hr hcl => ?_⟩
  · cases hd : c.windowDue l.t n with
    | false =>
      refine chGets_skip (i := .sampleBoundary l n) rfl ?_ rfl
      rw [show (s.ch l.ch).windowDue l.t n = false from hd, Bool.and_false]
    | true => exact gets hd (boundary_of_idle (h.resolve_right (by rw [hd]; decide)))
  · have hslot : ((c.drainQueue n).setSlot n ((c.drainQueue n).ce.slots[n]).halted).ce.slots[n] =
        ((c.drainQueue n).ce.slots[n]).halted := setSlot_slot (c.drainQueue n) n _
    rw [boundary_of_stopReq hlive hat hstop, hslot]
    exact ⟨rfl, rfl, drainQueue_queue c n, rfl⟩
  · have hslot := atBoundary_slot c l.t n
    rcases boundary_of_goesOn (c := c) (t := l.t) (n := n) ⟨hlive, hat, hstop, hq, hf, hr, hcl⟩ with
      ⟨v, r, hsel, href, hb⟩ | ⟨hnone, hb⟩
    · refine ⟨fun _ _ => gets hd ?_, fun hy _ => absurd (hsel.symm.trans hy) (Option.some_ne_none v)⟩
      obtain ⟨hst, hpend, hsamples, hbat⟩ := latchSample_slot (c.atBoundary l.t n) l.t n v r
      rw [hslot] at hsamples hbat
      rw [hb]
      exact ⟨hst, hpend, hsamples, hbat⟩
    · refine ⟨fun hy href => ?_, fun _ hst => gets hd ?_⟩
      · rcases hnone with h | h
        · exact absurd hy (by rw [show y = none from h]; decide)
        · exact absurd href (by rw [h]; decide)
      · obtain ⟨hheld, hin, hpend, hstate, hline⟩ :=
          holdSample_slot (c.atBoundary l.t n) n (by rw [hslot]; exact hst)
        rw [hslot] at hstate
        rw [hb]
        exact ⟨hheld, hin, hpend, hstate, hline⟩

end Sys2Proof.Machine
end

section
/-! PROOF. LanesNeverTurnBothGatesOn (O17): the pairs that the drive engines form, and how a leg follows a pair in each
of its cases: none, a leg that the die does not drive, a blocked high side, and a gate that turns on (R161, R228 to
R230, R242). -/

namespace Sys2Proof.Machine

-- One proof after another: with each in a thread of its own the joined text nears the check's memory limit.
set_option Elab.async false

/-- The gate of one side of a leg is commanded on. -/
def Leg.sideOn (x : Leg) (high : Bool) : Bool := if high then x.hs else x.ls

/-- A leg once one gate has been turned on: the other is off, and a gate that changes over waits for the dead time dt
(R230). -/
structure Leg.TurnedOn (x y : Leg) (t dt : Nat) (high : Bool) : Prop where
  hs : y.hs = high
  ls : y.ls = !high
  enable : y.enable = x.enable
  pulse : y.pulse = x.pulse
  stays : x.sideOn high = true → y.onAt = x.onAt
  waits : x.sideOn (!high) = true → t + dt ≤ y.onAt

section Follow
variable (c : Channel) (t : Nat) (k : Fin 6) {x : Leg} {hs ls : Bool}

theorem turnOff_lanes (x : Leg) : (x.turnOff t).enable = x.enable ∧ (x.turnOff t).pulse = x.pulse := by
  unfold Leg.turnOff
  dsimp only
  split <;> exact ⟨rfl, rfl⟩

theorem sideOn_other {high : Bool} (hx : (x.hs && x.ls) = false) (h : x.sideOn high = true) :
    x.sideOn (!high) = false := by
  cases high with
  | true => rwa [show x.hs = true from h, Bool.true_and] at hx
  | false => rwa [show x.ls = true from h, Bool.and_true] at hx

/-- A gate that is on already stays as it is; one that is off turns on, and the other goes off (R230). -/
theorem turnOn_turnedOn {high : Bool} (dt : Nat) (sense : Nat → Nat) (hx : (x.hs && x.ls) = false) :
    x.TurnedOn (x.turnOn t high dt sense) t dt high := by
  by_cases hon : x.sideOn high = true
  · have hoff := sideOn_other hx hon
    rw [show x.turnOn t high dt sense = x from if_pos hon]
    refine ⟨?_, ?_, rfl, rfl, fun _ => rfl, fun h => absurd h (by rw [hoff]; decide)⟩
    · cases high with
      | true => exact hon
      | false => exact hoff
    · cases high with
      | true => exact hoff
      | false => exact hon
  · rw [show x.turnOn t high dt sense = _ from if_neg hon]
    obtain ⟨hen, hpu⟩ := turnOff_lanes t x
    refine ⟨rfl, rfl, hen, hpu, fun h => absurd h hon, fun h => ?_⟩
    have hswap : (if high then x.ls else x.hs) = true := by cases high <;> exact h
    dsimp only
    rw [if_pos hswap]
    exact Nat.le_max_left ..

/-- No request: ENABLE goes low, and both gates go off unless a soft turn-off keeps its course (R229, R236). -/
theorem legFollow_none (x : Leg) : c.legFollow t k false false x =
    if x.sto = .none then { x.turnOff t with enable := false } else { x with enable := false } := rfl

/-- No request turns a leg off (R229, R236). -/
theorem legFollow_none_off (x : Leg) : (c.legFollow t k false false x).enable = false ∧
    (x.sto = .none → (c.legFollow t k false false x).hs = false ∧ (c.legFollow t k false false x).ls = false) := by
  rw [legFollow_none]
  split
  · exact ⟨rfl, fun _ => turnOff_gates t x⟩
  · rename_i h; exact ⟨rfl, fun hx => absurd hx h⟩

/-- A request on a leg that the die does not drive reaches the lanes alone (R228). -/
theorem legFollow_undriven (hreq : (!hs && !ls) = false) (hd : c.legDriven k = false) :
    c.legFollow t k hs ls x = { x with pulse := hs, enable := true } := by
  unfold Channel.legFollow
  dsimp only
  rw [if_neg (by rw [hreq]; decide), if_pos (by rw [hd]; rfl)]

/-- A low-side request on a leg that the die drives (R228, R230). -/
theorem legFollow_low (hd : c.legDriven k = true) : c.legFollow t k false true x =
    Leg.turnOn { x with pulse := false, enable := true } t false (c.deadTime k) (Config.gateSense c.id k) := by
  unfold Channel.legFollow
  dsimp only
  rw [if_neg (by decide), if_neg (by rw [hd]; decide), if_pos rfl]

/-- A high-side request that the bootstrap supply blocks turns the leg's gates off (R242). -/
theorem legFollow_blocked (hd : c.legDriven k = true) (hb : (x.bstBlock && x.bstLow) = true) :
    c.legFollow t k true false x = Leg.turnOff { x with pulse := true, enable := true } t := by
  unfold Channel.legFollow
  dsimp only
  rw [if_neg (by decide), if_neg (by rw [hd]; decide), if_neg (by decide), if_pos hb]

/-- A high-side request that nothing blocks ends the block (R228, R230, R242). -/
theorem legFollow_high (hd : c.legDriven k = true) (hb : (x.bstBlock && x.bstLow) = false) :
    c.legFollow t k true false x =
      { Leg.turnOn { x with pulse := true, enable := true } t true (c.deadTime k) (Config.gateSense c.id k) with
        bstBlock := false } := by
  unfold Channel.legFollow
  dsimp only
  rw [if_neg (by decide), if_neg (by rw [hd]; decide), if_neg (by decide), if_neg (by rw [hb]; decide)]

/-- A pair of which one side is low at least never turns both gates on (R228, R230). -/
theorem legFollow_not_both (hp : (hs && ls) = false) (hx : (x.hs && x.ls) = false) :
    ((c.legFollow t k hs ls x).hs && (c.legFollow t k hs ls x).ls) = false := by
  have hoff (y : Leg) : ((y.turnOff t).hs && (y.turnOff t).ls) = false := by
    rw [(turnOff_gates t y).1, Bool.false_and]
  cases hreq : (!hs && !ls) with
  | true =>
    obtain ⟨rfl, rfl⟩ : hs = false ∧ ls = false := by simpa using hreq
    rw [legFollow_none]
    split
    · exact hoff x
    · exact hx
  | false =>
    cases hd : c.legDriven k with
    | false => rw [legFollow_undriven c t k hreq hd]; exact hx
    | true =>
      have hon (high : Bool) := turnOn_turnedOn (x := { x with pulse := hs, enable := true }) (high := high) t
        (c.deadTime k) (Config.gateSense c.id k) hx
      cases hs with
      | false =>
        obtain rfl : ls = true := by simpa using hreq
        rw [legFollow_low c t k hd, (hon false).hs, Bool.false_and]
      | true =>
        obtain rfl : ls = false := hp
        cases hb : (x.bstBlock && x.bstLow) with
        | false =>
          rw [legFollow_high c t k hd hb, Bool.and_eq_false_iff]
          exact .inr (hon true).ls
        | true => rw [legFollow_blocked c t k hd hb]; exact hoff _

end Follow

section Lanes
variable (c : Channel) (t : Nat) (k : Fin 6)

theorem setLeg_leg (x : Leg) : (c.setLeg k x).gd.legs[k] = x := Vector.getElem_set_self ..

theorem setGrp_legs (g : Grp) (x : GdGrp) : (c.setGrp g x).gd.legs = c.gd.legs := by cases g <;> rfl

/-- An interlock counted on the group of a leg (R229, R256). -/
def Channel.interlocked : Channel :=
  c.setGrp (grpOf k) { c.grp (grpOf k) with interlock := satInc (c.grp (grpOf k)).interlock }

theorem interlocked_legs : (c.interlocked k).gd.legs = c.gd.legs := setGrp_legs c (grpOf k) _

/-- Both requests together count as an interlock, raise line 29 and turn the leg off (R229). -/
theorem laneReq_both : c.laneReq t k true true =
    ((c.interlocked k).setLeg k (c.legFollow t k false false c.gd.legs[k])).raise 29 := by
  have hreq : c.laneReq t k true true = ((c.interlocked k).setLeg k
      ((c.interlocked k).legFollow t k false false (c.interlocked k).gd.legs[k])).raise 29 := if_pos rfl
  rw [hreq, interlocked_legs, legFollow_none, legFollow_none]

/-- A pair that the drive engine does not form moves nothing (R228). -/
theorem laneReq_other {hs ls : Bool} (hp : (hs && ls) = false) (hr : (hs, ls) ≠ c.request t k) :
    c.laneReq t k hs ls = c := by
  unfold Channel.laneReq
  rw [if_neg (by rw [hp]; decide), if_neg (by simpa using hr)]

/-- The pair that the drive engine forms moves its leg (R228). -/
theorem laneReq_request {hs ls : Bool} (hp : (hs && ls) = false) (hr : c.request t k = (hs, ls)) :
    c.laneReq t k hs ls = c.setLeg k (c.legFollow t k hs ls c.gd.legs[k]) := by
  unfold Channel.laneReq
  rw [if_neg (by rw [hp]; decide), if_pos (by rw [hr]; exact beq_self_eq_true _)]

/-- The legs after an interlock (R229). -/
theorem laneReq_both_legs :
    (c.laneReq t k true true).gd.legs = c.gd.legs.set k (c.legFollow t k false false c.gd.legs[k]) := by
  have hraise (d : Channel) : (d.raise 29).gd = d.gd := raise_part (pt := .gd) d 29 0 (by decide)
  rw [laneReq_both, hraise, ← interlocked_legs c k]
  rfl

/-- An interlock is counted on the leg's group and raises line 29 (R229, R256). -/
theorem laneReq_both_counts : let y := c.laneReq t k true true
    (y.grp (grpOf k)).interlock = satInc (c.grp (grpOf k)).interlock ∧ y.fcl.raised.contains (29, 0) = true := by
  rw [laneReq_both]
  obtain ⟨r, hr⟩ := raise_eq ((c.interlocked k).setLeg k (c.legFollow t k false false c.gd.legs[k])) 29 0
  refine ⟨?_, List.contains_iff_mem.mpr (raise_self _ 29 0)⟩
  rw [hr]
  exact congrArg GdGrp.interlock (grp_setGrp c (grpOf k) _)

/-- Of the legs a pair moves its own alone, and never to both gates on (R228 to R230). -/
theorem laneReq_legs (hs ls : Bool) : ∃ y : Leg, (c.laneReq t k hs ls).gd.legs = c.gd.legs.set k y ∧
    (((c.gd.legs[k]).hs && (c.gd.legs[k]).ls) = false → (y.hs && y.ls) = false) := by
  cases hp : (hs && ls) with
  | true =>
    obtain ⟨rfl, rfl⟩ : hs = true ∧ ls = true := by simpa using hp
    exact ⟨_, laneReq_both_legs c t k, legFollow_not_both c t k rfl⟩
  | false =>
    by_cases hr : c.request t k = (hs, ls)
    · exact ⟨_, congrArg (fun y => y.gd.legs) (laneReq_request c t k hp hr), legFollow_not_both c t k hp⟩
    · refine ⟨c.gd.legs[k], ?_, id⟩
      rw [laneReq_other c t k hp (Ne.symm hr)]
      exact (Vector.set_getElem_self k.isLt).symm

/-- SVPWM of a steering leg: the high side above the compare value, else the low side (R161). -/
theorem steerRequest_run {a : Nat} (hst : c.sd.st = .run) (hat : c.sd.perAt = some a) : c.steerRequest t k =
    (decide (c.steerCmp t k < pwmCounter ((t - a) / 5)), decide (pwmCounter ((t - a) / 5) ≤ c.steerCmp t k)) := by
  have hpos : c.pwmPos t = (t - a) / 5 := by rw [Channel.pwmPos, hat, Option.getD_some]
  unfold Channel.steerRequest
  simp only [hst, hat, hpos, Option.isSome_some, Bool.true_and, ← decide_not, Nat.not_lt]

/-- In no state does the steering drive ask for both gates (R161, R176). -/
theorem steerRequest_not_both : ((c.steerRequest t k).1 && (c.steerRequest t k).2) = false := by
  unfold Channel.steerRequest
  cases c.sd.st with
  | run => dsimp only; cases c.sd.perAt.isSome <;> simp
  | closing => rfl
  | asc => rfl
  | off => rfl
  | opening => rfl

/-- In no state and for no use of a phase does the auxiliary drive ask for both gates (R200, R205). -/
theorem auxRequest_not_both (p : Fin 3) : ((c.auxRequest t p).1 && (c.auxRequest t p).2) = false := by
  unfold Channel.auxRequest
  extract_lets up
  have hup : (up && (c.sd.perAt.isSome && !up)) = false := by cases up <;> simp
  (repeat' split) <;> simp [hup]

theorem request_not_both : ((c.request t k).1 && (c.request t k).2) = false := by
  unfold Channel.request
  split
  · exact steerRequest_not_both c t k
  · exact auxRequest_not_both c t _

end Lanes

/-- Settles O17: a pair is an interlock, one the engine does not form, or the engine's own, whose leg follows it. -/
theorem lanesNeverTurnBothGatesOn : Obligations.LanesNeverTurnBothGatesOn := by
  unfold Obligations.LanesNeverTurnBothGatesOn
  intro s l k hs ls hal c x
  have gets {hs ls : Bool} {P : Channel → Prop} (hP : P (c.laneReq l.t k hs ls)) :
      s.chGets (.laneEdge l k hs ls) l.ch P := chGets_when (i := .laneEdge l k hs ls) rfl hal hP
  refine ⟨gets ?_, fun hp hr => gets (laneReq_other c l.t k hp hr), fun hr => gets ?_,
    fun hx hd => ⟨fun hr hb => gets ?_, fun hr => gets ?_⟩, fun hx => gets ?_, request_not_both c l.t k,
    fun hk hst a hat => ?_⟩
  · obtain ⟨hcount, hline⟩ := laneReq_both_counts c l.t k
    have hleg : (c.laneReq l.t k true true).gd.legs[k] = c.legFollow l.t k false false x := by
      rw [laneReq_both_legs]
      exact Vector.getElem_set_self ..
    obtain ⟨hen, hoff⟩ := legFollow_none_off c l.t k x
    rw [hleg]
    exact ⟨hcount, hen, hline, hoff⟩
  · obtain ⟨hen, hoff⟩ := legFollow_none_off c l.t k x
    rw [laneReq_request c l.t k rfl hr, setLeg_leg]
    exact ⟨hen, rfl, hoff⟩
  · rw [laneReq_request c l.t k rfl hr, setLeg_leg, legFollow_high c l.t k hd hb]
    obtain ⟨hhs, hls, hen, hpu, hstay, hwait⟩ := turnOn_turnedOn (x := { x with pulse := true, enable := true })
      (high := true) l.t (c.deadTime k) (Config.gateSense c.id k) hx
    exact ⟨hhs, hls, hen, hpu, rfl, hstay, hwait⟩
  · rw [laneReq_request c l.t k rfl hr, setLeg_leg, legFollow_low c l.t k hd]
    obtain ⟨hhs, hls, hen, hpu, hstay, hwait⟩ := turnOn_turnedOn (x := { x with pulse := false, enable := true })
      (high := false) l.t (c.deadTime k) (Config.gateSense c.id k) hx
    exact ⟨hhs, hls, hen, hpu, hstay, hwait⟩
  · obtain ⟨y, hlegs, hnot⟩ := laneReq_legs c l.t k hs ls
    rw [hlegs]
    refine ⟨?_, fun j hj => Vector.getElem_set_ne k.isLt j.isLt fun e => hj (Fin.ext e.symm)⟩
    rw [show (c.gd.legs.set k y)[k] = y from Vector.getElem_set_self ..]
    exact hnot hx
  · rw [Channel.request, if_pos hk]
    exact steerRequest_run c l.t k hst hat

end Sys2Proof.Machine
end

section
/-! PROOF. PeriodSamplesBecomeSignals (O25): a period that starts samples, counts and opens its counter, and none of its
later steps touches what it sampled; at TCLK 120 the signals take the samples (R159 to R162, R165, R199, R279). -/

namespace Sys2Proof.Machine

-- One proof after another: with each in a thread of its own the joined text nears the check's memory limit.
set_option Elab.async false

/-- A disagreement of the two evaluations of the steering drive raises SD_CMP, and the core stops (R102, R159). -/
theorem sdCmp_isolates (c : Channel) (t : Nat) : let y := (c.raise 14).beginIsolate t
    y.fcl.raised.contains (14, 0) = true ∧ (y.exe.stopping || y.exe.stopped) = true := by
  obtain ⟨a, b, he, hab⟩ := beginIsolate_exe (c.raise 14) t
  exact ⟨List.contains_iff_mem.mpr (beginIsolate_lines _ t (raise_self _ 14 0) (by decide) (by decide)),
    by rw [he]; exact hab⟩

section Period
variable (c : Channel) (t : Nat) (x : PwmSample)

/-- What a period start samples, counts and opens of the steering drive, and the signal that the sample before it
shows: no later step of the start changes it. -/
def Sd.begun (d : Sd) : F32 × F32 × F32 × F32 × Bool × F32 × Option Nat × Nat × Nat :=
  (d.smpIa, d.smpIb, d.smpIc, d.smpVdc, d.smpPend, d.sigIa, d.perAt, d.loadAt, d.periodIdx)

/-- What a period start samples of the auxiliary drive: its instant and the first current. -/
def Ad.begun (a : Ad) : Nat × F32 := (a.pwmAt, a.smpA)

/-- The samples are held and the counter starts (R160, R162, R165). -/
theorem periodOpen_begun : ((c.holdSamples t x).periodOpen t).sd.begun =
    (x.ia, x.ib, x.ic, x.vdc, true, c.sd.sigIa, some t, c.loadInstant t, c.sd.periodIdx + 1) := rfl

theorem sumCheck_begun : c.sumCheck.sd.begun = c.sd.begun := by
  unfold Channel.sumCheck
  dsimp only
  split <;> rfl

theorem sdOff_begun : (c.sdOff t).sd.begun = c.sd.begun := rfl

theorem endAsc_begun : (c.endAsc t).sd.begun = c.sd.begun := by
  unfold Channel.endAsc
  split
  · exact sdOff_begun c t
  · rfl

theorem periodEnds_begun : (c.periodEnds t).sd.begun = c.sd.begun := by
  unfold Channel.periodEnds
  (repeat' split) <;> simp only [sdOff_begun, endAsc_begun]

theorem loadCompares_begun : c.loadCompares.sd.begun = c.sd.begun := by
  unfold Channel.loadCompares
  dsimp only
  split <;> rfl

theorem adPeriod_begun : (c.adPeriod t).ad.begun = c.ad.begun := by
  unfold Channel.adPeriod
  extract_lets lim tick move
  (repeat' split) <;> rfl

theorem adSwitch_begun (old : Channel) : (c.adSwitch old t).ad.begun = c.ad.begun := rfl

/-- The load instant of a period, 10,000 TCLK after the start before it (R165). -/
theorem loadInstant_of_period {a : Nat} (hat : c.sd.perAt = some a) (h : a + tclk 10000 ≤ t + 400) :
    c.loadInstant t = max t (a + tclk 10000) := by
  unfold Channel.loadInstant
  rw [hat]
  exact if_pos h

/-- A channel whose period's voltage latch is to come (R163). -/
def Channel.latchOpens (c : Channel) : Channel := { c with sd := { c.sd with latchPend := true } }

/-- A period opens: checks and compare values (R163, R165, R179, R181). -/
def Channel.periodLoads (c : Channel) (t : Nat) : Channel :=
  (((c.periodOpen t).sumCheck.periodEnds t).loadCompares).bump 3 0

/-- A period that has opened runs: latch, current limiter and lanes (R160, R163, R218). -/
def Channel.periodRuns (c old : Channel) (t : Nat) : Channel :=
  (((c.latchOpens.adPeriod t).adSwitch old t).lanesNow t .steer).lanesNow t .aux

theorem periodStart_eq : c.periodStart t x =
    (((((c.limitArrives t).sentSettleAll t).speedDecay t).holdSamples t x).periodLoads t).periodRuns c t := by
  unfold Channel.periodStart
  extract_lets old c1 c2 c3 c4
  change _ = c4.periodRuns c t
  clear_value c4
  rfl

theorem periodLoads_frame : (c.periodLoads t).sd.begun = (c.periodOpen t).sd.begun ∧ (c.periodLoads t).ad = c.ad ∧
    (c.periodLoads t).fb = c.fb := by
  refine ⟨?_, ?_, ?_⟩
  · rw [Channel.periodLoads, show (Channel.bump _ 3 0).sd = _ from bump_part (pt := .sd) _ 3 0 1 (by decide)]
    exact (loadCompares_begun _).trans ((periodEnds_begun _ t).trans (sumCheck_begun _))
  · show (c.periodLoads t).part .ad = c.part .ad
    simp [Channel.periodLoads]
  · show (c.periodLoads t).part .fb = c.part .fb
    simp [Channel.periodLoads]

theorem periodRuns_frame (old : Channel) : (c.periodRuns old t).sd = { c.sd with latchPend := true } ∧
    (c.periodRuns old t).ad.begun = c.ad.begun ∧ (c.periodRuns old t).fb = c.fb := by
  refine ⟨?_, ?_, ?_⟩
  · show (c.periodRuns old t).part .sd = c.latchOpens.part .sd
    simp [Channel.periodRuns]
  · have hlanes : (c.periodRuns old t).ad = ((c.latchOpens.adPeriod t).adSwitch old t).ad := by
      show (c.periodRuns old t).part .ad = ((c.latchOpens.adPeriod t).adSwitch old t).part .ad
      simp [Channel.periodRuns]
    rw [hlanes, adSwitch_begun, adPeriod_begun]
    rfl
  · show (c.periodRuns old t).part .fb = c.latchOpens.part .fb
    simp [Channel.periodRuns]

/-- What a period start leaves: its samples wait for TCLK 120, its counter runs, its latch is to come (R160 to R165,
R199, R279). -/
theorem periodStart_begins : let y := c.periodStart t x
    y.sd.begun = (x.ia, x.ib, x.ic, x.vdc, true, c.sd.sigIa, some t, c.loadInstant t, c.sd.periodIdx + 1) ∧
    y.sd.latchPend = true ∧ y.ad.begun = (t, x.xa) ∧ y.fb.ainPend = true ∧
    y.fb.ainSmp = #v[x.ain0, x.ain1, x.ain2, x.ain3, x.ain4, x.ain5, x.ain6, x.ain7] := by
  rw [periodStart_eq]
  generalize h0 : ((c.limitArrives t).sentSettleAll t).speedDecay t = d
  have hsd : d.sd = c.sd := by
    show d.part .sd = c.part .sd
    simp [← h0]
  have hload : d.loadInstant t = c.loadInstant t := by rw [Channel.loadInstant, hsd, ← Channel.loadInstant]
  obtain ⟨hb, had, hfb⟩ := periodLoads_frame (d.holdSamples t x) t
  obtain ⟨hrsd, hrad, hrfb⟩ := periodRuns_frame ((d.holdSamples t x).periodLoads t) t c
  rw [periodOpen_begun, hsd, hload] at hb
  dsimp only
  rw [hrsd, hrad, hrfb, hfb]
  exact ⟨hb, rfl, congrArg Ad.begun had, rfl, rfl⟩

/-- At TCLK 120 the signals show the samples (R162). -/
theorem sampleReady_shows : let y := c.sampleReady
    y.sd.sigIa = c.sd.smpIa ∧ y.sd.sigIb = c.sd.smpIb ∧ y.sd.sigIc = c.sd.smpIc ∧ y.sd.sigVdc = c.sd.smpVdc ∧
    (y.sd.sigId, y.sd.sigIq) = park c.sd.smpIa c.sd.smpIb c.sd.smpIc c.sd.smpTheta ∧ y.sd.smpPend = false ∧
    y.ad.sigA = c.ad.smpA ∧ y.ad.sigB = c.ad.smpB ∧ y.ad.sigC = c.ad.smpC ∧ y.sd.st = c.sd.st ∧ y.fb = c.fb :=
  ⟨rfl, rfl, rfl, rfl, rfl, rfl, rfl, rfl, rfl, rfl, rfl⟩

end Period

/-- Settles O25: a period that is due samples and opens, and the sample becomes the signals once it is due too. -/
theorem periodSamplesBecomeSignals : Obligations.PeriodSamplesBecomeSignals := by
  unfold Obligations.PeriodSamplesBecomeSignals
  intro s l p hrel c
  have hready (hp : c.sd.smpPend = true) (hat : c.ad.pwmAt + tclk 120 ≤ l.t) : ((s.ch l.ch).released &&
      (s.ch l.ch).sd.smpPend && decide ((s.ch l.ch).ad.pwmAt + tclk 120 ≤ l.t)) = true := by
    simp only [Bool.and_eq_true, decide_eq_true_eq]
    exact ⟨⟨hrel, hp⟩, hat⟩
  have starts {P : Channel → Prop} (hdue : c.periodDue l.t = true) (hP : P (c.periodStart l.t p)) :
      s.chGets (.pwmPeriodStart l p) l.ch P := chGets_when (i := .pwmPeriodStart l p) rfl hdue hP
  refine ⟨fun hdue => starts hdue ?_,
    fun h => chGets_skip (i := .pwmPeriodStart l p) rfl ?_ rfl,
    fun hp hat => chGets_when (i := .currentSampleReady ⟨l, false⟩) rfl (hready hp hat) (sampleReady_shows c),
    fun hp hat => chGets_when (i := .currentSampleReady ⟨l, true⟩) rfl (hready hp hat) (sdCmp_isolates c l.t),
    fun hat upset => chGets_skip (i := .currentSampleReady ⟨l, upset⟩) rfl ?_ rfl⟩
  · obtain ⟨hsd, hlatch, had, hain, hsmp⟩ := periodStart_begins c l.t p
    simp only [Sd.begun, Ad.begun, Prod.mk.injEq] at hsd had
    obtain ⟨hia, hib, hic, hvdc, hpend, hsig, hper, hload, hidx⟩ := hsd
    obtain ⟨hpwm, hsmpA⟩ := had
    refine ⟨hia, hib, hic, hvdc, hpend, hlatch, hidx, hpwm, hsmpA, hain, ?_, ?_, hsig, hper,
      fun a hat h => hload.trans (loadInstant_of_period c l.t hat h)⟩
    · rw [hsmp]; rfl
    · rw [hsmp]; rfl
  · rcases h with h | h
    · simp [Channel.periodDue, show (s.ch l.ch).pwr.doze = true from h]
    · exact h
  · rw [show decide ((s.ch l.ch).ad.pwmAt + tclk 120 ≤ l.t) = false from decide_eq_false (Nat.not_le.mpr hat),
      Bool.and_false]

end Sys2Proof.Machine
end

section
/-! PROOF. MissedCommandsLoadZeroVoltage (O26): the voltage latch by the drive's state and by what was routed (R159,
R163, R164, R191). -/

namespace Sys2Proof.Machine

-- One proof after another: with each in a thread of its own the joined text nears the check's memory limit.
set_option Elab.async false

section Latch
variable (c : Channel)

/-- The latch takes what was routed, and the period has none to come (R163). -/
def Channel.latchTaken (c : Channel) : Channel :=
  { c with ce := { c.ce with routedVd := false, routedVq := false }, sd := { c.sd with latchPend := false } }

theorem voltageLatch_of_resting (h : c.sd.st ≠ .run) : c.voltageLatch =
    { c with ce := { c.ce with routedVd := false, routedVq := false },
             sd := { c.sd with latchPend := false, vsat := false } } :=
  if_pos (bne_iff_ne.mpr h)

theorem voltageLatch_of_routed (h : c.sd.st = .run) (hboth : (c.ce.routedVd && c.ce.routedVq) = true) :
    c.voltageLatch = c.latchTaken.spaceVector c.ce.dest[0] c.ce.dest[1] := by
  have hrun : ¬(c.sd.st != .run) = true := by rw [h]; decide
  exact (if_neg hrun).trans (if_pos hboth)

theorem voltageLatch_of_missed (h : c.sd.st = .run) (hboth : (c.ce.routedVd && c.ce.routedVq) = false) :
    c.voltageLatch = c.latchTaken.missed := by
  have hrun : ¬(c.sd.st != .run) = true := by rw [h]; decide
  exact (if_neg hrun).trans (if_neg (by rw [hboth]; decide))

/-- A missed command loads the zero voltage vector and is counted (R164). -/
theorem missed_loads_zero : c.missed.ce = c.ce ∧ c.missed.sd =
    { c.sd with nextA := 2500, nextB := 2500, nextC := 2500, missedCmd := satInc c.sd.missedCmd,
                missedRun := c.sd.missedRun + 1, vsat := false } :=
  ⟨bump_part (pt := .ce) _ 3 3 1 (by decide), bump_part (pt := .sd) _ 3 3 1 (by decide)⟩

/-- Compare values for the next period, and whether their voltage was scaled to the limit (R171). -/
def Channel.vectorLoaded (c : Channel) (sat : Bool) (na nb nc : Nat) : Channel :=
  let d := if sat then c.bump 3 1 else c
  { d with sd := { d.sd with vsat := sat, nextA := na, nextB := nb, nextC := nc, missedRun := 0 } }

theorem spaceVector_loads (vd vq : F32) : ∃ sat na nb nc, c.spaceVector vd vq = c.vectorLoaded sat na nb nc :=
  ⟨_, _, _, _, rfl⟩

/-- A voltage command ends the run of missed ones and counts none (R164). -/
theorem vectorLoaded_frame (sat : Bool) (na nb nc : Nat) : (c.vectorLoaded sat na nb nc).ce = c.ce ∧
    (c.vectorLoaded sat na nb nc).sd =
      { c.sd with vsat := sat, nextA := na, nextB := nb, nextC := nc, missedRun := 0 } := by
  cases sat with
  | false => exact ⟨rfl, rfl⟩
  | true =>
    obtain ⟨p, h⟩ := bump_eq c 3 1 1
    rw [Channel.vectorLoaded, if_pos rfl, h]
    exact ⟨rfl, rfl⟩

end Latch

/-- Settles O26: in RUN the latch takes both commands or misses, outside it forgets them. -/
theorem missedCommandsLoadZeroVoltage : Obligations.MissedCommandsLoadZeroVoltage := by
  unfold Obligations.MissedCommandsLoadZeroVoltage
  intro s l hrel c
  have latches {P : Channel → Prop} (hp : c.sd.latchPend = true) (hat : c.ad.pwmAt + tclk 9900 ≤ l.t)
      (upset : Bool) (hP : P (if upset then (c.raise 14).beginIsolate l.t else c.voltageLatch)) :
      s.chGets (.voltageLatch l upset) l.ch P := by
    refine chGets_when (i := .voltageLatch l upset) rfl ?_ hP
    simp only [Bool.and_eq_true, decide_eq_true_eq]
    exact ⟨⟨hrel, hp⟩, hat⟩
  refine ⟨fun hp hat hrun hboth => latches hp hat false ?_, fun hp hat hrun hboth => latches hp hat false ?_,
    fun hp hat hrest => latches hp hat false (voltageLatch_of_resting c hrest),
    fun hp hat => latches hp hat true (sdCmp_isolates c l.t)⟩
  · obtain ⟨hce, hsd⟩ := missed_loads_zero c.latchTaken
    rw [if_neg Bool.false_ne_true, voltageLatch_of_missed c hrun hboth, hce, hsd]
    exact ⟨rfl, rfl, rfl, rfl, rfl, rfl, rfl, rfl, hrun⟩
  · obtain ⟨sat, na, nb, nc, hv⟩ := spaceVector_loads c.latchTaken c.ce.dest[0] c.ce.dest[1]
    obtain ⟨hce, hsd⟩ := vectorLoaded_frame c.latchTaken sat na nb nc
    rw [if_neg Bool.false_ne_true, voltageLatch_of_routed c hrun hboth, hv, hce, hsd]
    exact ⟨rfl, rfl, rfl, rfl, rfl⟩

end Sys2Proof.Machine
end

section
/-! PROOF. SteeringDriveLeavesRunOnFaults (O27): a fault of the winding opens the drive, a start that the speed held
closes PIS, and the timers of CLOSING and OPENING (R164, R177, R179, R181). -/

namespace Sys2Proof.Machine

-- One proof after another: with each in a thread of its own the joined text nears the check's memory limit.
set_option Elab.async false

section Winding
variable (c : Channel) (t : Nat)

theorem getLsbD_setBit_false {w : Nat} (x : BitVec w) (k : Nat) : (setBit x k false).getLsbD k = false := by
  by_cases hk : k < w
  · simp [setBit, hk]
  · exact BitVec.getLsbD_of_ge _ k (Nat.not_lt.mp hk)

/-- OPENING with its cause; the winding leaves the active set (R177). -/
theorem sdOpening_sd (cause : BitVec 3) : (c.sdOpening t cause).sd =
    { c.sd with active := setBit c.sd.active (Ch.bit c.id) false, st := .opening, lastLeave := cause, openingAt := t,
                joinCyc := none, leaveCyc := none, settled := false } := rfl

/-- A fault of the winding in RUN takes the winding out and raises line 16 (R177, R181). -/
theorem sdFault_opens (cause : BitVec 3) (h : c.sd.st = .run) : let y := (c.sdFault t cause).viewSync t
    y.sd.st = .opening ∧ y.sd.lastLeave = cause ∧ y.sd.openingAt = t ∧ y.sd.wndFaults = satInc c.sd.wndFaults ∧
    y.sd.wndOut = true ∧ y.sd.active.getLsbD (Ch.bit c.id) = false ∧ y.fcl.raised.contains (16, 0) = true := by
  intro y
  let z := (c.sdOpening t cause).raise 16
  have hz : z.sd = (c.sdOpening t cause).sd := raise_part (pt := .sd) _ 16 0 (by decide)
  have hline : z.fcl.raised.contains (16, 0) = true := List.contains_iff_mem.mpr (raise_self _ 16 0)
  have hfault : c.sdFault t cause = { z with sd := { z.sd with wndFaults := satInc z.sd.wndFaults, wndOut := true } } :=
    if_pos h
  have hsd : y.sd = (c.sdFault t cause).sd := viewSync_part (pt := .sd) (c.sdFault t cause) t (by decide)
  have hfcl : y.fcl = (c.sdFault t cause).fcl := viewSync_part (pt := .fcl) (c.sdFault t cause) t (by decide)
  clear_value z
  rw [hfcl, hsd, hfault, hz, sdOpening_sd]
  exact ⟨rfl, rfl, rfl, rfl, rfl, getLsbD_setBit_false _ _, hline⟩

end Winding

section Start
variable (c : Channel) (t : Nat)

/-- What an entry to CLOSING has set, which its last steps keep: the instant, the speed's hold, PIS, the angle state
and the validity of ENC0. -/
def Channel.closes (c : Channel) : SdSt × Nat × Bool × Bool × AngleSt × Bool :=
  (c.sd.st, c.sd.closingAt, c.sd.speedWait, c.gd.pisEn, c.sd.angle, (c.fb.enc[0]).valid)

theorem disarmEs_closes (k : Fin 8) : (c.disarmEs k).closes = c.closes := rfl

theorem esTake_closes : c.esTake.closes = c.closes := by
  unfold Channel.esTake
  split
  · simp only [disarmEs_closes]
  · rfl

theorem announce_closes (r : AnnReq) : (c.announce t r).closes = c.closes := by
  unfold Channel.announce
  dsimp only
  (repeat' split) <;> rfl

theorem raise_closes (k : Fin 62) (d : BitVec 16) : (c.raise k d).closes = c.closes := by
  obtain ⟨r, h⟩ := raise_eq c k d
  rw [h]
  rfl

/-- A hall edge's angle and instant; stated of any angle, since the kernel would compute the one that is stored. -/
theorem edge_closes (a : Word) (n : Nat) :
    ({ c with sd := { c.sd with hallEdge := a, hallEdgeT := n } } : Channel).closes = c.closes := rfl

theorem fromEdge_closes : c.fromEdge.closes = c.closes := by
  unfold Channel.fromEdge
  split
  · exact edge_closes c _ _
  · rfl

/-- On an encoder fault a drive that has left OFF goes on in HALL_ONLY (R168). -/
theorem encFault_closes {at_ : Nat} {wait pis ok : Bool} (h : c.closes = (.closing, at_, wait, pis, .sector, ok)) :
    c.encFault.closes = (.closing, at_, wait, pis, .hallOnly, ok) := by
  have hx : (c.fromEdge.raise 15).closes = c.closes := (raise_closes _ 15 0).trans (fromEdge_closes c)
  rw [h] at hx
  simp only [Channel.closes, Prod.mk.injEq] at h hx
  obtain ⟨hst, -, -, -, hangle, -⟩ := h
  obtain ⟨hst', hat, hwait, hpis, -, hok⟩ := hx
  have henc : c.encFault = { c.fromEdge.raise 15 with sd := { (c.fromEdge.raise 15).sd with
      angle := .hallOnly, encFaults := satInc (c.fromEdge.raise 15).sd.encFaults } } := by
    rw [Channel.encFault, if_neg (by rw [hst, hangle]; decide)]
  rw [henc]
  simp only [Channel.closes, Prod.mk.injEq]
  exact ⟨hst', hat, hwait, hpis, trivial, hok⟩

/-- Entry to CLOSING: PIS_EN high, and the angle state by the validity of ENC0 (R168, R177). -/
theorem sdClosing_enters : (c.sdClosing t).closes =
    (.closing, t, false, true, if (c.fb.enc[0]).valid then .sector else .hallOnly, (c.fb.enc[0]).valid) := by
  unfold Channel.sdClosing
  extract_lets a centre b d e f g
  have he : e.closes = (.closing, t, false, true, .sector, (c.fb.enc[0]).valid) := rfl
  have hcodes : (e.bchFollow.leaveOffCodes .steer).closes = e.closes := rfl
  have hg : g.closes = (.closing, t, false, true, .sector, (c.fb.enc[0]).valid) :=
    (announce_closes f t .join).trans ((esTake_closes _).trans (hcodes.trans he))
  have hvalid : (g.fb.enc[0]).valid = (c.fb.enc[0]).valid := by
    simp only [Channel.closes, Prod.mk.injEq] at hg
    obtain ⟨-, -, -, -, -, hok⟩ := hg
    exact hok
  rw [hvalid]
  cases hok : (c.fb.enc[0]).valid with
  | true => rw [if_pos rfl, if_pos rfl, hg, hok]
  | false =>
    rw [if_neg Bool.false_ne_true, if_neg Bool.false_ne_true]
    exact encFault_closes g (hok ▸ hg)

/-- The speed no longer holds the start (R177). -/
def Channel.speedFree (c : Channel) : Channel := { c with sd := { c.sd with speedWait := false } }

/-- In OFF nothing but a self-test, a cut or the speed holds a start (R177, R249). -/
theorem sdStart_of_free (hst : c.sd.st = .off) (htest : c.gd.grpS.testBusy = false) (hov : c.sup.ov = false)
    (hslow : c.belowNmax t = true) : c.sdStart t = c.sdClosing t := by
  unfold Channel.sdStart
  rw [if_neg (by rw [hst]; decide), if_neg (by rw [htest]; decide), if_neg (by rw [hov]; decide), if_pos hslow]

end Start

/-- Back in OFF the gates are off and PIS is open, and the auxiliary drive is as it was (R179, R180). -/
theorem sdOff_opens (c : Channel) (t : Nat) : let y := c.sdOff t
    y.sd.st = .off ∧ y.gd.pisEn = false ∧ y.gd.pisOk = 0 ∧ y.ad = c.ad := ⟨rfl, rfl, rfl, rfl⟩

/-- Settles O27: each event in the state that it acts in, and the ones that are not due. -/
theorem steeringDriveLeavesRunOnFaults : Obligations.SteeringDriveLeavesRunOnFaults := by
  unfold Obligations.SteeringDriveLeavesRunOnFaults
  intro s l hrel c
  have halive : (s.ch l.ch).alive = true := by
    rw [Channel.alive, show ((s.ch l.ch).rst.phase == .run) = true from hrel, Bool.true_or]
  have misses {P : Channel → Prop} (hrun : c.sd.st = .run) (hmiss : 4 ≤ c.sd.missedRun)
      (hP : P ((c.sdFault l.t 5).viewSync l.t)) : s.chGets (.missedCmdLimit l) l.ch P := by
    refine chGets_when (i := .missedCmdLimit l) rfl ?_ hP
    simp only [Bool.and_eq_true, beq_iff_eq, decide_eq_true_eq]
    exact ⟨⟨hrel, hrun⟩, hmiss⟩
  have sums {P : Channel → Prop} (hrun : c.sd.st = .run) (hsum : 8 ≤ c.sd.isumRun)
      (hP : P ((c.sdFault l.t 3).viewSync l.t)) : s.chGets (.isumFault l) l.ch P := by
    refine chGets_when (i := .isumFault l) rfl ?_ hP
    simp only [Bool.and_eq_true, beq_iff_eq, decide_eq_true_eq]
    exact ⟨⟨hrel, hrun⟩, hsum⟩
  have slows {P : Channel → Prop} (hst : c.sd.st = .off) (hwait : c.sd.speedWait = true)
      (hslow : c.belowNmax l.t = true) (hP : P (c.speedFree.sdStart l.t)) : s.chGets (.speedBelowNmax l) l.ch P := by
    refine chGets_when (i := .speedBelowNmax l) rfl ?_ hP
    simp only [Bool.and_eq_true, beq_iff_eq]
    exact ⟨⟨⟨hrel, hst⟩, hwait⟩, hslow⟩
  refine ⟨fun hrun hmiss => misses hrun hmiss (sdFault_opens c l.t 5 hrun),
    fun hrun hmiss => chGets_skip (i := .missedCmdLimit l) rfl ?_ rfl, fun hrun hsum => sums hrun hsum ?_,
    fun hrun hsum => chGets_skip (i := .isumFault l) rfl ?_ rfl,
    fun hst hat => chGets_when (i := .settleElapsed l) rfl ?_ rfl,
    fun hst hwait hslow htest hov => slows hst hwait hslow ?_,
    fun hst hwait hfast => chGets_skip (i := .speedBelowNmax l) rfl ?_ rfl,
    fun hst hat => chGets_when (i := .openTmaxExpiry l) rfl ?_ (sdOff_opens c l.t)⟩
  · rw [decide_eq_false (Nat.not_le.mpr hmiss), Bool.and_false]
  · obtain ⟨hst, hleave, -, hwnd⟩ := sdFault_opens c l.t 3 hrun
    exact ⟨hst, hleave, hwnd⟩
  · rw [decide_eq_false (Nat.not_le.mpr hsum), Bool.and_false]
  · simp only [Bool.and_eq_true, beq_iff_eq, decide_eq_true_eq]
    exact ⟨⟨hrel, hst⟩, hat⟩
  · have henters := sdClosing_enters c.speedFree l.t
    rw [← sdStart_of_free c.speedFree l.t hst htest hov hslow] at henters
    simp only [Channel.closes, Prod.mk.injEq] at henters
    obtain ⟨hclosing, hat, hnowait, hpis, hangle, -⟩ := henters
    exact ⟨hclosing, hnowait, hat, hangle, hpis⟩
  · rw [show (s.ch l.ch).belowNmax l.t = false from hfast, Bool.and_false]
  · simp only [Bool.and_eq_true, beq_iff_eq, decide_eq_true_eq]
    exact ⟨⟨halive, hst⟩, hat⟩

end Sys2Proof.Machine
end

section
/-! PROOF. What the steps that the commands of the auxiliary drive share leave of its state (R196, R200 to R207). -/

namespace Sys2Proof.Machine

-- One proof after another: with each in a thread of its own the joined text nears the check's memory limit.
set_option Elab.async false

/-- A disagreement of two evaluations raises its line, and the core stops; the line is not one of the two that may fall
with the pump's enable (R102, R206). -/
theorem compare_isolates (c : Channel) (t : Nat) {line : Fin 62} (h8 : line ≠ 18) (h9 : line ≠ 19) :
    let y := (c.raise line).beginIsolate t
    y.fcl.raised.contains (line, 0) = true ∧ (y.exe.stopping || y.exe.stopped) = true := by
  obtain ⟨a, b, he, hab⟩ := beginIsolate_exe (c.raise line) t
  exact ⟨List.contains_iff_mem.mpr (beginIsolate_lines _ t (raise_self _ line 0) h8 h9), by rw [he]; exact hab⟩

section Shared
variable (c : Channel) (t : Nat)

@[simp] theorem raise_ad (k : Fin 62) (d : BitVec 16) : (c.raise k d).ad = c.ad :=
  raise_part (pt := .ad) c k d (by decide)

@[simp] theorem bump_ad (b i n : Nat) : (c.bump b i n).ad = c.ad := bump_part (pt := .ad) c b i n (by decide)

@[simp] theorem viewSync_ad : (c.viewSync t).ad = c.ad := viewSync_part (pt := .ad) c t (by decide)

@[simp] theorem viewSync_fcl : (c.viewSync t).fcl = c.fcl := viewSync_part (pt := .fcl) c t (by decide)

/-- The drive with another mark. -/
def Channel.marked (c : Channel) (m : Option AdMark) : Channel := { c with ad := { c.ad with mark := m } }

/-- What an event may have to give back is noted in the mark alone (R206). -/
theorem adMark_eq : ∃ m, c.adMark t = c.marked m := by
  unfold Channel.adMark
  extract_lets held m
  split
  · exact ⟨c.ad.mark, rfl⟩
  · exact ⟨some m, rfl⟩

/-- A state without gates (R206). -/
theorem adIdle_ad (st : AdSt) : (c.adIdle t st).ad =
    { c.ad with st := st, since := t, limited := false, ramping := false, fresh := false } := rfl

/-- FAULT keeps its cause (R208). -/
theorem adFault_ad (cause : BitVec 3) :
    (c.adFault t cause).ad = { (c.adIdle t .fault).ad with lastFault := cause } :=
  congrArg (fun a : Ad => { a with lastFault := cause }) (raise_ad _ 19 0)

theorem adFault_raises (cause : BitVec 3) : (19, 0) ∈ (c.adFault t cause).fcl.raised := raise_self _ 19 0

theorem adFault_keeps (cause : BitVec 3) {p : Fin 62 × BitVec 16} (h : p ∈ c.fcl.raised) :
    p ∈ (c.adFault t cause).fcl.raised := raise_keeps (c.adIdle t .fault) 19 0 h

/-- A failure raises PMP_SYNC and counts; the third within 10 s is a fault (R207). -/
theorem adFailure_leaves : (18, 0) ∈ (c.adFailure t).fcl.raised ∧
    (c.adFailure t).ad.syncFails = satInc c.ad.syncFails ∧
    (c.adFailure t).ad.st = if 2 ≤ (c.ad.recent t).length then .fault else .coast := by
  unfold Channel.adFailure
  extract_lets earlier d _ e
  have hline : (18, 0) ∈ e.fcl.raised := raise_self c 18 0
  have hcount : e.ad.syncFails = satInc c.ad.syncFails := by simp only [e, d, raise_ad]
  clear_value e
  split
  · rw [adFault_ad, adIdle_ad]
    exact ⟨adFault_keeps e t 1 hline, hcount, rfl⟩
  · exact ⟨hline, hcount, rfl⟩

/-- A failure as a command leaves it, with its mark and the view (R206, R207). -/
theorem markedFailure_leaves : let y := ((c.adMark t).adFailure t).viewSync t
    y.fcl.raised.contains (18, 0) = true ∧ y.ad.syncFails = satInc c.ad.syncFails ∧
    y.ad.st = if 2 ≤ (c.ad.recent t).length then .fault else .coast := by
  obtain ⟨m, hm⟩ := adMark_eq c t
  obtain ⟨hline, hcount, hst⟩ := adFailure_leaves (c.marked m) t
  intro y
  simp only [y, hm, viewSync_fcl, viewSync_ad]
  exact ⟨List.contains_iff_mem.mpr hline, hcount, hst⟩

end Shared

end Sys2Proof.Machine
end

section
/-! PROOF. CommutationFollowsTheCrossing (O28): the course of a commutation in each state that commutes, the crossing
that it follows, and the loss of synchronism (R196, R201 to R204, R206, R207, R213). -/

namespace Sys2Proof.Machine

-- One proof after another: with each in a thread of its own the joined text nears the check's memory limit.
set_option Elab.async false

section Commute
variable (c : Channel) (t : Nat)

theorem commutes_run (h : c.ad.st = .run) :
    c.commutes t = decide ((if c.ad.fresh then c.ad.tComm else c.adNextComm) ≤ t) := by
  simp [Channel.commutes, h]

theorem commutes_start (h : c.ad.st = .start) : c.commutes t =
    (rampSwept (c.getA 0x340C) (c.af 0x3401 16 16) (c.af 0x3400 0 4) (c.ad.steps + 1) (t - c.ad.since) &&
      !c.reqFalls t) := by
  simp [Channel.commutes, h]

/-- The legs follow a new sector, duty or ramp factor at once (R200, R201). -/
def Channel.follows (c old : Channel) (t : Nat) : Channel := (c.adSwitch old t).lanesNow t .aux

theorem commutate_of_run (h : c.ad.st = .run) (hf : c.ad.fresh = false) :
    c.commutate t = (c.adCommutate c.adNextComm).adCompares.follows c t := by
  simp [Channel.commutate, Channel.follows, h, hf]

theorem commutate_of_fresh (h : c.ad.st = .run) (hf : c.ad.fresh = true) : c.commutate t = c.adFirst.follows c t := by
  simp [Channel.commutate, Channel.follows, h, hf]

theorem commutate_of_start (h : c.ad.st = .start) : let x := (c.adCommutate t).adCompares
    c.commutate t = (if x.adHandover t then (x.adMark t).adEnterRun t else x).follows c t := by
  simp [Channel.commutate, Channel.follows, h]

/-- What an entry to RUN keeps of the commutation that it follows (R214). -/
theorem markedEnterRun_keeps : ((c.adMark t).adEnterRun t).ad.sector = c.ad.sector ∧
    ((c.adMark t).adEnterRun t).ad.tComm = c.ad.tComm ∧ ((c.adMark t).adEnterRun t).ad.st = .run := by
  obtain ⟨m, hm⟩ := adMark_eq c t
  rw [hm]
  exact ⟨rfl, rfl, rfl⟩

/-- A commutation of START moves the sector at its instant, and may hand over to RUN (R214). -/
theorem commutate_start_moves (h : c.ad.st = .start) :
    (c.commutate t).ad.sector = nextSector (bit (c.getA 0x3400) 5) c.ad.sector ∧ (c.commutate t).ad.tComm = t ∧
    ((c.commutate t).ad.st = .start ∨ (c.commutate t).ad.st = .run) := by
  rw [commutate_of_start c t h]
  split
  · obtain ⟨hsector, hcomm, hst⟩ := markedEnterRun_keeps (c.adCommutate t).adCompares t
    exact ⟨hsector, hcomm, .inr hst⟩
  · exact ⟨rfl, rfl, .inl h⟩

end Commute

theorem chGets_commutation {s : State} {l : At} {P : Channel → Prop} (hrel : (s.ch l.ch).released = true)
    (h : (s.ch l.ch).commutes l.t = true) (hP : P ((s.ch l.ch).commutate l.t)) :
    s.chGets (.commutation ⟨l, false⟩) l.ch P :=
  chGets_when (i := .commutation ⟨l, false⟩) rfl (by rw [hrel, h]; rfl) hP

/-- Settles O28: the crossing, the three kinds of commutation, the ramp's step, and the failure of a RUN that has lost
its crossings. -/
theorem commutationFollowsTheCrossing : Obligations.CommutationFollowsTheCrossing := by
  unfold Obligations.CommutationFollowsTheCrossing
  intro s l hrel c
  refine ⟨fun hst hzc hsearch hblank => chGets_when (i := .zeroCrossing l) rfl ?_ (bump_ad _ 4 1 1),
    fun hzc => chGets_skip (i := .zeroCrossing l) rfl ?_ rfl,
    fun hst hfresh hat => chGets_commutation hrel ?_ ?_, fun hst hfresh hat => chGets_commutation hrel ?_ ?_,
    fun hcomm => chGets_when (i := .commutation ⟨l, true⟩) rfl ?_ (compare_isolates c l.t (by decide) (by decide)),
    fun hst hreq hswept => chGets_commutation hrel ?_ (commutate_start_moves c l.t hst),
    fun hramp hat => chGets_when (i := .softRampStep l) rfl ?_ ⟨rfl, rfl, rfl⟩,
    fun hst hlost hreq => chGets_when (i := .lossOfSynchronism l) rfl ?_ (markedFailure_leaves (s.ch l.ch) l.t),
    fun hst hkeeps => chGets_skip (i := .lossOfSynchronism l) rfl ?_ rfl⟩
  · simp only [Bool.and_eq_true, Bool.or_eq_true, beq_iff_eq, Bool.not_eq_true', Option.isNone_iff_eq_none]
    exact ⟨⟨⟨⟨hrel, hst⟩, hzc⟩, hsearch⟩, hblank⟩
  · rw [← Option.not_isSome, show (s.ch l.ch).ad.tZc.isSome = true from hzc]
    simp
  · rw [commutes_run c l.t hst, hfresh]
    exact decide_eq_true hat
  · rw [commutate_of_run c l.t hst hfresh]
    exact ⟨rfl, rfl, rfl, rfl, rfl, rfl, rfl, hst, rfl⟩
  · rw [commutes_run c l.t hst, hfresh]
    exact decide_eq_true hat
  · rw [commutate_of_fresh c l.t hst hfresh]
    exact ⟨rfl, rfl, rfl, rfl, rfl⟩
  · rw [hrel]; exact hcomm
  · rw [commutes_start c l.t hst, hswept, hreq]; rfl
  · simp only [Bool.and_eq_true, decide_eq_true_eq]
    exact ⟨⟨hrel, hramp⟩, hat⟩
  · simp only [Bool.and_eq_true, beq_iff_eq, decide_eq_true_eq, Bool.not_eq_true']
    exact ⟨⟨⟨hrel, hst⟩, hlost⟩, hreq⟩
  · rcases hkeeps with hfew | hreq
    · rw [show decide (18 ≤ (s.ch l.ch).ad.implausible) = false from decide_eq_false (Nat.not_le.mpr hfew)]
      simp
    · rw [show (s.ch l.ch).reqFalls l.t = true from hreq]
      simp

end Sys2Proof.Machine
end

section
/-! PROOF. PumpStartCourse (O29): what each measurement of a catch window decides, and the events of BRAKE, ALIGN, START
and COAST (R206, R207, R210 to R215). -/

namespace Sys2Proof.Machine

-- One proof after another: with each in a thread of its own the joined text nears the check's memory limit.
set_option Elab.async false

section Decision
variable (c : Channel) (t : Nat) (rpm : Int) (epk : F32) (v : Word)

/-- KE as a window measures it (R212). -/
def measuredKe (epk : F32) (n : Int) : F32 := F32.div (F32.mul epk (F32.ofInt 1000)) (F32.ofInt n.natAbs)

/-- The channel as a decision finds it: the measurement stands in the status registers and the window is counted (R210,
R224 to R226). -/
def Channel.caught (c : Channel) (n : Int) (res : BitVec 2) (ke : BitVec 16) : Channel :=
  (c.catchMeasured n res ke).bump 4 3

theorem caught_ad (n : Int) (res : BitVec 2) (ke : BitVec 16) : (c.caught n res ke).ad =
    { c.ad with catches := satInc c.ad.catches, catchRes := res, measSpeed := BitVec.ofInt 16 n, measKe := ke } :=
  bump_ad ..

theorem caught_getA (n : Int) (res : BitVec 2) (ke : BitVec 16) (id : Nat) :
    (c.caught n res ke).getA id = c.getA id := by
  obtain ⟨p, h⟩ := bump_eq (c.catchMeasured n res ke) 4 3 1
  rw [Channel.caught, h]
  rfl

/-- A decision by its speed n and its result: the KE check stands first, then the result chooses (R211, R212). -/
theorem catchDecide_eq {n : Int} {res : BitVec 2} {check : Bool} (hn : (if F32.lt epk f32Quarter then 0 else rpm) = n)
    (hres : catchResult (c.af 0x3401 0 16) n = res)
    (hcheck : decide ((c.af 0x3401 0 16 : Int) ≤ 20 * n.natAbs) = check) :
    let d := c.caught n res (if check then keRegister (measuredKe epk n) else 0)
    c.catchDecide t rpm epk v =
      if check && c.keFails (measuredKe epk n) then d.adKeFault t else if res = 1 then d.adSync t n.toNat v
      else if res = 2 then d.adAlign t else d.adBrake t := by
  intro d
  have hke : d.keFails (measuredKe epk n) = c.keFails (measuredKe epk n) := by
    simp only [Channel.keFails, d, caught_getA]
  rw [← hke]
  subst hn hres hcheck
  rfl

/-- Without back-EMF the motor stands, and ALIGN begins in sector 0 (R211, R214). -/
theorem catchDecide_still (hmax : 0 < (c.af 0x3401 0 16 : Int)) (hlow : F32.lt epk f32Quarter = true) :
    let y := (c.catchDecide t rpm epk v).viewSync t
    y.ad.st = .align ∧ y.ad.since = t ∧ y.ad.sector = 0 ∧ y.ad.brakeRound = 0 ∧ y.ad.catchRes = 2 ∧
    y.ad.catches = satInc c.ad.catches := by
  have hres : catchResult (c.af 0x3401 0 16) 0 = 2 := by
    rw [catchResult, if_neg (by omega), if_pos (by omega)]
  have hcheck : decide ((c.af 0x3401 0 16 : Int) ≤ 20 * (0 : Int).natAbs) = false := decide_eq_false (by omega)
  have halign : c.catchDecide t rpm epk v = (c.caught 0 2 0).adAlign t :=
    catchDecide_eq c t rpm epk v (if_pos hlow) hres hcheck
  have had := caught_ad c 0 2 0
  intro y
  rw [show y = _ from congrArg (·.viewSync t) halign, viewSync_ad]
  exact ⟨rfl, rfl, rfl, rfl, congrArg Ad.catchRes had, congrArg Ad.catches had⟩

section Spinning
variable {rpm} (hlow : F32.lt epk f32Quarter = false) (hfast : (c.af 0x3401 0 16 : Int) ≤ 20 * rpm)
include hlow hfast

/-- Forward from 5 % of NMAX on, KE is checked and the result is SPINNING (R211, R212). -/
theorem catchDecide_of_fast : let d := c.caught rpm 1 (keRegister (measuredKe epk rpm))
    c.catchDecide t rpm epk v =
      if c.keFails (measuredKe epk rpm) then d.adKeFault t else d.adSync t rpm.toNat v := by
  have hcheck : decide ((c.af 0x3401 0 16 : Int) ≤ 20 * rpm.natAbs) = true := decide_eq_true (by omega)
  exact catchDecide_eq c t rpm epk v (if_neg (by rw [hlow]; decide)) (if_pos hfast) hcheck

/-- With the KE of the motor the drive synchronises directly (R213). -/
theorem catchDecide_spinning (hke : c.keFails (measuredKe epk rpm) = false) :
    let y := (c.catchDecide t rpm epk v).viewSync t
    y.ad.st = .run ∧ y.ad.fresh = true ∧ y.ad.catchRes = 1 ∧ y.ad.brakeRound = 0 := by
  intro y
  have hsync := (catchDecide_of_fast c t epk v hlow hfast).trans (if_neg (by rw [hke]; decide))
  rw [show y = _ from congrArg (·.viewSync t) hsync, viewSync_ad]
  exact ⟨rfl, rfl, congrArg Ad.catchRes (caught_ad c rpm 1 _), rfl⟩

/-- With another KE the drive faults: a demagnetised or a wrong motor (R212). -/
theorem catchDecide_wrongKe (hke : c.keFails (measuredKe epk rpm) = true) :
    let y := (c.catchDecide t rpm epk v).viewSync t
    y.ad.st = .fault ∧ y.ad.lastFault = 2 ∧ y.ad.keFaults = satInc c.ad.keFaults ∧
    y.fcl.raised.contains (19, 0) = true := by
  intro y
  have hfault := (catchDecide_of_fast c t epk v hlow hfast).trans (if_pos hke)
  have hcount : (c.caught rpm 1 (keRegister (measuredKe epk rpm))).ad.keFaults = c.ad.keFaults := by rw [caught_ad]
  rw [show y = _ from congrArg (·.viewSync t) hfault, viewSync_ad, viewSync_fcl, Channel.adKeFault, adFault_ad,
    adIdle_ad]
  exact ⟨rfl, rfl, congrArg satInc hcount, List.contains_iff_mem.mpr (adFault_raises ..)⟩

end Spinning

/-- Backward from 1 % of NMAX on, below the KE check: BRAKE, or FAULT once the rounds are used up (R211, R215). -/
theorem catchDecide_reverse (hlow : F32.lt epk f32Quarter = false) (hback : 100 * rpm ≤ -(c.af 0x3401 0 16 : Int))
    (hslow : 20 * rpm.natAbs < (c.af 0x3401 0 16 : Int).toNat) : let y := (c.catchDecide t rpm epk v).viewSync t
    y.ad.catchRes = 3 ∧ (c.ad.brakeRound.toNat < c.af 0x3402 24 4 → y.ad.st = .brake ∧ y.ad.since = t) ∧
    (c.af 0x3402 24 4 ≤ c.ad.brakeRound.toNat → y.ad.st = .fault ∧ y.ad.lastFault = 3) := by
  have hres : catchResult (c.af 0x3401 0 16) rpm = 3 := by
    rw [catchResult, if_neg (by omega), if_neg (by omega)]
  have hcheck : decide ((c.af 0x3401 0 16 : Int) ≤ 20 * rpm.natAbs) = false := decide_eq_false (by omega)
  have hbrake : c.catchDecide t rpm epk v = (c.caught rpm 3 0).adBrake t :=
    catchDecide_eq c t rpm epk v (if_neg (by rw [hlow]; decide)) hres hcheck
  have hround : (c.caught rpm 3 0).ad.brakeRound = c.ad.brakeRound := by rw [caught_ad]
  have hres' : (c.caught rpm 3 0).ad.catchRes = 3 := by rw [caught_ad]
  have hrounds : (c.caught rpm 3 0).af 0x3402 24 4 = c.af 0x3402 24 4 :=
    congrArg (fld · 24 4) (caught_getA ..)
  intro y
  rw [show y = _ from congrArg (·.viewSync t) hbrake, viewSync_ad, Channel.adBrake, hround, hrounds]
  split
  · rename_i hused
    rw [adFault_ad, adIdle_ad]
    exact ⟨hres', fun hleft => absurd hused (Nat.not_le.mpr hleft), fun _ => ⟨rfl, rfl⟩⟩
  · rename_i hleft
    exact ⟨hres', fun _ => ⟨rfl, rfl⟩, fun hused => absurd hused hleft⟩

end Decision

section Events
variable {s : State} {l : At} {P : Channel → Prop}

/-- A catch window is decided on the channel with its mark, and the view follows (R206, R210). -/
theorem chGets_catchDecision (us vs : List (BitVec 12)) (ws : List (BitVec 12 × BitVec 12))
    (hrel : (s.ch l.ch).released = true) (hst : (s.ch l.ch).ad.st = .catch)
    (hat : (s.ch l.ch).ad.since + tclk 1002000 ≤ l.t) (hreq : (s.ch l.ch).reqFalls l.t = false)
    (hP : ∀ m, let c := s.ch l.ch
      let x := c.catchMeasure (catchSamples us vs ws)
      P (((c.marked m).catchDecide l.t x.1 x.2.1 x.2.2).viewSync l.t)) :
    s.chGets (.catchDecision l us vs ws) l.ch P := by
  obtain ⟨m, hm⟩ := adMark_eq (s.ch l.ch) l.t
  refine chGets_when (i := .catchDecision l us vs ws) rfl ?_ ?_
  · simp only [Bool.and_eq_true, beq_iff_eq, decide_eq_true_eq, Bool.not_eq_true']
    exact ⟨⟨⟨hrel, hst⟩, hat⟩, hreq⟩
  · dsimp only
    rw [hm]
    exact hP m

/-- BRAKE ends in CATCH with its round counted (R215). -/
theorem markedCatch_counts (c : Channel) (t : Nat) : let x := (c.adMark t).adCatch t
    x.ad.st = .catch ∧ x.ad.since = t ∧ satInc x.ad.brakeRound = satInc c.ad.brakeRound := by
  obtain ⟨m, hm⟩ := adMark_eq c t
  rw [hm]
  exact ⟨rfl, rfl, rfl⟩

/-- The six sector times with which START begins: free values (R214). -/
def State.sectorTimes (s : State) : List F32 :=
  (List.range 6).map fun i => F32.ofInt (Config.freeWord (s.freeCtr + i)).toNat

theorem sectorTimes_length (s : State) : s.sectorTimes.length = 6 := (List.length_map ..).trans List.length_range

theorem alignTElapsed_begins (hrel : (s.ch l.ch).released = true) (hst : (s.ch l.ch).ad.st = .align)
    (hat : (s.ch l.ch).ad.since + msec ((s.ch l.ch).af 0x3402 0 8) ≤ l.t) (hreq : (s.ch l.ch).reqFalls l.t = false) :
    exec (.alignTElapsed l) s =
      .next { s.setCh l.ch ((s.ch l.ch).adBegin l.t s.sectorTimes) with freeCtr := s.freeCtr + 6 } := by
  refine Eq.trans (b := execAlignTElapsed l s) rfl (if_pos ?_)
  simp only [Bool.and_eq_true, beq_iff_eq, decide_eq_true_eq, Bool.not_eq_true']
  exact ⟨⟨⟨hrel, hst⟩, hat⟩, hreq⟩

theorem alignTElapsed_of_reqFalls (hreq : (s.ch l.ch).reqFalls l.t = true) : exec (.alignTElapsed l) s = .next s := by
  refine Eq.trans (b := execAlignTElapsed l s) rfl (if_neg ?_)
  simp [hreq]

end Events

/-- Settles O29: the decision of a window by its measurement, then each elapsed time, then the rows that a falling
RUN_REQ governs. -/
theorem pumpStartCourse : Obligations.PumpStartCourse := by
  unfold Obligations.PumpStartCourse
  intro s l us vs ws hrel c smp rpm epk nmax ke
  refine ⟨fun hreq => ⟨fun hst hat => ?_, fun hst hat => ?_, fun hst hat => ?_, fun hst hover => ?_,
    fun hst hat hover => ?_⟩, fun hreq => ?_, fun hst hov hat => ?_⟩
  · have decides {P : Channel → Prop} := chGets_catchDecision (P := P) us vs ws hrel hst hat hreq
    exact ⟨fun hmax hlow => decides fun m => catchDecide_still ((s.ch l.ch).marked m) l.t _ _ _ hmax hlow,
      fun hlow hfast hke => decides fun m => catchDecide_spinning ((s.ch l.ch).marked m) l.t _ _ hlow hfast hke,
      fun hlow hfast hke => decides fun m => catchDecide_wrongKe ((s.ch l.ch).marked m) l.t _ _ hlow hfast hke,
      fun hlow hback hslow => decides fun m => catchDecide_reverse ((s.ch l.ch).marked m) l.t _ _ _ hlow hback hslow⟩
  · refine chGets_when (i := .brakeTElapsed l) rfl ?_ (markedCatch_counts c l.t)
    simp only [Bool.and_eq_true, beq_iff_eq, decide_eq_true_eq, Bool.not_eq_true']
    exact ⟨⟨⟨hrel, hst⟩, hat⟩, hreq⟩
  · exact ⟨_, alignTElapsed_begins hrel hst hat hreq, rfl, rfl, rfl, sectorTimes_length s, rfl⟩
  · have hgoverns : (s.ch l.ch).handsOver l.t = true := hover
    exact chGets_skip (i := .startTmaxElapsed l) rfl (by simp [hgoverns]) rfl
  · refine chGets_when (i := .startTmaxElapsed l) rfl ?_ (markedFailure_leaves (s.ch l.ch) l.t)
    simp only [Bool.and_eq_true, beq_iff_eq, decide_eq_true_eq, Bool.not_eq_true']
    exact ⟨⟨⟨⟨hrel, hst⟩, hat⟩, hreq⟩, hover⟩
  · have hgoverns : (s.ch l.ch).reqFalls l.t = true := hreq
    exact ⟨chGets_skip (i := .catchDecision l us vs ws) rfl (by simp [hgoverns]) rfl,
      chGets_skip (i := .brakeTElapsed l) rfl (by simp [hgoverns]) rfl, alignTElapsed_of_reqFalls hreq,
      chGets_skip (i := .startTmaxElapsed l) rfl (by simp [hgoverns]) rfl⟩
  · refine chGets_when (i := .coastElapsed l) rfl ?_ ⟨rfl, rfl⟩
    simp only [Bool.and_eq_true, beq_iff_eq, decide_eq_true_eq, Bool.not_eq_true']
    exact ⟨⟨⟨hrel, hst⟩, hov⟩, hat⟩

end Sys2Proof.Machine
end

section
/-! PROOF. SafeStopRunsItsCourse (O41): the course of SAFE_STOP at standstill and after it, and a 4 kHz period start by
what it asks of the pump and of the pressure demands (R217, R346, R347). -/

namespace Sys2Proof.Machine

-- One proof after another: with each in a thread of its own the joined text nears the check's memory limit.
set_option Elab.async false

section Course
variable (c : Channel) (t : Nat)

/-- A stop that is not yet held is held from the instant of HELD on (R346). -/
theorem toLevel_holds {x : SafeStop} (hstop : c.rd.stop = some x) (hheld : x.heldAt = none) :
    (c.toLevel t 4).rd = { c.rd with level := 4, stop := some { x with heldAt := some t } } := by
  obtain ⟨seq, jobs, busy, log, pct, h⟩ := setLevel_eq c t 4
  rw [Channel.toLevel, h]
  simp [Channel.stopCourse, hstop, hheld]

/-- Two registers take the firmware's demands, and every other keeps its own (R346). -/
theorem writeDemand_pair (p1 p2 : Fin 64) (v1 v2 : F32) : let y := (c.writeDemand p1 v1 true).writeDemand p2 v2 true
    (p1 ≠ p2 ∨ v1 = v2 → y.ce.demCore[p1] = ⟨v1, true⟩) ∧ y.ce.demCore[p2] = ⟨v2, true⟩ ∧
    ∀ k, k ≠ p1 → k ≠ p2 → y.ce.demCore[k] = c.ce.demCore[k] := by
  simp only [Channel.writeDemand, Fin.getElem_fin]
  refine ⟨fun h => ?_, Vector.getElem_set_self .., fun k h1 h2 => ?_⟩
  · by_cases he : p1 = p2
    · subst he
      rw [Vector.getElem_set_self, h.resolve_left fun hne => hne rfl]
    · rw [Vector.getElem_set_ne _ _ fun e => he (Fin.ext e.symm), Vector.getElem_set_self]
  · rw [Vector.getElem_set_ne _ _ fun e => h2 (Fin.ext e.symm), Vector.getElem_set_ne _ _ fun e => h1 (Fin.ext e.symm)]

end Course

section Period
variable (c : Channel) (t : Nat)

/-- The start of a 4 kHz period is noted: its command is taken once (R125). -/
def Channel.at4kStart (c : Channel) (t : Nat) : Channel := { c with ce := { c.ce with at4k := some t } }

/-- Without an input the drive follows INVALID, marks its input and raises AD_IN (R217). -/
theorem adCommand_of_noInput (hsrc : fld (c.getA 0x3404) 0 8 = 0xFF) : let y := c.adCommand t
    y.ad.st = c.ad.st ∧ y.ad.inputInvalid = true ∧ y.ad.runReq = F32.lt 0 (c.getA 0x3413) ∧
    (20, 0) ∈ y.fcl.raised := by
  unfold Channel.adCommand
  extract_lets cfg src x speed inv up req nL target step n _ d y
  have hx : x = (0, false) := if_pos hsrc
  have hreq : req = F32.lt 0 inv := by simp only [req, hx, Bool.false_eq_true, if_false]
  have hinvalid : d.ad.inputInvalid = true := by simp only [d, hx, Bool.not_false]
  have hrun : d.ad.runReq = req := rfl
  have hst : d.ad.st = c.ad.st := rfl
  clear_value d
  rw [show y = d.raise 20 from if_neg (by rw [hx]; decide), raise_ad]
  exact ⟨hst, hinvalid, hrun.trans hreq, raise_self d 20 0⟩

/-- A drive that is OFF takes the command of a period start and does nothing on it (R206, R218). -/
theorem adClass4k_of_off (h : (c.adCommand t).ad.st = .off) : c.adClass4k t = c.adCommand t := by
  have hfollow : (c.adCommand t).adFollow t = c.adCommand t := by simp [Channel.adFollow, h]
  rw [Channel.adClass4k, hfollow, Channel.adRegulate, h]
  rfl

/-- A period start's own step is the pump's: the demands and the standstill leave it alone. -/
theorem class4k_part_of_pump {pt : Part} (hpt : pt ≠ .ce ∧ pt ≠ .rd) :
    (c.class4k t).part pt = (c.adClass4k t).part pt := by simp [Channel.class4k, hpt]

/-- The standstill judgement after the pump's step writes its own history alone (R346, R347). -/
theorem stillStep_of_class4k (v : Option F32) : let e := (c.adClass4k t).stillStep t v
    (∃ since speeds, e.rd = { c.rd with still := since, speeds := speeds }) ∧ e.ce = c.ce ∧ e.act = c.act ∧
    e.exe = c.exe := by
  intro e
  have hrd : (c.adClass4k t).rd = c.rd := adClass4k_part (pt := .rd) c t (by decide)
  have part {pt : Part} (hpt : pt ≠ .ad ∧ pt ≠ .gd ∧ pt ≠ .fcl ∧ pt ≠ .rd) : e.part pt = c.part pt := by
    simp [e, hpt]
  refine ⟨?_, part (pt := .ce) (by decide), part (pt := .act) (by decide), part (pt := .exe) (by decide)⟩
  simp only [e, Channel.stillStep, hrd]
  exact ⟨_, _, rfl⟩

/-- Outside SAFE_STOP a period start leaves demands and level alone (R346). -/
theorem class4k_of_noStop (h : c.rd.stop = none) : let y := c.class4k t
    y.ce = c.ce ∧ y.rd.stop = none ∧ y.rd.level = c.rd.level := by
  intro y
  obtain ⟨⟨since, speeds, hrd⟩, hce, -, -⟩ := stillStep_of_class4k c t ((c.adClass4k t).meanSpeed t)
  have hy : y = (c.adClass4k t).stillStep t ((c.adClass4k t).meanSpeed t) := by
    simp only [y, Channel.class4k, Channel.stopStep, hrd, h, ite_self]
  rw [hy, hce, hrd]
  exact ⟨rfl, h, rfl⟩

/-- The channel with the pressure demands of a deceleration integral written (R346). -/
def Channel.demanded (c : Channel) (integ : F32) : Channel :=
  (c.writeDemand (Fin.ofNat 64 (c.af 0x4402 6 6)) (c.stopDemand 0 integ) true).writeDemand
    (Fin.ofNat 64 (c.af 0x4402 12 6)) (c.stopDemand 1 integ) true

theorem demanded_ce_congr {e : Channel} (hce : e.ce = c.ce) (hact : e.act = c.act) (hfaults : e.rd.faults = c.rd.faults)
    (integ : F32) : (e.demanded integ).ce = (c.demanded integ).ce := by
  simp only [Channel.demanded, Channel.writeDemand, Channel.stopDemand, Channel.af, Channel.getA, hce, hact, hfaults]

variable {x : SafeStop} (hstop : c.rd.stop = some x) (hheld : x.heldAt = none) (hlevel : c.rd.level = 3)
include hstop hheld hlevel

/-- In SAFE_STOP the integral takes a step and the demands follow it (R346). -/
theorem stopStep_of_active (v : Option F32) : ∃ integ, c.stopStep v =
    ({ c with rd := { c.rd with stop := some { x with integ := integ } } } : Channel).demanded integ := by
  simp only [Channel.stopStep, hstop, hheld, hlevel, Option.isSome_none, bne_self_eq_false, Bool.or_false]
  exact ⟨_, rfl⟩

theorem class4k_of_active (hruns : c.halted = false) : ∃ integ, (c.class4k t).ce = (c.demanded integ).ce ∧
    (c.class4k t).rd.stop = some { x with integ := integ } := by
  obtain ⟨⟨since, speeds, hrd⟩, hce, hact, hexe⟩ := stillStep_of_class4k c t ((c.adClass4k t).meanSpeed t)
  have hy : c.class4k t = _ := if_neg (by rw [Channel.halted, hexe, ← Channel.halted, hruns]; decide)
  obtain ⟨integ, h⟩ := stopStep_of_active ((c.adClass4k t).stillStep t ((c.adClass4k t).meanSpeed t)) (x := x)
    (by rw [hrd]; exact hstop) hheld (by rw [hrd]; exact hlevel) ((c.adClass4k t).meanSpeed t)
  generalize (c.adClass4k t).stillStep t ((c.adClass4k t).meanSpeed t) = e at *
  refine ⟨integ, ?_, ?_⟩
  · rw [hy, h]
    exact demanded_ce_congr c hce hact (by rw [hrd]) integ
  · rw [hy, h]
    rfl

end Period

section Due
variable {s : State} {l : At} {P : Channel → Prop}

/-- A 4 kHz period start that a running core has not taken yet (R125). -/
theorem chGets_class4khzPeriod (hrun : (s.ch l.ch).running = true) (upset : Bool)
    (hcls : (s.ch l.ch).ce.clsAt[1] = some l.t) (hat : (s.ch l.ch).ce.at4k ≠ some l.t)
    (hP : P (if upset then ((s.ch l.ch).raise 17).beginIsolate l.t
      else ((s.ch l.ch).at4kStart l.t).class4k l.t)) : s.chGets (.class4khzPeriod ⟨l, upset⟩) l.ch P := by
  refine chGets_when (i := .class4khzPeriod ⟨l, upset⟩) rfl ?_ hP
  simp only [Channel.running, Bool.and_eq_true] at hrun
  obtain ⟨⟨hrel, -⟩, hdoze⟩ := hrun
  rw [hrel, hdoze, hcls, bne_iff_ne.mpr hat]
  simp

theorem chGets_heldPressureRelease {x : SafeStop} {h : Nat} (hrun : (s.ch l.ch).running = true)
    (hstop : (s.ch l.ch).rd.stop = some x) (hzero : x.zeroed = false) (hheld : x.heldAt = some h)
    (hat : h + msec 500 ≤ l.t) (hP : P ((s.ch l.ch).releasePressure x)) : s.chGets (.heldPressureRelease l) l.ch P := by
  refine ⟨_, ?_, hP⟩
  change execHeldPressureRelease l s = _
  simp [execHeldPressureRelease, onCh, hstop, hrun, hzero, hheld, hat]

theorem setCh_ch (s : State) (k : Ch) : s.setCh k (s.ch k) = s := by cases k <;> rfl

/-- Without a stop in course nothing is released. -/
theorem chGets_heldPressureRelease_of_noStop (hstop : (s.ch l.ch).rd.stop = none) (hP : P (s.ch l.ch)) :
    s.chGets (.heldPressureRelease l) l.ch P := by
  refine ⟨_, ?_, hP⟩
  change execHeldPressureRelease l s = _
  simp only [execHeldPressureRelease, hstop, setCh_ch]

end Due

/-- Settles O41: the standstill and the release by their instants, then a 4 kHz period start by its two evaluations, by
its pump, and by its stop. -/
theorem safeStopRunsItsCourse : Obligations.SafeStopRunsItsCourse := by
  unfold Obligations.SafeStopRunsItsCourse
  intro s l hrun c p1 p2
  refine ⟨fun hrole hlevel hstop hstill => ?_, fun hlevel => ?_, fun x h hstop hzero hheld hat => ?_, fun hstop => ?_,
    fun hcls hat => chGets_class4khzPeriod hrun true hcls hat (compare_isolates c l.t (by decide) (by decide)),
    fun hrests upset => ?_, fun hcls hat hstop => chGets_class4khzPeriod hrun false hcls hat ?_,
    fun hcls hat hoff hsrc => chGets_class4khzPeriod hrun false hcls hat ?_,
    fun x hcls hat hstop hheld hlevel hruns hoff hne => chGets_class4khzPeriod hrun false hcls hat ?_⟩
  · obtain ⟨x, hx, hheld⟩ := hstop
    obtain ⟨a, ha, hlate⟩ := hstill
    refine chGets_when (i := .standstillHeld l) rfl ?_ ?_
    · simp only [Bool.and_eq_true, Bool.or_eq_true, beq_iff_eq]
      refine ⟨⟨⟨⟨hrun, hrole⟩, hlevel⟩, ?_⟩, ?_⟩
      · rw [show (s.ch l.ch).rd.stop = some x from hx]; rfl
      · rw [show (s.ch l.ch).rd.still = some a from ha]; exact decide_eq_true hlate
    · rw [toLevel_holds (s.ch l.ch) l.t hx hheld]
      exact ⟨rfl, rfl, _, rfl, rfl⟩
  · refine chGets_skip (i := .standstillHeld l) rfl ?_ rfl
    rw [show ((s.ch l.ch).rd.level == 3) = false from beq_false_of_ne hlevel]
    simp
  · obtain ⟨h1, h2, hrest⟩ := writeDemand_pair c p1 p2 0 0
    exact chGets_heldPressureRelease hrun hstop hzero hheld hat ⟨h1 (.inr rfl), h2, rfl, hrest⟩
  · exact chGets_heldPressureRelease_of_noStop hstop rfl
  · refine chGets_skip (i := .class4khzPeriod ⟨l, upset⟩) rfl ?_ rfl
    rcases hrests with hcls | hat
    · rw [show ((s.ch l.ch).ce.clsAt[1] == some l.t) = false from beq_false_of_ne hcls]
      simp
    · rw [show (s.ch l.ch).ce.at4k = some l.t from hat]
      simp
  · obtain ⟨hce, hnone, hlevel⟩ := class4k_of_noStop (c.at4kStart l.t) l.t hstop
    rw [if_neg Bool.false_ne_true, hce]
    exact ⟨rfl, hnone, hlevel⟩
  · obtain ⟨hst, hinvalid, hreq, hline⟩ := adCommand_of_noInput (c.at4kStart l.t) l.t hsrc
    have hclass := adClass4k_of_off (c.at4kStart l.t) l.t (hst.trans hoff)
    have had := class4k_part_of_pump (pt := .ad) (c.at4kStart l.t) l.t (by decide)
    have hfcl := class4k_part_of_pump (pt := .fcl) (c.at4kStart l.t) l.t (by decide)
    rw [hclass] at had hfcl
    simp only [Channel.part] at had hfcl
    rw [if_neg Bool.false_ne_true, had, hfcl]
    exact ⟨hst.trans hoff, hinvalid, hreq, List.contains_iff_mem.mpr hline⟩
  · obtain ⟨integ, hce, hstop'⟩ := class4k_of_active (c.at4kStart l.t) l.t hstop hheld hlevel hruns
    obtain ⟨h1, h2, hrest⟩ := writeDemand_pair (c.at4kStart l.t) p1 p2 (c.stopDemand 0 integ) (c.stopDemand 1 integ)
    rw [if_neg Bool.false_ne_true, hce]
    exact ⟨_, hstop', hheld, h1 (.inl hne), h2, hrest⟩

end Sys2Proof.Machine
end

section
/-! PROOF. LegsLatchTheirFaults (O18): which transition times are valid and what one moves, what a trip latches, and
what the reports of the die leave of a leg (R232 to R239, R242). -/

namespace Sys2Proof.Machine

-- One proof after another: with each in a thread of its own the joined text nears the check's memory limit.
set_option Elab.async false

section Transition
variable {c : Channel} {t : Nat} {k : Fin 6}

/-- The command to which a transition belongs came before its first crossing (R232). -/
theorem ownerGate_begins {n : Nat} {g : GateCode} {a : Nat} (h : c.ownerGate t k n = some (g, a)) :
    1000 * a + 625 * n ≤ 1000 * t := by
  unfold Channel.ownerGate at h
  dsimp only at h
  split at h
  · rename_i hoff
    cases h
    exact of_decide_eq_true (Bool.and_eq_true_iff.mp hoff).1
  · split at h
    · rename_i hon
      cases h
      exact of_decide_eq_true (Bool.and_eq_true_iff.mp hon).2
    · cases h

/-- A valid transition time is one of 2 µs at most: 3,200 steps (R232). -/
theorem validTsw_steps {gate : GateCode} {n : Nat} (h : c.validTsw t k gate n = true) : n ≤ 3200 := by
  unfold Channel.validTsw at h
  split at h
  · rename_i g a howner
    have hbegins := ownerGate_begins howner
    have hlate : t ≤ a + 2000 := of_decide_eq_true (Bool.and_eq_true_iff.mp h).2
    omega
  · cases h

/-- A leg with a transition time of one direction (R232, R254). -/
def Leg.timed (x : Leg) (dir : TswDir) (n : Nat) : Leg :=
  if dir = .rise then { x with rise := BitVec.ofNat 16 n } else { x with fall := BitVec.ofNat 16 n }

/-- A leg with the code of one gate and direction moved (R233). -/
def Leg.moved (x : Leg) (gate : GateCode) (mv : BitVec 5 → BitVec 5) : Leg :=
  match gate with
  | .hsOn => { x with codeHsOn := mv x.codeHsOn }
  | .hsOff => { x with codeHsOff := mv x.codeHsOff }
  | .lsOn => { x with codeLsOn := mv x.codeLsOn }
  | .lsOff => { x with codeLsOff := mv x.codeLsOff }

theorem timed_codeHsOn (x : Leg) (dir : TswDir) (n : Nat) : (x.timed dir n).codeHsOn = x.codeHsOn := by
  cases dir <;> rfl

theorem moved_times (x : Leg) (gate : GateCode) (mv : BitVec 5 → BitVec 5) :
    (x.moved gate mv).rise = x.rise ∧ (x.moved gate mv).fall = x.fall := by
  cases gate <;> exact ⟨rfl, rfl⟩

theorem moved_codeHsOn (x : Leg) {gate : GateCode} (h : gate ≠ .hsOn) (mv : BitVec 5 → BitVec 5) :
    (x.moved gate mv).codeHsOn = x.codeHsOn := by
  cases gate with
  | hsOn => exact absurd rfl h
  | hsOff | lsOn | lsOff => rfl

/-- A valid transition times its leg and, with ADAPT, moves the code to which it belongs (R232, R233). -/
theorem transition_leg (c : Channel) (k : Fin 6) (dir : TswDir) (gate : GateCode) (n : Nat) :
    (c.transition k dir gate n).gd.legs[k] =
      if c.gdf (legBase k) 9 1 = 0 then (c.gd.legs[k]).timed dir n
      else ((c.gd.legs[k]).timed dir n).moved gate fun code =>
        moveCode code n (c.gdf (legBase k) 0 9) (c.gdf (legBase k) 15 5) (c.gdf (legBase k) 20 5) := by
  have hcount {d : Channel} {x : Leg} (hd : d.gd.legs[k] = x) (old new : BitVec 5) :
      (if old < new then d.bump 5 0 else if new < old then d.bump 5 1 else d).gd.legs[k] = x := by
    have hbump (i : Nat) : (d.bump 5 i).gd.legs[k] = x :=
      (congrArg (fun g : Gd => g.legs[k]) (bump_part (pt := .gd) d 5 i 1 (by decide))).trans hd
    split
    · exact hbump 0
    · split
      · exact hbump 1
      · exact hd
  unfold Channel.transition
  extract_lets x time y b
  split
  · exact setLeg_leg ..
  · cases gate <;> exact hcount (setLeg_leg ..) _ _

/-- What a valid transition leaves of its leg (R232, R233, R254). -/
theorem transition_times (dir : TswDir) {gate : GateCode} {n : Nat} (hn : n < 2 ^ 16) :
    let x := c.gd.legs[k]
    let y := (c.transition k dir gate n).gd.legs[k]
    (dir = .rise → y.rise.toNat = n ∧ y.fall = x.fall) ∧ (dir = .fall → y.fall.toNat = n ∧ y.rise = x.rise) := by
  intro x y
  have hy : y.rise = (x.timed dir n).rise ∧ y.fall = (x.timed dir n).fall := by
    rw [show y = _ from transition_leg c k dir gate n]
    split
    · exact ⟨rfl, rfl⟩
    · exact moved_times _ gate _
  rw [hy.1, hy.2]
  have hsteps : (BitVec.ofNat 16 n).toNat = n := by rw [BitVec.toNat_ofNat]; exact Nat.mod_eq_of_lt hn
  cases dir with
  | rise => exact ⟨fun _ => ⟨hsteps, rfl⟩, nofun⟩
  | fall => exact ⟨nofun, fun _ => ⟨hsteps, rfl⟩⟩

end Transition

section Trip
variable (c : Channel) (t : Nat) (k : Fin 6)

/-- A trip latched on its leg and flagged to the engine of its group (R236, R237). -/
def Channel.latched : Channel :=
  let d := c.setLeg k { softOff c.gd.legs[k] t with trip := true, scTrips := satInc (c.gd.legs[k]).scTrips }
  d.setGrp (grpOf k) { d.grp (grpOf k) with tripFlag := true }

/-- A trip against the first one of the die: a second one within 1 µs starts the double-short sequence (R239). -/
def Channel.sequenced : Channel :=
  match c.gd.firstTrip with
  | some f =>
    if t ≤ f + 1000 then
      let d := c.setGrp .steer { c.grp .steer with sc2 := true, sc2Flag := true }
      let d := d.setGrp .aux { d.grp .aux with sc2 := true, sc2Flag := true }
      if d.gd.dsNext.isNone then { d with gd := { d.gd with dsNext := some 0, dsAt := t + 100 } } else d
    else { c with gd := { c.gd with firstTrip := some t } }
  | none => { c with gd := { c.gd with firstTrip := some t } }

variable {c k}

theorem shortTrip_of_tripped (h : (c.gd.legs[k]).trip = true) : c.shortTrip t k = c := if_pos h

theorem shortTrip_of_fresh (h : (c.gd.legs[k]).trip = false) : c.shortTrip t k = (c.latched t k).sequenced t :=
  if_neg (by rw [h]; decide)

theorem latched_leg : (c.latched t k).gd.legs[k] =
    { softOff c.gd.legs[k] t with trip := true, scTrips := satInc (c.gd.legs[k]).scTrips } := by
  unfold Channel.latched
  dsimp only
  rw [setGrp_legs]
  exact setLeg_leg ..

theorem latched_tripFlag : ((c.latched t k).grp (grpOf k)).tripFlag = true :=
  congrArg GdGrp.tripFlag (grp_setGrp ..)

theorem latched_firstTrip : (c.latched t k).gd.firstTrip = c.gd.firstTrip := by
  unfold Channel.latched
  cases grpOf k <;> rfl

/-- What follows a trip leaves the legs and the flags of the trips alone (R239). -/
theorem sequenced_keeps (c : Channel) (g : Grp) :
    (c.sequenced t).gd.legs = c.gd.legs ∧ ((c.sequenced t).grp g).tripFlag = (c.grp g).tripFlag := by
  unfold Channel.sequenced
  dsimp only
  (repeat' split) <;> cases g <;> exact ⟨rfl, rfl⟩

/-- A second trip within 1 µs is a double short of both groups (R239). -/
theorem sequenced_sc2 {f : Nat} (hf : c.gd.firstTrip = some f) (ht : t ≤ f + 1000) :
    ((c.sequenced t).grp .steer).sc2 = true ∧ ((c.sequenced t).grp .aux).sc2 = true := by
  unfold Channel.sequenced
  simp only [hf, if_pos ht]
  split <;> exact ⟨rfl, rfl⟩

/-- A gate that is on begins its soft turn-off at its first level (R236). -/
theorem softOff_of_on {x : Leg} (hon : x.isOn t = true) (hsto : x.sto = .none) :
    softOff x t = { x with sto := .level, stoAt := t } := by
  unfold softOff
  rw [if_neg (by rw [hsto]; decide), if_pos hon]

/-- The first trip of a leg (R236, R237, R239). -/
theorem shortTrip_latches (h : (c.gd.legs[k]).trip = false) :
    let x := c.gd.legs[k]
    let y := c.shortTrip t k
    (y.gd.legs[k]).trip = true ∧ (y.gd.legs[k]).scTrips = satInc x.scTrips ∧ (y.grp (grpOf k)).tripFlag = true ∧
      (x.isOn t = true → x.sto = .none → (y.gd.legs[k]).sto = .level ∧ (y.gd.legs[k]).stoAt = t) ∧
      (∀ f, c.gd.firstTrip = some f → t ≤ f + 1000 → (y.grp .steer).sc2 = true ∧ (y.grp .aux).sc2 = true) := by
  intro x y
  obtain ⟨hlegs, hflag⟩ := sequenced_keeps t (c.latched t k) (grpOf k)
  rw [show y = _ from shortTrip_of_fresh t h, hlegs, latched_leg, hflag]
  refine ⟨rfl, rfl, latched_tripFlag t, fun hon hsto => ?_, fun f hf ht =>
    sequenced_sc2 t ((latched_firstTrip t).trans hf) ht⟩
  rw [softOff_of_on t hon hsto]
  exact ⟨rfl, rfl⟩

/-- Within blanking DIDT alone trips, at three times its threshold (R234, R238). -/
theorem tripsShort_of_blanked {d v : Nat} (h : c.blanked t k = true) :
    c.tripsShort t k d v = decide (150 * c.gdf (legBase k + 1) 0 6 < d) := by
  unfold Channel.tripsShort
  dsimp only
  rw [h, if_pos rfl, Bool.not_true, Bool.false_and, Bool.false_and, Bool.or_false, ← Nat.mul_assoc]

/-- After blanking DIDT trips at its threshold, and VDS of the gate that is on at its own (R234, R238). -/
theorem tripsShort_of_open {d v : Nat} (h : c.blanked t k = false) (hon : (c.gd.legs[k]).isOn t = true) :
    c.tripsShort t k d v = (decide (50 * c.gdf (legBase k + 1) 0 6 < d) ||
      decide (100 * c.gdf (legBase k + 1) 13 7 < v)) := by
  unfold Channel.tripsShort
  dsimp only
  rw [h, hon, if_neg Bool.false_ne_true, Bool.not_false, Bool.true_and, Bool.true_and]

/-- After its hold the gate is sunk to off (R236). -/
theorem stoEnd_of_held (hsto : (c.gd.legs[k]).sto = .level)
    (hat : (c.gd.legs[k]).stoAt + 10 * c.gdf (grpBase (grpOf k) + 1) 4 8 ≤ t) :
    c.stoEnd t k = c.setLeg k { c.gd.legs[k] with
      sto := .none, hs := false, ls := false, offAt := t, offHs := (c.gd.legs[k]).hs
      lastOn := some (c.gd.legs[k]).onAt } := by
  unfold Channel.stoEnd
  rw [if_pos]
  rw [hsto]
  exact decide_eq_true hat

end Trip

section Report
variable (c : Channel) (t : Nat)

/-- An operation that turns no gate of a leg on and keeps the gate-fault latches. -/
def Channel.Lowers (c y : Channel) : Prop := ∀ k : Fin 6, (y.gd.legs[k]).gate = (c.gd.legs[k]).gate ∧
  ((c.gd.legs[k]).hs = false → (y.gd.legs[k]).hs = false) ∧ ((c.gd.legs[k]).ls = false → (y.gd.legs[k]).ls = false)

theorem Channel.Lowers.trans {c y z : Channel} (h : c.Lowers y) (h' : y.Lowers z) : c.Lowers z := fun k =>
  have ⟨hg, hh, hl⟩ := h k
  have ⟨hg', hh', hl'⟩ := h' k
  ⟨hg'.trans hg, hh' ∘ hh, hl' ∘ hl⟩

theorem lowers_of_legs {c y : Channel} (h : y.gd.legs = c.gd.legs) : c.Lowers y := fun k => by
  rw [h]
  exact ⟨rfl, id, id⟩

theorem turnOff_gate (x : Leg) : (x.turnOff t).gate = x.gate := by
  unfold Leg.turnOff
  dsimp only
  split <;> rfl

/-- Lanes that fall turn off the gates of their group, but for a soft turn-off in its course (R176, R236). -/
theorem gatesOff_leg (g : Grp) (k : Fin 6) : (c.gatesOff t g).gd.legs[k] =
    if inGrp g k then
      (if (c.gd.legs[k]).sto = .none then { (c.gd.legs[k]).turnOff t with enable := false }
       else { c.gd.legs[k] with enable := false })
    else c.gd.legs[k] := by
  simp [Channel.gatesOff, Channel.mapLegs]

theorem gatesOff_lowers (g : Grp) : c.Lowers (c.gatesOff t g) := by
  intro k
  rw [gatesOff_leg]
  split
  · split
    · obtain ⟨hh, hl⟩ := turnOff_gates t c.gd.legs[k]
      exact ⟨turnOff_gate t _, fun _ => hh, fun _ => hl⟩
    · exact ⟨rfl, id, id⟩
  · exact ⟨rfl, id, id⟩

theorem adTakeBack_gd : (c.adTakeBack t).gd = c.gd := adTakeBack_part (pt := .gd) c t (by decide)

theorem endAsc_lowers : c.Lowers (c.endAsc t) := by
  unfold Channel.endAsc
  split
  · exact gatesOff_lowers c t .steer
  · exact lowers_of_legs rfl

/-- Dropped enables turn no gate on (R177, R206). -/
theorem dropGrp_lowers (g : Grp) : c.Lowers (c.dropGrp t g) := by
  unfold Channel.dropGrp
  cases g with
  | steer =>
    dsimp only
    split
    · exact gatesOff_lowers c t .steer
    · exact gatesOff_lowers c t .steer
    · exact lowers_of_legs rfl
    · exact gatesOff_lowers c t .steer
  | aux =>
    have hback : c.Lowers (c.adTakeBack t) := lowers_of_legs (congrArg Gd.legs (adTakeBack_gd c t))
    dsimp only
    split <;> exact hback.trans (gatesOff_lowers _ t .aux)

/-- Nor does a report of the die (R237). -/
theorem dieReport_lowers (g : Grp) : c.Lowers (c.dieReport t g) := by
  unfold Channel.dieReport
  cases g with
  | steer =>
    dsimp only
    split
    · exact (gatesOff_lowers c t .steer).trans (endAsc_lowers _ t)
    · split <;> exact dropGrp_lowers c t .steer
  | aux => exact dropGrp_lowers c t .aux

theorem raise_gd (l : Fin 62) (d : BitVec 16) : (c.raise l d).gd = c.gd := raise_part (pt := .gd) c l d (by decide)

theorem viewSync_gd : (c.viewSync t).gd = c.gd := viewSync_part (pt := .gd) c t (by decide)

theorem bump_gd (b i n : Nat) : (c.bump b i n).gd = c.gd := bump_part (pt := .gd) c b i n (by decide)

theorem bump_fcl (b i n : Nat) : (c.bump b i n).fcl = c.fcl := bump_part (pt := .fcl) c b i n (by decide)

variable {c} {k : Fin 6}

/-- The bootstrap supply that falls outside blanking blocks the high side (R242). -/
theorem bootstrap_blocks (hlow : (c.gd.legs[k]).bstLow = false) (hblank : c.blanked t k = false) :
    let x := c.gd.legs[k]
    let y := c.bootstrap t k true
    (y.gd.legs[k]).bstLow = true ∧ (y.gd.legs[k]).bstBlock = true ∧ (y.gd.legs[k]).bstUvCnt = satInc x.bstUvCnt ∧
      (x.sto = .none → (y.gd.legs[k]).hs = false) ∧ y.fcl.raised.contains (28, 0) = true := by
  intro x y
  let z : Leg := if x.hs && x.sto == .none then x.turnOff t else x
  have hy : y = ((c.setLeg k { z with bstLow := true, bstBlock := true, bstUvCnt := satInc x.bstUvCnt }).raise 28).bump
      5 2 := by
    simp only [y]
    unfold Channel.bootstrap
    dsimp only
    rw [if_pos rfl, if_neg (by rw [hlow, hblank]; decide)]
  rw [hy, bump_gd, raise_gd, setLeg_leg, bump_fcl]
  refine ⟨rfl, rfl, rfl, fun hsto => ?_, List.contains_iff_mem.mpr (raise_self _ 28 0)⟩
  cases hhs : x.hs with
  | true =>
    rw [show z = x.turnOff t from if_pos (by rw [hhs, hsto]; rfl)]
    exact (turnOff_gates t x).1
  | false =>
    rw [show z = x from if_neg (by rw [hhs, Bool.false_and]; exact Bool.false_ne_true)]
    exact hhs

/-- A supply that is low already, or one that is blanked, blocks nothing (R234). -/
theorem bootstrap_of_low (h : (c.gd.legs[k]).bstLow = true ∨ c.blanked t k = true) : c.bootstrap t k true = c := by
  unfold Channel.bootstrap
  dsimp only
  rw [if_pos rfl, if_pos (Bool.or_eq_true_iff.mpr h)]

end Report

/-- Settles O18: each command by what decides whether it latches. -/
theorem legsLatchTheirFaults : Obligations.LegsLatchTheirFaults := by
  unfold Obligations.LegsLatchTheirFaults
  intro s l k dir gate n d v hal c x
  have hand {b : Bool} (hb : b = true) : ((s.ch l.ch).alive && b) = true := by rw [hal, hb]; rfl
  have hnot {b : Bool} (hb : b = false) : ((s.ch l.ch).alive && b) = false := by rw [hb, Bool.and_false]
  refine ⟨fun hv => chGets_when (i := .switchTransition l k dir gate n) rfl (hand hv) ?_,
    fun hv => chGets_skip (i := .switchTransition l k dir gate n) rfl (hnot hv) rfl,
    tripsShort_of_blanked l.t, tripsShort_of_open l.t,
    fun ht hs => chGets_when (i := .shortTrip l ⟨k, d, v⟩) rfl (hand hs) (shortTrip_latches l.t ht), fun h => ?_,
    fun hsto hat => chGets_when (i := .stoHoldEnd l k.castSucc) rfl hal ?_,
    chGets_when (i := .gateFault l k) rfl hal ?_,
    fun hlow hb => chGets_when (i := .bootstrapUv l k true) rfl hal (bootstrap_blocks l.t hlow hb),
    fun h => chGets_when (i := .bootstrapUv l k true) rfl hal (bootstrap_of_low l.t h),
    chGets_when (i := .bootstrapUv l k false) rfl hal rfl⟩
  · obtain ⟨hrise, hfall⟩ := transition_times (c := c) (k := k) dir (gate := gate)
      (Nat.lt_of_le_of_lt (validTsw_steps hv) (by decide))
    refine ⟨hrise, hfall, fun hg ha => ?_, fun h => ?_⟩
    · rw [transition_leg, if_neg (by rw [ha]; decide), hg]
      exact congrArg (fun code => moveCode code n _ _ _) (timed_codeHsOn x dir n)
    · rw [transition_leg]
      split
      · exact timed_codeHsOn x dir n
      · rename_i ha
        exact (moved_codeHsOn _ (h.resolve_right ha) _).trans (timed_codeHsOn x dir n)
  · cases hs : c.tripsShort l.t k d v with
    | true =>
      exact chGets_when (i := .shortTrip l ⟨k, d, v⟩) rfl (hand hs)
        (shortTrip_of_tripped l.t (h.resolve_right (by rw [hs]; decide)))
    | false => exact chGets_skip (i := .shortTrip l ⟨k, d, v⟩) rfl (hnot hs) rfl
  · rw [dif_pos (show k.castSucc.val < 6 from k.isLt)]
    exact stoEnd_of_held l.t hsto hat
  · let f : Leg := { x.turnOff l.t with gate := true, sto := .none }
    obtain ⟨hhs, hls⟩ := turnOff_gates l.t x
    obtain ⟨hgate, hh, hl⟩ := dieReport_lowers (c.setLeg k f) l.t (grpOf k) k
    rw [setLeg_leg] at hgate hh hl
    rw [viewSync_gd, raise_gd, viewSync_fcl]
    exact ⟨hgate, hh hhs, hl hls, List.contains_iff_mem.mpr (raise_self ..)⟩

end Sys2Proof.Machine
end

section
/-! PROOF. GateGroupsFollowTheDie (O19): what a report of the die leaves of the drives and of the raised lines, the
double-short sequence gate by gate, the short report of one or of both groups, and the die's supplies (R234, R237, R239,
R244). -/

namespace Sys2Proof.Machine

-- One proof after another: with each in a thread of its own the joined text nears the check's memory limit.
set_option Elab.async false

section Reports
variable (c : Channel) (t : Nat)

/-- Of the raised lines an operation changes those of the auxiliary drive alone: 18 and 19 (R206). -/
def Channel.SameLines (c y : Channel) : Prop :=
  ∀ p : Fin 62 × BitVec 16, p.1 ≠ 18 → p.1 ≠ 19 → y.fcl.raised.contains p = c.fcl.raised.contains p

theorem sameLines_of_fcl {c y : Channel} (h : y.fcl = c.fcl) : c.SameLines y := fun _ _ _ => by rw [h]

theorem Channel.SameLines.trans {c y z : Channel} (h : c.SameLines y) (h' : y.SameLines z) : c.SameLines z :=
  fun p h8 h9 => (h' p h8 h9).trans (h p h8 h9)

theorem adTakeBack_sameLines : c.SameLines (c.adTakeBack t) := by
  intro p h8 h9
  unfold Channel.adTakeBack
  split
  · split
    · rfl
    · have e8 : (p == (18, 0)) = false := beq_false_of_ne fun e => h8 (by rw [e])
      have e9 : (p == (19, 0)) = false := beq_false_of_ne fun e => h9 (by rw [e])
      rw [Bool.eq_iff_iff, List.contains_iff_mem, List.contains_iff_mem, List.mem_filter]
      simp only [e8, e9, Bool.false_and, Bool.or_false, Bool.not_false, and_true]
  · rfl

theorem dropGrp_aux_sameLines : c.SameLines (c.dropGrp t .aux) := by
  have hfcl : (c.dropGrp t .aux).fcl = (c.adTakeBack t).fcl := by
    unfold Channel.dropGrp
    dsimp only
    split <;> rfl
  exact (adTakeBack_sameLines c t).trans (sameLines_of_fcl hfcl)

theorem dropGrp_steer_fcl : (c.dropGrp t .steer).fcl = c.fcl := by
  unfold Channel.dropGrp
  dsimp only
  split <;> rfl

theorem endAsc_drives : c.Drives (c.endAsc t) := by
  unfold Channel.endAsc
  split
  · exact ⟨rfl, rfl, rfl, fun _ h _ _ => h⟩
  · exact .refl c

theorem endAsc_fcl : (c.endAsc t).fcl = c.fcl := endAsc_part (pt := .fcl) c t (by decide)

/-- A report drops a group's enables: the results of the die's self-tests stay (R237). -/
theorem dieReport_drives (g : Grp) : c.Drives (c.dieReport t g) := by
  have hdrop (g : Grp) : c.Drives (c.dropGrp t g) := dropGrp_drives c t g
  unfold Channel.dieReport
  cases g with
  | steer =>
    dsimp only
    split
    · have hoff : c.Drives (c.gatesOff t .steer) := ⟨rfl, rfl, rfl, fun _ h _ _ => h⟩
      exact hoff.trans (endAsc_drives _ t)
    · split
      · exact (hdrop .steer).trans ⟨rfl, rfl, rfl, fun _ h _ _ => h⟩
      · exact hdrop .steer
  | aux => exact hdrop .aux

/-- A report raises no line itself (R206, R237). -/
theorem dieReport_sameLines (g : Grp) : c.SameLines (c.dieReport t g) := by
  unfold Channel.dieReport
  cases g with
  | steer =>
    refine sameLines_of_fcl ?_
    dsimp only
    split
    · exact endAsc_fcl (c.gatesOff t .steer) t
    · split <;> exact dropGrp_steer_fcl c t
  | aux => exact dropGrp_aux_sameLines c t

/-- The auxiliary drive enters OFF, whatever it takes back (R206, R237). -/
theorem dieReport_aux_off : (c.dieReport t .aux).ad.st = .off := by
  unfold Channel.dieReport Channel.dropGrp
  dsimp only
  split
  · assumption
  · rfl

/-- A report of the auxiliary group leaves the steering drive alone. -/
theorem dieReport_aux_sd : (c.dieReport t .aux).sd = c.sd := by
  have hback : (c.adTakeBack t).sd = c.sd := adTakeBack_part (pt := .sd) c t (by decide)
  unfold Channel.dieReport Channel.dropGrp
  dsimp only
  split <;> exact hback

variable {c}

/-- A drive that has its winding in opens it, and the winding stays out (R181, R237). -/
theorem dieReport_steer_opens (h : c.sd.st = .run ∨ c.sd.st = .closing) :
    (c.dieReport t .steer).sd.st = .opening ∧ (c.dieReport t .steer).sd.wndOut = true := by
  have hdrop : c.dropGrp t .steer = c.sdOpening t 2 := by
    unfold Channel.dropGrp
    rcases h with h | h <;> rw [h]
  have hreport : c.dieReport t .steer =
      { c.dropGrp t .steer with sd := { (c.dropGrp t .steer).sd with wndOut := true } } := by
    unfold Channel.dieReport
    rcases h with h | h <;> simp [h]
  rw [hreport, hdrop]
  exact ⟨rfl, rfl⟩

/-- A drive in OPENING stays as it is. -/
theorem dieReport_steer_opening (h : c.sd.st = .opening) : (c.dieReport t .steer).sd = c.sd := by
  have hdrop : c.dropGrp t .steer = c.gatesOff t .steer := by
    unfold Channel.dropGrp
    rw [h]
  have hreport : c.dieReport t .steer = c.dropGrp t .steer := by
    unfold Channel.dieReport
    simp [h]
  rw [hreport, hdrop]
  rfl

end Reports

section Sequence
variable {c : Channel} (t : Nat) {i : Nat}

/-- A leg at which the sequence looks next has a gate on and no turn-off in its course (R239). -/
theorem nextOn_leg {x : Gd} {j : Fin 6} (h : x.nextOn t i = some j.castSucc) :
    (x.legs[j]).isOn t = true ∧ (x.legs[j]).sto = .none := by
  have hp := List.find?_some h
  rw [dif_pos (show j.castSucc.val < 6 from j.isLt), Bool.and_eq_true_iff, Bool.and_eq_true_iff] at hp
  obtain ⟨-, hon, hsto⟩ := hp
  exact ⟨hon, eq_of_beq hsto⟩

/-- A leg that the sequence turns off (R236, R239). -/
theorem doubleShort_leg {j : Fin 6} (h : c.gd.nextOn t i = some j.castSucc) :
    let y := c.doubleShort t i
    (y.gd.legs[j]).trip = true ∧ (y.gd.legs[j]).sto = .level ∧ (y.gd.legs[j]).stoAt = t ∧
      y.gd.dsNext = some (j.val + 1) ∧ y.gd.dsAt = t + 100 ∧ y.gd.bchGate = c.gd.bchGate := by
  intro y
  obtain ⟨hon, hsto⟩ := nextOn_leg t h
  let d := c.setLeg j { softOff c.gd.legs[j] t with trip := true }
  have hy : y = { d with gd := { d.gd with dsNext := some (j.val + 1), dsAt := t + 100 } } := by
    simp only [y]
    unfold Channel.doubleShort
    rw [h]
    exact dif_pos (show j.castSucc.val < 6 from j.isLt)
  have hleg : y.gd.legs[j] = { softOff c.gd.legs[j] t with trip := true } := by
    rw [hy]
    exact setLeg_leg c j _
  rw [hleg, softOff_of_on t hon hsto, hy]
  exact ⟨rfl, rfl, rfl, rfl, rfl, rfl⟩

/-- BCH is the last gate of the sequence (R239). -/
theorem doubleShort_bch (h : c.gd.nextOn t i = some 6) : c.doubleShort t i =
    { c with gd := { c.gd with dsNext := none, bchTrip := true, bchSto := .level, bchStoAt := t } } := by
  unfold Channel.doubleShort
  rw [h]
  exact dif_neg (by decide)

/-- No gate is on any more: the sequence ends (R239). -/
theorem doubleShort_none (h : c.gd.nextOn t i = none) :
    c.doubleShort t i = { c with gd := { c.gd with dsNext := none } } := by
  unfold Channel.doubleShort
  rw [h]

theorem bchStoEnd_of_held (hsto : c.gd.bchSto = .level) (hat : c.gd.bchStoAt + c.stoHold .steer ≤ t) :
    c.bchStoEnd t = { c with gd := { c.gd with bchSto := .none, bchGate := false } } :=
  if_pos (by rw [hsto]; exact decide_eq_true hat)

/-- A step of the sequence that has come due (R239). -/
theorem chGets_doubleShortStep {s : State} {l : At} {P : Channel → Prop} (hal : (s.ch l.ch).alive = true)
    (hnext : (s.ch l.ch).gd.dsNext = some i) (hat : (s.ch l.ch).gd.dsAt ≤ l.t + 10)
    (hP : P ((s.ch l.ch).doubleShort l.t i)) : s.chGets (.doubleShortStep l) l.ch P := by
  have hexec : exec (.doubleShortStep l) s =
      onCh l.ch s (when ((s.ch l.ch).alive && decide ((s.ch l.ch).gd.dsAt ≤ l.t + 10)) (·.doubleShort l.t i)) := by
    have hx : exec (.doubleShortStep l) s = execDoubleShortStep l s := rfl
    rw [hx, execDoubleShortStep, hnext]
  exact chGets_when hexec (by rw [hal, decide_eq_true hat]; rfl) hP

end Sequence

section Short
variable (c : Channel) (t : Nat) (g : Grp)

/-- The flags of a group have reached its drive engine (R237, R239). -/
def Channel.flagsTaken : Channel :=
  let d := c.mapLegs fun k x => if inGrp g k && x.trip then { x with sc := true } else x
  d.setGrp g { d.grp g with tripFlag := false, sc2Flag := false }

/-- The line of a group's short (R237). -/
def shortLine (g : Grp) : Fin 62 := if g = .steer then 21 else 22

/-- The report of a group to its drive, with its line where a trip came with it (R237). -/
def Channel.reported : Channel :=
  let d := (c.flagsTaken g).dieReport t g
  if (c.grp g).tripFlag then d.raise (shortLine g) else d

/-- A double short takes both groups, and the chopper with them (R239). -/
def Channel.reportedBoth : Channel := (((c.dieReport t .steer).dieReport t .aux).bchOff).raise 23

theorem flagsTaken_grp :
    (c.flagsTaken g).grp g = { c.grp g with tripFlag := false, sc2Flag := false } := grp_setGrp ..

/-- The engine's flags are none of the drives, and no line. -/
theorem flagsTaken_frame : (c.flagsTaken g).sd = c.sd ∧ (c.flagsTaken g).fcl = c.fcl := by
  cases g <;> exact ⟨rfl, rfl⟩

theorem reported_drives : (c.flagsTaken g).Drives (c.reported t g) := by
  have hd := dieReport_drives (c.flagsTaken g) t g
  unfold Channel.reported
  dsimp only
  split
  · exact hd.trans (raise_drives ..)
  · exact hd

theorem reported_grp : (c.reported t g).grp g = { c.grp g with tripFlag := false, sc2Flag := false } :=
  ((reported_drives c t g).grp g).trans (flagsTaken_grp c g)

theorem reportedBoth_drives : c.Drives (c.reportedBoth t) := by
  have hoff (d : Channel) : d.Drives d.bchOff := ⟨rfl, rfl, rfl, fun _ h _ _ => h⟩
  exact (((dieReport_drives c t .steer).trans (dieReport_drives _ t .aux)).trans (hoff _)).trans (raise_drives ..)

/-- A short report: the group's own, and that of both groups where a double short stands (R237, R239). -/
theorem shortReport_eq : c.shortReport t g =
    (if ((c.reported t g).grp g).sc2 = true then (c.reported t g).reportedBoth t else c.reported t g).viewSync t := rfl

variable {c g}

theorem shortReport_of_sc2 (h : (c.grp g).sc2 = true) :
    c.shortReport t g = ((c.reported t g).reportedBoth t).viewSync t := by
  rw [shortReport_eq, if_pos (by rw [reported_grp]; exact h)]

theorem shortReport_of_single (h : (c.grp g).sc2 = false) : c.shortReport t g = (c.reported t g).viewSync t := by
  rw [shortReport_eq, if_neg (by rw [reported_grp]; exact ne_true_of_eq_false h)]

theorem reported_of_tripped (h : (c.grp g).tripFlag = true) :
    c.reported t g = ((c.flagsTaken g).dieReport t g).raise (shortLine g) := if_pos h

theorem reported_of_untripped (h : (c.grp g).tripFlag = false) : c.reported t g = (c.flagsTaken g).dieReport t g :=
  if_neg (ne_true_of_eq_false h)

/-- What the report of a trip does to the group's drive (R237). -/
theorem reported_drive (h : (c.grp g).tripFlag = true) :
    (g = .steer → c.sd.st = .run ∨ c.sd.st = .closing →
      (c.reported t g).sd.st = .opening ∧ (c.reported t g).sd.wndOut = true) ∧
    (g = .aux → (c.reported t g).ad.st = .off) := by
  have hsd (d : Channel) (k : Fin 62) : (d.raise k).sd = d.sd := raise_part (pt := .sd) d k 0 (by decide)
  rw [reported_of_tripped t h, hsd, raise_ad]
  constructor
  · rintro rfl hst
    exact dieReport_steer_opens t (by rw [(flagsTaken_frame c .steer).1]; exact hst)
  · rintro rfl
    exact dieReport_aux_off _ t

/-- A report without a trip raises no line (R237). -/
theorem reported_sameLines (h : (c.grp g).tripFlag = false) : c.SameLines (c.reported t g) := by
  rw [reported_of_untripped t h]
  exact (sameLines_of_fcl (flagsTaken_frame c g).2).trans (dieReport_sameLines _ t g)

/-- A double short stops the chopper and the pump and raises line 23; a winding that opens goes on (R239). -/
theorem reportedBoth_takes (c : Channel) : let y := c.reportedBoth t
    y.gd.bch = false ∧ y.fcl.raised.contains (23, 0) = true ∧ y.ad.st = .off ∧ (c.sd.st = .opening → y.sd = c.sd) := by
  intro y
  let d := ((c.dieReport t .steer).dieReport t .aux).bchOff
  have hy : y = d.raise 23 := rfl
  have hsd : y.sd = d.sd := raise_part (pt := .sd) d 23 0 (by decide)
  rw [hsd, hy, raise_gd, raise_ad]
  refine ⟨rfl, List.contains_iff_mem.mpr (raise_self d 23 0), dieReport_aux_off (c.dieReport t .steer) t, fun h => ?_⟩
  exact (dieReport_aux_sd (c.dieReport t .steer) t).trans (dieReport_steer_opening t h)

/-- Raising a line raises no other. -/
theorem raise_contains_of_ne (c : Channel) (k : Fin 62) (d : BitVec 16) {p : Fin 62 × BitVec 16} (h : p ≠ (k, d)) :
    (c.raise k d).fcl.raised.contains p = c.fcl.raised.contains p := by
  unfold Channel.raise
  split
  · rfl
  · rw [Bool.eq_iff_iff, List.contains_iff_mem, List.contains_iff_mem, List.mem_append, List.mem_singleton,
      or_iff_left h]

/-- Of the lines that stay, a double short raises line 23 alone (R206, R239). -/
theorem reportedBoth_contains (c : Channel) {p : Fin 62 × BitVec 16} (h8 : p.1 ≠ 18) (h9 : p.1 ≠ 19)
    (h23 : p ≠ (23, 0)) : (c.reportedBoth t).fcl.raised.contains p = c.fcl.raised.contains p := by
  rw [Channel.reportedBoth, raise_contains_of_ne _ 23 0 h23]
  exact ((dieReport_sameLines c t .steer).trans (dieReport_sameLines _ t .aux)) p h8 h9

/-- The report of a trip, with or without a double short (R237, R239). -/
theorem shortReport_of_tripped (h : (c.grp g).tripFlag = true) : let y := c.shortReport t g
    (y.grp g).tripFlag = false ∧ y.fcl.raised.contains (shortLine g, 0) = true ∧
      ((c.grp g).sc2 = true → y.fcl.raised.contains (23, 0) = true ∧ y.gd.bch = false) ∧
      (g = .steer → c.sd.st = .run ∨ c.sd.st = .closing → y.sd.st = .opening ∧ y.sd.wndOut = true) ∧
      (g = .aux → c.ad.st ≠ .off → y.ad.st = .off) := by
  intro y
  have hview (d : Channel) : (d.viewSync t).sd = d.sd := viewSync_part (pt := .sd) d t (by decide)
  have hline : (c.reported t g).fcl.raised.contains (shortLine g, 0) = true := by
    rw [reported_of_tripped t h]
    exact List.contains_iff_mem.mpr (raise_self ..)
  have hgrp := reported_grp c t g
  obtain ⟨hsteer, haux⟩ := reported_drive t h
  generalize hr : c.reported t g = r at hline hgrp hsteer haux
  cases hsc : (c.grp g).sc2 with
  | false =>
    have hy : y = r.viewSync t := hr ▸ shortReport_of_single t hsc
    rw [hy, (viewSync_drives r t).grp, hgrp, viewSync_fcl, hview, viewSync_ad]
    exact ⟨rfl, hline, nofun, hsteer, fun ha _ => haux ha⟩
  | true =>
    have hy : y = (r.reportedBoth t).viewSync t := hr ▸ shortReport_of_sc2 t hsc
    obtain ⟨hbch, h23, hoff, hsd⟩ := reportedBoth_takes t r
    rw [hy, (viewSync_drives _ t).grp, (reportedBoth_drives r t).grp, hgrp, viewSync_fcl, hview, viewSync_ad,
      viewSync_gd]
    refine ⟨rfl, ?_, fun _ => ⟨h23, hbch⟩, fun hg hst => ?_, fun _ _ => hoff⟩
    · rw [reportedBoth_contains t r]
      · exact hline
      all_goals cases g <;> decide
    · rw [hsd (hsteer hg hst).1]
      exact hsteer hg hst

/-- The report of a double short alone: neither group's own line is raised (R239). -/
theorem shortReport_of_sc2_alone (h : (c.grp g).tripFlag = false) (hsc : (c.grp g).sc2 = true) :
    let y := c.shortReport t g
    (y.grp g).sc2Flag = false ∧ y.fcl.raised.contains (23, 0) = true ∧ y.gd.bch = false ∧
      y.fcl.raised.contains (21, 0) = c.fcl.raised.contains (21, 0) ∧
      y.fcl.raised.contains (22, 0) = c.fcl.raised.contains (22, 0) := by
  intro y
  have hy : y = _ := shortReport_of_sc2 t hsc
  have hlines {p : Fin 62 × BitVec 16} (h8 : p.1 ≠ 18) (h9 : p.1 ≠ 19) (h23 : p ≠ (23, 0)) :
      ((c.reported t g).reportedBoth t).fcl.raised.contains p = c.fcl.raised.contains p :=
    (reportedBoth_contains t _ h8 h9 h23).trans (reported_sameLines t h p h8 h9)
  obtain ⟨hbch, h23, -, -⟩ := reportedBoth_takes t (c.reported t g)
  rw [hy, (viewSync_drives _ t).grp, (reportedBoth_drives _ t).grp, reported_grp, viewSync_fcl, viewSync_gd]
  exact ⟨rfl, h23, hbch, hlines (by decide) (by decide) (by decide), hlines (by decide) (by decide) (by decide)⟩

end Short

section Supplies
variable (c : Channel) (t : Nat)

/-- A VGD under-voltage turns every gate off, while PULSE of the chopper stays (R234). -/
theorem vgdUndervoltage_off : let d := ((c.allGatesOff t).bchHeld).raise 26
    let y : Channel := { d with gd := { d.gd with vgdLow := true, vgdLowA := true } }
    y.GatesLow ∧ y.gd.bchGate = false ∧ y.gd.bch = c.gd.bch ∧ y.gd.vgdLow = true ∧ y.gd.vgdLowA = true ∧
      y.fcl.raised.contains (26, 0) = true := by
  intro d y
  have hd : d.gd = ((c.allGatesOff t).bchHeld).gd := raise_gd _ 26 0
  have hlegs : y.gd.legs = (c.allGatesOff t).gd.legs := (congrArg Gd.legs hd :)
  exact ⟨gatesLow_of_legs hlegs (allGatesOff_low c t), congrArg Gd.bchGate hd, (congrArg Gd.bch hd :), rfl, rfl,
    List.contains_iff_mem.mpr (raise_self _ 26 0)⟩

end Supplies

/-- Settles O19 (log entries 54 and 55): the sequence by the gate that it finds, the short report by the flags that came
with it. -/
theorem gateGroupsFollowTheDie : Obligations.GateGroupsFollowTheDie := by
  unfold Obligations.GateGroupsFollowTheDie
  intro s l g n hal c
  have hand {b : Bool} (hb : b = true) : ((s.ch l.ch).alive && b) = true := by rw [hal, hb]; rfl
  have hflags {b : Bool} (hb : ((c.grp g).tripFlag || (c.grp g).sc2Flag) = b) :
      ((s.ch l.ch).alive && ((c.grp g).tripFlag || (c.grp g).sc2Flag)) = b := by rw [hal, hb, Bool.true_and]
  refine ⟨fun i j hn hat hj => chGets_doubleShortStep hal hn hat (doubleShort_leg l.t hj),
    fun i hn hat hj => chGets_doubleShortStep hal hn hat (doubleShort_bch l.t hj),
    fun i hn hat hj => chGets_doubleShortStep hal hn hat (doubleShort_none l.t hj),
    fun hsto hat => chGets_when (i := .stoHoldEnd l 6) rfl hal (bchStoEnd_of_held l.t hsto hat),
    fun ht => chGets_when (i := .shortReport l g) rfl (hflags (by rw [ht]; rfl)) (shortReport_of_tripped l.t ht),
    fun ht hf hsc => chGets_when (i := .shortReport l g) rfl (hflags (by rw [hf, Bool.or_true]))
      (shortReport_of_sc2_alone l.t ht hsc),
    fun ht hf => chGets_skip (i := .shortReport l g) rfl (hflags (by rw [ht, hf]; rfl)) rfl,
    chGets_when (i := .vgdUndervoltage l) rfl hal (vgdUndervoltage_off c l.t),
    fun hen hat => chGets_when (i := .pisFault l n) rfl ?_ ?_, fun h => chGets_skip (i := .pisFault l n) rfl ?_ rfl⟩
  · rw [hal, hen, decide_eq_true hat]
    rfl
  · rw [viewSync_gd, raise_gd, viewSync_fcl]
    exact ⟨rfl, rfl, List.contains_iff_mem.mpr (raise_self _ 25 0)⟩
  · rcases h with hen | hat
    · rw [hen, Bool.and_false, Bool.false_and]
    · rw [decide_eq_false (Nat.not_le.mpr hat), Bool.and_false]

end Sys2Proof.Machine
end

section
/-! PROOF. ChopperAndLinkLimits (O20): what a sample of the link writes before it decides, the decision itself, the end
of ASC, and VLINK_ABS (R245 to R248). -/

namespace Sys2Proof.Machine

-- One proof after another: with each in a thread of its own the joined text nears the check's memory limit.
set_option Elab.async false

section Chopper
variable {c : Channel} (t v : Nat) (current : Bool)

/-- A sample while the chopper may not run turns it off; its current is still looked for (R245, R246). -/
theorem chopper_of_held (h : c.chopperOn = false) : let y := c.chopper t v current
    y.gd.bch = false ∧ y.gd.iSeen = (current && !(c.gd.bch && decide (t < c.gd.bchOnAt + usec 1))) := by
  intro y
  have hy : y = Channel.bchOff { c with gd := { c.gd with
      ascLowAt := _, iSeen := current && !(c.gd.bch && decide (t < c.gd.bchOnAt + usec 1)) } } :=
    if_pos (congrArg not h)
  rw [hy]
  exact ⟨rfl, rfl⟩

/-- What a sample decides while the chopper may run, once its current has been noted: a fault, the turn-on, the
turn-off, or none of them (R245, R246). -/
def Channel.chopSwitch (c : Channel) (t v : Nat) : Channel :=
  let faultT := usec (c.af 0x3901 17 8)
  let unseen := match c.gd.bchSeenAt with
    | some a => decide (a + faultT < t)
    | none => true
  if c.gd.bch && decide (c.gd.bchOnAt + faultT ≤ t) && decide (c.af 0x3900 0 16 + 10 * c.af 0x3901 9 8 ≤ v) &&
      unseen then c.chopFault t
  else if !c.gd.bch then (if c.af 0x3900 0 16 ≤ v then c.bchStart t else c)
  else if v ≤ c.af 0x3900 16 16 && decide (c.gd.bchOnAt + usec (c.af 0x3901 1 8) ≤ t) then c.bchOff
  else c

/-- The channel with a sample's notes: the low link, the current, and the count of the time on (R245 to R247, R258). -/
def Channel.sampled (c : Channel) (low : Option Nat) (seen : Bool) (at_ : Option Nat) (p : Pct) : Channel :=
  { c with gd := { c.gd with ascLowAt := low, iSeen := seen, bchSeenAt := at_ }, pct := p }

/-- The levels and times are no notes of a sample. -/
theorem sampled_af (low : Option Nat) (seen : Bool) (at_ : Option Nat) (p : Pct) (id lo w : Nat) :
    (c.sampled low seen at_ p).af id lo w = c.af id lo w := rfl

/-- A sample notes what it saw, then decides (R245, R246). -/
theorem chopper_of_on (h : c.chopperOn = true) :
    ∃ low seen at_ p, c.chopper t v current = (c.sampled low seen at_ p).chopSwitch t v := by
  unfold Channel.chopper
  extract_lets on off low seen _ c1 c2 _ c3 faultT unseen
  rw [if_neg (by rw [show c1.chopperOn = true from h]; decide)]
  have hcount : ∃ p, c2 = { c1 with pct := p } := by
    simp only [c2]
    split
    · exact bump_eq c1 5 3 200
    · exact ⟨c1.pct, rfl⟩
  have hcurrent : ∃ a, c3 = { c2 with gd := { c2.gd with bchSeenAt := a } } := by
    simp only [c3]
    split
    · exact ⟨some t, rfl⟩
    · exact ⟨c2.gd.bchSeenAt, rfl⟩
  obtain ⟨p, hp⟩ := hcount
  obtain ⟨a, ha⟩ := hcurrent
  refine ⟨low, seen, a, p, ?_⟩
  clear_value c2 c3
  subst hp ha
  rfl

/-- A chopper that is off has no fault to find: it turns on at its level (R245, R246). -/
theorem chopSwitch_of_bchOff (h : c.gd.bch = false) :
    c.chopSwitch t v = if c.af 0x3900 0 16 ≤ v then c.bchStart t else c := by
  unfold Channel.chopSwitch
  dsimp only
  rw [h, if_neg (by simp), Bool.not_false, if_pos rfl]

/-- A chopper that is on at a link at its lower level, and not above its margin, turns off after its least time on
(R245, R246). -/
theorem chopSwitch_of_bchOn (h : c.gd.bch = true) (hlow : v ≤ c.af 0x3900 16 16)
    (hmargin : v < c.af 0x3900 0 16 + 10 * c.af 0x3901 9 8) (hat : c.gd.bchOnAt + usec (c.af 0x3901 1 8) ≤ t) :
    c.chopSwitch t v = c.bchOff := by
  unfold Channel.chopSwitch
  dsimp only
  rw [decide_eq_false (Nat.not_le.mpr hmargin), if_neg (by simp), if_neg (by rw [h]; decide),
    if_pos (by rw [decide_eq_true hlow, decide_eq_true hat]; rfl)]

end Chopper

section Limits
variable (c : Channel) (t : Nat)

/-- ASC ends in OFF with PIS open (R247). -/
theorem endAsc_of_asc {c : Channel} (h : c.gd.asc = true) : let y := c.endAsc t
    y.gd.asc = false ∧ y.sd.st = .off ∧ y.gd.pisEn = false ∧ y.gd.pisOk = 0 := by
  intro y
  have hy : y = _ := if_pos h
  rw [hy]
  exact ⟨rfl, rfl, rfl, rfl⟩

/-- Both drives in OFF, after the die has turned every gate off (R248). -/
def Channel.allOff : Channel := ((((c.allGatesOff t).bchHeld).adTakeBack t).sdOff t).adOff t

theorem allOff_off : let y := c.allOff t
    y.GatesLow ∧ y.gd.bchGate = false ∧ y.sd.st = .off ∧ y.ad.st = .off ∧ y.gd.pisEn = false ∧ y.gd.pisOk = 0 := by
  intro y
  let d := ((c.allGatesOff t).bchHeld).adTakeBack t
  have hd : d.gd = ((c.allGatesOff t).bchHeld).gd := adTakeBack_gd _ t
  have hlow : d.GatesLow := gatesLow_of_legs (c := c.allGatesOff t) (congrArg Gd.legs hd :) (allGatesOff_low c t)
  have hsteer : (d.sdOff t).GatesLow := gatesLow_of_legs (c := d.gatesOff t .steer) rfl (gatesOff_low hlow t .steer)
  exact ⟨gatesLow_of_legs (c := (d.sdOff t).gatesOff t .aux) rfl (gatesOff_low hsteer t .aux),
    (congrArg Gd.bchGate hd :), rfl, rfl, rfl, rfl⟩

end Limits

/-- Settles O20: a sample by whether the chopper may run and is on, then the two limits. -/
theorem chopperAndLinkLimits : Obligations.ChopperAndLinkLimits := by
  unfold Obligations.ChopperAndLinkLimits
  intro s l v seen hal c
  have gets {P : Channel → Prop} (hP : P (c.chopper l.t v seen)) : s.chGets (.chopperSample l v seen) l.ch P :=
    chGets_when (i := .chopperSample l v seen) rfl hal hP
  refine ⟨fun h => gets (chopper_of_held l.t v seen h), fun hon hb hv => gets ?_, fun hon hb hv => gets ?_,
    fun hon hb hlow hmargin hat => gets ?_,
    fun h hat => chGets_when (i := .ascTmaxExpiry l) rfl ?_ (endAsc_of_asc l.t h),
    chGets_when (i := .vlinkAbs l) rfl hal ?_⟩
  · obtain ⟨low, x, a, p, hy⟩ := chopper_of_on l.t v seen hon
    rw [hy, chopSwitch_of_bchOff (c := c.sampled low x a p) l.t v hb, sampled_af, if_pos hv]
    exact ⟨rfl, rfl, rfl⟩
  · obtain ⟨low, x, a, p, hy⟩ := chopper_of_on l.t v seen hon
    rw [hy, chopSwitch_of_bchOff (c := c.sampled low x a p) l.t v hb, sampled_af,
      if_neg (Nat.not_le.mpr hv)]
    exact ⟨hb, rfl⟩
  · obtain ⟨low, x, a, p, hy⟩ := chopper_of_on l.t v seen hon
    rw [hy, chopSwitch_of_bchOn (c := c.sampled low x a p) l.t v hb hlow hmargin hat]
    exact ⟨rfl, rfl⟩
  · rw [hal, show (s.ch l.ch).gd.asc = true from h, decide_eq_true hat]
    rfl
  · have hsd : ((c.allOff l.t).raise 31).sd = (c.allOff l.t).sd := raise_part (pt := .sd) _ 31 0 (by decide)
    have hgd := raise_gd (c.allOff l.t) 31 0
    have had := raise_ad (c.allOff l.t) 31 0
    obtain ⟨hlow, hbch, hst, had', hen, hok⟩ := allOff_off c l.t
    exact ⟨gatesLow_of_legs (congrArg Gd.legs hgd :) hlow, (congrArg Gd.bchGate hgd :).trans hbch, rfl, rfl,
      (congrArg Sd.st hsd :).trans hst, (congrArg Ad.st had :).trans had', (congrArg Gd.pisEn hgd :).trans hen,
      (congrArg Gd.pisOk hgd :).trans hok, List.contains_iff_mem.mpr (raise_self (c.allOff l.t) 31 0)⟩

end Sys2Proof.Machine
end

section
/-! PROOF. What the operations that the Welt commands share do to a Welt, said once: which fields each of them
writes (R297 to R304, R310, R314 to R316, R320). -/

namespace Sys2Proof.Machine

-- One proof after another: with each in a thread of its own the joined text nears the check's memory limit.
set_option Elab.async false

section Runs
variable {s : State} {i : Instr} {l : WAt} {f : Welt → Welt} {P : Welt → Prop}

/-- A command on a powered Welt, by what it leaves once a reset that was due has taken effect. -/
theorem weltGets_on (hi : exec i s = onPowered l s f) (hon : (s.welt l.w).powered = true)
    (hP : P ((f (((s.welt l.w).resetStep l.t).settle l.t)).refresh l.t)) : s.weltGets i l.w P :=
  ⟨_, hi.trans (onPowered_on l s f hon), hP⟩

/-- A command on a powered Welt with no deliberate reset due. -/
theorem weltGets_calm (hi : exec i s = onPowered l s f) (hon : (s.welt l.w).powered = true)
    (hcalm : (s.welt l.w).calm l.t) (hP : P ((f ((s.welt l.w).settle l.t)).refresh l.t)) : s.weltGets i l.w P :=
  weltGets_on hi hon (by rw [resetStep_calm _ _ hcalm]; exact hP)

end Runs

/-- A setpoint as a Welt takes it (R305). -/
def clampMa (v : BitVec 12) : BitVec 12 := if 3000 < v.toNat then 3000 else v

theorem toNat_clampMa (v : BitVec 12) : (clampMa v).toNat = min v.toNat 3000 := by
  unfold clampMa
  split
  · rw [Nat.min_eq_right (by omega)]; rfl
  · rw [Nat.min_eq_left (by omega)]

section Ops
variable (w : Welt) (t : Nat)

theorem setPair_eq (p : Fin 2) (x : Pair) : ∃ a b, w.setPair p x = { w with pair0 := a, pair1 := b } := by
  unfold Welt.setPair
  split
  · exact ⟨x, w.pair1, rfl⟩
  · exact ⟨w.pair0, x, rfl⟩

theorem pairInit_eq (p : Fin 2) : ∃ a b, w.pairInit t p = { w with pair0 := a, pair1 := b } := setPair_eq ..

theorem setSol_eq (k : Fin 2) (x : Sol) : ∃ a b, w.setSol k x = { w with sol0 := a, sol1 := b } := by
  unfold Welt.setSol
  split
  · exact ⟨x, w.sol1, rfl⟩
  · exact ⟨w.sol0, x, rfl⟩

/-- A level that an input shows writes its guard pair, or nothing (R310). -/
theorem pairStep_cases (p : Fin 2) : w.pairStep t p = w ∨ ∃ x, w.pairStep t p = w.setPair p x := by
  unfold Welt.pairStep
  extract_lets x
  split
  · exact .inl rfl
  · split
    · split
      · exact .inl rfl
      · exact .inr ⟨_, rfl⟩
    · split
      · exact .inl rfl
      · exact .inr ⟨_, rfl⟩
    · split
      · exact .inr ⟨_, rfl⟩
      · split
        · exact .inr ⟨_, rfl⟩
        · exact .inl rfl
    · exact .inl rfl

theorem pairStep_eq (p : Fin 2) : ∃ a b, w.pairStep t p = { w with pair0 := a, pair1 := b } := by
  rcases pairStep_cases w t p with h | ⟨x, h⟩ <;> rw [h]
  · exact ⟨w.pair0, w.pair1, rfl⟩
  · exact setPair_eq w p x

/-- A cause that arises stands among the causes and among the news of its WCLK (R315, R366). -/
theorem addCause_eq (c : WCause) : ∃ a b, w.addCause t c =
    { w with causeAt := a, resetBad := b, causes := if w.causes.contains c then w.causes else w.causes ++ [c]
             news := (if w.newsAt = t then w.news else []) ++ [c], newsAt := t } := by
  unfold Welt.addCause
  dsimp only
  split
  · exact ⟨w.causeAt, w.resetBad, rfl⟩
  · exact ⟨_, _, rfl⟩

theorem clockCheck_eq : w.clockCheck t = w ∨ w.clockCheck t = w.addCause t .clock := by
  unfold Welt.clockCheck
  split
  · exact .inr rfl
  · exact .inl rfl

/-- The judgement of the claims accepts the best lane, ends the orphan state where there is one, and writes what follows
from them alone (R299 to R304). -/
theorem evaluate_eq (d : List (Fin 3)) : ∃ m o b p, w.evaluate t d =
    { w with multi := m, accepted := w.best, orphan := o, orphSet := b, apply := p } ∧
      (w.best ≠ none → o = none) := by
  unfold Welt.evaluate
  extract_lets v
  split
  next hb => exact ⟨_, _, w.orphSet, w.apply, by rw [show w.best = none from hb], absurd hb⟩
  next k hb =>
    rw [show w.best = some k from hb]
    split
    · exact ⟨_, _, _, w.apply, rfl, fun _ => rfl⟩
    · split
      next ha =>
        rw [← show w.accepted = some k from ha]
        split
        · exact ⟨_, _, _, _, rfl, fun _ => rfl⟩
        · exact ⟨_, _, _, w.apply, rfl, fun _ => rfl⟩
      next => exact ⟨_, _, _, _, rfl, fun _ => rfl⟩

/-- A setting that takes effect writes its register, and the pairs where their mode changes (R320). -/
theorem putSetting_eq (a : Nat) (v : BitVec 16) : ∃ s1 s2 s3 s4 s5 s6 s7 s8 s9 p q, w.putSetting t a v =
    { w with set1 := s1, set2 := s2, set3 := s3, set4 := s4, set5 := s5, set6 := s6, set7 := s7, set8 := s8, set9 := s9,
             pair0 := p, pair1 := q } := by
  unfold Welt.putSetting
  split
  case h_1 =>
    dsimp only
    (repeat' split) <;> exact ⟨_, _, _, _, _, _, _, _, _, _, _, rfl⟩
  all_goals exact ⟨_, _, _, _, _, _, _, _, _, _, _, rfl⟩

theorem takeSetting_eq (a : Nat) (v : BitVec 16) : ∃ s1 s2 s3 s4 s5 s6 s7 s8 s9 p q h, w.takeSetting t a v =
    { w with set1 := s1, set2 := s2, set3 := s3, set4 := s4, set5 := s5, set6 := s6, set7 := s7, set8 := s8, set9 := s9,
             pair0 := p, pair1 := q, held := h } := by
  unfold Welt.takeSetting
  extract_lets u x
  split
  · exact ⟨w.set1, w.set2, w.set3, w.set4, w.set5, w.set6, w.set7, w.set8, w.set9, w.pair0, w.pair1, w.held, rfl⟩
  · split
    · exact ⟨w.set1, w.set2, w.set3, w.set4, w.set5, w.set6, w.set7, w.set8, w.set9, w.pair0, w.pair1, _, rfl⟩
    · obtain ⟨s1, s2, s3, s4, s5, s6, s7, s8, s9, p, q, h⟩ := putSetting_eq x t a u
      exact ⟨s1, s2, s3, s4, s5, s6, s7, s8, s9, p, q, x.held, h⟩

/-- Settings 6 and 7 are written by no other address (R320, R323). -/
theorem putSetting_fallback {a : Nat} (v : BitVec 16) (h6 : a ≠ 6) (h7 : a ≠ 7) :
    (w.putSetting t a v).set6 = w.set6 ∧ (w.putSetting t a v).set7 = w.set7 := by
  have init (x : Welt) (p : Fin 2) : (x.pairInit t p).set6 = x.set6 ∧ (x.pairInit t p).set7 = x.set7 := by
    obtain ⟨a, b, h⟩ := pairInit_eq x t p
    simp [h]
  unfold Welt.putSetting
  split
  case h_1 =>
    dsimp only
    (repeat' split) <;> simp [init]
  case h_6 => exact absurd rfl h6
  case h_7 => exact absurd rfl h7
  all_goals exact ⟨rfl, rfl⟩

theorem enterInit_eq : ∃ a b, w.enterInit t = { w with st := .init, initAt := t, pair0 := a, pair1 := b } := by
  obtain ⟨a, b, h0⟩ := pairInit_eq { w with st := .init, initAt := t } t 0
  obtain ⟨c, d, h1⟩ := pairInit_eq ({ w with st := .init, initAt := t }.pairInit t 0) t 1
  exact ⟨c, d, by rw [show w.enterInit t = _ from h1, h0]⟩

/-- A deliberate reset writes the state, the latches and the pairs; the claims, what they ask for and the settings stand
(R314, R316). -/
theorem deliberate_eq (r : Nat) : ∃ st c ws cs n pf p q x y i, w.deliberate r =
    { w with st := st, cause := c, wstat := ws, causes := cs, note := n, pkrFault := pf, pair0 := p, pair1 := q
             sol0 := x, sol1 := y, initAt := i } := by
  unfold Welt.deliberate
  extract_lets v
  split
  · obtain ⟨a, b, h⟩ := enterInit_eq v r
    rw [h]
    exact ⟨_, _, _, _, _, _, _, _, _, _, _, rfl⟩
  · exact ⟨_, _, _, _, _, _, _, _, _, _, w.initAt, rfl⟩

theorem resetStep_eq : ∃ st c ws cs n pf p q x y i ra rs, w.resetStep t =
    { w with st := st, cause := c, wstat := ws, causes := cs, note := n, pkrFault := pf, pair0 := p, pair1 := q
             sol0 := x, sol1 := y, initAt := i, resetAt := ra, rstr := rs } := by
  unfold Welt.resetStep
  split
  next r hr =>
    split
    · extract_lets v
      split
      · exact ⟨w.st, w.cause, w.wstat, w.causes, w.note, w.pkrFault, w.pair0, w.pair1, w.sol0, w.sol1, w.initAt, none,
          w.rstr + 1, rfl⟩
      · obtain ⟨st, c, ws, cs, n, pf, p, q, x, y, i, h⟩ := deliberate_eq v r
        exact ⟨st, c, ws, cs, n, pf, p, q, x, y, i, none, w.rstr, h⟩
    · exact ⟨w.st, w.cause, w.wstat, w.causes, w.note, w.pkrFault, w.pair0, w.pair1, w.sol0, w.sol1, w.initAt,
        w.resetAt, w.rstr, rfl⟩
  · exact ⟨w.st, w.cause, w.wstat, w.causes, w.note, w.pkrFault, w.pair0, w.pair1, w.sol0, w.sol1, w.initAt,
      w.resetAt, w.rstr, rfl⟩

end Ops

end Sys2Proof.Machine
end

section
/-! PROOF. What a refresh makes of a Welt: the state that its causes leave, and the outputs under that state (R293,
R305 to R307, R312 to R315, R366). -/

namespace Sys2Proof.Machine

-- One proof after another: with each in a thread of its own the joined text nears the check's memory limit.
set_option Elab.async false

section Outputs
variable (w : Welt) (t : Nat) (st : WSt)

theorem soOn_iff (k : Nat) (req : Bool) : w.soOn st k req = true ↔
    st = .run ∧ w.powered = true ∧ w.vload = true ∧ req = true ∧ w.orphSet = false ∧ w.gated k = false := by
  simp [Welt.soOn, and_assoc]

theorem stage_iff : w.stage st = true ↔ w.powered = true ∧ w.vload = true ∧ w.dead = false ∧ st ≠ .init := by
  simp [Welt.stage, and_assoc]

theorem under_on_iff (x : Sol) (b : Bool) (sp : BitVec 12) :
    (x.under b sp).on = true ↔ x.on = true ∧ b = true ∧ x.fault = false ∧ sp ≠ 0 := by
  simp [Sol.under, and_assoc]

/-- After a refresh the output stage is what driving says of the Welt (R293, R307, R313, R315). -/
theorem refresh_driving_iff : (w.refresh t).driving ↔ w.stage (w.nextSt t) = true := (stage_iff w _).symm

theorem refresh_pkr : (w.refresh t).pkr = (w.stage (w.nextSt t) && w.pkrReq && !w.pkrDrop && !w.pkrFault) := rfl
theorem refresh_sol0 : (w.refresh t).sol0 = w.sol0.under (w.stage (w.nextSt t)) w.sp0 := rfl
theorem refresh_sol1 : (w.refresh t).sol1 = w.sol1.under (w.stage (w.nextSt t)) w.sp1 := rfl

/-- A refresh puts each solenoid under the output stage and its setpoint (R305, R306). -/
theorem refresh_sol (k : Fin 2) : (w.refresh t).sol k = (w.sol k).under (w.stage (w.nextSt t)) (w.sp k) := by
  unfold Welt.sol Welt.sp
  split <;> rfl

theorem settle_sol (k : Fin 2) : (w.settle t).sol k = (w.sol k).past t := by
  unfold Welt.sol
  split <;> rfl

/-- A Welt as it sends its status word: refreshed, with the word that shows it (R318). -/
def Welt.sendNow (w : Welt) (t : Nat) : Welt := { w.refresh t with sent := some (w.refresh t).status }

/-- No safety output is on outside RUN (R312, R313). -/
theorem so_off_of_st (h : w.nextSt t ≠ .run) : (w.refresh t).so0 = false ∧ (w.refresh t).so1 = false := by
  have off (k : Nat) (req : Bool) : w.soOn (w.nextSt t) k req = false :=
    Bool.eq_false_iff.mpr fun e => h ((soOn_iff w _ k req).mp e).1
  exact ⟨off 0 _, off 1 _⟩

/-- Without its output stage a Welt drives neither PKR nor its solenoids (R293, R307, R313, R315). -/
theorem stage_off (h : w.stage (w.nextSt t) = false) :
    (w.refresh t).pkr = false ∧ (w.refresh t).sol0.on = false ∧ (w.refresh t).sol1.on = false := by
  rw [refresh_pkr, refresh_sol0, refresh_sol1, h]
  exact ⟨rfl, by simp [Sol.under], by simp [Sol.under]⟩

theorem tp_off (h : w.tpStage = false) : (w.refresh t).tp0 = false ∧ (w.refresh t).tp1 = false := by
  simp [h]

/-- INTERNAL and CLOCK, and a load supply out of range, take the output stage and the test pulses off (R293, R315). -/
theorem stage_off_of_dead (h : w.dead = true ∨ w.vload = false) : w.stage st = false ∧ w.tpStage = false := by
  rcases h with h | h <;> simp [Welt.stage, Welt.tpStage, h]

end Outputs

section States
variable {w : Welt} {t : Nat}

/-- A cause that acts keeps a Welt out of RUN, and locks it out from START and RUN (R315). -/
theorem nextSt_of_acting (h : w.acting t ≠ []) :
    w.nextSt t ≠ .run ∧ (w.st = .run ∨ w.st = .start → w.nextSt t = .lockout) := by
  have hlocks : w.locks t = (w.st == .start || w.st == .run) := by simp [Welt.locks, h]
  unfold Welt.nextSt
  rw [hlocks]
  cases w.st <;> simp

theorem locks_of_acting (h : w.acting t ≠ []) (hst : w.st = .run ∨ w.st = .start) : w.locks t = true := by
  rcases hst with hst | hst <;> simp [Welt.locks, h, hst]

/-- Only from START does a refresh leave a Welt in START (R314). -/
theorem st_of_nextSt_start (h : w.nextSt t = .start) : w.st = .start := by
  unfold Welt.nextSt at h
  split at h
  · cases h
  · split at h
    · cases h
    · exact h

theorem nextSt_init (h : w.st = .init) : w.nextSt t = .init := by simp [Welt.nextSt, Welt.locks, h]

theorem mem_acting {c : WCause} : c ∈ w.acting t ↔
    c ∈ lockCauses ∧ (w.causeActive t c = true ∨ w.arisen t c = true) := by
  simp [Welt.acting, List.mem_filter]

theorem acting_ne_nil {c : WCause} (hc : c ∈ lockCauses) (h : w.causeActive t c = true ∨ w.arisen t c = true) :
    w.acting t ≠ [] := List.ne_nil_of_mem (mem_acting.mpr ⟨hc, h⟩)

/-- A cause that arises acts in its WCLK (R366). -/
theorem arisen_addCause (c : WCause) : (w.addCause t c).arisen t c = true := by
  obtain ⟨a, b, h⟩ := addCause_eq w t c
  simp [h, Welt.arisen]

theorem acting_addCause {c : WCause} (hc : c ∈ lockCauses) : (w.addCause t c).acting t ≠ [] :=
  acting_ne_nil hc (.inr (arisen_addCause c))

@[simp] theorem addCause_st (c : WCause) : (w.addCause t c).st = w.st := by
  obtain ⟨a, b, h⟩ := addCause_eq w t c
  rw [h]

/-- A lockout cause that arises: no safety output stays on, and from START or RUN the Welt locks out (R312, R315). -/
theorem refresh_addCause {c : WCause} (hc : c ∈ lockCauses) :
    ((w.addCause t c).refresh t).so0 = false ∧ ((w.addCause t c).refresh t).so1 = false ∧
      (w.st = .run ∨ w.st = .start → ((w.addCause t c).refresh t).st = .lockout) := by
  obtain ⟨hrun, hlock⟩ := nextSt_of_acting (acting_addCause hc (w := w) (t := t))
  obtain ⟨h0, h1⟩ := so_off_of_st _ _ hrun
  exact ⟨h0, h1, fun hst => hlock (by rwa [addCause_st])⟩

end States

/-- WELT_STATUS_SEND on a powered Welt: what time has brought, the word, and the outputs (R318). -/
theorem weltGets_send {s : State} {l : WAt} {P : Welt → Prop} (hon : (s.welt l.w).powered = true)
    (hP : P (((((s.welt l.w).resetStep l.t).settle l.t).sendNow l.t).refresh l.t)) :
    s.weltGets (.weltStatusSend l) l.w P :=
  weltGets_on (i := .weltStatusSend l) (rfl : execWeltStatusSend l s = _) hon hP

end Sys2Proof.Machine
end

section
/-! PROOF. What makes a Welt safe: a refresh makes a bounded Welt safe, and the operations that the commands share keep
a Welt bounded and leave its WSTAT (R24, R293, R304 to R307, R312 to R316, R320, R323). -/

namespace Sys2Proof.Machine

-- One proof after another: with each in a thread of its own the joined text nears the check's memory limit.
set_option Elab.async false

/-- What a refresh needs of a powered Welt to make it safe: a load supply out of range stands among its causes, and
neither a setpoint nor a fallback setting exceeds 3,000 mA (R293, R305, R323). -/
structure Welt.Bounded (w : Welt) : Prop where
  powered : w.powered = true
  load : w.vload = false → WCause.vload ∈ w.causes
  sp : w.sp0.toNat ≤ 3000 ∧ w.sp1.toNat ≤ 3000 ∧ w.set6.toNat ≤ 3000 ∧ w.set7.toNat ≤ 3000

/-- x is as well bounded as w, and its WSTAT is that of w. -/
def Welt.Quiet (w x : Welt) : Prop := (w.Bounded → x.Bounded) ∧ x.wstat = w.wstat

section Bounds
variable {w x : Welt} {t : Nat}

theorem Welt.Quiet.refl (w : Welt) : w.Quiet w := ⟨id, rfl⟩

theorem Welt.Quiet.trans {y : Welt} (h : w.Quiet x) (k : x.Quiet y) : w.Quiet y :=
  ⟨k.1 ∘ h.1, k.2.trans h.2⟩

theorem Welt.Quiet.after {y : Welt} (k : x.Quiet y) (h : w.Quiet x) : w.Quiet y := h.trans k

theorem quiet_foldl {α : Type} {f : Welt → α → Welt} (hf : ∀ (w : Welt) a, w.Quiet (f w a)) (as : List α) (w : Welt) :
    w.Quiet (as.foldl f w) := by
  induction as generalizing w with
  | nil => exact .refl w
  | cons a as ih => exact (hf w a).trans (ih _)

theorem Welt.Safe.bounded (h : w.Safe) (hon : w.powered = true) : w.Bounded where
  powered := hon
  load hv := List.contains_iff_mem.mp (h.load hon hv)
  sp := h.sp

/-- States and outputs follow safely from a bounded Welt (R293, R305 to R307, R312, R315). -/
theorem refresh_safe (h : w.Bounded) : (w.refresh t).Safe where
  so0 e := by
    obtain ⟨hrun, hon, hload, hreq, horph, hgate⟩ := (soOn_iff w _ 0 _).mp e
    exact ⟨⟨hrun, hon, hload, horph⟩, hreq, hgate⟩
  so1 e := by
    obtain ⟨hrun, hon, hload, hreq, horph, hgate⟩ := (soOn_iff w _ 1 _).mp e
    exact ⟨⟨hrun, hon, hload, horph⟩, hreq, hgate⟩
  pkr e := by
    rw [refresh_driving_iff]
    simpa [refresh_pkr, and_assoc] using e
  sol0 e := by
    obtain ⟨-, hstage, hfault, hsp⟩ := (under_on_iff ..).mp e
    exact ⟨(refresh_driving_iff w t).mpr hstage, hfault, hsp⟩
  sol1 e := by
    obtain ⟨-, hstage, hfault, hsp⟩ := (under_on_iff ..).mp e
    exact ⟨(refresh_driving_iff w t).mpr hstage, hfault, hsp⟩
  load _ hv := List.contains_iff_mem.mpr (h.load hv)
  sp := h.sp

/-- A Welt without supply is safe as long as its last one was (R24). -/
theorem lost_safe (h : w.Safe) : w.lost.Safe := by
  unfold Welt.lost
  split
  · exact ⟨nofun, nofun, nofun, nofun, nofun, nofun, Nat.zero_le _, Nat.zero_le _, Nat.zero_le _, Nat.zero_le _⟩
  · exact h

theorem quiet_addCause (w : Welt) (t : Nat) (c : WCause) : w.Quiet (w.addCause t c) := by
  obtain ⟨a, b, h⟩ := addCause_eq w t c
  rw [h]
  refine ⟨fun hw => ⟨hw.powered, fun hv => ?_, hw.sp⟩, rfl⟩
  have := hw.load hv
  show WCause.vload ∈ if w.causes.contains c = true then w.causes else w.causes ++ [c]
  split
  · exact this
  · exact List.mem_append_left _ this

/-- A cause other than VLOAD ends. -/
theorem quiet_dropCause (w : Welt) {c : WCause} (hc : c ≠ .vload) : w.Quiet (w.dropCause c) :=
  ⟨fun h => ⟨h.powered, fun hv => List.mem_filter.mpr ⟨h.load hv, bne_iff_ne.mpr hc.symm⟩, h.sp⟩, rfl⟩

theorem quiet_setSol (w : Welt) (k : Fin 2) (x : Sol) : w.Quiet (w.setSol k x) := by
  obtain ⟨a, b, h⟩ := setSol_eq w k x
  rw [h]
  exact ⟨fun hw => ⟨hw.powered, hw.load, hw.sp⟩, rfl⟩

theorem quiet_setPair (w : Welt) (p : Fin 2) (x : Pair) : w.Quiet (w.setPair p x) := by
  obtain ⟨a, b, h⟩ := setPair_eq w p x
  rw [h]
  exact ⟨fun hw => ⟨hw.powered, hw.load, hw.sp⟩, rfl⟩

theorem quiet_pairStep (w : Welt) (t : Nat) (p : Fin 2) : w.Quiet (w.pairStep t p) := by
  obtain ⟨a, b, h⟩ := pairStep_eq w t p
  rw [h]
  exact ⟨fun hw => ⟨hw.powered, hw.load, hw.sp⟩, rfl⟩

theorem quiet_clockCheck (w : Welt) (t : Nat) : w.Quiet (w.clockCheck t) := by
  rcases clockCheck_eq w t with h | h <;> rw [h]
  · exact .refl w
  · exact quiet_addCause ..

theorem quiet_evaluate (w : Welt) (t : Nat) (d : List (Fin 3)) : w.Quiet (w.evaluate t d) := by
  obtain ⟨m, o, b, p, h, -⟩ := evaluate_eq w t d
  rw [h]
  exact ⟨fun hw => ⟨hw.powered, hw.load, hw.sp⟩, rfl⟩

theorem quiet_decodeLane (w : Welt) (t : Nat) (k : Fin 3) (x : ClaimWord) : w.Quiet (w.decodeLane t k x) :=
  ⟨fun hw => ⟨hw.powered, hw.load, hw.sp⟩, rfl⟩

/-- A setting in its range keeps the fallback settings below 3,000 mA (R320, R323). -/
theorem quiet_putSetting (w : Welt) (t a : Nat) {v : BitVec 16} (hv : w.settingOk a v = true) :
    w.Quiet (w.putSetting t a v) := by
  obtain ⟨s1, s2, s3, s4, s5, s6, s7, s8, s9, p, q, h⟩ := putSetting_eq w t a v
  refine ⟨fun hw => ?_, by rw [h]⟩
  obtain ⟨h0, h1, h6, h7⟩ := hw.sp
  have hr : a = 6 ∨ a = 7 → v.toNat ≤ 3000 := by rintro (rfl | rfl) <;> exact of_decide_eq_true hv
  have fallback : (w.putSetting t a v).set6.toNat ≤ 3000 ∧ (w.putSetting t a v).set7.toNat ≤ 3000 := by
    by_cases e6 : a = 6
    · subst e6; exact ⟨hr (.inl rfl), h7⟩
    · by_cases e7 : a = 7
      · subst e7; exact ⟨h6, hr (.inr rfl)⟩
      · obtain ⟨k6, k7⟩ := putSetting_fallback w t v e6 e7
        rw [k6, k7]; exact ⟨h6, h7⟩
  rw [h] at fallback ⊢
  exact ⟨hw.powered, hw.load, h0, h1, fallback⟩

/-- A setting that a word brings is judged before it takes effect (R320). -/
theorem quiet_takeSetting (w : Welt) (t a : Nat) (v : BitVec 16) : w.Quiet (w.takeSetting t a v) := by
  unfold Welt.takeSetting
  extract_lets u x
  have hx : w.Quiet x := ⟨fun hw => ⟨hw.powered, hw.load, hw.sp⟩, rfl⟩
  split
  · exact .refl w
  · next hok =>
    split
    · exact ⟨fun hw => ⟨hw.powered, hw.load, hw.sp⟩, rfl⟩
    · have hu : a ≠ 0 ∧ w.settingOk a u = true := by simpa using hok
      exact hx.trans (quiet_putSetting x t a hu.2)

/-- A word that applies clamps its setpoints (R300, R305). -/
theorem quiet_applyWord (w : Welt) (t : Nat) (x : ClaimWord) : w.Quiet (w.applyWord t x) := by
  have hclamp (v : BitVec 12) : (clampMa v).toNat ≤ 3000 := (toNat_clampMa v).trans_le (Nat.min_le_right ..)
  unfold Welt.applyWord
  extract_lets rel big newly clampTo note arm drop v u
  have hv : w.Quiet v := ⟨fun hw => ⟨hw.powered, hw.load, hclamp x.sp0, hclamp x.sp1, hw.sp.2.2⟩, rfl⟩
  have hu : v.Quiet u := by
    by_cases hn : newly = true
    · rw [show u = v.spoil t from if_pos hn]; exact ⟨fun hw => ⟨hw.powered, hw.load, hw.sp⟩, rfl⟩
    · rw [show u = v from if_neg hn]; exact .refl v
  exact (hv.trans hu).trans (quiet_takeSetting ..)

theorem quiet_applyDue (w : Welt) (t : Nat) : w.Quiet (w.applyDue t) := by
  unfold Welt.applyDue
  extract_lets due v
  have hv : w.Quiet v := ⟨fun hw => ⟨hw.powered, hw.load, hw.sp⟩, rfl⟩
  exact hv.trans (quiet_foldl (fun w p => quiet_applyWord w t p.2.2) due v)

/-- A deliberate reset leaves a cause that is still active (R316). -/
theorem bounded_deliberate (h : w.Bounded) (r : Nat) : (w.deliberate r).Bounded := by
  have hun : (w.unlatched r).enterStart.Bounded := by
    refine ⟨h.powered, fun hv => List.mem_filter.mpr ⟨h.load hv, ?_⟩, h.sp⟩
    simp [Welt.outlasts, Welt.causeActive, h.load hv]
  unfold Welt.deliberate
  extract_lets v
  split
  · obtain ⟨a, b, e⟩ := enterInit_eq v r
    rw [e]
    exact ⟨hun.powered, hun.load, hun.sp⟩
  · exact hun

theorem bounded_resetStep (h : w.Bounded) (t : Nat) : (w.resetStep t).Bounded := by
  unfold Welt.resetStep
  split
  · split
    · extract_lets v
      have hv : v.Bounded := ⟨h.powered, h.load, h.sp⟩
      split
      · exact ⟨hv.powered, hv.load, hv.sp⟩
      · exact bounded_deliberate hv _
    · exact h
  · exact h

theorem bounded_settle (h : w.Bounded) (t : Nat) : (w.settle t).Bounded := ⟨h.powered, h.load, h.sp⟩

end Bounds

end Sys2Proof.Machine
end

section
/-! PROOF. WeltSafetyIsKeptByEveryStep (O3) and WeltStatesBoundTheOutputs (O5), from what each command does to a powered
Welt before its states and outputs follow (R24, R293, R304 to R307, R312 to R316). -/

namespace Sys2Proof.Machine

-- One proof after another: with each in a thread of its own the joined text nears the check's memory limit.
set_option Elab.async false

/-- What a command other than those of its supply does to a powered Welt, between what time has brought and the refresh:
it keeps the Welt bounded, and leaves WSTAT while START lasts unless WSTAT alternates (R313). -/
structure WeltOp (i : Instr) (l : WAt) (f : Welt → Welt) : Prop where
  run : ∀ s, exec i s = onPowered l s f
  bounded : ∀ w : Welt, w.Bounded → (f w).Bounded
  wstat : (∀ k, i ≠ .wstatAlternate k) → ∀ w : Welt, w.st = .start → ((f w).refresh l.t).st = .start →
    (f w).wstat = w.wstat

theorem weltOp_of_quiet {i : Instr} {l : WAt} {f : Welt → Welt} (run : ∀ s, exec i s = onPowered l s f)
    (h : ∀ w : Welt, w.Quiet (f w)) : WeltOp i l f :=
  ⟨run, fun w => (h w).1, fun _ w _ _ => (h w).2⟩

section Commands
variable (l : WAt)

theorem weltOp_claimWordDecode (words : List (Ch × ClaimWord)) : ∃ f, WeltOp (.claimWordDecode l words) l f :=
  ⟨_, weltOp_of_quiet (fun s => (rfl : execClaimWordDecode l words s = _)) fun w =>
    (quiet_evaluate _ _ _).after ((quiet_clockCheck _ _).after
      (quiet_foldl (fun w p => quiet_decodeLane w l.t p.1.idx p.2) words w))⟩

theorem weltOp_claimStale (ch : Ch) : ∃ f, WeltOp (.claimStale l ch) l f :=
  ⟨_, weltOp_of_quiet (fun s => (rfl : execClaimStale l ch s = _)) fun w => by
    dsimp only
    split
    · exact (quiet_evaluate _ _ _).after ⟨fun h => ⟨h.powered, h.load, h.sp⟩, rfl⟩
    · exact .refl w⟩

theorem weltOp_claimApply : ∃ f, WeltOp (.claimApply l) l f :=
  ⟨_, weltOp_of_quiet (fun s => (rfl : execClaimApply l s = _)) fun w =>
      quiet_applyDue w l.t⟩

/-- A setpoint below its fallback setting is raised to it (R304). -/
theorem toNat_raised (sp : BitVec 12) {fb : BitVec 16} (hfb : fb.toNat ≤ 3000) :
    (if sp.toNat < fb.toNat then fb.setWidth 12 else sp).toNat = max sp.toNat fb.toNat := by
  split
  · rw [BitVec.toNat_setWidth]; omega
  · omega

/-- A setpoint raised to its fallback setting is at most 3,000 mA (R304, R323). -/
theorem raised_le {sp : BitVec 12} {fb : BitVec 16} (hsp : sp.toNat ≤ 3000) (hfb : fb.toNat ≤ 3000) :
    (if sp.toNat < fb.toNat then fb.setWidth 12 else sp).toNat ≤ 3000 :=
  (toNat_raised sp hfb).trans_le (Nat.max_le.mpr ⟨hsp, hfb⟩)

theorem weltOp_orphHoldExpiry : ∃ f, WeltOp (.orphHoldExpiry l) l f :=
  ⟨_, weltOp_of_quiet (fun s => (rfl : execOrphHoldExpiry l s = _)) fun w => by
    dsimp only
    split
    · split
      · exact ⟨fun h => ⟨h.powered, h.load, raised_le h.sp.1 h.sp.2.2.1, raised_le h.sp.2.1 h.sp.2.2.2, h.sp.2.2⟩, rfl⟩
      · exact .refl w
    · exact .refl w⟩

theorem weltOp_pkrDelayExpiry : ∃ f, WeltOp (.pkrDelayExpiry l) l f :=
  ⟨_, weltOp_of_quiet (fun s => (rfl : execPkrDelayExpiry l s = _)) fun w => by
    split
    · split
      · exact ⟨fun h => ⟨h.powered, h.load, h.sp⟩, rfl⟩
      · exact .refl w
    · exact .refl w⟩

/-- A setting that waited is judged again before it takes effect (R320). -/
theorem weltOp_weltSettingApply : ∃ f, WeltOp (.weltSettingApply l) l f :=
  ⟨_, weltOp_of_quiet (fun s => (rfl : execWeltSettingApply l s = _)) fun w => by
    dsimp only
    split
    · exact .refl w
    · refine (quiet_foldl (fun w p => ?_) _ _).after ⟨fun h => ⟨h.powered, h.load, h.sp⟩, rfl⟩
      split
      · next hok => exact quiet_putSetting w l.t p.1 hok
      · exact .refl w⟩

theorem weltOp_ditherToggle : ∃ f, WeltOp (.ditherToggle l) l f :=
  ⟨_, weltOp_of_quiet (fun s => (rfl : execDitherToggle l s = _)) fun w => by
    split
    · exact ⟨fun h => ⟨h.powered, h.load, h.sp⟩, rfl⟩
    · exact .refl w⟩

theorem weltOp_solOpen (k : Fin 2) : ∃ f, WeltOp (.solOpen l k) l f :=
  ⟨_, weltOp_of_quiet (fun s => (rfl : execSolOpen l k s = _)) fun w => by
    dsimp only
    split
    · split
      · exact quiet_setSol ..
      · exact .refl w
    · exact .refl w⟩

theorem weltOp_siLevelAccepted (n : Fin 4) (high : Bool) : ∃ f, WeltOp (.siLevelAccepted l n high) l f :=
  ⟨_, weltOp_of_quiet (fun s => (rfl : execSiLevelAccepted l n high s = _)) fun w => by
    split
    · exact (quiet_pairStep _ _ _).after ⟨fun h => ⟨h.powered, h.load, h.sp⟩, rfl⟩
    · exact .refl w⟩

theorem weltOp_siDiscrepancy (p : Fin 2) : ∃ f, WeltOp (.siDiscrepancy l p) l f :=
  ⟨_, weltOp_of_quiet (fun s => (rfl : execSiDiscrepancy l p s = _)) fun w => by
    dsimp only
    split
    · exact (quiet_setPair ..).trans (quiet_addCause ..)
    · exact .refl w⟩

theorem weltOp_tpPulseStart (n : Fin 2) (raw : BitVec 4) : ∃ f, WeltOp (.tpPulseStart l n raw) l f :=
  ⟨_, weltOp_of_quiet (fun s => (rfl : execTpPulseStart l n raw s = _)) fun w => by
    split
    · exact .refl w
    · split <;> exact ⟨fun h => ⟨h.powered, h.load, h.sp⟩, rfl⟩⟩

theorem weltOp_tpPulseEnd (n : Fin 2) (raw : BitVec 4) (ok : Bool) : ∃ f, WeltOp (.tpPulseEnd l n raw ok) l f :=
  ⟨_, weltOp_of_quiet (fun s => (rfl : execTpPulseEnd l n raw ok s = _)) fun w => by
    split
    · exact .refl w
    · extract_lets snap good x
      have hx : w.Quiet x := by
        simp only [x]
        split <;> exact ⟨fun h => ⟨h.powered, h.load, h.sp⟩, rfl⟩
      split
      · exact hx
      · split
        · have hy : x.Quiet { x with tpGood := x.tpGood + 1 } := ⟨fun h => ⟨h.powered, h.load, h.sp⟩, rfl⟩
          split
          · exact hx.trans (hy.trans (quiet_dropCause _ (c := .crossCircuit) (by decide)))
          · exact hx.trans hy
        · exact (quiet_addCause _ _ _).after (hx.trans ⟨fun h => ⟨h.powered, h.load, h.sp⟩, rfl⟩)⟩

theorem weltOp_soFault (x : SoSense) : ∃ f, WeltOp (.soFault l x) l f :=
  ⟨_, weltOp_of_quiet (fun s => (rfl : execSoFault l x s = _)) fun w => by
    dsimp only
    split
    · exact (quiet_addCause _ _ _).after ⟨fun h => ⟨h.powered, h.load, h.sp⟩, rfl⟩
    · exact ⟨fun h => ⟨h.powered, h.load, h.sp⟩, rfl⟩⟩

/-- A load supply that leaves its range stands among the causes from then on (R293). -/
theorem weltOp_vloadLow : ∃ f, WeltOp (.vloadLow l) l f := by
  refine ⟨_, fun s => (rfl : execVloadLow l s = _), fun w h => ?_, fun _ w _ _ => (quiet_addCause _ l.t .vload).2⟩
  have hin := causes_addCause { w with vload := false } l.t .vload
  obtain ⟨a, b, e⟩ := addCause_eq { w with vload := false } l.t .vload
  rw [e] at hin ⊢
  exact ⟨h.powered, fun _ => List.contains_iff_mem.mp hin, h.sp⟩

theorem weltOp_vloadRecovered : ∃ f, WeltOp (.vloadRecovered l) l f :=
  ⟨_, fun s => (rfl : execVloadRecovered l s = _), fun _ h => ⟨h.powered, nofun, h.sp⟩, fun _ _ _ _ => rfl⟩

/-- The self-check ends in INIT alone (R314). -/
theorem weltOp_weltSelfcheckDone (passed : Bool) : ∃ f, WeltOp (.weltSelfcheckDone l passed) l f := by
  refine ⟨_, fun s => (rfl : execWeltSelfcheckDone l passed s = _), fun w h => ?_, fun _ w hst _ => by simp [hst]⟩
  dsimp only
  split
  · split
    · have := ((quiet_dropCause w (c := .clock) (by decide)).trans (quiet_dropCause _ (c := .internal) (by decide))).1 h
      exact ⟨this.powered, this.load, this.sp⟩
    · have := (quiet_addCause w l.t .internal).1 h
      exact ⟨this.powered, this.load, this.sp⟩
  · exact h

theorem weltOp_weltDeliberateReset : ∃ f, WeltOp (.weltDeliberateReset l) l f :=
  ⟨_, weltOp_of_quiet (fun s => (rfl : execWeltDeliberateReset l s = _)) fun w => by
    dsimp only
    split <;> exact ⟨fun h => ⟨h.powered, h.load, h.sp⟩, rfl⟩⟩

/-- The refresh before the word that is sent leaves WSTAT where START lasts (R313, R318). -/
theorem weltOp_weltStatusSend : ∃ f, WeltOp (.weltStatusSend l) l f := by
  refine ⟨_, fun s => (rfl : execWeltStatusSend l s = _), fun _ h => ⟨h.powered, h.load, h.sp⟩, fun _ w _ hst => ?_⟩
  exact if_pos (st_of_nextSt_start hst)

theorem weltOp_wrstHigh : ∃ f, WeltOp (.wrstHigh l) l f :=
  ⟨_, weltOp_of_quiet (fun s => (rfl : execWrstHigh l s = _)) fun w => by
    split
    · exact .refl w
    · exact ⟨fun h => ⟨h.powered, h.load, h.sp⟩, rfl⟩⟩

theorem weltOp_wstatAlternate : ∃ f, WeltOp (.wstatAlternate l) l f := by
  refine ⟨_, fun s => (rfl : execWstatAlternate l s = _), fun w h => ?_, fun hne => absurd rfl (hne l)⟩
  split
  · exact ⟨h.powered, h.load, h.sp⟩
  · exact h

end Commands

/-- Every command of a Welt but the two of its supply. -/
theorem exists_weltOp {i : Instr} {w : Wid} (ha : agentOf i = .welt w) (hloss : ∀ l, i ≠ .weltPowerLoss l)
    (hup : ∀ l, i ≠ .weltPowerUp l) : ∃ l : WAt, l.w = w ∧ ∃ f, WeltOp i l f := by
  cases i with
  | weltPowerLoss l => exact absurd rfl (hloss l)
  | weltPowerUp l => exact absurd rfl (hup l)
  | claimWordDecode l words => exact ⟨l, Agent.welt.inj ha, weltOp_claimWordDecode l words⟩
  | claimStale l ch => exact ⟨l, Agent.welt.inj ha, weltOp_claimStale l ch⟩
  | claimApply l => exact ⟨l, Agent.welt.inj ha, weltOp_claimApply l⟩
  | orphHoldExpiry l => exact ⟨l, Agent.welt.inj ha, weltOp_orphHoldExpiry l⟩
  | pkrDelayExpiry l => exact ⟨l, Agent.welt.inj ha, weltOp_pkrDelayExpiry l⟩
  | weltSettingApply l => exact ⟨l, Agent.welt.inj ha, weltOp_weltSettingApply l⟩
  | solPwmPeriodStart l k =>
    exact ⟨l, Agent.welt.inj ha, _, weltOp_of_quiet (fun s => (rfl : execSolPwmPeriodStart l k s = _)) fun w =>
      quiet_setSol w k _⟩
  | solLoopInterval l k mean =>
    exact ⟨l, Agent.welt.inj ha, _, weltOp_of_quiet (fun s => (rfl : execSolLoopInterval l k mean s = _)) fun w =>
      quiet_setSol w k _⟩
  | ditherToggle l => exact ⟨l, Agent.welt.inj ha, weltOp_ditherToggle l⟩
  | solShort l k =>
    exact ⟨l, Agent.welt.inj ha, _, weltOp_of_quiet (fun s => (rfl : execSolShort l k s = _)) fun w =>
      quiet_setSol w k _⟩
  | solOpen l k => exact ⟨l, Agent.welt.inj ha, weltOp_solOpen l k⟩
  | pkrFault l =>
    exact ⟨l, Agent.welt.inj ha, _, weltOp_of_quiet (fun s => (rfl : execPkrFault l s = _)) fun w =>
      ⟨fun h => ⟨h.powered, h.load, h.sp⟩, rfl⟩⟩
  | siLevelAccepted l n high => exact ⟨l, Agent.welt.inj ha, weltOp_siLevelAccepted l n high⟩
  | siDiscrepancy l p => exact ⟨l, Agent.welt.inj ha, weltOp_siDiscrepancy l p⟩
  | tpPulseStart l n raw => exact ⟨l, Agent.welt.inj ha, weltOp_tpPulseStart l n raw⟩
  | tpPulseEnd l n raw ok => exact ⟨l, Agent.welt.inj ha, weltOp_tpPulseEnd l n raw ok⟩
  | soFault l x => exact ⟨l, Agent.welt.inj ha, weltOp_soFault l x⟩
  | vloadLow l => exact ⟨l, Agent.welt.inj ha, weltOp_vloadLow l⟩
  | vloadRecovered l => exact ⟨l, Agent.welt.inj ha, weltOp_vloadRecovered l⟩
  | weltSelfcheckDone l passed => exact ⟨l, Agent.welt.inj ha, weltOp_weltSelfcheckDone l passed⟩
  | weltClockStop l =>
    exact ⟨l, Agent.welt.inj ha, _, weltOp_of_quiet (fun s => (rfl : execWeltClockStop l s = _)) fun w =>
      quiet_addCause w l.t .clock⟩
  | weltInternalFault l =>
    exact ⟨l, Agent.welt.inj ha, _, weltOp_of_quiet (fun s => (rfl : execWeltInternalFault l s = _)) fun w =>
      quiet_addCause w l.t .internal⟩
  | weltDeliberateReset l => exact ⟨l, Agent.welt.inj ha, weltOp_weltDeliberateReset l⟩
  | weltStatusSend l => exact ⟨l, Agent.welt.inj ha, weltOp_weltStatusSend l⟩
  | wrstHigh l => exact ⟨l, Agent.welt.inj ha, weltOp_wrstHigh l⟩
  | wstatAlternate l => exact ⟨l, Agent.welt.inj ha, weltOp_wstatAlternate l⟩
  | _ => nomatch ha

/-- A powered Welt that a command of its own runs on ends in the refresh of a bounded Welt. -/
theorem WeltOp.welt_next {i : Instr} {l : WAt} {f : Welt → Welt} {s t : State} (op : WeltOp i l f)
    (ht : exec i s = .next t) (hs : (s.welt l.w).Safe) (hon : (s.welt l.w).powered = true) :
    (f (((s.welt l.w).resetStep l.t).settle l.t)).Bounded ∧
      t.welt l.w = (f (((s.welt l.w).resetStep l.t).settle l.t)).refresh l.t := by
  rw [op.run, onPowered_on l s f hon] at ht
  cases ht
  exact ⟨op.bounded _ (bounded_settle (bounded_resetStep (hs.bounded hon) _) _), welt_setWelt ..⟩

section Steps
variable {i : Instr} {s t : State} {w : Wid}

/-- A command of a safe Welt leaves it safe. -/
theorem safe_of_weltCommand (ha : agentOf i = .welt w) (ht : exec i s = .next t) (hs : (s.welt w).Safe) :
    (t.welt w).Safe := by
  by_cases hloss : ∃ l, i = .weltPowerLoss l
  · obtain ⟨l, rfl⟩ := hloss
    obtain rfl : l.w = w := Agent.welt.inj ha
    cases ht
    rw [welt_setWelt]
    split
    · exact hs
    · exact lost_safe hs
  · by_cases hup : ∃ l, i = .weltPowerUp l
    · obtain ⟨l, rfl⟩ := hup
      obtain rfl : l.w = w := Agent.welt.inj ha
      cases ht
      rw [welt_setWelt]
      beta_reduce
      split
      · exact hs
      · exact ⟨nofun, nofun, nofun, nofun, nofun, nofun, safe_powerUp.sp⟩
    · obtain ⟨l, rfl, f, op⟩ := exists_weltOp ha (not_exists.mp hloss) (not_exists.mp hup)
      cases hon : (s.welt l.w).powered with
      | true =>
        obtain ⟨hb, hx⟩ := op.welt_next ht hs hon
        rw [hx]
        exact refresh_safe hb
      | false =>
        rw [op.run, onPowered_off l s f hon] at ht
        cases ht
        rwa [welt_setWelt]

/-- A command of another part takes at most the supply of a Welt (R24). -/
theorem safe_of_otherCommand (ha : agentOf i ≠ .welt w) (ht : exec i s = .next t) (hs : (s.welt w).Safe) :
    (t.welt w).Safe := by
  obtain ⟨u, hu, hsame⟩ := everyCommandKeepsToItsPart i s
  obtain ⟨-, -, hwelt⟩ := hsame
  rw [hu] at ht
  cases ht
  have hw : (u.welt w).Safe := by rwa [hwelt w ha]
  split
  · rw [welt_feed]
    split
    · exact hw
    · exact lost_safe hw
  · exact hw

theorem safe_exec (hs : s.Safe) (ht : exec i s = .next t) : t.Safe := by
  have all (w : Wid) : (t.welt w).Safe := by
    have hw : (s.welt w).Safe := by cases w; exacts [hs.1, hs.2]
    by_cases ha : agentOf i = .welt w
    · exact safe_of_weltCommand ha ht hw
    · exact safe_of_otherCommand ha ht hw
  exact ⟨all .w1, all .w2⟩

end Steps

/-- Settles O3: the command at the front of the queue keeps both Welts safe. -/
theorem weltSafetyIsKeptByEveryStep : Obligations.WeltSafetyIsKeptByEveryStep := by
  intro s t hs ht
  unfold step at ht
  split at ht
  · cases ht; exact hs
  · next c rest _ => exact safe_exec (s := { s with pending := rest }) hs ht

section Table
variable {w : Welt} {t : Nat}

/-- A bounded Welt whose load supply is out of its range does not get to RUN (R293, R315). -/
theorem vload_of_nextSt_run (h : w.Bounded) (hrun : w.nextSt t = .run) : w.vload = true := by
  by_contra hv
  have hin := h.load (Bool.eq_false_iff.mpr hv)
  have hact : w.causeActive t .vload = true := by simp [Welt.causeActive, hin]
  exact (nextSt_of_acting (acting_ne_nil (c := .vload) (by decide) (.inl hact))).1 hrun

theorem refresh_wstat (st : WSt) (h : w.nextSt t = st) : (w.refresh t).wstat =
    if st = .start then w.wstat else st == .run && w.powered && w.vload := by
  subst h; rfl

/-- The rows of R313 for a bounded Welt after its refresh. -/
theorem refresh_table (h : w.Bounded) : let x := w.refresh t
    (x.st = .init → x.st.code = 0 ∧ x.so0 = false ∧ x.so1 = false ∧ x.pkr = false ∧ x.sol0.on = false ∧
      x.sol1.on = false ∧ x.wstat = false) ∧
    (x.st = .start → x.st.code = 1 ∧ x.so0 = false ∧ x.so1 = false) ∧
    (x.st = .run → x.st.code = 2 ∧ x.wstat = true) ∧
    (x.st = .lockout → x.st.code = 3 ∧ x.so0 = false ∧ x.so1 = false ∧ x.wstat = false) := by
  intro x
  have off (st : WSt) (hst : w.nextSt t = st) (hne : st ≠ .run) : x.so0 = false ∧ x.so1 = false :=
    so_off_of_st w t (hst ▸ hne)
  refine ⟨fun hst => ?_, fun hst => ?_, fun hst => ?_, fun hst => ?_⟩
  · obtain ⟨h0, h1⟩ := off .init hst (by decide)
    have hstage : w.stage (w.nextSt t) = false := Bool.eq_false_iff.mpr fun e => ((stage_iff w _).mp e).2.2.2 hst
    obtain ⟨hp, k0, k1⟩ := stage_off w t hstage
    exact ⟨by rw [hst]; rfl, h0, h1, hp, k0, k1, refresh_wstat .init hst⟩
  · exact ⟨by rw [hst]; rfl, off .start hst (by decide)⟩
  · refine ⟨by rw [hst]; rfl, (refresh_wstat .run hst).trans ?_⟩
    rw [h.powered, vload_of_nextSt_run h hst]
    rfl
  · obtain ⟨h0, h1⟩ := off .lockout hst (by decide)
    exact ⟨by rw [hst]; rfl, h0, h1, refresh_wstat .lockout hst⟩

end Table

theorem calm_of_none {w : Welt} (h : w.resetAt = none) (t : Nat) : w.calm t := fun r e => by simp [h] at e

/-- In a START that lasts, WSTAT alternates at its command (R313). -/
theorem wstat_of_alternate {k : WAt} {s t : State} (ht : exec (.wstatAlternate k) s = .next t)
    (hon : (s.welt k.w).powered = true) (hcalm : (s.welt k.w).calm k.t) (hst : (s.welt k.w).st = .start)
    (hstart : (t.welt k.w).st = .start) : (t.welt k.w).wstat = !(s.welt k.w).wstat := by
  obtain ⟨x, hx, hP⟩ := weltGets_calm (i := .wstatAlternate k) (rfl : execWstatAlternate k s = _) hon hcalm
    (P := fun x => x.st = .start → x.wstat = !(s.welt k.w).wstat) (by
      rw [if_pos (show ((s.welt k.w).settle k.t).st = .start from hst)]
      exact fun h => refresh_wstat .start h)
  rw [hx] at ht
  cases ht
  rw [welt_setWelt] at hstart ⊢
  exact hP hstart

/-- Settles O5: the command ends in the refresh of a bounded Welt, and no command but one moves WSTAT in START. -/
theorem weltStatesBoundTheOutputs : Obligations.WeltStatesBoundTheOutputs := by
  intro i s t w hs hon ha hloss hup ht x
  have hw : (s.welt w).Safe := by cases w; exacts [hs.1, hs.2]
  obtain ⟨l, rfl, f, op⟩ := exists_weltOp ha hloss hup
  obtain ⟨hb, hx⟩ := op.welt_next ht hw hon
  obtain ⟨hinit, hstart, hrun, hlock⟩ := refresh_table (t := l.t) hb
  rw [← hx] at hinit hstart hrun hlock
  refine ⟨hinit, hstart, fun hst hold hnone => ⟨fun ⟨k, hk⟩ => ?_, fun hne => ?_⟩, hrun, hlock⟩
  · subst hk
    have hkl : k.w = l.w := Agent.welt.inj ha
    simp only [x, ← hkl] at hst hold hon hnone ⊢
    exact wstat_of_alternate ht hon (calm_of_none hnone k.t) hold hst
  · have hst' := hst
    simp only [x] at hst' ⊢
    rw [hx] at hst' ⊢
    rw [resetStep_calm _ _ (calm_of_none hnone l.t)] at hst' ⊢
    exact (refresh_wstat .start hst').trans (op.wstat hne _ hold hst')

end Sys2Proof.Machine
end

section
/-! PROOF. ClaimsStayFreshFor1200Wclk (O7) and HighestFreshClaimIsAccepted (O8): what a word leaves of its lane, and
that every decode and every expiry accepts the best lane (R297 to R299). -/

namespace Sys2Proof.Machine

-- One proof after another: with each in a thread of its own the joined text nears the check's memory limit.
set_option Elab.async false

section Lanes
variable (w : Welt) (t : Nat)

theorem lane_set_self (k : Fin 3) (x : Lane) : (w.lanes.set k x)[k] = x := by simp

theorem lane_set_ne {j k : Fin 3} (h : j ≠ k) (x : Lane) : (w.lanes.set k x)[j] = w.lanes[j] :=
  Vector.getElem_set_ne _ _ fun e => h (Fin.ext e.symm)

theorem decodeLane_ne {j k : Fin 3} (h : j ≠ k) (x : ClaimWord) : (w.decodeLane t k x).lanes[j] = w.lanes[j] :=
  lane_set_ne w h _

/-- A good word with a valid claim makes its lane fresh (R297, R298). -/
theorem decodeLane_valid {k : Fin 3} {x : ClaimWord} (hgood : wordGood w.lanes[k] x = true)
    (hvalid : claimValid k x.claim = true) : let y := (w.decodeLane t k x).lanes[k]
    y.claim = x.claim ∧ y.fresh = true ∧ y.freshAt = t ∧ y.word = some x := by
  intro y
  obtain ⟨l, hl⟩ : ∃ l : Lane, y =
      { l with word := some x, claim := x.claim, fresh := true, freshAt := t, sight := y.sight } := by
    simp only [y, Welt.decodeLane, hgood, hvalid, lane_set_self]
    exact ⟨_, rfl⟩
  rw [hl]
  exact ⟨rfl, rfl, rfl, rfl⟩

/-- A word that is not good leaves the claim of its lane (R297, R298). -/
theorem decodeLane_bad {k : Fin 3} {x : ClaimWord} (hbad : wordGood w.lanes[k] x = false) :
    let y := (w.decodeLane t k x).lanes[k]
    y.claim = w.lanes[k].claim ∧ y.fresh = w.lanes[k].fresh ∧ y.freshAt = w.lanes[k].freshAt ∧
      y.word = w.lanes[k].word := by
  intro y
  simp only [y, Welt.decodeLane, hbad, lane_set_self]
  cases x.symOk <;> exact ⟨rfl, rfl, rfl, rfl⟩

@[simp] theorem clockCheck_lanes : (w.clockCheck t).lanes = w.lanes := by
  rcases clockCheck_eq w t with h | h <;> rw [h]
  obtain ⟨_, _, h⟩ := addCause_eq w t .clock
  rw [h]

/-- The best lane rests on the lanes alone (R299). -/
theorem best_congr {x : Welt} (h : x.lanes = w.lanes) : x.best = w.best := by
  unfold Welt.best
  rw [h]

/-- After its judgement the accepted lane is the best one, and a Welt with a fresh lane is no orphan (R299, R304). -/
theorem evaluate_accepts (d : List (Fin 3)) (u : Nat) : let x := (w.evaluate t d).refresh u
    x.lanes = w.lanes ∧ x.accepted = x.best ∧ (x.best ≠ none → x.orphan = none) := by
  intro x
  obtain ⟨m, o, b, p, h, ho⟩ := evaluate_eq w t d
  have hl : x.lanes = w.lanes := by simp [x, h]
  rw [best_congr w hl]
  exact ⟨hl, by simp [x, h], fun hb => by simp [x, h, ho hb]⟩

/-- Neither a deliberate reset nor what time brings touches the claims (R304, R316). -/
theorem settled_claims : ((w.resetStep t).settle t).lanes = w.lanes ∧
    ((w.resetStep t).settle t).accepted = w.accepted := by
  obtain ⟨_, _, _, _, _, _, _, _, _, _, _, _, _, h⟩ := resetStep_eq w t
  simp [h]

end Lanes

section Words
variable {w : Welt} {t : Nat}

/-- Words that are decoded in one WCLK (R297, R298). -/
def Welt.decodeAll (w : Welt) (t : Nat) (words : List (Ch × ClaimWord)) : Welt :=
  words.foldl (fun w p => w.decodeLane t p.1.idx p.2) w

theorem idx_inj {j k : Ch} (h : j.idx = k.idx) : j = k := by cases j <;> cases k <;> trivial

/-- Words of other channels leave a lane. -/
theorem decodeAll_ne {words : List (Ch × ClaimWord)} {ch : Ch} (h : ∀ p ∈ words, p.1 ≠ ch) :
    (w.decodeAll t words).lanes[ch.idx] = w.lanes[ch.idx] := by
  induction words generalizing w with
  | nil => rfl
  | cons q words ih =>
    have hq : ch.idx ≠ q.1.idx := fun e => h q (by simp) (idx_inj e.symm)
    exact (ih fun p hp => h p (by simp [hp])).trans (decodeLane_ne w t hq q.2)

/-- Of words on different lanes each good one with a valid claim makes its lane fresh (R298, R299). -/
theorem decodeAll_valid {words : List (Ch × ClaimWord)} (hd : words.Pairwise fun p q => p.1 ≠ q.1)
    {p : Ch × ClaimWord} (hp : p ∈ words) (hgood : wordGood w.lanes[p.1.idx] p.2 = true)
    (hvalid : claimValid p.1.idx p.2.claim = true) : let y := (w.decodeAll t words).lanes[p.1.idx]
    y.claim = p.2.claim ∧ y.fresh = true ∧ y.freshAt = t ∧ y.word = some p.2 := by
  induction words generalizing w with
  | nil => nomatch hp
  | cons q words ih =>
    obtain ⟨hq, hrest⟩ := List.pairwise_cons.mp hd
    rcases List.mem_cons.mp hp with rfl | hp
    · rw [show w.decodeAll t (p :: words) = (w.decodeLane t p.1.idx p.2).decodeAll t words from rfl,
        decodeAll_ne fun r hr => (hq r hr).symm]
      exact decodeLane_valid w t hgood hvalid
    · have hlane := decodeLane_ne w t (fun e => hq p hp (idx_inj e.symm)) q.2 (j := p.1.idx)
      exact ih hrest hp (by rwa [hlane])

/-- CLAIM_WORD_DECODE: the words' lanes, then the best of all (R297 to R299). -/
theorem weltGets_decode {s : State} {l : WAt} {words : List (Ch × ClaimWord)} {P : Welt → Prop}
    (hon : (s.welt l.w).powered = true)
    (hP : ∀ v x : Welt, v.lanes = (s.welt l.w).lanes → x.lanes = (v.decodeAll l.t words).lanes → x.accepted = x.best →
      (x.best ≠ none → x.orphan = none) → P x) : s.weltGets (.claimWordDecode l words) l.w P := by
  refine weltGets_on (i := .claimWordDecode l words) (rfl : execClaimWordDecode l words s = _) hon ?_
  dsimp only
  generalize hv : ((s.welt l.w).resetStep l.t).settle l.t = v
  obtain ⟨hl, ha, ho⟩ := evaluate_accepts ((v.decodeAll l.t words).clockCheck l.t) l.t _ l.t
  exact hP v _ (hv ▸ (settled_claims _ l.t).1) (hl.trans (clockCheck_lanes ..)) ha ho

/-- A lane whose claim is 1,200 WCLK old (R298). -/
def Lane.stale (x : Lane) : Lane := { x with fresh := false, claim := 0 }

/-- CLAIM_STALE: a lane whose claim is 1,200 WCLK old is fresh no more; another one is left alone (R298, R299). -/
theorem weltGets_stale {s : State} {l : WAt} {ch : Ch} {P : Welt → Prop} (hon : (s.welt l.w).powered = true)
    (hfresh : ((s.welt l.w).lanes[ch.idx]).fresh = true)
    (hP : ∀ x : Welt,
      (((s.welt l.w).lanes[ch.idx]).freshAt + 1200 ≤ l.t →
        x.lanes = (s.welt l.w).lanes.set ch.idx ((s.welt l.w).lanes[ch.idx]).stale ∧
        x.accepted = x.best) →
      (l.t < ((s.welt l.w).lanes[ch.idx]).freshAt + 1200 →
        x.lanes = (s.welt l.w).lanes ∧ x.accepted = (s.welt l.w).accepted) → P x) :
    s.weltGets (.claimStale l ch) l.w P := by
  refine weltGets_on (i := .claimStale l ch) (rfl : execClaimStale l ch s = _) hon ?_
  obtain ⟨hlanes, hacc⟩ := settled_claims (s.welt l.w) l.t
  dsimp only
  generalize hv : ((s.welt l.w).resetStep l.t).settle l.t = v at hlanes hacc
  rw [hlanes, hfresh, Bool.true_and]
  refine hP _ (fun hold => ?_) (fun hyoung => ?_)
  · rw [decide_eq_true hold]
    obtain ⟨hl, ha, -⟩ := evaluate_accepts { v with
      lanes := (s.welt l.w).lanes.set ch.idx ((s.welt l.w).lanes[ch.idx]).stale } l.t [] l.t
    exact ⟨hl, ha⟩
  · rw [decide_eq_false (Nat.not_le.mpr hyoung)]
    exact ⟨hlanes, hacc⟩

end Words

section Best
variable {w : Welt}

/-- One lane more in the search for the highest fresh claim (R299). -/
def Welt.better (w : Welt) (acc : Option (Fin 3)) (k : Fin 3) : Option (Fin 3) :=
  if !(w.lanes[k]).fresh then acc
  else match acc with
    | none => some k
    | some j => if (w.lanes[j]).claim < (w.lanes[k]).claim then some k else some j

theorem best_eq : w.best = (List.finRange 3).foldl w.better none := rfl

/-- A lane is the best of some: fresh, with no fresh claim of theirs above its own; or there is none (R299). -/
def Welt.BestOf (w : Welt) (ks : List (Fin 3)) : Option (Fin 3) → Prop
  | none => ∀ k ∈ ks, (w.lanes[k]).fresh = false
  | some k => k ∈ ks ∧ (w.lanes[k]).fresh = true ∧
      ∀ j ∈ ks, (w.lanes[j]).fresh = true → (w.lanes[j]).claim ≤ (w.lanes[k]).claim

theorem bestOf_better {ks : List (Fin 3)} {acc : Option (Fin 3)} (h : w.BestOf ks acc) (k : Fin 3) :
    w.BestOf (ks ++ [k]) (w.better acc k) := by
  have hall {p : Fin 3 → Prop} (hks : ∀ j ∈ ks, p j) (hk : p k) : ∀ j ∈ ks ++ [k], p j := fun j hj => by
    rcases List.mem_append.mp hj with hj | hj
    · exact hks j hj
    · rwa [List.mem_singleton.mp hj]
  unfold Welt.better
  cases hk : (w.lanes[k]).fresh with
  | false =>
    cases acc with
    | none => exact hall h hk
    | some i =>
      obtain ⟨hi, hfresh, hmax⟩ := h
      exact ⟨List.mem_append_left _ hi, hfresh, hall hmax fun hf => nomatch hk.symm.trans hf⟩
  | true =>
    have hin : k ∈ ks ++ [k] := List.mem_append_right _ (List.mem_singleton.mpr rfl)
    cases acc with
    | none => exact ⟨hin, hk, hall (fun j hj hf => nomatch hf.symm.trans (h j hj)) fun _ => BitVec.le_refl _⟩
    | some i =>
      obtain ⟨hi, hfresh, hmax⟩ := h
      dsimp only
      by_cases hlt : (w.lanes[i]).claim < (w.lanes[k]).claim
      · rw [if_pos hlt]
        exact ⟨hin, hk, hall (fun j hj hf => BitVec.le_trans (hmax j hj hf) (BitVec.le_of_lt hlt))
          fun _ => BitVec.le_refl _⟩
      · rw [if_neg hlt]
        exact ⟨List.mem_append_left _ hi, hfresh, hall hmax fun _ => BitVec.not_lt.mp hlt⟩

theorem bestOf_foldl (ks : List (Fin 3)) : w.BestOf ks (ks.foldl w.better none) := by
  induction ks using List.reverseRecOn with
  | nil => exact fun k hk => nomatch hk
  | append_singleton ks k ih =>
    rw [List.foldl_append]
    exact bestOf_better ih k

theorem best_spec : (w.best = none ↔ ∀ k : Fin 3, (w.lanes[k]).fresh = false) ∧
    ∀ k : Fin 3, w.best = some k → (w.lanes[k]).fresh = true ∧
      ∀ j : Fin 3, (w.lanes[j]).fresh = true → (w.lanes[j]).claim ≤ (w.lanes[k]).claim := by
  have h : w.BestOf (List.finRange 3) w.best := by rw [best_eq]; exact bestOf_foldl _
  cases hb : w.best with
  | none =>
    rw [hb] at h
    exact ⟨⟨fun _ k => h k (List.mem_finRange k), fun _ => rfl⟩, nofun⟩
  | some k =>
    rw [hb] at h
    obtain ⟨-, hfresh, hmax⟩ := h
    refine ⟨⟨nofun, fun hall => nomatch hfresh.symm.trans (hall k)⟩, fun j hj => ?_⟩
    obtain rfl : k = j := Option.some.inj hj
    exact ⟨hfresh, fun i => hmax i (List.mem_finRange i)⟩

end Best

/-- Settles O8: the search of the lanes, then a decode and an expiry, each of which accepts the best lane. -/
theorem highestFreshClaimIsAccepted : Obligations.HighestFreshClaimIsAccepted := by
  refine ⟨fun w => best_spec, fun s l words hon hd => weltGets_decode hon fun v x hv hx ha _ =>
    ⟨ha, fun p hp hgood hvalid => ?_⟩, fun s l ch hon hfresh hold => weltGets_stale hon hfresh fun x hx _ => ?_⟩
  · obtain ⟨hclaim, hfresh, hat, -⟩ := decodeAll_valid (w := v) (t := l.t) hd hp (by rwa [hv]) hvalid
    rw [hx]
    exact ⟨hfresh, hclaim, by omega⟩
  · obtain ⟨hl, ha⟩ := hx hold
    rw [hl, lane_set_self]
    exact ⟨rfl, ha⟩

/-- Settles O7: the word of one lane, good or not, and the expiry of a claim before and at its 1,200 WCLK. -/
theorem claimsStayFreshFor1200Wclk : Obligations.ClaimsStayFreshFor1200Wclk := by
  intro s l ch word hon lane
  refine ⟨fun hgood hvalid => weltGets_decode hon fun v x hv hx ha ho => ?_,
    fun hbad => weltGets_decode hon fun v x hv hx _ _ => ?_,
    fun hfresh hold => weltGets_stale hon hfresh fun x hx _ => hx hold,
    fun hfresh hyoung => weltGets_stale hon hfresh fun x _ hx => hx hyoung⟩
  · obtain ⟨hclaim, hfresh, hat, hword⟩ := decodeLane_valid v l.t (k := ch.idx) (x := word) (by rwa [hv]) hvalid
    have hlane : x.lanes[ch.idx] = (v.decodeLane l.t ch.idx word).lanes[ch.idx] := by rw [hx]; rfl
    rw [← hlane] at hclaim hfresh hat hword
    refine ⟨hclaim, hfresh, hat, hword, ho fun hnone => ?_, ha⟩
    exact nomatch hfresh.symm.trans (best_spec.1.mp hnone ch.idx)
  · have h := decodeLane_bad v l.t (k := ch.idx) (x := word) (by rwa [hv])
    have hlane : x.lanes[ch.idx] = (v.decodeLane l.t ch.idx word).lanes[ch.idx] := by rw [hx]; rfl
    rwa [← hlane, hv] at h

end Sys2Proof.Machine
end

section
/-! PROOF. AcceptedWordApplies (O9) and OrphanedWeltFallsBack (O10): what a word that applies writes, and what the three
delays of an orphaned Welt bring (R300, R304, R305, R307, R323). -/

namespace Sys2Proof.Machine

-- One proof after another: with each in a thread of its own the joined text nears the check's memory limit.
set_option Elab.async false

section Apply
variable (w : Welt) (t : Nat)

/-- A word that applies writes its setpoints and requests; its setting follows (R300, R304, R305, R307, R320). -/
theorem applyWord_eq (x : ClaimWord) : ∃ s1 s2 s3 s4 s5 s6 s7 s8 s9 p q h n arm c rb, w.applyWord t x =
    { w with sp0 := clampMa x.sp0, sp1 := clampMa x.sp1, so0Req := x.req.getLsbD 3, so1Req := x.req.getLsbD 2
             pkrReq := x.req.getLsbD 1, accSeq := x.seq
             clamp := decide (3000 < x.sp0.toNat) || decide (3000 < x.sp1.toNat)
             pkrDrop := w.pkrDrop && !(w.pkrArm && x.req.getLsbD 1)
             set1 := s1, set2 := s2, set3 := s3, set4 := s4, set5 := s5, set6 := s6, set7 := s7, set8 := s8, set9 := s9
             pair0 := p, pair1 := q, held := h, note := n, pkrArm := arm, causeAt := c, resetBad := rb } := by
  unfold Welt.applyWord
  extract_lets rel big newly clampTo note arm drop v u
  obtain ⟨c, rb, hu⟩ : ∃ c rb, u = { v with causeAt := c, resetBad := rb } := by
    by_cases hn : newly = true
    · exact ⟨_, _, if_pos hn⟩
    · exact ⟨w.causeAt, w.resetBad, if_neg hn⟩
  obtain ⟨s1, s2, s3, s4, s5, s6, s7, s8, s9, p, q, h, e⟩ := takeSetting_eq u t x.saddr.toNat x.sdata
  rw [e, hu]
  exact ⟨s1, s2, s3, s4, s5, s6, s7, s8, s9, p, q, h, note, arm && drop, c, rb, rfl⟩

/-- The one word that is scheduled and due applies (R300). -/
theorem applyDue_single {w : Welt} {t a : Nat} {k : Fin 3} {x : ClaimWord} (h : w.apply = [(a, k, x)]) (ha : a ≤ t) :
    w.applyDue t = { w with apply := [] }.applyWord t x := by
  simp [Welt.applyDue, h, ha, Nat.not_lt.mpr ha]

end Apply

/-- Settles O9: the word that is due, by what it writes. -/
theorem acceptedWordApplies : Obligations.AcceptedWordApplies := by
  intro s l a k word hon happly ha hcalm
  refine weltGets_calm (i := .claimApply l) (rfl : execClaimApply l s = _) hon hcalm ?_
  dsimp only
  rw [applyDue_single (w := (s.welt l.w).settle l.t) happly ha]
  obtain ⟨_, _, _, _, _, _, _, _, _, _, _, _, _, _, _, _, h⟩ :=
    applyWord_eq { (s.welt l.w).settle l.t with apply := [] } l.t word
  rw [h]
  exact ⟨rfl, toNat_clampMa _, toNat_clampMa _, rfl, rfl, rfl, rfl, (Bool.decide_or ..).symm, rfl, rfl, rfl, rfl, rfl⟩

section Orphan
variable (w : Welt) (t : Nat)

/-- A deliberate reset and what time brings leave the orphan state's entry, the setpoints, the fallback settings and the
delays alone (R304, R316). -/
theorem settled_orphan : let x := (w.resetStep t).settle t
    x.orphan = w.orphan ∧ x.sp0 = w.sp0 ∧ x.sp1 = w.sp1 ∧ x.set6 = w.set6 ∧ x.set7 = w.set7 ∧ x.set8 = w.set8 ∧
      x.lanes = w.lanes := by
  obtain ⟨_, _, _, _, _, _, _, _, _, _, _, _, _, h⟩ := resetStep_eq w t
  simp [h]

/-- An orphaned Welt keeps its safety outputs off from 12 WCLK on (R304, R312). -/
theorem so_off_of_orphSet (h : w.orphSet = true) : (w.refresh t).so0 = false ∧ (w.refresh t).so1 = false := by
  have off (k : Nat) (req : Bool) : w.soOn (w.nextSt t) k req = false :=
    Bool.eq_false_iff.mpr fun e => nomatch h.symm.trans ((soOn_iff w _ k req).mp e).2.2.2.2.1
  exact ⟨off 0 _, off 1 _⟩

theorem orphSet_settle {w : Welt} {t o : Nat} (h : w.orphan = some o) (ho : o + 12 ≤ t) :
    (w.settle t).orphSet = true := by
  simp [Welt.settle, Welt.orphanDue, h, ho]

end Orphan

/-- Settles O10: each of the three delays in turn. -/
theorem orphanedWeltFallsBack : Obligations.OrphanedWeltFallsBack := by
  intro s l o hon hs horph w
  obtain ⟨ho, h0, h1, h6, h7, h8, hl⟩ := settled_orphan w l.t
  rw [show w.orphan = some o from horph] at ho
  refine ⟨fun hat => ?_, fun hat => ?_, fun hat => ?_⟩
  · refine weltGets_send hon ?_
    have hset : ((w.resetStep l.t).settle l.t).orphSet = true := orphSet_settle ho hat
    exact ⟨hset, so_off_of_orphSet _ l.t hset⟩
  · refine weltGets_on (i := .orphHoldExpiry l) (rfl : execOrphHoldExpiry l s = _) hon ?_
    obtain ⟨-, -, hb6, hb7⟩ := hs.sp
    generalize (w.resetStep l.t).settle l.t = v at *
    rw [ho]
    dsimp only
    rw [if_pos (by rwa [h8])]
    refine ⟨(toNat_raised v.sp0 (by rwa [h6])).trans (by rw [h0, h6]),
      (toNat_raised v.sp1 (by rwa [h7])).trans (by rw [h1, h7]), hl⟩
  · refine weltGets_on (i := .pkrDelayExpiry l) (rfl : execPkrDelayExpiry l s = _) hon ?_
    generalize (w.resetStep l.t).settle l.t = v at *
    rw [ho]
    dsimp only
    rw [if_pos (by rwa [h8])]
    exact ⟨rfl, rfl, by simp [refresh_pkr], h0, h1⟩

end Sys2Proof.Machine
end

section
/-! PROOF. SolenoidsAreRegulated (O11): a solenoid that a command writes, as the refresh leaves it, and the loops
command by command (R305, R306). -/

namespace Sys2Proof.Machine

-- One proof after another: with each in a thread of its own the joined text nears the check's memory limit.
set_option Elab.async false

section Sols
variable (w : Welt) (t : Nat)

@[simp] theorem sol_setSol (k : Fin 2) (x : Sol) : (w.setSol k x).sol k = x := by
  fin_cases k <;> rfl

theorem sol_setSol_ne (x : Sol) : ∀ {j k : Fin 2}, j ≠ k → (w.setSol k x).sol j = w.sol j
  | 0, 0, h | 1, 1, h => absurd rfl h
  | 0, 1, _ | 1, 0, _ => rfl

/-- A solenoid that a command writes is on where its driver, its latch and its setpoint let it be, and the other one
keeps its registers (R305, R306). -/
theorem refresh_setSol {j k : Fin 2} (h : j ≠ k) (x : Sol) : let y := (w.setSol k x).refresh t
    ∃ b, (y.driving ↔ b = true) ∧ y.sol k = x.under b (w.sp k) ∧ y.sol j = (w.sol j).under b (w.sp j) ∧
      y.causes = w.causes := by
  intro y
  have hsp (i : Fin 2) : (w.setSol k x).sp i = w.sp i := by
    obtain ⟨p, q, e⟩ := setSol_eq w k x
    rw [e]; rfl
  refine ⟨_, refresh_driving_iff _ t, ?_, ?_, ?_⟩
  · rw [refresh_sol, sol_setSol, hsp]
  · rw [refresh_sol, sol_setSol_ne w x h, hsp]
  · obtain ⟨p, q, e⟩ := setSol_eq w k x
    simp [y, e]

theorem under_under (x : Sol) (b c : Bool) (sp : BitVec 12) : (x.under b sp).under c sp = x.under (b && c) sp := by
  have h : (x.on && b && !x.fault && sp != 0 && c && !x.fault && sp != 0) =
      (x.on && (b && c) && !x.fault && sp != 0) := by
    cases x.on <;> cases b <;> cases x.fault <;> cases sp != 0 <;> cases c <;> rfl
  simp only [Sol.under, h]

/-- The word that a Welt sends shows its solenoids as the refresh leaves them (R318). -/
theorem send_sol (k : Fin 2) : ∃ b, ((w.sendNow t).refresh t).sol k = (w.sol k).under b (w.sp k) := by
  have hsol : (w.sendNow t).sol k = (w.sol k).under (w.stage (w.nextSt t)) (w.sp k) := refresh_sol w t k
  exact ⟨_, by rw [refresh_sol, hsol, show (w.sendNow t).sp k = w.sp k from rfl, under_under]⟩

/-- The count that a regulator interval sets (R305). -/
theorem onCount_of_sp (v : BitVec 12) (n : Nat) :
    (if v.toNat = 0 then 0 else min 20000 n) = if v = 0 then 0 else min 20000 n := by
  simp only [show v.toNat = 0 ↔ v = 0 from ⟨fun h => BitVec.eq_of_toNat_eq h, fun h => h ▸ rfl⟩]

/-- After its on-count a solenoid is off, whatever the outputs (R305). -/
theorem past_off {x : Sol} (h : x.perAt + x.onCount ≤ t) : (x.past t).on = false := by
  simp [Sol.past, Nat.not_lt.mpr h]

end Sols

/-- The sample of an open load: since when the current has stood below half its setpoint at the full on-count (R306). -/
theorem openSince_isSome (low : Bool) (o : Option Nat) (t : Nat) :
    (if low then (if o.isSome then o else some t) else none).isSome = low := by
  cases low <;> cases o <;> rfl

/-- A short or an open load that is latched turns its solenoid off, and no other (R306). -/
theorem weltGets_latchSol {s : State} {i : Instr} {l : WAt} {f : Welt → Welt} {j k : Fin 2}
    (hi : exec i s = onPowered l s f) (hon : (s.welt l.w).powered = true) (hcalm : (s.welt l.w).calm l.t) (hj : j ≠ k)
    (hf : ∀ v : Welt, v = (s.welt l.w).settle l.t → f v = v.setSol k { v.sol k with fault := true, on := false }) :
    s.weltGets i l.w fun x =>
      (x.sol k).fault = true ∧ (x.sol k).on = false ∧ (x.sol j).fault = ((s.welt l.w).sol j).fault ∧
        x.causes = (s.welt l.w).causes := by
  refine weltGets_calm hi hon hcalm ?_
  rw [hf _ rfl]
  obtain ⟨b, -, hk, hj, hc⟩ := refresh_setSol ((s.welt l.w).settle l.t) l.t hj
    { ((s.welt l.w).settle l.t).sol k with fault := true, on := false }
  rw [hk, hj, hc, settle_sol, settle_sol]
  exact ⟨rfl, by simp [Sol.under], rfl, rfl⟩

/-- Settles O11: each command of the loops by what it writes of its solenoid. -/
theorem solenoidsAreRegulated : Obligations.SolenoidsAreRegulated := by
  intro s l k j mean hon hcalm hj w
  refine ⟨?_, fun hat => ?_, ?_, fun hat => ?_, fun hen => if_pos hen, ?_, fun a ha hat => ?_⟩
  · refine weltGets_calm (i := .solPwmPeriodStart l k) (rfl : execSolPwmPeriodStart l k s = _) hon hcalm ?_
    dsimp only
    obtain ⟨b, hb, hk, hj, -⟩ := refresh_setSol (w.settle l.t) l.t hj { (w.settle l.t).sol k with
      perAt := l.t, on := decide (0 < ((w.settle l.t).sol k).onCount) && !((w.settle l.t).sol k).fault }
    rw [hk, hj, hb, under_on_iff, settle_sol, settle_sol]
    refine ⟨rfl, rfl, rfl, ?_, rfl⟩
    simp only [Bool.and_eq_true, decide_eq_true_eq, Bool.not_eq_true']
    exact ⟨fun ⟨⟨hn, hf⟩, hb, _, hsp⟩ => ⟨hn, hf, hb, hsp⟩, fun ⟨hn, hf, hb, hsp⟩ => ⟨⟨hn, hf⟩, hb, hf, hsp⟩⟩
  · refine weltGets_send hon ?_
    rw [resetStep_calm _ _ hcalm]
    obtain ⟨b, hk⟩ := send_sol (w.settle l.t) l.t k
    rw [hk, settle_sol]
    exact ⟨by simp [Sol.under, past_off l.t hat], rfl⟩
  · refine weltGets_calm (i := .solLoopInterval l k mean) (rfl : execSolLoopInterval l k mean s = _) hon hcalm ?_
    extract_lets x sp n low since
    obtain ⟨b, -, hk, -, -⟩ := refresh_setSol (w.settle l.t) l.t hj
      { x with onCount := n, ma := mean, openAt := since, on := x.on && decide (l.t - x.perAt < n) }
    rw [hk]
    refine ⟨rfl, by simp only [x, settle_sol]; rfl, onCount_of_sp .., ?_⟩
    show since.isSome = true ↔ 100 ≤ sp ∧ n = 20000 ∧ 2 * mean.toNat < sp
    rw [openSince_isSome low x.openAt l.t]
    simp [low, and_assoc]
  · refine weltGets_calm (i := .ditherToggle l) (rfl : execDitherToggle l s = _) hon hcalm ?_
    rw [if_pos (show ((s.welt l.w).settle l.t).ditherAt + 200000 ≤ l.t from hat)]
    exact ⟨rfl, rfl, rfl, rfl⟩
  · exact weltGets_latchSol (i := .solShort l k) (rfl : execSolShort l k s = _) hon hcalm hj fun _ _ => rfl
  · obtain ⟨x, hx, hfault, hoff, hother, -⟩ :=
      weltGets_latchSol (i := .solOpen l k) (rfl : execSolOpen l k s = _) hon hcalm hj fun v hv => by
        have hopen : (v.sol k).openAt = some a := by rw [hv, settle_sol]; exact ha
        rw [hopen]
        exact if_pos hat
    exact ⟨x, hx, hfault, hoff, hother⟩

end Sys2Proof.Machine
end

section
/-! PROOF. GuardPairsFollowTheirInputs (O12): the step of a pair in each of its states, and the discrepancy that a
TRANSIT which lasts raises (R308 to R310, R314, R315). -/

namespace Sys2Proof.Machine

-- One proof after another: with each in a thread of its own the joined text nears the check's memory limit.
set_option Elab.async false

section Pairs
variable {w : Welt} {t : Nat} {p q : Fin 2}

@[simp] theorem pair_setPair (x : Pair) : (w.setPair p x).pair p = x := by fin_cases p <;> rfl

theorem pair_setPair_ne (x : Pair) : ∀ {p q : Fin 2}, q ≠ p → (w.setPair p x).pair q = w.pair q
  | 0, 0, h | 1, 1, h => absurd rfl h
  | 0, 1, _ | 1, 0, _ => rfl

theorem pairStep_of_disabled (h : w.pairEn p = false) : w.pairStep t p = w := by simp [Welt.pairStep, h]

theorem pairStep_of_closed (hen : w.pairEn p = true) (hst : (w.pair p).st = .closed) (hin : w.closedIn p = false) :
    w.pairStep t p =
      w.setPair p { w.pair p with st := .transit, at_ := t, fromClosed := true, fromOpen := false } := by
  simp [Welt.pairStep, hen, hst, hin]

theorem pairStep_of_open (hen : w.pairEn p = true) (hst : (w.pair p).st = .open_) (hin : w.openIn p = false) :
    w.pairStep t p =
      w.setPair p { w.pair p with st := .transit, at_ := t, fromClosed := false, fromOpen := true } := by
  simp [Welt.pairStep, hen, hst, hin]

theorem pairStep_to_open (hen : w.pairEn p = true) (hst : (w.pair p).st = .transit) (hin : w.openIn p = true) :
    w.pairStep t p = w.setPair p { w.pair p with st := .open_ } := by
  simp [Welt.pairStep, hen, hst, hin]

theorem pairStep_to_closed (hen : w.pairEn p = true) (hst : (w.pair p).st = .transit)
    (hfrom : (w.pair p).fromClosed = false) (hin : w.closedIn p = true) (hout : w.openIn p = false) :
    w.pairStep t p = w.setPair p { w.pair p with
      st := .closed, passed := (w.pair p).passed || ((w.pair p).fromOpen && w.st == .start) } := by
  simp [Welt.pairStep, hen, hst, hfrom, hin, hout]

/-- A step of one pair leaves the other. -/
theorem pairStep_pair_ne (h : q ≠ p) : (w.pairStep t p).pair q = w.pair q := by
  rcases pairStep_cases w t p with e | ⟨x, e⟩ <;> rw [e]
  exact pair_setPair_ne x h

/-- A refresh leaves the pairs as the step left them. -/
theorem pair_refresh_of_step {x : Pair} (h : w.pairStep t p = w.setPair p x) :
    ((w.pairStep t p).refresh t).pair p = x := by
  rw [h]
  exact pair_setPair x

/-- What a step of a pair leaves once its Welt is refreshed, state by state (R310, R314). -/
theorem refresh_pairStep (hq : q ≠ p) : let x := (w.pairStep t p).refresh t
    x.si = w.si ∧ x.siAt = w.siAt ∧ x.pair q = w.pair q ∧ (w.pairEn p = false → x.pair p = w.pair p) ∧
    (w.pairEn p = true → (w.pair p).st = .closed → w.closedIn p = false →
      (x.pair p).st = .transit ∧ (x.pair p).at_ = t ∧ (x.pair p).fromOpen = false) ∧
    (w.pairEn p = true → (w.pair p).st = .open_ → w.openIn p = false →
      (x.pair p).st = .transit ∧ (x.pair p).at_ = t ∧ (x.pair p).fromOpen = true) ∧
    (w.pairEn p = true → (w.pair p).st = .transit → w.openIn p = true → (x.pair p).st = .open_) ∧
    (w.pairEn p = true → (w.pair p).st = .transit → (w.pair p).fromClosed = false → w.closedIn p = true →
      w.openIn p = false → (x.pair p).st = .closed ∧
        (x.pair p).passed = ((w.pair p).passed || ((w.pair p).fromOpen && w.st == .start))) := by
  intro x
  obtain ⟨_, _, h⟩ := pairStep_eq w t p
  refine ⟨by simp [x, h], by simp [x, h], pairStep_pair_ne hq, fun hen => ?_, fun hen hst hin => ?_,
    fun hen hst hin => ?_, fun hen hst hin => ?_, fun hen hst hfrom hin hout => ?_⟩
  · simp only [x, pairStep_of_disabled hen]; rfl
  · simp only [x, pair_refresh_of_step (pairStep_of_closed hen hst hin), and_self]
  · simp only [x, pair_refresh_of_step (pairStep_of_open hen hst hin), and_self]
  · simp only [x, pair_refresh_of_step (pairStep_to_open hen hst hin)]
  · simp only [x, pair_refresh_of_step (pairStep_to_closed hen hst hfrom hin hout), and_self]

/-- The pair that an input belongs to (R308). -/
theorem pair_of_input {n : Fin 4} (h : p.val = n.val / 2) : (if n.val < 2 then (0 : Fin 2) else 1) = p := by
  apply Fin.ext
  split
  · simp only [Fin.val_zero]; omega
  · simp only [Fin.val_one]; omega

/-- DISCREPANCY has the lowest code: it is the cause reported where it acts (R315, R366). -/
theorem head_acting_of_discrepancy (h : w.arisen t .discrepancy = true) :
    (w.acting t).head? = some .discrepancy := by
  simp [Welt.acting, lockCauses, h]

/-- A pair's discrepancy locks a Welt out from RUN and START (R310, R315). -/
theorem refresh_discrepancy (hst : w.st = .run ∨ w.st = .start) : let x := (w.addCause t .discrepancy).refresh t
    x.st = .lockout ∧ x.cause = some .discrepancy ∧ x.so0 = false ∧ x.so1 = false ∧ x.wstat = false ∧
      x.causes.contains .discrepancy = true ∧ x.pair p = w.pair p := by
  obtain ⟨h0, h1, hlock⟩ := refresh_addCause (w := w) (t := t) (c := .discrepancy) (by decide)
  have hlocks : (w.addCause t .discrepancy).locks t = true :=
    locks_of_acting (acting_addCause (by decide)) (by rwa [addCause_st])
  have hcause : ((w.addCause t .discrepancy).refresh t).cause = ((w.addCause t .discrepancy).acting t).head? :=
    if_pos (by rw [hlocks, Bool.true_or])
  refine ⟨hlock hst, hcause.trans (head_acting_of_discrepancy (arisen_addCause _)), h0, h1,
    refresh_wstat .lockout (hlock hst), causes_addCause .., ?_⟩
  obtain ⟨_, _, h⟩ := addCause_eq w t .discrepancy
  rw [h]
  rfl

end Pairs

/-- Settles O12: an accepted level by the state of its pair, one that the filter holds back, and the discrepancy. -/
theorem guardPairsFollowTheirInputs : Obligations.GuardPairsFollowTheirInputs := by
  intro s l n high p q hon hcalm hp hq w v
  refine ⟨fun hready hbit => ?_, fun hheld => ?_, fun hen hst hat hrun => ?_⟩
  · refine weltGets_calm (i := .siLevelAccepted l n high) (rfl : execSiLevelAccepted l n high s = _) hon hcalm ?_
    have hyes : ((w.settle l.t).siReady l.t n && (w.settle l.t).si.getLsbD n.val != high) = true :=
      Bool.and_eq_true_iff.mpr ⟨hready, bne_iff_ne.mpr hbit⟩
    rw [if_pos hyes, pair_of_input hp]
    exact refresh_pairStep hq
  · refine weltGets_calm (i := .siLevelAccepted l n high) (rfl : execSiLevelAccepted l n high s = _) hon hcalm ?_
    have hno : ¬(((w.settle l.t).siReady l.t n && (w.settle l.t).si.getLsbD n.val != high) = true) := fun e => by
      obtain ⟨hready, hbit⟩ := Bool.and_eq_true_iff.mp e
      rcases hheld with h | h
      · exact nomatch h.symm.trans hready
      · exact bne_iff_ne.mp hbit h
    rw [if_neg hno]
    exact ⟨rfl, rfl, rfl, rfl⟩
  · refine weltGets_calm (i := .siDiscrepancy l p) (rfl : execSiDiscrepancy l p s = _) hon hcalm ?_
    obtain ⟨a, b, h⟩ := setPair_eq (w.settle l.t) p { (w.settle l.t).pair p with disc := true }
    have hlast : ((w.settle l.t).pairEn p && ((w.settle l.t).pair p).st == .transit &&
        decide (((w.settle l.t).pair p).at_ + 39400 * (w.settle l.t).set3.toNat ≤ l.t)) = true :=
      Bool.and_eq_true_iff.mpr ⟨Bool.and_eq_true_iff.mpr ⟨hen, beq_iff_eq.mpr hst⟩, decide_eq_true hat⟩
    have hx := refresh_discrepancy (p := p) (t := l.t)
      (w := (w.settle l.t).setPair p { (w.settle l.t).pair p with disc := true }) (by rw [h]; exact hrun)
    dsimp only
    rw [if_pos hlast]
    obtain ⟨hlock, hcause, h0, h1, hwstat, hin, hpair⟩ := hx
    exact ⟨hlock, hcause, h0, h1, hwstat, hin, by rw [hpair, pair_setPair]⟩

end Sys2Proof.Machine
end

section
/-! PROOF. WeltFaultsTurnOutputsOff (O14): a cause that takes the output stage away turns every output off, and the
other faults (R293, R307, R312, R315). -/

namespace Sys2Proof.Machine

-- One proof after another: with each in a thread of its own the joined text nears the check's memory limit.
set_option Elab.async false

section Faults
variable {w : Welt} {t : Nat}

/-- A cause that arises and leaves the Welt dead, or its load supply out of range: every output is off (R293, R315). -/
theorem refresh_addCause_cut {c : WCause} (hc : c ∈ lockCauses)
    (hcut : (w.addCause t c).dead = true ∨ (w.addCause t c).vload = false) : let x := (w.addCause t c).refresh t
    x.so0 = false ∧ x.so1 = false ∧ x.pkr = false ∧ x.sol0.on = false ∧ x.sol1.on = false ∧ x.tp0 = false ∧
      x.tp1 = false ∧ (w.st = .run ∨ w.st = .start → x.st = .lockout) := by
  intro x
  obtain ⟨h0, h1, hlock⟩ := refresh_addCause (w := w) (t := t) hc
  obtain ⟨hstage, htp⟩ := stage_off_of_dead (w.addCause t c) ((w.addCause t c).nextSt t) hcut
  obtain ⟨hp, k0, k1⟩ := stage_off _ t hstage
  obtain ⟨p0, p1⟩ := tp_off _ t htp
  exact ⟨h0, h1, hp, k0, k1, p0, p1, hlock⟩

theorem vload_addCause (c : WCause) : (w.addCause t c).vload = w.vload := by
  obtain ⟨_, _, h⟩ := addCause_eq w t c
  rw [h]

theorem soBad_addCause (c : WCause) : (w.addCause t c).soBad = w.soBad := by
  obtain ⟨_, _, h⟩ := addCause_eq w t c
  rw [h]

/-- CLOCK and INTERNAL leave the Welt dead (R315). -/
theorem dead_addCause_self {c : WCause} (hc : c = .clock ∨ c = .internal) : (w.addCause t c).dead = true := by
  rcases hc with rfl | rfl
  · exact Bool.or_eq_true_iff.mpr (.inl (causes_addCause ..))
  · exact Bool.or_eq_true_iff.mpr (.inr (causes_addCause ..))

end Faults

/-- Settles O14: each fault by what it writes, and what the refresh then turns off. -/
theorem weltFaultsTurnOutputsOff : Obligations.WeltFaultsTurnOutputsOff := by
  intro s l k hon hcalm w
  refine ⟨?_, fun hbad => ?_, ?_, ?_, ?_, ?_, ?_⟩
  · refine weltGets_calm (i := .pkrFault l) (rfl : execPkrFault l s = _) hon hcalm ?_
    exact ⟨rfl, by simp [refresh_pkr, Welt.spoil], rfl, rfl⟩
  · refine weltGets_calm (i := .soFault l ⟨k, false⟩) (rfl : execSoFault l ⟨k, false⟩ s = _) hon hcalm ?_
    exact ⟨Vector.getElem_set_self .., if_pos hbad, rfl⟩
  · refine weltGets_calm (i := .soFault l ⟨k, true⟩) (rfl : execSoFault l ⟨k, true⟩ s = _) hon hcalm ?_
    refine ⟨?_, causes_addCause .., refresh_addCause (by decide)⟩
    show (Welt.addCause _ l.t .soFault).soBad[k] = true
    rw [soBad_addCause]
    exact Vector.getElem_set_self ..
  · refine weltGets_calm (i := .vloadLow l) (rfl : execVloadLow l s = _) hon hcalm ?_
    have hv : (Welt.addCause { w.settle l.t with vload := false } l.t .vload).vload = false := vload_addCause _
    exact ⟨hv, refresh_addCause_cut (by decide) (.inr hv)⟩
  · exact weltGets_calm (i := .vloadRecovered l) (rfl : execVloadRecovered l s = _) hon hcalm ⟨rfl, rfl⟩
  · refine weltGets_calm (i := .weltClockStop l) (rfl : execWeltClockStop l s = _) hon hcalm ?_
    have hdead := dead_addCause_self (w := w.settle l.t) (t := l.t) (c := .clock) (.inl rfl)
    exact ⟨hdead, refresh_addCause_cut (by decide) (.inl hdead)⟩
  · refine weltGets_calm (i := .weltInternalFault l) (rfl : execWeltInternalFault l s = _) hon hcalm ?_
    have hdead := dead_addCause_self (w := w.settle l.t) (t := l.t) (c := .internal) (.inr rfl)
    exact ⟨hdead, refresh_addCause_cut (by decide) (.inl hdead)⟩

end Sys2Proof.Machine
end

section
/-! PROOF. TestPulsesFindCrossCircuits (O13): the pulses by their output, what a start and an end write, and what the
refresh makes of the test-pulse outputs (R293, R311, R315). -/

namespace Sys2Proof.Machine

-- One proof after another: with each in a thread of its own the joined text nears the check's memory limit.
set_option Elab.async false

section Pulses
variable (w : Welt) (t : Nat) (n : Fin 2)

/-- A test-pulse output, its pulse in progress, and the levels kept at its start, by number (R311). -/
def Welt.tpOut (w : Welt) (n : Fin 2) : Bool := if n = 0 then w.tp0 else w.tp1
def Welt.tpLow (w : Welt) (n : Fin 2) : Bool := if n = 0 then w.tpLow0 else w.tpLow1

/-- The pulse of an output ends (R311). -/
def Welt.endPulse (w : Welt) (n : Fin 2) : Welt :=
  if n = 0 then { w with tpLow0 := false } else { w with tpLow1 := false }

theorem refresh_tpOut : (w.refresh t).tpOut n = (w.tpStage && !w.tpLow n) := by
  fin_cases n <;> rfl

theorem endPulse_eq : ∃ a b, w.endPulse n = { w with tpLow0 := a, tpLow1 := b } := by
  unfold Welt.endPulse
  split
  · exact ⟨false, w.tpLow1, rfl⟩
  · exact ⟨w.tpLow0, false, rfl⟩

theorem endPulse_tpLow : (w.endPulse n).tpLow n = false := by fin_cases n <;> rfl

/-- A cause other than CLOCK and INTERNAL leaves the test pulses driven (R315). -/
theorem tpStage_addCause {c : WCause} (hc : c ≠ .clock ∧ c ≠ .internal) : (w.addCause t c).tpStage = w.tpStage := by
  obtain ⟨_, _, h⟩ := addCause_eq w t c
  have keep {d : WCause} (hd : c ≠ d) : (w.addCause t c).causes.contains d = w.causes.contains d := by
    rw [h]
    dsimp only
    split
    · rfl
    · simp [hd.symm]
  have hdead : (w.addCause t c).dead = w.dead := by rw [Welt.dead, keep hc.1, keep hc.2, Welt.dead]
  rw [Welt.tpStage, hdead, h, Welt.tpStage]

theorem tpStage_dropCause {c : WCause} (hc : c ≠ .clock ∧ c ≠ .internal) : (w.dropCause c).tpStage = w.tpStage := by
  have keep {d : WCause} (hd : c ≠ d) : (w.dropCause c).causes.contains d = w.causes.contains d := by
    simp [Welt.dropCause, hd.symm]
  have hdead : (w.dropCause c).dead = w.dead := by rw [Welt.dead, keep hc.1, keep hc.2, Welt.dead]
  rw [Welt.tpStage, hdead]
  rfl

/-- A pulse that ends leaves its output high while the outputs are driven, whatever else is written (R311). -/
theorem tpOut_of_ended {x : Welt} (hlow : x.tpLow n = false) (hstage : x.tpStage = true) :
    (x.refresh t).tpOut n = true := by
  rw [refresh_tpOut, hlow, hstage]
  rfl

end Pulses

/-- A command on a powered Welt with no deliberate reset due, by the Welt that it leaves to the refresh. -/
theorem weltGets_to {s : State} {i : Instr} {l : WAt} {f : Welt → Welt} {P : Welt → Prop}
    (hi : exec i s = onPowered l s f) (hon : (s.welt l.w).powered = true) (hcalm : (s.welt l.w).calm l.t) (y : Welt)
    (hy : f ((s.welt l.w).settle l.t) = y) (hP : P (y.refresh l.t)) : s.weltGets i l.w P :=
  weltGets_calm hi hon hcalm (hy ▸ hP)

/-- Settles O13: the start of a pulse, its end by the checks, and the outputs without their stage. -/
theorem testPulsesFindCrossCircuits : Obligations.TestPulsesFindCrossCircuits := by
  intro s l n raw hon hcalm w tp low snap
  let u := (w.settle l.t).endPulse n
  obtain ⟨a, b, hu⟩ := endPulse_eq (w.settle l.t) n
  have goes (hover : w.tpOver l.t n = true) : ¬((!(w.settle l.t).tpOver l.t n) = true) := by
    simp [show (w.settle l.t).tpOver l.t n = true from hover]
  have hustage : u.tpStage = w.tpStage := by simp only [u, hu]; rfl
  have hulow : u.tpLow n = false := endPulse_tpLow _ n
  have hugood : u.tpGood = w.tpGood := by simp only [u, hu]; rfl
  have hucauses : u.causes = w.causes := by simp only [u, hu]; rfl
  have driven (hstage : w.tpStage = true) : ¬((!u.tpStage) = true) := by simp [hustage, hstage]
  refine ⟨fun hst hstage hdue => ?_, fun hdue => ?_, fun hstage hover => ?_, fun hstage hover hpair0 hpair1 => ?_,
    fun hover => ?_, fun hstage => ?_⟩
  · refine weltGets_calm (i := .tpPulseStart l n raw) (rfl : execTpPulseStart l n raw s = _) hon hcalm ?_
    have hgo : ¬((decide ((w.settle l.t).st = .init) || !(w.settle l.t).tpStage ||
        !(w.settle l.t).tpDue l.t n) = true) := by
      simp [show w.st ≠ .init from hst, show (w.settle l.t).tpStage = true from hstage,
        show (w.settle l.t).tpDue l.t n = true from hdue]
    rw [if_neg hgo]
    fin_cases n <;> exact ⟨by simp [tp], rfl, rfl, rfl, rfl⟩
  · refine weltGets_calm (i := .tpPulseStart l n raw) (rfl : execTpPulseStart l n raw s = _) hon hcalm ?_
    rw [if_pos (by simp [show ((s.welt l.w).settle l.t).tpDue l.t n = false from hdue])]
    exact ⟨rfl, rfl⟩
  · have hend := goes hover
    refine weltGets_to (i := .tpPulseEnd l n raw false) (rfl : execTpPulseEnd l n raw false s = _) hon hcalm
      (Welt.addCause { u with tpGood := 0 } l.t .crossCircuit)
      ((if_neg hend).trans ((if_neg (driven hstage)).trans (if_neg (by simp)))) ?_
    obtain ⟨h0, h1, -⟩ := refresh_addCause (w := { u with tpGood := 0 }) (t := l.t) (c := .crossCircuit) (by decide)
    obtain ⟨_, _, hadd⟩ := addCause_eq { u with tpGood := 0 } l.t .crossCircuit
    refine ⟨tpOut_of_ended l.t n ?_ ((tpStage_addCause _ _ (by decide)).trans (hustage.trans hstage)), ?_,
      causes_addCause .., h0, h1⟩
    · rw [hadd]; exact hulow
    · rw [hadd]; rfl
  · have hend := goes hover
    have hok : (true && (w.settle l.t).tpPair n (snap w) raw 0 && (w.settle l.t).tpPair n (snap w) raw 1) = true :=
      Bool.and_eq_true_iff.mpr ⟨hpair0, hpair1⟩
    by_cases hfour : 4 ≤ u.tpGood + 1
    · refine weltGets_to (i := .tpPulseEnd l n raw true) (rfl : execTpPulseEnd l n raw true s = _) hon hcalm
        (Welt.dropCause { u with tpGood := u.tpGood + 1 } .crossCircuit)
        ((if_neg hend).trans ((if_neg (driven hstage)).trans ((if_pos hok).trans (if_pos hfour)))) ?_
      refine ⟨tpOut_of_ended l.t n hulow ((tpStage_dropCause _ (by decide)).trans (hustage.trans hstage)), ?_, ?_⟩
      · exact congrArg (· + 1) hugood
      · rw [if_pos (by omega)]
        exact congrArg (List.filter _) hucauses
    · refine weltGets_to (i := .tpPulseEnd l n raw true) (rfl : execTpPulseEnd l n raw true s = _) hon hcalm
        { u with tpGood := u.tpGood + 1 }
        ((if_neg hend).trans ((if_neg (driven hstage)).trans ((if_pos hok).trans (if_neg hfour)))) ?_
      refine ⟨tpOut_of_ended l.t n hulow (hustage.trans hstage), congrArg (· + 1) hugood, ?_⟩
      rw [if_neg (by omega)]
      exact hucauses
  · refine weltGets_calm (i := .tpPulseEnd l n raw true) (rfl : execTpPulseEnd l n raw true s = _) hon hcalm ?_
    rw [if_pos (by simp [show ((s.welt l.w).settle l.t).tpOver l.t n = false from hover])]
    exact ⟨rfl, rfl, rfl⟩
  · refine weltGets_send hon ?_
    rw [resetStep_calm _ _ hcalm]
    exact tp_off _ l.t hstage

end Sys2Proof.Machine
end

section
/-! PROOF. DeliberateResetNeedsItsConditions (O16): the falling edge of WRST, and what a reset that was granted leaves
when it falls due (R314, R316). -/

namespace Sys2Proof.Machine

-- One proof after another: with each in a thread of its own the joined text nears the check's memory limit.
set_option Elab.async false

section Due
variable {w : Welt} {t r : Nat}

theorem resetStep_of_good (h : w.resetAt = some r) (hr : r ≤ t) (hbad : w.resetBad = false) :
    w.resetStep t = { w with resetAt := none }.deliberate r := by
  simp [Welt.resetStep, h, hr, hbad]

theorem resetStep_of_bad (h : w.resetAt = some r) (hr : r ≤ t) (hbad : w.resetBad = true) :
    w.resetStep t = { w with resetAt := none, rstr := w.rstr + 1 } := by
  simp [Welt.resetStep, h, hr, hbad]

/-- What a deliberate reset leaves: the causes that outlast it, no latch, and INIT for a Welt that was dead, START for
any other (R314, R316). -/
theorem deliberate_leaves (w : Welt) (r : Nat) : let x := w.deliberate r
    x.resetAt = w.resetAt ∧ x.rstr = w.rstr ∧ x.pkrFault = false ∧ x.sol0.fault = false ∧ x.sol1.fault = false ∧
      x.causes = w.causes.filter (w.outlasts r) ∧ x.news = w.news ∧ x.newsAt = w.newsAt ∧
      (w.dead = true → x.st = .init ∧ x.initAt = r) ∧ (w.dead = false → x.st = .start) := by
  intro x
  cases hdead : w.dead with
  | true =>
    have hx : x = (w.unlatched r).enterStart.enterInit r := if_pos hdead
    obtain ⟨_, _, h⟩ := enterInit_eq (w.unlatched r).enterStart r
    rw [hx, h]
    exact ⟨rfl, rfl, rfl, rfl, rfl, rfl, rfl, rfl, fun _ => ⟨rfl, rfl⟩, nofun⟩
  | false =>
    have hx : x = (w.unlatched r).enterStart := if_neg (by simp [hdead])
    rw [hx]
    exact ⟨rfl, rfl, rfl, rfl, rfl, rfl, rfl, rfl, nofun, fun _ => rfl⟩

/-- A dead Welt keeps a cause through the reset (R315, R316). -/
theorem not_dead_of_no_cause (h : w.causes.filter (w.outlasts r) = []) : w.dead = false := by
  have gone {c : WCause} (hc : w.outlasts r c = true) : w.causes.contains c = false :=
    Bool.eq_false_iff.mpr fun hin => List.filter_eq_nil_iff.mp h c (List.contains_iff_mem.mp hin) hc
  rw [Welt.dead, gone (c := .clock) rfl, gone (c := .internal) rfl]
  rfl

/-- Without a cause START leads to START or RUN, and RUN stays (R314, R315). -/
theorem nextSt_of_no_cause (hc : w.causes = []) (ha : ∀ c, w.arisen t c = false) (hst : w.st = .start ∨ w.st = .run) :
    w.nextSt t = .start ∨ w.nextSt t = .run := by
  have hlocks := locks_of_no_cause hc ha
  rcases hst with hst | hst
  · rw [nextSt_start hst hlocks]
    split
    · exact .inr rfl
    · exact .inl rfl
  · exact .inr (by simp [Welt.nextSt, hlocks, hst])

end Due

/-- Settles O16: WRST high, its falling edge, a fault in the WCLK of the edge, and the reset when it falls due. -/
theorem deliberateResetNeedsItsConditions : Obligations.DeliberateResetNeedsItsConditions := by
  intro s l hon w
  refine ⟨fun hcalm => ⟨?_, fun hok => ?_, fun hno => ?_, fun hat => ?_⟩,
    fun r hr hdue => ⟨fun hgood => ?_, fun hbad => ?_⟩⟩
  · refine weltGets_calm (i := .wrstHigh l) (rfl : execWrstHigh l s = _) hon hcalm (P := fun x => _ ∧ _) ?_
    cases hw : w.wrst with
    | true =>
      rw [if_pos (show ((s.welt l.w).settle l.t).wrst = true from hw)]
      exact ⟨hw, rfl, rfl, rfl⟩
    | false =>
      rw [if_neg (Bool.eq_false_iff.mp (show ((s.welt l.w).settle l.t).wrst = false from hw))]
      exact ⟨rfl, rfl, rfl, rfl⟩
  · refine weltGets_calm (i := .weltDeliberateReset l) (rfl : execWeltDeliberateReset l s = _) hon hcalm
      (P := fun x => _ ∧ _) ?_
    rw [if_pos (show ((s.welt l.w).settle l.t).resetAllowed l.t = true from hok)]
    exact ⟨rfl, rfl, rfl, rfl, rfl, rfl, fun k => by simp [Welt.forget]⟩
  · refine weltGets_calm (i := .weltDeliberateReset l) (rfl : execWeltDeliberateReset l s = _) hon hcalm
      (P := fun x => _ ∧ _) ?_
    have hno' : ((s.welt l.w).settle l.t).resetAllowed l.t = false := hno
    rw [if_neg (by simp [hno'])]
    exact ⟨rfl, rfl, rfl, rfl, rfl⟩
  · refine weltGets_calm (i := .pkrFault l) (rfl : execPkrFault l s = _) hon hcalm (P := fun x => _ = _) ?_
    simp [Welt.spoil, show (s.welt l.w).resetAt = some (l.t + 12) from hat]
  · refine weltGets_send hon ?_
    rw [resetStep_of_good hr hdue hgood]
    obtain ⟨hat, hrstr, hpkr, hf0, hf1, hcauses, hnews, hnewsAt, hinit, hstart⟩ :=
      deliberate_leaves { w with resetAt := none } r
    refine ⟨hat, hrstr, hpkr, hf0, hf1, hcauses, fun hdead => ?_, fun hnone ha => ?_⟩
    · obtain ⟨hst, hini⟩ := hinit hdead
      exact ⟨nextSt_init (nextSt_init hst), hini⟩
    · have hst := hstart (not_dead_of_no_cause hnone)
      have ha' (v : Welt) (hn : v.news = w.news) (hnat : v.newsAt = w.newsAt) (c : WCause) :
          v.arisen l.t c = false := by
        rw [Welt.arisen, hn, hnat]; exact ha c
      have hnil := hcauses.trans hnone
      exact nextSt_of_no_cause hnil (ha' _ hnews hnewsAt)
        (nextSt_of_no_cause (w := Welt.settle _ l.t) hnil (ha' _ hnews hnewsAt) (.inl hst))
  · refine weltGets_send hon ?_
    rw [resetStep_of_bad hr hdue hbad]
    exact ⟨rfl, rfl, rfl, rfl⟩

end Sys2Proof.Machine
end

section
/-! PROOF. StatusWordsAreJudged (O36): the lane and the raised lines after a good status word, the run of periods below
the claim, and the silence of a lane (R319, R341, R534). -/

namespace Sys2Proof.Machine

-- One proof after another: with each in a thread of its own the joined text nears the check's memory limit.
set_option Elab.async false

section Taken
variable (c : Channel) (t : Nat) (w : Wid) (sw : StatusWord)

/-- A lane once the claim of a good status word has counted in its period (R341). -/
def Wi.counted (x : Wi) (idx : Nat) (acc : BitVec 8) : Wi :=
  if x.claim = 0 then x
  else if acc < x.claim then { x with lowIdx := some idx } else { x with highIdx := some idx }

/-- A lane once a good status word has been copied and the lane has been judged (R319, R325, R341). -/
def Wi.copied (x : Wi) (t : Nat) (sw : StatusWord) (fault : Bool) (r m : BitVec 8) (o : Option Nat) : Wi :=
  { x with stat := some sw, lastGood := t, silent := false, fault := fault, refused := r, missed := m, pkrOffAt := o }

theorem wi_of_part {y : Channel} (h1 : y.part .wi1 = c.part .wi1) (h2 : y.part .wi2 = c.part .wi2) :
    y.wi w = c.wi w := by
  cases w
  · exact h1
  · exact h2

@[simp] theorem raise_wi (k : Fin 62) (d : BitVec 16) : (c.raise k d).wi w = c.wi w := by
  obtain ⟨r, h⟩ := raise_eq c k d
  rw [h]
  cases w <;> rfl

theorem judgeClaim_wi : (c.judgeClaim t w sw).wi w =
    ({ c.wi w with fault := (c.wi w).fault || c.lateLane t w } : Wi).counted ((t - (c.wi w).kAt) / statPeriod)
      sw.accClaim := by
  have hj := (judgeLane_judged c t w).wi
  unfold Channel.judgeClaim Wi.counted
  dsimp only
  rw [hj]
  split
  · exact hj
  · rw [wi_setWi]

/-- Judging the claim keeps the raised lines, and raises 38 where the lane turns out faulty (R341). -/
theorem judgeClaim_lines : (∀ p ∈ c.fcl.raised, p ∈ (c.judgeClaim t w sw).fcl.raised) ∧
    (c.lateLane t w = true → (38, 0) ∈ (c.judgeClaim t w sw).fcl.raised) := by
  have hj := judgeLane_judged c t w
  have hfcl : (c.judgeClaim t w sw).fcl = (c.judgeLane t w).fcl := by
    unfold Channel.judgeClaim
    dsimp only
    split
    · rfl
    · cases w <;> rfl
  rw [hfcl]
  exact ⟨hj.lines, hj.raises⟩

theorem raise_if_keeps (b : Bool) (k : Fin 62) {p : Fin 62 × BitVec 16} (h : p ∈ c.fcl.raised) :
    p ∈ (if b then c.raise k else c).fcl.raised := by
  cases b
  · exact h
  · exact raise_keeps c k 0 h

theorem raise_if_wi (b : Bool) (k : Fin 62) : (if b then c.raise k else c).wi w = c.wi w := by
  cases b
  · rfl
  · exact raise_wi c w k 0

/-- The judgement of the view keeps the raised lines (R340). -/
theorem viewRaise_lines {p : Fin 62 × BitVec 16} (h : p ∈ c.fcl.raised) : p ∈ (c.viewRaise t).fcl.raised := by
  obtain ⟨v, a, hv⟩ := viewSync_eq c t
  unfold Channel.viewRaise
  extract_lets o d new c1 c2 c3
  have hd : p ∈ d.fcl.raised := by rw [show d = _ from hv]; exact h
  clear_value d
  have h1 : p ∈ c1.fcl.raised := raise_if_keeps d (new 6 || new 7) 41 hd
  have h2 : p ∈ c2.fcl.raised := raise_if_keeps c1 (new 8 || new 9) 42 h1
  have h3 : p ∈ c3.fcl.raised := raise_if_keeps c2 (new 10 || new 11) 46 h2
  exact raise_if_keeps c3 (new 12 || new 13 || new 14) 43 h3

/-- A good status word is copied and its flags raise their lines before its claim is judged (R319, R340). -/
theorem takeStatus_copies : ∃ (y : Channel) (r m : BitVec 8) (o : Option Nat),
    c.takeStatus t w sw = ((y.judgeClaim t w sw).seeClaim t w sw.accClaim).viewRaise t ∧
    y.wi w = { c.wi w with
      stat := some sw, lastGood := t, silent := false, refused := r, missed := m, pkrOffAt := o } ∧
    (sw.flags.getLsbD 2 = true → (39, 0) ∈ y.fcl.raised) := by
  unfold Channel.takeStatus
  extract_lets x more locked c1 c2 c3
  have h2 (hflag : sw.flags.getLsbD 2 = true) : (39, 0) ∈ c2.fcl.raised := by
    rw [show c2 = c1.raise 39 from if_pos hflag]
    exact raise_self c1 39 0
  exact ⟨c3, _, _, _, rfl,
    (raise_if_wi c2 w locked 40).trans ((raise_if_wi c1 w (sw.flags.getLsbD 2) 39).trans (wi_setWi c w _)),
    fun hflag => raise_if_keeps c2 locked 40 (h2 hflag)⟩

/-- What a good status word leaves of its lane and of the raised lines (R319, R341). -/
theorem takeStatus_leaves : let y := c.takeStatus t w sw
    (∃ r m o, y.wi w =
      ((c.wi w).copied t sw ((c.wi w).fault || c.lateLane t w) r m o).counted ((t - (c.wi w).kAt) / statPeriod)
        sw.accClaim) ∧
    (sw.flags.getLsbD 2 = true → (39, 0) ∈ y.fcl.raised) ∧ (c.lateLane t w = true → (38, 0) ∈ y.fcl.raised) := by
  intro y
  obtain ⟨z, r, m, o, hy, hz, hflag⟩ := takeStatus_copies c t w sw
  have hlate : z.lateLane t w = c.lateLane t w := by rw [Channel.lateLane, hz]; rfl
  obtain ⟨hkeeps, hraises⟩ := judgeClaim_lines z t w sw
  have hfcl : ((z.judgeClaim t w sw).seeClaim t w sw.accClaim).fcl = (z.judgeClaim t w sw).fcl :=
    seeClaim_part (pt := .fcl) _ _ _ _ (by decide)
  have lines {p : Fin 62 × BitVec 16} (h : p ∈ (z.judgeClaim t w sw).fcl.raised) : p ∈ y.fcl.raised := by
    simp only [y, hy]
    exact viewRaise_lines _ t (by rwa [hfcl])
  refine ⟨⟨r, m, o, ?_⟩, fun h => lines (hkeeps _ (hflag h)), fun h => lines (hraises (hlate.trans h))⟩
  have hwi : y.wi w = (z.judgeClaim t w sw).wi w := by
    simp only [y, hy]
    exact wi_of_part _ w (by simp) (by simp)
  rw [hwi, judgeClaim_wi, hlate, hz]
  rfl

end Taken

section Runs
variable {x : Wi} {k : Nat} (idx : Nat)

/-- With no good word at the claim since its change, a run of periods below it that got to the fourth is complete in the
next period (R341). -/
theorem lowRun_of_no_high (hlow : x.lowIdx = some k) (hhigh : x.highIdx = none) (hk : 4 ≤ k) :
    x.lowRun idx = decide (k < idx) := by
  have hdue : max (2 + 3) (k + 1) = k + 1 := by omega
  have hin : k + 1 ≤ k + 3 := by omega
  unfold Wi.lowRun
  rw [hlow, hhigh]
  dsimp only
  rw [hdue, decide_eq_true hin, Bool.and_true]
  rfl

/-- A word at the claim in the last period below it, or later, breaks the run (R341). -/
theorem lowRun_of_high {h : Nat} (hlow : x.lowIdx = some k) (hhigh : x.highIdx = some h) (hk : k ≤ h) :
    x.lowRun idx = false := by
  have hlate : ¬(max (max 2 (h + 1) + 3) (k + 1) ≤ k + 3) := by omega
  unfold Wi.lowRun
  rw [hlow, hhigh]
  dsimp only
  rw [decide_eq_false hlate, Bool.and_false]

end Runs

section Counted
variable (x : Wi) (idx : Nat) (acc : BitVec 8)

/-- Counting a claim writes the period of the last word below the claim, or that of the last one at it (R341). -/
theorem counted_eq : ∃ a b, x.counted idx acc = { x with lowIdx := a, highIdx := b } := by
  unfold Wi.counted
  split
  · exact ⟨x.lowIdx, x.highIdx, rfl⟩
  · split
    · exact ⟨some idx, x.highIdx, rfl⟩
    · exact ⟨x.lowIdx, some idx, rfl⟩

theorem counted_of_no_claim (h : x.claim = 0) : x.counted idx acc = x := if_pos h

theorem counted_of_below (hne : x.claim ≠ 0) (h : acc < x.claim) : x.counted idx acc = { x with lowIdx := some idx } :=
  (if_neg hne).trans (if_pos h)

theorem counted_of_reached (hne : x.claim ≠ 0) (h : x.claim ≤ acc) :
    x.counted idx acc = { x with highIdx := some idx } :=
  (if_neg hne).trans (if_neg (BitVec.not_lt.mpr h))

end Counted

/-- The lane is faulty from now on where it was, or where the run is complete (R341). -/
theorem fault_or_lateLane (c : Channel) (t : Nat) (w : Wid) : ((c.wi w).fault || c.lateLane t w) =
    ((c.wi w).fault || ((c.wi w).claim != 0 && (c.wi w).lowRun ((t - (c.wi w).kAt) / statPeriod))) := by
  unfold Channel.lateLane
  cases (c.wi w).fault <;> simp

/-- Settles O36: a word by whether the links are out and whether it is good, the runs, and the silence. -/
theorem statusWordsAreJudged : Obligations.StatusWordsAreJudged := by
  intro s l w x hrel c idx
  refine ⟨fun hout => ⟨?_, ?_⟩, fun hin hbad => ?_, fun hin hgood => ?_, fun k h hlow => ⟨?_, ?_⟩,
    fun hin hsil hat => ?_, fun hyoung => ?_⟩
  · exact chGets_skip (i := .statusWordReceived l w x) (rfl : execStatusWordReceived l w x s = _)
      (by simp [show (s.ch l.ch).linksOut = true from hout]) rfl
  · exact chGets_skip (i := .statusLaneSilence l w) (rfl : execStatusLaneSilence l w s = _)
      (by simp [show (s.ch l.ch).linksOut = true from hout]) rfl
  · refine chGets_when (i := .statusWordReceived l w x) (rfl : execStatusWordReceived l w x s = _)
      (by simp [hrel, show (s.ch l.ch).linksOut = false from hin]) ?_
    exact if_neg (Bool.eq_false_iff.mp hbad)
  · refine chGets_when (i := .statusWordReceived l w x) (rfl : execStatusWordReceived l w x s = _)
      (by simp [hrel, show (s.ch l.ch).linksOut = false from hin]) ?_
    rw [if_pos hgood]
    obtain ⟨⟨r, m, o, hy⟩, h39, h38⟩ := takeStatus_leaves c l.t w x
    generalize c.takeStatus l.t w x = y at hy h39 h38 ⊢
    let v := (c.wi w).copied l.t x ((c.wi w).fault || c.lateLane l.t w) r m o
    obtain ⟨a, b, hcount⟩ := counted_eq v ((l.t - (c.wi w).kAt) / statPeriod) x.accClaim
    have hlane := hy.trans hcount
    refine ⟨by rw [hlane]; rfl, by rw [hlane]; rfl, by rw [hlane]; rfl, by rw [hlane]; rfl,
      fun hflag => List.contains_iff_mem.mpr (h39 hflag), fun hclaim => ?_, fun hne hlow => ?_, fun hne hhigh => ?_,
      by rw [hlane]; exact fault_or_lateLane c l.t w, fun hne hok hrun => List.contains_iff_mem.mpr (h38 ?_)⟩
    · rw [hy, counted_of_no_claim v _ _ hclaim]
      exact ⟨rfl, rfl⟩
    · rw [hy, counted_of_below v _ _ hne hlow]
      exact ⟨rfl, rfl⟩
    · rw [hy, counted_of_reached v _ _ hne hhigh]
      exact ⟨rfl, rfl⟩
    · rw [Channel.lateLane, hok, show (c.wi w).lowRun ((l.t - (c.wi w).kAt) / statPeriod) = true from hrun,
        bne_iff_ne.mpr hne]
      rfl
  · exact fun hhigh hk => lowRun_of_no_high idx hlow hhigh hk
  · exact fun hhigh hk => lowRun_of_high idx hlow hhigh hk
  · have hdue : (c.released && !c.linksOut && !(c.wi w).silent &&
        decide ((c.wi w).lastGood + tclk 6180 ≤ l.t)) = true := by
      rw [show c.released = true from hrel, hin, hsil, decide_eq_true hat]; rfl
    refine chGets_when (i := .statusLaneSilence l w) (rfl : execStatusLaneSilence l w s = _) hdue ?_
    refine ⟨by rw [raise_wi, wi_setWi], by rw [raise_wi, wi_setWi], by rw [raise_wi, wi_setWi],
      List.contains_iff_mem.mpr (raise_self _ 38 0), ?_⟩
    exact (raise_part (pt := .rd) _ 38 0 (by decide)).trans (setWi_part (pt := .rd) _ w _ (by decide))
  · refine chGets_skip (i := .statusLaneSilence l w) (rfl : execStatusLaneSilence l w s = _) ?_ rfl
    rw [decide_eq_false (Nat.not_le.mpr hyoung), Bool.and_false]

end Sys2Proof.Machine
end
